-- ==== Sys2Proof/Word.lean ====
section
/-! DEFINITION. The fixed-width words and bounded indexes of the HX9616 (00 R1, R5; 05 R110). -/

namespace Sys2Proof

abbrev Byte := BitVec 8
/-- A 32-bit register value (00 R8). -/
abbrev Word := BitVec 32
/-- A 64-bit register value or host address. -/
abbrev Word64 := BitVec 64
/-- The 64 data bytes of a line, byte i in bits 8i+7:8i (00 R5, R7). -/
abbrev Data := BitVec 512
/-- Byte enables of a line. -/
abbrev ByteEn := BitVec 64
/-- A head H0-H15: port × 4 + sub-port (00 R5). -/
abbrev Head := Fin 16
/-- A host or Span port. -/
abbrev Port := Fin 4
/-- A DRAM channel DMC0-DMC11 (00 R1). -/
abbrev Chan := Fin 12
/-- A key identifier (00 R5). -/
abbrev KeyId := BitVec 7
/-- A drawer D0-D255 (00 R1). -/
abbrev DrawerId := Fin 256
/-- A submission ring of a drawer (12 R298). -/
abbrev RingId := Fin 4
/-- A Span node ID (00 R5). -/
abbrev NodeId := BitVec 6
/-- A host physical address with its key-ID field (05 R110). -/
abbrev Hpa := BitVec 52
/-- A device physical address (05 R110). -/
abbrev Dpa := BitVec 46

end Sys2Proof
end

