-- ==== Sys2Proof/Syntax.lean ====
section
/-! DEFINITION. The commands of the block: one constructor of `Instr` for each row of spec/opcode_table.json, with the
operands the model gives it (assumption 3). What the world returns inside a step (DRAM errors, flash content, host data,
verdicts of a peer) is an operand. -/

namespace Sys2Proof

/-- The 18 register access paths (20 R456). -/
inductive Path where
  | head (h : Head)
  | sideband
  | bench
deriving DecidableEq, Repr

/-- State asked for or left by a CXL.mem message (06 R132; 13 R323 codes it 0 I, 1 S, 2 A). -/
inductive MetaValue where
  | I | S | A
deriving DecidableEq, Repr

/-- What the ECC decoder finds on a burst (07 R180): the world's part of a DRAM read. -/
inductive Ecc where
  | clean
  | corrected (device : Fin 16)
  | uncorrectable (readable : Bool)
deriving DecidableEq, Repr

/-- What a directory lookup finds in its SRAM (06 R159). -/
inductive DirErr where
  | none | correctable | entryBad | otherWayBad (way : Fin 16) | tagBad
deriving DecidableEq, Repr

/-- Alerts of a DDR5 channel (07 R190). -/
inductive AlertKind where
  | caParity | writeCrc
deriving DecidableEq, Repr

/-- What training reads from a module's SPD and mode registers (07 R162, R173, R187). -/
structure Spd where
  matchesCut : Bool
  height : Fin 8
  rfm : Bool
  drfm : Bool
  raaimt : Nat
  rows : Nat
deriving DecidableEq, Repr

/-- A fill range of KEY_RETIRE: DPA base and length in 2 MiB units (10 R270). -/
structure FillRange where
  base : Dpa
  len : Nat
deriving DecidableEq, Repr

/-- The 100-byte wrapped key of KEY_LOAD (10 R265), with what unwrapping it yields. -/
structure WrappedKey where
  mode : Byte
  keyId : Byte
  reserved : BitVec 16
  session : Word
  ivZero : Word
  ivCount : Word64
  ct : List Byte
  tag : BitVec 128
deriving DecidableEq, Repr

/-- A token of R414, field by field; the signature is checked by `Config`. -/
structure Token where
  magic : Word
  kind : Byte
  arg : Byte
  signer : BitVec 16
  serial : Word64
  nonce : BitVec 256
  duration : BitVec 16
  reserved : BitVec 112
  digest : BitVec 384
  pubkey : BitVec 768
  sig : BitVec 768
deriving DecidableEq, Repr

/-- An attribute field of a descriptor (12 R303). -/
structure OpAttr where
  reserved : BitVec 7
  dpa : Bool
  dev : Bool
  key : KeyId
deriving DecidableEq, Repr

/-- A drawer descriptor (12 R302). -/
structure Descriptor where
  op : Byte
  irq : Bool
  quiet : Bool
  allRings : Bool
  flagsReserved : BitVec 5
  irqe : Byte
  reserved3 : Byte
  id : Word
  src : Word64
  dst : Word64
  len : Word
  dmax : Word
  sattr : OpAttr
  dattr : OpAttr
  reserved24 : Word
  pattern : Word64
  reserved30 : BitVec 128
deriving DecidableEq, Repr

/-- How the host answered the host-memory read of a drawer operation (12 R307); `pending`: not yet, the request is outstanding
(04 R108). -/
inductive HostDma where
  | ok | ur | ca | timeout | pending
deriving DecidableEq, Repr

/-- A Span HELLO body (13 R328). -/
structure HelloBody where
  serial : Word64
  fabric : Word
  incarn : Word
  node : NodeId
  claimed : Bool
  port : Port
  role : Fin 4
  lc : Fin 8
  debug : Bool
deriving DecidableEq, Repr

/-- A Span link-state announcement (13 R332): one neighbour and width per port, none when not admitted. -/
structure LsaBody where
  serial : Word64
  incarn : Word
  ageSeq : BitVec 16
  node : NodeId
  claimed : Bool
  asleep : Bool
  donor : Bool
  freeGib : Nat
  links : List (Option (NodeId × Fin 4))
deriving DecidableEq, Repr

/-- Header and data of a Span message (13 R323). -/
structure SpanMsg where
  src : NodeId
  port : Port
  head : Head
  key : KeyId
  shared : Bool
  devload : Fin 4
  mv : MetaValue
  poison : Bool
  tag : BitVec 12
  ln : BitVec 40
  arg : BitVec 20
  data : Data
  urgency : Fin 4
deriving DecidableEq, Repr

/-- A fault report of a block (16 R380-R382). -/
structure Report where
  set : Fin 31
  cls : Fin 16
  base : Fin 4
  syndrome : BitVec 96
  addr : Word64
  aux : Word64
  unit : Byte
deriving DecidableEq, Repr

/-- A CXL completion status of a non-posted request (04 R108). -/
inductive CplStatus where
  | success | ur | ca
deriving DecidableEq, Repr

/-- SPDM key-exchange and challenge inputs that the responder echoes or signs (17 R411). -/
structure SpdmReq where
  version : Byte
  param1 : Byte
  param2 : Byte
  body : List Byte
deriving DecidableEq, Repr

/-- The current, voltages and reference temperature an IFC sample sees (15 R366-R367). -/
structure IfcSample where
  ma : Nat
  vinMv : Nat
  voutMv : Nat
  refHalfC : Int
deriving DecidableEq, Repr

/-- One command of the block: the rows of spec/opcode_table.json (the events of the Span links stand last). -/
inductive Instr where
  /-- V3P3_AUX_GOOD (R76). -/
  | v3p3AuxGood
  /-- WELLHEAD_POWER_ON_RESET (R71, R395). -/
  | wellheadPowerOnReset
  /-- RAILS_GOOD (R76). -/
  | railsGood
  /-- CORE_PLL_LOCK (R76, R47). -/
  | corePllLock
  /-- REFCLK_ABSENT (R79). -/
  | refclkAbsent
  /-- BOOT_LOAD_COMPLETE (R47): rows and height code of each channel's modules, as SPD gives them. -/
  | bootLoadComplete (fit : List (Nat × Nat))
  /-- DRAM_TRAINING_COMPLETE (R174). -/
  | dramTrainingComplete (ch : Chan) (trained : Bool) (spd : Spd)
  /-- METADATA_INIT_COMPLETE (R76). -/
  | metadataInitComplete
  /-- WARM_RESET (R73). -/
  | warmReset (p : Path)
  /-- PERST_ASSERT (R71). -/
  | perstAssert (h : Head)
  /-- PERST_DEASSERT (R78). -/
  | perstDeassert (h : Head)
  /-- HOST_LINK_UP (R104). -/
  | hostLinkUp (h : Head) (rate : Fin 6) (width : Fin 32) (flit256 : Bool) (retimers : Fin 3)
  /-- LINK_DOWN_WITH_NOTICE (R101). -/
  | linkDownWithNotice (h : Head)
  /-- SURPRISE_REMOVAL (R103). -/
  | surpriseRemoval (h : Head)
  /-- REMOVAL_CLEANUP_COMPLETE (R103). -/
  | removalCleanupComplete (h : Head)
  /-- PME_TURN_OFF (R102). -/
  | pmeTurnOff (h : Head)
  /-- MEM_READ (R17). `ideOk` is the flit's IDE check (R96). -/
  | memRead (h : Head) (hpa : Hpa) (mv : MetaValue) (ideOk : Bool)
  /-- MEM_WRITE (R22). -/
  | memWrite (h : Head) (hpa : Hpa) (mv : MetaValue) (data : Data) (ideOk : Bool)
  /-- PARTIAL_WRITE (R184). -/
  | partialWrite (h : Head) (hpa : Hpa) (mv : MetaValue) (data : Data) (be : ByteEn) (ideOk : Bool)
  /-- MEM_WRITEBACK (R141). -/
  | memWriteback (h : Head) (hpa : Hpa) (mv : MetaValue) (data : Data)
  /-- MEM_CLN_EVCT (R132). -/
  | memClnEvct (h : Head) (hpa : Hpa)
  /-- M2S_BIRSP (R142): the head's answer to a snoop, with the state it keeps. -/
  | m2sBirsp (h : Head) (ln : BitVec 40) (left : MetaValue)
  /-- BICONFLICT (R143). -/
  | biconflict (h : Head) (ln : BitVec 40)
  /-- LINE_LOCK_GRANT (R140) on one line, with what the directory SRAM returns (R159). -/
  | lineLockGrant (ln : BitVec 40) (err : DirErr)
  /-- EVICTION_COMPLETE (R153). -/
  | evictionComplete (ln : BitVec 40)
  /-- WAY_FREED (R154). -/
  | wayFreed (set : BitVec 16)
  /-- SNOOP_TIMEOUT (R144). -/
  | snoopTimeout (node : NodeId) (h : Head) (ln : BitVec 40)
  /-- WEIR_GRANT (R280). -/
  | weirGrant (ch : Chan)
  /-- DMC_COMMAND_ISSUE (R165); `blocked` are the banks that JEDEC timing holds in this slot. -/
  | dmcCommandIssue (ch : Chan) (sub : Bool) (blocked : List Nat)
  /-- DRAM_READ_RETURN (R17). -/
  | dramReadReturn (ch : Chan) (ecc : Ecc)
  /-- PME_FETCH_RETURN (R126, R246): which copies of the PME are good. -/
  | pmeFetchReturn (page : BitVec 33) (primaryOk mirrorOk : Bool)
  /-- XTS_DECRYPT_COMPLETE (R257) on engine `e`, with its check. -/
  | xtsDecryptComplete (txn : Nat) (e : Fin 4) (ok : Bool)
  /-- XTS_ENCRYPT_COMPLETE (R258). -/
  | xtsEncryptComplete (ch : Chan) (e : Fin 4) (ok : Bool)
  /-- PRESS_DECODE_COMPLETE (R205) of a decode job on pipe `p`, with its residue check (R210). -/
  | pressDecodeComplete (job : Nat) (p : Fin 6) (ok : Bool)
  /-- PRESS_ENCODE_COMPLETE (R208). -/
  | pressEncodeComplete (page : BitVec 33) (p : Fin 4) (ok : Bool)
  /-- PROMOTION_COMPLETE (R24 step 5); `lost` are the segments whose every decode attempt failed (R211). -/
  | promotionComplete (page : BitVec 33) (lost : List (Fin 16))
  /-- EPOCH_END (R229). -/
  | epochEnd
  /-- STAMP_VISIT (R230) of a 2 MiB record. -/
  | stampVisit (blk : Nat) (ok : Bool)
  /-- READ_PROMOTION_START (R235). -/
  | readPromotionStart
  /-- DEMOTION_START (R237). -/
  | demotionStart
  /-- DEMOTION_COMPLETE (R238). -/
  | demotionComplete (page : BitVec 33)
  /-- T2_MOVE_START (R240). -/
  | t2MoveStart
  /-- T2_MOVE_COMPLETE (R240). -/
  | t2MoveComplete (page : BitVec 33)
  /-- STALL_EXPIRY (R243) of the write at the head of the stall queue. -/
  | stallExpiry
  /-- DCD_RELEASE_REQUEST (R242). -/
  | dcdReleaseRequest
  /-- T2_DONOR_LOST_SCAN (R250). -/
  | t2DonorLostScan (node : NodeId)
  /-- HDM_COMMIT (R112). -/
  | hdmCommit (h : Head) (n : Fin 32) (base size : Nat) (ways : Nat) (granLog2 : Nat) (lockOnCommit : Bool)
  /-- HDM_UNCOMMIT (R115). -/
  | hdmUncommit (h : Head) (n : Fin 32)
  /-- ADD_DC_RESPONSE (R120): the head accepts an offered extent, tagged to a drawer or to none (R310). -/
  | addDcResponse (h : Head) (start : Dpa) (len : Nat) (drawer : Option DrawerId)
  /-- RELEASE_DC_RESPONSE (R120). -/
  | releaseDcResponse (h : Head) (start : Dpa)
  /-- PPR_SOFT (R188). -/
  | pprSoft (p : Path) (ch : Chan) (sub : Bool) (rank bank row : Nat) (ok : Bool)
  /-- PPR_HARD (R188). -/
  | pprHard (p : Path) (ch : Chan) (sub : Bool) (rank bank row : Nat) (ok : Bool)
  /-- REFRESH_DUE (R171). -/
  | refreshDue (ch : Chan) (rank : Fin 16)
  /-- SPD_THERMAL_READ (R172): the two hubs' readings in quarter degrees, none for a failed read. -/
  | spdThermalRead (ch : Chan) (slot0 slot1 : Option (BitVec 16))
  /-- DQS_OSC_MEASURE (R175): the drift found and whether the adjustment absorbs it. -/
  | dqsOscMeasure (ch : Chan) (rank : Fin 16) (absorbed : Bool) (stall10ns : Nat)
  /-- ZQ_CALIBRATION (R175). -/
  | zqCalibration (ch : Chan) (rank : Fin 16) (stall10ns : Nat)
  /-- AUTO_PAGE_IDLE (R168). -/
  | autoPageIdle (ch : Chan) (bank : Nat)
  /-- PATROL_SCRUB_STEP (R186). -/
  | patrolScrubStep (ch : Chan) (mpaLine : Option Nat) (ecc : Ecc) (rank : Fin 16) (row : Nat)
  /-- ALERT_REPLAY (R190): the replays that failed, and whether the last succeeded. -/
  | alertReplay (ch : Chan) (kind : AlertKind) (replays : Fin 9) (cleared : Bool)
  /-- SPARING_COMPLETE (R189). -/
  | sparingComplete (ch : Chan)
  /-- DMC_SELF_TEST_END (R177). -/
  | dmcSelfTestEnd (ch : Chan) (miscompares : Nat)
  /-- CREDIT_PARITY_ERROR (R292). -/
  | creditParityError (ch : Chan)
  /-- CREDIT_RESYNC (R292). -/
  | creditResync (ch : Chan)
  /-- WEIR_WINDOW_END (R285). -/
  | weirWindowEnd (cls : Fin 8) (ch : Chan)
  /-- COMPLETION_TIMEOUT (R108). -/
  | completionTimeout (h : Head) (tag : BitVec 14)
  /-- TAG_QUARANTINE_EXPIRY (R108). -/
  | tagQuarantineExpiry (h : Head) (tag : BitVec 14)
  /-- HOST_COMPLETION (R108). -/
  | hostCompletion (h : Head) (tag : BitVec 14) (st : CplStatus)
  /-- INITIATE_FLR (R106). -/
  | initiateFlr (h : Head)
  /-- BME_CLEAR (R105). -/
  | bmeClear (h : Head)
  /-- CONFIG_WRITE (R87, R90): one dword with byte enables. -/
  | configWrite (h : Head) (off : BitVec 12) (val : Word) (be : BitVec 4)
  /-- POWER_STATE_WRITE (R90): PowerState 0 to 3. -/
  | powerStateWrite (h : Head) (st : Fin 4)
  /-- MSIX_UNMASK (R94). -/
  | msixUnmask (h : Head) (v : Fin 2048)
  /-- DOE_ABORT (R97). -/
  | doeAbort (h : Head)
  /-- GET_VERSION (R411). -/
  | getVersion (p : Path) (r : SpdmReq)
  /-- GET_CAPABILITIES (R411). -/
  | getCapabilities (p : Path) (r : SpdmReq)
  /-- NEGOTIATE_ALGORITHMS (R411). -/
  | negotiateAlgorithms (p : Path) (r : SpdmReq)
  /-- GET_DIGESTS (R411). -/
  | getDigests (p : Path) (r : SpdmReq)
  /-- GET_CERTIFICATE (R409). -/
  | getCertificate (p : Path) (r : SpdmReq)
  /-- CHALLENGE (R411). -/
  | challenge (p : Path) (r : SpdmReq)
  /-- GET_MEASUREMENTS (R412). -/
  | getMeasurements (p : Path) (r : SpdmReq)
  /-- KEY_EXCHANGE (R411). -/
  | keyExchange (p : Path) (r : SpdmReq)
  /-- FINISH (R411); `sid` names the session. -/
  | finish (p : Path) (sid : Word) (r : SpdmReq)
  /-- HEARTBEAT (R411). -/
  | heartbeat (p : Path) (sid : Word)
  /-- KEY_UPDATE (R411). -/
  | keyUpdate (p : Path) (sid : Word) (r : SpdmReq)
  /-- END_SESSION (R411). -/
  | endSession (p : Path) (sid : Word)
  /-- VENDOR_DEFINED_REQUEST (R95): IDE key management, for the CXL.io or the CXL.mem stream. -/
  | vendorDefinedRequest (p : Path) (sid : Word) (memStream : Bool) (start : Bool)
  /-- CUT_STREAM (R49). -/
  | cutStream (p : Path) (image : List Byte)
  /-- CUT_APPLY_LIVE (R53). -/
  | cutApplyLive (p : Path) (image : List Byte)
  /-- CUT_WRITE_SLOT (R51): the slot named (used when the source is 2 or 3) and how the flash behaves. -/
  | cutWriteSlot (p : Path) (image : List Byte) (slotB : Bool) (flashOk : Bool)
  /-- CUT_ADVANCE (R52). -/
  | cutAdvance (p : Path)
  /-- CUT_RECUT (R50). -/
  | cutRecut (p : Path)
  /-- CUT_READ (R50). -/
  | cutRead (p : Path)
  /-- BOARD_WRITE (R88). -/
  | boardWrite (p : Path) (record : List Byte)
  /-- KEY_LOAD (R264-R266). -/
  | keyLoad (p : Path) (w : WrappedKey)
  /-- KEY_RETIRE (R270). -/
  | keyRetire (p : Path) (k : KeyId) (ranges : List FillRange)
  /-- KEY_WALK_DONE (R158). -/
  | keyWalkDone
  /-- RETIRE_DRAIN_COMPLETE (R270 step 3). -/
  | retireDrainComplete
  /-- ZEROIZE_VERIFIED (R270 step 4). -/
  | zeroizeVerified
  /-- KEY_FREE (R264). -/
  | keyFree (p : Path) (k : KeyId)
  /-- KEY_QUERY (R264). -/
  | keyQuery (p : Path) (k : KeyId)
  /-- SEC_NONCE (R413). -/
  | secNonce (p : Path)
  /-- NONCE_EXPIRY (R417). -/
  | nonceExpiry
  /-- DBG_UNLOCK (R419). -/
  | dbgUnlock (p : Path) (t : Token)
  /-- DBG_LOCK (R420). -/
  | dbgLock (p : Path)
  /-- SEC_DBG_LOCK (R420): the write of SEC_DBG.LOCK. -/
  | secDbgLock (p : Path)
  /-- DEBUG_DURATION_END (R420). -/
  | debugDurationEnd
  /-- LC_TRANSITION (R406); no token for BLANK to MANUFACTURE. -/
  | lcTransition (p : Path) (t : Option Token)
  /-- OWNER_ENROLL (R416); slot and digest, with a token in PRODUCTION. -/
  | ownerEnroll (p : Path) (slot : Fin 4) (digest : BitVec 384) (t : Option Token)
  /-- OWNER_REVOKE (R416). -/
  | ownerRevoke (p : Path) (t : Token)
  /-- FW_ADVANCE (R410). -/
  | fwAdvance (p : Path)
  /-- FW_WRITE_SLOT (R410). -/
  | fwWriteSlot (p : Path) (image : List Byte) (slotB : Bool) (flashOk : Bool)
  /-- SEC_DBGVOTE_WRITE (R422). -/
  | secDbgvoteWrite (p : Path) (v : BitVec 4)
  /-- TAP_RESET (R422). -/
  | tapReset
  /-- EXTEST (R418). -/
  | extest
  /-- SAMPLE_PRELOAD (R418). -/
  | samplePreload
  /-- IDCODE (R418). -/
  | idcode
  /-- CLAMP (R418). -/
  | clamp
  /-- HIGHZ (R418). -/
  | highz
  /-- TOKEN (R418): the token shifted in. -/
  | token (t : Token)
  /-- DBGVOTE (R422). -/
  | dbgvote (v : BitVec 4)
  /-- NONCE (R418). -/
  | nonce
  /-- BDBG (R421). -/
  | bdbg
  /-- TAP_PRIVATE (R418), instruction codes 0x30-0x3F. -/
  | tapPrivate (code : Fin 16)
  /-- BYPASS (R418). -/
  | bypass
  /-- WIT_READ (R401). -/
  | witRead (p : Path) (first : Word) (count : Nat)
  /-- WIT_INFO (R401). -/
  | witInfo (p : Path)
  /-- WIT_FORMAT (R400). -/
  | witFormat (p : Path)
  /-- REG_READ (R456): the sideband's read of 4 or 8 bytes. -/
  | regRead (off : Nat) (wide : Bool)
  /-- REG_WRITE (R456). -/
  | regWrite (off : Nat) (wide : Bool) (val : Word64)
  /-- REGISTER_WRITE (R460): a write through a path's BAR0 window or internal bus; `full` says aligned with every byte enable set. -/
  | registerWrite (p : Path) (off : Nat) (wide : Bool) (full : Bool) (val : Word64)
  /-- LOW_HALF_READ (R460): the low half of a 64-bit register. -/
  | lowHalfRead (p : Path) (off : Nat)
  /-- FAULT_REPORT (R382). -/
  | faultReport (r : Report)
  /-- FLT_ACK (R386). -/
  | fltAck (p : Path) (set : Fin 31) (bits : BitVec 16)
  /-- QUIET_TIME_EXPIRY (R387). -/
  | quietTimeExpiry (set : Fin 31) (cls : Fin 16)
  /-- FLT_RECOV_RELEASE (R388). -/
  | fltRecovRelease (p : Path) (set : Fin 31)
  /-- FLT_FIRST_REARM (R390). -/
  | fltFirstRearm (p : Path) (set : Fin 31)
  /-- WITNESS_WINDOW_END (R392). -/
  | witnessWindowEnd (set : Fin 31) (cls : Fin 16)
  /-- SECTOR_ERASE_COMPLETE (R396). -/
  | sectorEraseComplete
  /-- PAGE_PROGRAM_COMPLETE (R396, R399). -/
  | pageProgramComplete (ok : Bool) (retryOk : Bool)
  /-- INPUT_LOSS (R398). -/
  | inputLoss
  /-- PWR_CMD_VOTE (R345). -/
  | pwrCmdVote (h : Head) (v : BitVec 3)
  /-- PWR_SBVOTE_WRITE (R345). -/
  | pwrSbvoteWrite (p : Path) (v : BitVec 3)
  /-- ENTRY_COMMIT (R355 step 9). -/
  | entryCommit
  /-- ENTRY_MAX_EXPIRY (R356). -/
  | entryMaxExpiry
  /-- ENTRY_ABANDON (R356). -/
  | entryAbandon
  /-- WAKE_TRIGGER (R349): 1 host link, 2 PERSTn_N, 3 Span pattern, 4 sideband match, 5 vote, 6 debug. -/
  | wakeTrigger (src : Fin 7) (h : Head)
  /-- WAKE_STEP_END (R351): the step's condition; canary banks that differ and retained arrays that fail. -/
  | wakeStepEnd (ok : Bool) (badBanks : List (Chan × Nat)) (badSigs : List (Fin 8 × Nat × Bool))
  /-- PRIORITY_SCRUB_END (R362). -/
  | priorityScrubEnd (ch : Chan) (bank : Nat)
  /-- REENTRY_IDLE (R347). -/
  | reentryIdle
  /-- SIDEBAND_ADDRESS_MATCH (R350). -/
  | sidebandAddressMatch (i3c : Bool)
  /-- SCL_STRETCH_LIMIT (R350). -/
  | sclStretchLimit
  /-- UNIT_CLOCK_STABLE (R31, R32). -/
  | unitClockStable (u : Fin 3)
  /-- UNIT_IDLE_STOP (R31, R32); `trigger` says a start trigger falls in the same cycle. -/
  | unitIdleStop (u : Fin 3) (trigger : Bool)
  /-- PLL_LOCK_LOSS (R65): 0 core, 1 Press, 2-4 DRAM groups. -/
  | pllLockLoss (pll : Fin 5)
  /-- PLL_RELOCK (R65). -/
  | pllRelock (pll : Fin 5)
  /-- ELASTIC_HOLD_END (R65). -/
  | elasticHoldEnd (pll : Fin 5)
  /-- CROSSING_STUCK (R70). -/
  | crossingStuck (item : Fin 15) (seen : Word)
  /-- EVENT_CROSSING_OVERRUN (R67). -/
  | eventCrossingOverrun (item : Fin 15)
  /-- AVS_TIMEOUT (R81): rail 0 VDD_CORE, 1 VDD_SRAM. -/
  | avsTimeout (rail : Fin 2)
  /-- MARGIN_GO (R82). -/
  | marginGo (p : Path)
  /-- MARGIN_END (R82). -/
  | marginEnd
  /-- RAIL_OUT_OF_WINDOW (R441). -/
  | railOutOfWindow (rail : Fin 5) (mv : Nat)
  /-- MAIN_RAIL_LOSS (R441). -/
  | mainRailLoss (rail : Fin 5)
  /-- MAIN_RAIL_RETURN (R441). -/
  | mainRailReturn
  /-- TJ_WARN (R453): a sensor's reading in degrees. -/
  | tjWarn (sensor : Fin 9) (degC : Nat)
  /-- THERMTRIP (R454). -/
  | thermtrip (sensor : Fin 9) (degC : Nat)
  /-- FIRMWARE_WATCHDOG (R465). -/
  | firmwareWatchdog
  /-- FIRMWARE_RESTART_END (R465). -/
  | firmwareRestartEnd
  /-- ATTN_PRESS (R100). -/
  | attnPress
  /-- MS_POWER_GATE_OFF (R99): MS_POWER.CMD = 1. -/
  | msPowerGateOff (p : Path)
  /-- MS_POWER_REARM (R99): MS_POWER.CMD = 2. -/
  | msPowerRearm (p : Path)
  /-- IFC_SAMPLE_STEP (R366). -/
  | ifcSampleStep (x : IfcSample)
  /-- PG_QUALIFIED (R369). -/
  | pgQualified
  /-- CURVE_TRIP (R371). -/
  | curveTrip
  /-- RAMP_TIMER_EXPIRY (R370). -/
  | rampTimerExpiry
  /-- UNDERVOLT_TRIP (R372). -/
  | undervoltTrip
  /-- FAST_TRIP (R372). -/
  | fastTrip
  /-- DIODE_MEASURE (R367): a reading in half degrees, none for open or short. -/
  | diodeMeasure (halfC : Option Int)
  /-- IFC_EN_RISE (R369). -/
  | ifcEnRise
  /-- IFC_EN_FALL (R369). -/
  | ifcEnFall
  /-- IFC_REARM (R375): a write of IFC_CTL.REARM. -/
  | ifcRearm (p : Path)
  /-- REARM_HOLD_END (R375). -/
  | rearmHoldEnd
  /-- IFC_HOLD (R376): a write of IFC_CTL.HOLD. -/
  | ifcHold (p : Path) (on : Bool)
  /-- DRW_BIND_WRITE (R294). -/
  | drwBindWrite (p : Path) (d : DrawerId) (h : Head) (pasid : BitVec 20)
  /-- DRW_UNBIND (R295). -/
  | drwUnbind (p : Path) (d : DrawerId)
  /-- DRW_LIMIT_WRITE (R310). -/
  | drwLimitWrite (p : Path) (d : DrawerId) (val : Word)
  /-- DRW_VEC_WRITE (R309). -/
  | drwVecWrite (d : DrawerId) (val : Word)
  /-- DRW_RESET_GO (R312): from the privileged page (none) or an admin path. -/
  | drwResetGo (p : Option Path) (d : DrawerId)
  /-- DRAIN_MAX_EXPIRY (R315). -/
  | drainMaxExpiry (d : DrawerId)
  /-- PRIVILEGED_DRAIN_COMPLETE (R315). -/
  | privilegedDrainComplete (d : DrawerId)
  /-- DRW_PAUSE (R301). -/
  | drwPause (p : Path) (d : DrawerId) (rings : BitVec 4)
  /-- DRW_RING_ENABLE (R301). -/
  | drwRingEnable (d : DrawerId) (r : RingId)
  /-- DRW_RING_DISABLE (R301). -/
  | drwRingDisable (d : DrawerId) (r : RingId)
  /-- DRW_RESUME (R317). -/
  | drwResume (d : DrawerId) (r : RingId)
  /-- DOORBELL_SQ_TAIL (R300). -/
  | doorbellSqTail (d : DrawerId) (r : RingId) (v : Word)
  /-- DOORBELL_CQ_HEAD (R300). -/
  | doorbellCqHead (d : DrawerId) (r : RingId) (v : Word)
  /-- DESCRIPTOR_FETCH (R299): the descriptors the host returns for one request. -/
  | descriptorFetch (d : DrawerId) (r : RingId) (ds : List Descriptor)
  /-- NOP (R304), the oldest startable descriptor of the ring. -/
  | nop (d : DrawerId) (r : RingId)
  /-- COPY (R304): the source bytes when the source is host memory, and how the host answered. -/
  | copy (d : DrawerId) (r : RingId) (hostSrc : List Byte) (dma : HostDma)
  /-- FILL (R304). -/
  | fill (d : DrawerId) (r : RingId)
  /-- COMPRESS (R304); `lost` is a page of the job whose every encode attempt failed (R211). -/
  | compress (d : DrawerId) (r : RingId) (hostSrc : List Byte) (dma : HostDma) (lost : Option Nat)
  /-- DECOMPRESS (R304); `lost` is a page of the job whose every decode attempt failed (R211). -/
  | decompress (d : DrawerId) (r : RingId) (hostSrc : List Byte) (dma : HostDma) (lost : Option Nat)
  /-- FLUSH (R304): how the host answered the read of the stage buffer; `lost` says that every encode attempt failed (R211). -/
  | flush (d : DrawerId) (r : RingId) (dma : HostDma) (lost : Bool)
  /-- FENCE (R304). -/
  | fence (d : DrawerId) (r : RingId)
  /-- OPERATION_COMPLETE (R308) of an operation. -/
  | operationComplete (op : Nat)
  /-- SPN_PCTL_RETRY (R330). -/
  | spnPctlRetry (p : Path) (port : Port)
  /-- SPN_PCTL_WIDEN (R326). -/
  | spnPctlWiden (p : Path) (port : Port)
  /-- SPN_PCTL_HOLD (13, SPN_PCTL.HOLD). -/
  | spnPctlHold (p : Path) (port : Port) (on : Bool)
  /-- COH_KWALK_GO (R158). -/
  | cohKwalkGo (p : Path) (k : KeyId)
  /-- DMC_CAL_RECAL (R176). -/
  | dmcCalRecal (p : Path)
  /-- DMC_TEST_GO (R177). -/
  | dmcTestGo (p : Path) (rank : Fin 16) (pattern : Byte)
  /-- DMC_SPARE_GO (R189). -/
  | dmcSpareGo (p : Path) (from_ : Fin 16)
  /-- PRS_UNFENCE (R212). -/
  | prsUnfence (p : Path) (e : BitVec 4) (d : BitVec 6)
  /-- XTS_UNFENCE (R259). -/
  | xtsUnfence (p : Path) (e : BitVec 4) (d : BitVec 4)
  /-- DEC_PMEC_FLUSH (R126). -/
  | decPmecFlush (p : Path)
  /-- PRS_HCACHE_FLUSH (R207). -/
  | prsHcacheFlush (p : Path)
  /-- INL_IE_WRITE (R276). -/
  | inlIeWrite (p : Path) (val : Word)
  /-- PMU_FREEZE (R432). -/
  | pmuFreeze (p : Path) (on : Bool)
  /-- PMU_CLEAR (R425). -/
  | pmuClear (p : Path)
  /-- PMU_CTR_WRITE (R429). -/
  | pmuCtrWrite (p : Path) (n : Fin 8) (val : Word64)
  /-- PMU_CYC_READ (R430). -/
  | pmuCycRead (p : Path)
  /-- COUNTER_OVERFLOW (R429): an event that wraps counter `n` of unit `u`. -/
  | counterOverflow (u : Fin 12) (n : Fin 8)
  /-- DYE_POP (R436). -/
  | dyePop (p : Path)
  /-- DYE_SEED_WRITE (R436). -/
  | dyeSeedWrite (p : Path) (seed : Word)
  /-- RAIL_NOT_GOOD (R79). -/
  | railNotGood (rail : Fin 5)
  /-- SPAN_TAG_RELEASE (R336). -/
  | spanTagRelease (dest : NodeId) (tag : BitVec 12)
  /-- DOE_DISCOVERY (R97). -/
  | doeDiscovery (h : Head) (index : Byte)
  /-- CXL_TABLE_ACCESS (R97). -/
  | cxlTableAccess (h : Head) (handle : BitVec 16) (lenBytes : Nat)
  /-- INTERRUPT_ENTRY_UNMASK (R309). -/
  | interruptEntryUnmask (d : DrawerId) (e : Fin 64)
  /-- HOST_FLIT_REPLAY (R84). -/
  | hostFlitReplay (h : Head) (corrected : Bool)
  /-- HOST_LINK_RECOVERY (R101). -/
  | hostLinkRecovery (h : Head)
  /-- LINK_L1_ENTRY (R86). -/
  | linkL1Entry (h : Head)
  /-- LINK_L1_EXIT (R86). -/
  | linkL1Exit (h : Head)
  /-- TJ_WARN_CLEAR (R453). -/
  | tjWarnClear
  /-- SPAN_LINK_TRAINED (R320, R321). -/
  | spanLinkTrained (port : Port) (rate64 : Bool)
  /-- HELLO (R328). -/
  | hello (port : Port) (b : HelloBody)
  /-- HELLO_PERIODIC (R328). -/
  | helloPeriodic (port : Port)
  /-- HELLO_TIMEOUT (R328). -/
  | helloTimeout (port : Port)
  /-- AUTH_COMPLETE (R330): the result, and the databases exchanged at admission. -/
  | authComplete (port : Port) (ok : Bool) (db : List LsaBody)
  /-- AUTH_TIMEOUT (R330). -/
  | authTimeout (port : Port)
  /-- SPDM_FLIT (R330): one fragment. -/
  | spdmFlit (port : Port) (len : BitVec 16) (idx : Byte) (last : Bool) (body : List Byte)
  /-- CLAIM_INTERVAL_END (R329). -/
  | claimIntervalEnd
  /-- YIELD_BACKOFF_END (R329). -/
  | yieldBackoffEnd
  /-- LSA (R332). -/
  | lsa (port : Port) (b : LsaBody)
  /-- LSA_PERIODIC (R332). -/
  | lsaPeriodic
  /-- LSA_AGE_OUT (R332). -/
  | lsaAgeOut (serial : Word64)
  /-- ROUTE_COMPUTE (R333). -/
  | routeCompute
  /-- FLIT_CRC_FAIL (R325). -/
  | flitCrcFail (port : Port)
  /-- NAK (R325): the first missing SEQ. -/
  | nak (port : Port) (seq : Byte)
  /-- RETRAIN_TIMEOUT (R325). -/
  | retrainTimeout (port : Port)
  /-- LANE_FAILED (R326). -/
  | laneFailed (port : Port) (lane : Fin 8)
  /-- NARROW (R326): the lanes to keep. -/
  | narrow (port : Port) (keep : Byte)
  /-- SPAN_FORWARD (R335): a flit for another node, its message class, hop and requests' tags. -/
  | spanForward (port : Port) (src dest : NodeId) (mc : Fin 4) (hop : Fin 6) (urg : Fin 4) (tags : List (BitVec 12))
  /-- FORWARD_WAIT_EXPIRY (R335). -/
  | forwardWaitExpiry (entry : Nat)
  /-- E2E_TIMEOUT (R336). -/
  | e2eTimeout (dest : NodeId) (tag : BitVec 12)
  /-- NODE_UNREACHABLE (R340). -/
  | nodeUnreachable (n : NodeId)
  /-- WAKE_PATTERN (R341), seen on a lane of a port. -/
  | wakePattern (port : Port)
  /-- WAKE_PATTERN_REPEAT (R341). -/
  | wakePatternRepeat (port : Port)
  /-- RD (R324). -/
  | rd (m : SpanMsg)
  /-- WR (R324). -/
  | wr (m : SpanMsg)
  /-- WRP (R324), with the mask of the BEMASK held for its flit. -/
  | wrp (m : SpanMsg)
  /-- BEMASK (R323). -/
  | bemask (port : Port) (mask : ByteEn)
  /-- CLNEVCT (R324). -/
  | clnevct (m : SpanMsg)
  /-- SPAN_BICONFLICT (R324). -/
  | spanBiconflict (m : SpanMsg)
  /-- SLAB_RD (R339). -/
  | slabRd (m : SpanMsg)
  /-- SLAB_WR (R339). -/
  | slabWr (m : SpanMsg)
  /-- ALLOC (R339). -/
  | alloc (m : SpanMsg)
  /-- FREE (R339). -/
  | free (m : SpanMsg)
  /-- GRANT_REQ (R339). -/
  | grantReq (m : SpanMsg)
  /-- WB (R324). -/
  | wb (m : SpanMsg)
  /-- BISNP_INV (R324). -/
  | bisnpInv (m : SpanMsg)
  /-- BISNP_DATA (R324). -/
  | bisnpData (m : SpanMsg)
  /-- RSP_DATA (R324). -/
  | rspData (m : SpanMsg)
  /-- CMP (R324). -/
  | cmp (m : SpanMsg)
  /-- BIRSP (R324). -/
  | birsp (m : SpanMsg)
  /-- BICONFLICTACK (R324). -/
  | biconflictack (m : SpanMsg)
  /-- ALLOC_RSP (R324). -/
  | allocRsp (m : SpanMsg)
  /-- GRANT_RSP (R324). -/
  | grantRsp (m : SpanMsg)
  /-- WITHDRAW (R324). -/
  | withdraw (m : SpanMsg)
  /-- HEAD_GONE (R324). -/
  | headGone (m : SpanMsg)
  /-- NACK (R324). -/
  | nack (m : SpanMsg)
deriving DecidableEq, Repr

end Sys2Proof
end

