-- ==== Sys2Proof/Decode.lean ====
section
/-! DEFINITION. The opcode table gives no row any bits (spec/opcode_table.json has no fields), so no word spells a command:
a command reaches the block through its queue. -/

namespace Sys2Proof

/-- The command that a word spells by the table's bits: none, for the table gives no bits. -/
def decodeTableWord (_nbits _w : Nat) : Option Instr := none

end Sys2Proof
end

