-- ==== Sys2Proof/Config.lean ====
section
/-! DEFINITION. What the spec leaves open or names without restating it: free values and uninterpreted functions, constants
with no body (assumptions 4, 5, 6, 7). Nothing can be proved of their values. -/

namespace Sys2Proof.Config

/-- The n-th free value, w bits wide (assumption 4): random draws, choices the spec leaves open. -/
opaque freeBits (w n : Nat) : BitVec w

/-- SHA-384 (02 R43). -/
opaque sha384 (bytes : List Byte) : BitVec 384

/-- ECDSA P-384 verification of a signature over a digest (02 R38, 17 R414). -/
opaque ecdsaOk (pubkey : BitVec 768) (digest : BitVec 384) (sig : BitVec 768) : Bool

/-- The vendor public key of the boot ROM (02 R40). -/
opaque vendorKey : BitVec 768

/-- AES-256-GCM unwrapping of a key under the import key of a session (10 R265): the key, none when the tag fails. -/
opaque unwrapKey (session ivZero : Word) (ivCount : Word64) (aad ct : List Byte) (tag : BitVec 128) : Option (List Byte)

/-- What a line stored under one key instance gives when it is read under another (10 R253, R254): instance numbers of the
writer and the reader, and the MPA line number. -/
opaque otherKey (data : Data) (mpa writer reader : Nat) : Data

/-- Data and metadata of a DRAM line that nothing has written since DRAM contents were lost for the `loss`-th time (07 R467): 512 data
bits, KTAG, SLAB, POISON. -/
opaque unwritten (mpa loss : Nat) : BitVec 518

/-- Bytes of an SPDM answer of the root of trust (17 R411-R412): request code, request body and the measured state. -/
opaque spdmBody (code : Nat) (req : List Byte) (measured : List Nat) : List Nat

/-- Does an SPDM request of a session pass its transcript check (17 R411)? -/
opaque spdmOk (code : Nat) (session : Word) (body : List Byte) : Bool

/-- AES-256-XTS of a line as it crosses the Span, by key instance and tweak (10 R256, R260): a permutation of lines. -/
opaque xts (inst tweak : Nat) : Equiv.Perm Data

/-- Entries of a head's ingress buffer and of a Span port's (11 R283). -/
opaque headIngress : Nat
opaque spanIngress : Nat

/-- The minimum voltage in mV that the fuses hold for an AVSBus rail at a core clock in MHz (03 R80). -/
opaque minMv (rail mhz : Nat) : Nat

/-- The CDAT (04 R97) from a record handle on. -/
opaque cdat (handle len : Nat) : List Nat

end Sys2Proof.Config
end

