-- ==== Sys2Proof/Machine/Codes.lean ====
section
/-! DEFINITION. Byte order, bit fields and the check codes of the spec: CRC-4 (R182), CRC-8 (R125), CRC-16 (R194),
CRC-32C (R36, R394), CRC-64 (R322). -/

namespace Sys2Proof.Machine

open Sys2Proof

/-- Bits lo .. lo+w-1 of a number. -/
def bits (n lo w : Nat) : Nat := (n >>> lo) % 2 ^ w

/-- Bit i of a number. -/
def bit (n i : Nat) : Bool := n.testBit i

/-- A number with bit i set or clear. -/
def withBit (n i : Nat) (b : Bool) : Nat := if b then n ||| (1 <<< i) else if n.testBit i then n - (1 <<< i) else n

/-- Number of set bits among the low w. -/
def popCount (n w : Nat) : Nat := (List.range w).countP fun i => n.testBit i

/-- The set bits among the low w, rising. -/
def bitList (n w : Nat) : List Nat := (List.range w).filter fun i => n.testBit i

/-- Little-endian value of bytes (R7). -/
def leNat : List Byte → Nat
  | [] => 0
  | b :: bs => b.toNat + 256 * leNat bs

/-- The n low bytes of a value, little-endian (R7). -/
def leBytes : Nat → Nat → List Byte
  | 0, _ => []
  | n + 1, v => BitVec.ofNat 8 v :: leBytes n (v / 256)

/-- Big-endian value of bytes (R39, R265). -/
def beNat (bs : List Byte) : Nat := bs.foldl (fun a b => a * 256 + b.toNat) 0

/-- `n` bytes from offset `off`; bytes past the end are dropped. -/
def sliceBytes (bs : List Byte) (off n : Nat) : List Byte := (bs.drop off).take n

/-- Little-endian field of `n` bytes at offset `off`. -/
def leAt (bs : List Byte) (off n : Nat) : Nat := leNat (sliceBytes bs off n)

/-- One bit of a reflected CRC register with polynomial `p`. -/
def crcStepR (p : Nat) (c : Nat) : Nat := if c % 2 = 1 then (c / 2) ^^^ p else c / 2

/-- CRC-32C: reflected polynomial 0x82F63B78. -/
def crc32cByte (c : Nat) (b : Byte) : Nat :=
  (List.range 8).foldl (fun c _ => crcStepR 0x82F63B78 c) (c ^^^ b.toNat)

/-- CRC-32C of bytes, continued from the CRC `init` (0: the usual initial register of all ones); all ones at the end (R394). -/
def crc32c (bs : List Byte) (init : Nat := 0) : Nat :=
  (bs.foldl crc32cByte (init ^^^ 0xFFFFFFFF)) ^^^ 0xFFFFFFFF

/-- One bit of an unreflected CRC register of `w` bits with polynomial `p`. -/
def crcStep (w p c : Nat) : Nat := if c.testBit (w - 1) then ((c * 2) % 2 ^ w) ^^^ p else (c * 2) % 2 ^ w

/-- An unreflected CRC of bytes. -/
def crcBytes (w p init : Nat) (bs : List Byte) : Nat :=
  bs.foldl (fun c b => (List.range 8).foldl (fun c _ => crcStep w p c) (c ^^^ (b.toNat <<< (w - 8)))) init

/-- CRC-16 of a page header: polynomial 0x1021, initial value 0xFFFF (08 R194). -/
def crc16 (bs : List Byte) : Nat := crcBytes 16 0x1021 0xFFFF bs

/-- CRC-8 of a PME: polynomial 0x07, initial value 0 (05 R125). -/
def crc8 (bs : List Byte) : Nat := crcBytes 8 0x07 0 bs

/-- CRC-64 of a Span flit (13 R322). -/
def crc64 (bs : List Byte) : Nat := crcBytes 64 0x42F0E1EBA9EA3693 0 bs

/-- KTAG: CRC-4 of the 7-bit key ID, polynomial x^4 + x + 1, from bit 6 down to bit 0 (07 R182). -/
def ktagOf (key : KeyId) : BitVec 4 :=
  BitVec.ofNat 4 ((List.range 7).foldl
    (fun c i =>
      let top := (c.testBit 3) != key.toNat.testBit (6 - i)
      let c' := (c * 2) % 16
      if top then c' ^^^ 3 else c') 0)

/-- Put a byte into a line's data. -/
def setByte (d : Data) (i : Nat) (b : Byte) : Data :=
  (d &&& ~~~(BitVec.ofNat 512 0xFF <<< (8 * i))) ||| (b.zeroExtend 512 <<< (8 * i))

/-- Byte i of a line's data (R5, R7). -/
def getByte (d : Data) (i : Nat) : Byte := BitVec.ofNat 8 (d.toNat >>> (8 * i))

/-- The mask of the bytes that byte enables select. -/
def beMask (be : ByteEn) : Data :=
  (List.range 64).foldl (fun m i => if be.getLsbD i then m ||| (BitVec.ofNat 512 0xFF <<< (8 * i)) else m) 0

/-- Merge the enabled bytes of new data into old data (07 R184). -/
def mergeData (old new : Data) (be : ByteEn) : Data := (old &&& ~~~(beMask be)) ||| (new &&& beMask be)

/-- 64 bytes as a line's data. -/
def dataOfBytes (bs : List Byte) : Data := BitVec.ofNat 512 (leNat bs)

/-- A line's data as 64 bytes. -/
def bytesOfData (d : Data) : List Byte := leBytes 64 d.toNat

end Sys2Proof.Machine
end

