-- ==== Sys2Proof/Machine/Map.lean ====
section
/-! DEFINITION. Sparse storage as plain data: a list of key and value pairs in one canonical form (keys strictly rising).
Every addressed store of the block (registers, DRAM lines, directory, caches, tables) is one of these. -/

namespace Sys2Proof.Machine

/-- Key and value pairs; canonical when the keys strictly rise (`SMap.wf`). -/
abbrev SMap (α : Type) := List (Nat × α)

/-- The value stored under a key, if the key is listed. -/
def smFind? {α : Type} : SMap α → Nat → Option α
  | [], _ => none
  | (k', v) :: m, k => if k = k' then some v else smFind? m k

/-- The value stored under a key, or what an unlisted key reads as. -/
def smGet {α : Type} (m : SMap α) (k : Nat) (d : α) : α := (smFind? m k).getD d

/-- Is the key listed? -/
def smHas {α : Type} (m : SMap α) (k : Nat) : Bool := (smFind? m k).isSome

/-- Store a value, keeping the keys in rising order. -/
def smSet {α : Type} : SMap α → Nat → α → SMap α
  | [], k, v => [(k, v)]
  | (k', v') :: m, k, v =>
    if k < k' then (k, v) :: (k', v') :: m
    else if k = k' then (k, v) :: m
    else (k', v') :: smSet m k v

/-- Remove a key. -/
def smDel {α : Type} (m : SMap α) (k : Nat) : SMap α := m.filter fun e => e.1 != k

/-- Change the value under a key, starting from what an unlisted key reads as. -/
def smMod {α : Type} (m : SMap α) (k : Nat) (d : α) (f : α → α) : SMap α := smSet m k (f (smGet m k d))

/-- Change the value under a key only when the key is listed. -/
def smAdj {α : Type} (m : SMap α) (k : Nat) (f : α → α) : SMap α :=
  match smFind? m k with
  | some v => smSet m k (f v)
  | none => m

/-- Store a value in a map whose unlisted keys read as `d`: a value equal to `d` removes the entry. -/
def smPut {α : Type} [DecidableEq α] (m : SMap α) (k : Nat) (d v : α) : SMap α :=
  if v = d then smDel m k else smSet m k v

/-- The keys strictly rise from above `lo`. -/
def smRising {α : Type} : Option Nat → SMap α → Bool
  | _, [] => true
  | lo, (k, _) :: m => (match lo with | none => true | some l => decide (l < k)) && smRising (some k) m

/-- The canonical form: keys strictly rising. -/
def smWf {α : Type} (m : SMap α) : Bool := smRising none m

/-- The listed values whose key and value meet a test. -/
def smFilter {α : Type} (m : SMap α) (p : Nat → α → Bool) : SMap α := m.filter fun e => p e.1 e.2

/-- Change every listed value. -/
def smMap {α : Type} (m : SMap α) (f : Nat → α → α) : SMap α := m.map fun e => (e.1, f e.1 e.2)

/-- Put an element into a list sorted by a relation, after its equals. -/
def insertBy {α : Type} (le : α → α → Bool) (a : α) : List α → List α
  | [] => [a]
  | b :: l => if le b a then b :: insertBy le a l else a :: b :: l

/-- A list sorted by a relation; equals keep their order. -/
def sortBy {α : Type} (le : α → α → Bool) (l : List α) : List α := l.foldl (fun acc a => insertBy le a acc) []

end Sys2Proof.Machine
end

