-- ==== Sys2Proof/Machine/Regs.lean ====
section
/-! DEFINITION. The register map: every field of every register of the spec's register tables, with its place, type and
reset value (R457, R460, R466 of 20, and the register tables of 02-18). A field's value is stored under its own key in `State.regs`. -/

namespace Sys2Proof.Machine

/-- Field types of 00 R9. -/
inductive FTy where
  | ro | rw | rwl | w1c | w1s | wo | rws
deriving DecidableEq, Repr

/-- What the instances of a register are, beyond its place in its array (20 R463).
`dev` one for the device, `path` one per path, `ms` one per head and one for the sideband, then one per port, head, decoder
of a head, head of `DEC_DSEL`, interleave set, channel, key slot, 1 GiB block, channel and class, channel of `WEIR_CLSEL`,
drawer, ring of a drawer, Span port, wake step of a state, power state, reading head, PMU unit, fault set. -/
inductive Scope where
  | dev | path | ms | port | head | decoder | dhead | dset | chan | key | block | chcls | wchan | drawer | ring | sport | wstep
  | pstate | self | unit | fset
deriving DecidableEq, Repr

/-- A register field: a number of its own, its low bit and width, type, reset value; `per` gives reset values by instance,
repeating with a period, where the instances differ. -/
structure Fld where
  id : Nat
  lo : Nat
  width : Nat
  ty : FTy
  reset : Nat
  per : Option (Nat × List Nat) := none
deriving DecidableEq, Repr

/-- A register or register array: window (0-18 the block windows of R458; 20 the Module Service DVSEC, 21 a fault set, 22 a
drawer's privileged page, 23 a ring's registers in it), offset of instance 0, array count and stride, 64 bits wide, scope. -/
structure Reg where
  win : Nat
  off : Nat
  count : Nat
  stride : Nat
  wide : Bool
  scope : Scope
  flds : List Fld
deriving DecidableEq, Repr

/-- Reset value of one instance of a field. -/
def fldReset (f : Fld) (i : Nat) : Nat :=
  match f.per with
  | none => f.reset
  | some (m, l) => l.getD (i % m) f.reset

/-- Where an instance of a field is stored. -/
def fldKey (f : Fld) (i : Nat) : Nat := f.id + 1024 * i

def CUT_STATUS.PATCHES : Fld := { id := 0, lo := 16, width := 16, ty := .ro, reset := 0 }
def CUT_STATUS.BUSY : Fld := { id := 1, lo := 8, width := 1, ty := .ro, reset := 0 }
def CUT_STATUS.SIGNER : Fld := { id := 2, lo := 2, width := 3, ty := .ro, reset := 0 }
def CUT_STATUS.SOURCE : Fld := { id := 3, lo := 0, width := 2, ty := .ro, reset := 0 }
/-- CUT_STATUS (02). -/
def regCUT_STATUS : Reg := ⟨1, 0, 1, 0, false, .dev, [CUT_STATUS.PATCHES, CUT_STATUS.BUSY, CUT_STATUS.SIGNER, CUT_STATUS.SOURCE]⟩

def CUT_VERSION.FUSED : Fld := { id := 4, lo := 8, width := 8, ty := .ro, reset := 0 }
def CUT_VERSION.IMAGE : Fld := { id := 5, lo := 0, width := 8, ty := .ro, reset := 0 }
/-- CUT_VERSION (02). -/
def regCUT_VERSION : Reg := ⟨1, 4, 1, 0, false, .dev, [CUT_VERSION.FUSED, CUT_VERSION.IMAGE]⟩

def CUT_BUILD.TAG : Fld := { id := 6, lo := 0, width := 32, ty := .ro, reset := 0 }
/-- CUT_BUILD (02). -/
def regCUT_BUILD : Reg := ⟨1, 8, 1, 0, false, .dev, [CUT_BUILD.TAG]⟩

def CUT_REJECT.PATH : Fld := { id := 7, lo := 30, width := 2, ty := .ro, reset := 0 }
def CUT_REJECT.HEAD : Fld := { id := 8, lo := 26, width := 4, ty := .ro, reset := 0 }
def CUT_REJECT.RECORD : Fld := { id := 9, lo := 16, width := 10, ty := .ro, reset := 0 }
def CUT_REJECT.SECTION : Fld := { id := 10, lo := 8, width := 8, ty := .ro, reset := 0 }
def CUT_REJECT.CODE : Fld := { id := 11, lo := 0, width := 8, ty := .w1c, reset := 0 }
/-- CUT_REJECT (02). -/
def regCUT_REJECT : Reg := ⟨1, 12, 1, 0, false, .dev, [CUT_REJECT.PATH, CUT_REJECT.HEAD, CUT_REJECT.RECORD, CUT_REJECT.SECTION, CUT_REJECT.CODE]⟩

def CUT_LIVE_TS.TIME : Fld := { id := 12, lo := 0, width := 64, ty := .ro, reset := 0 }
/-- CUT_LIVE_TS (02). -/
def regCUT_LIVE_TS : Reg := ⟨1, 16, 1, 0, true, .dev, [CUT_LIVE_TS.TIME]⟩

def CUT_DIGEST.DIGEST : Fld := { id := 13, lo := 0, width := 32, ty := .ro, reset := 0 }
/-- CUT_DIGEST (02). -/
def regCUT_DIGEST : Reg := ⟨1, 64, 12, 4, false, .dev, [CUT_DIGEST.DIGEST]⟩

def CLK_STATUS.FORCE_ELASTIC : Fld := { id := 14, lo := 31, width := 1, ty := .ro, reset := 0 }
def CLK_STATUS.MARGIN : Fld := { id := 15, lo := 30, width := 1, ty := .ro, reset := 0 }
def CLK_STATUS.REFCLK_OK : Fld := { id := 16, lo := 20, width := 4, ty := .ro, reset := 0 }
def CLK_STATUS.SPN_PLL : Fld := { id := 17, lo := 9, width := 4, ty := .ro, reset := 0 }
def CLK_STATUS.HP_PLL : Fld := { id := 18, lo := 5, width := 4, ty := .ro, reset := 0 }
def CLK_STATUS.MCLK_PLL : Fld := { id := 19, lo := 2, width := 3, ty := .ro, reset := 0 }
def CLK_STATUS.PCLK_PLL : Fld := { id := 20, lo := 1, width := 1, ty := .ro, reset := 0 }
def CLK_STATUS.CORE_PLL : Fld := { id := 21, lo := 0, width := 1, ty := .ro, reset := 0 }
/-- CLK_STATUS (03). -/
def regCLK_STATUS : Reg := ⟨17, 0, 1, 0, false, .dev, [CLK_STATUS.FORCE_ELASTIC, CLK_STATUS.MARGIN, CLK_STATUS.REFCLK_OK, CLK_STATUS.SPN_PLL, CLK_STATUS.HP_PLL, CLK_STATUS.MCLK_PLL, CLK_STATUS.PCLK_PLL, CLK_STATUS.CORE_PLL]⟩

def CLK_XMODE.ELASTIC : Fld := { id := 22, lo := 0, width := 15, ty := .ro, reset := 32767 }
/-- CLK_XMODE (03). -/
def regCLK_XMODE : Reg := ⟨17, 4, 1, 0, false, .dev, [CLK_XMODE.ELASTIC]⟩

def CLK_XOVRN.OVRN : Fld := { id := 23, lo := 0, width := 15, ty := .w1c, reset := 0 }
/-- CLK_XOVRN (03). -/
def regCLK_XOVRN : Reg := ⟨17, 8, 1, 0, false, .dev, [CLK_XOVRN.OVRN]⟩

def CLK_XSTUCK.COUNT : Fld := { id := 24, lo := 24, width := 8, ty := .ro, reset := 0 }
def CLK_XSTUCK.STUCK : Fld := { id := 25, lo := 0, width := 15, ty := .w1c, reset := 0 }
/-- CLK_XSTUCK (03). -/
def regCLK_XSTUCK : Reg := ⟨17, 12, 1, 0, false, .dev, [CLK_XSTUCK.COUNT, CLK_XSTUCK.STUCK]⟩

def CLK_XCTL.RETRY_MAX : Fld := { id := 26, lo := 0, width := 8, ty := .rw, reset := 16 }
/-- CLK_XCTL (03). -/
def regCLK_XCTL : Reg := ⟨17, 16, 1, 0, false, .dev, [CLK_XCTL.RETRY_MAX]⟩

def CLK_UNIT.PIN : Fld := { id := 27, lo := 31, width := 1, ty := .rwl, reset := 1 }
def CLK_UNIT.IDLE_NS : Fld := { id := 28, lo := 0, width := 31, ty := .rwl, reset := 0, per := some (3, [2000, 1000, 1000]) }
/-- CLK_UNIT (03). -/
def regCLK_UNIT : Reg := ⟨17, 32, 3, 4, false, .dev, [CLK_UNIT.PIN, CLK_UNIT.IDLE_NS]⟩

def CLK_AVS.BUSY : Fld := { id := 29, lo := 31, width := 1, ty := .ro, reset := 0 }
def CLK_AVS.HELD : Fld := { id := 30, lo := 30, width := 1, ty := .ro, reset := 0 }
def CLK_AVS.ERR : Fld := { id := 31, lo := 29, width := 1, ty := .w1c, reset := 0 }
def CLK_AVS.SRAM_MV : Fld := { id := 32, lo := 16, width := 12, ty := .ro, reset := 0 }
def CLK_AVS.CORE_MV : Fld := { id := 33, lo := 0, width := 12, ty := .ro, reset := 0 }
/-- CLK_AVS (03). -/
def regCLK_AVS : Reg := ⟨17, 48, 1, 0, false, .dev, [CLK_AVS.BUSY, CLK_AVS.HELD, CLK_AVS.ERR, CLK_AVS.SRAM_MV, CLK_AVS.CORE_MV]⟩

def CLK_MARGIN.GO : Fld := { id := 34, lo := 31, width := 1, ty := .w1s, reset := 0 }
def CLK_MARGIN.DONE : Fld := { id := 35, lo := 30, width := 1, ty := .ro, reset := 0 }
def CLK_MARGIN.FSTEP : Fld := { id := 36, lo := 16, width := 8, ty := .rw, reset := 0 }
def CLK_MARGIN.MV : Fld := { id := 37, lo := 0, width := 12, ty := .rw, reset := 0 }
/-- CLK_MARGIN (03). -/
def regCLK_MARGIN : Reg := ⟨17, 52, 1, 0, false, .dev, [CLK_MARGIN.GO, CLK_MARGIN.DONE, CLK_MARGIN.FSTEP, CLK_MARGIN.MV]⟩

def CLK_RSTCAUSE.KIND : Fld := { id := 38, lo := 28, width := 4, ty := .ro, reset := 0 }
def CLK_RSTCAUSE.SOURCE : Fld := { id := 39, lo := 24, width := 4, ty := .ro, reset := 0 }
def CLK_RSTCAUSE.HEAD : Fld := { id := 40, lo := 16, width := 8, ty := .ro, reset := 0 }
def CLK_RSTCAUSE.BOOTS : Fld := { id := 41, lo := 0, width := 16, ty := .ro, reset := 0 }
/-- CLK_RSTCAUSE (03). -/
def regCLK_RSTCAUSE : Reg := ⟨17, 64, 1, 0, false, .dev, [CLK_RSTCAUSE.KIND, CLK_RSTCAUSE.SOURCE, CLK_RSTCAUSE.HEAD, CLK_RSTCAUSE.BOOTS]⟩

def MS_CAP.HEAD : Fld := { id := 42, lo := 8, width := 4, ty := .ro, reset := 0 }
def MS_CAP.MGMT : Fld := { id := 43, lo := 4, width := 1, ty := .ro, reset := 0 }
def MS_CAP.PWRCTL : Fld := { id := 44, lo := 3, width := 1, ty := .ro, reset := 1 }
def MS_CAP.BUTTON : Fld := { id := 45, lo := 2, width := 1, ty := .ro, reset := 1 }
def MS_CAP.ATTN_IND : Fld := { id := 46, lo := 1, width := 1, ty := .ro, reset := 1 }
def MS_CAP.PWR_IND : Fld := { id := 47, lo := 0, width := 1, ty := .ro, reset := 1 }
/-- MS_CAP (04). -/
def regMS_CAP : Reg := ⟨20, 12, 1, 0, false, .ms, [MS_CAP.HEAD, MS_CAP.MGMT, MS_CAP.PWRCTL, MS_CAP.BUTTON, MS_CAP.ATTN_IND, MS_CAP.PWR_IND]⟩

def MS_PRESENCE.CODE : Fld := { id := 48, lo := 0, width := 32, ty := .ro, reset := 0 }
/-- MS_PRESENCE (04). -/
def regMS_PRESENCE : Reg := ⟨20, 16, 1, 0, false, .dev, [MS_PRESENCE.CODE]⟩

def MS_PRESCHG.CHG : Fld := { id := 49, lo := 0, width := 16, ty := .w1c, reset := 0 }
/-- MS_PRESCHG (04). -/
def regMS_PRESCHG : Reg := ⟨20, 20, 1, 0, false, .ms, [MS_PRESCHG.CHG]⟩

def MS_POWER.CMD : Fld := { id := 50, lo := 28, width := 4, ty := .wo, reset := 0 }
def MS_POWER.CHG : Fld := { id := 51, lo := 8, width := 1, ty := .w1c, reset := 0 }
def MS_POWER.PG : Fld := { id := 52, lo := 7, width := 1, ty := .ro, reset := 0 }
def MS_POWER.FLT : Fld := { id := 53, lo := 6, width := 1, ty := .ro, reset := 0 }
def MS_POWER.STATE : Fld := { id := 54, lo := 0, width := 3, ty := .ro, reset := 0 }
/-- MS_POWER (04). -/
def regMS_POWER : Reg := ⟨20, 24, 1, 0, false, .ms, [MS_POWER.CMD, MS_POWER.CHG, MS_POWER.PG, MS_POWER.FLT, MS_POWER.STATE]⟩

def MS_ATTN.LEVEL : Fld := { id := 55, lo := 1, width := 1, ty := .ro, reset := 0 }
def MS_ATTN.LATCH : Fld := { id := 56, lo := 0, width := 1, ty := .w1c, reset := 0 }
/-- MS_ATTN (04). -/
def regMS_ATTN : Reg := ⟨20, 28, 1, 0, false, .ms, [MS_ATTN.LEVEL, MS_ATTN.LATCH]⟩

def MS_IND.PWR_LED : Fld := { id := 57, lo := 2, width := 2, ty := .rw, reset := 3 }
def MS_IND.ATTN_LED : Fld := { id := 58, lo := 0, width := 2, ty := .rw, reset := 0 }
/-- MS_IND (04). -/
def regMS_IND : Reg := ⟨20, 32, 1, 0, false, .dev, [MS_IND.PWR_LED, MS_IND.ATTN_LED]⟩

def MS_CTL.PWR_IE : Fld := { id := 59, lo := 2, width := 1, ty := .rw, reset := 0 }
def MS_CTL.ATTN_IE : Fld := { id := 60, lo := 1, width := 1, ty := .rw, reset := 0 }
def MS_CTL.PRES_IE : Fld := { id := 61, lo := 0, width := 1, ty := .rw, reset := 0 }
/-- MS_CTL (04). -/
def regMS_CTL : Reg := ⟨20, 36, 1, 0, false, .ms, [MS_CTL.PWR_IE, MS_CTL.ATTN_IE, MS_CTL.PRES_IE]⟩

def HP_PORTSEL.SUB : Fld := { id := 62, lo := 2, width := 2, ty := .rw, reset := 0, per := some (32, [0, 1, 2, 3, 0, 1, 2, 3, 0, 1, 2, 3, 0, 1, 2, 3]) }
def HP_PORTSEL.PORT : Fld := { id := 63, lo := 0, width := 2, ty := .rw, reset := 0, per := some (32, [0, 0, 0, 0, 1, 1, 1, 1, 2, 2, 2, 2, 3, 3, 3, 3]) }
/-- HP_PORTSEL (04). -/
def regHP_PORTSEL : Reg := ⟨2, 0, 1, 0, false, .path, [HP_PORTSEL.SUB, HP_PORTSEL.PORT]⟩

def HP_CFG.IDE_REQ : Fld := { id := 64, lo := 28, width := 4, ty := .rwl, reset := 0 }
def HP_CFG.MGMT : Fld := { id := 65, lo := 24, width := 4, ty := .rwl, reset := 0 }
def HP_CFG.HEAD_EN : Fld := { id := 66, lo := 20, width := 4, ty := .rwl, reset := 0 }
def HP_CFG.FLIT : Fld := { id := 67, lo := 16, width := 2, ty := .rwl, reset := 3 }
def HP_CFG.D3COLD_P4 : Fld := { id := 68, lo := 11, width := 1, ty := .rwl, reset := 0 }
def HP_CFG.MAX_RATE : Fld := { id := 69, lo := 8, width := 3, ty := .rwl, reset := 5 }
def HP_CFG.BIFUR : Fld := { id := 70, lo := 0, width := 2, ty := .rwl, reset := 3 }
/-- HP_CFG (04). -/
def regHP_CFG : Reg := ⟨2, 4, 1, 0, false, .port, [HP_CFG.IDE_REQ, HP_CFG.MGMT, HP_CFG.HEAD_EN, HP_CFG.FLIT, HP_CFG.D3COLD_P4, HP_CFG.MAX_RATE, HP_CFG.BIFUR]⟩

def HP_PRESENCE.CODE : Fld := { id := 71, lo := 0, width := 32, ty := .ro, reset := 0 }
/-- HP_PRESENCE (04). -/
def regHP_PRESENCE : Reg := ⟨2, 16, 1, 0, false, .dev, [HP_PRESENCE.CODE]⟩

def HP_LINK.UP : Fld := { id := 72, lo := 31, width := 1, ty := .ro, reset := 0 }
def HP_LINK.FLIT256 : Fld := { id := 73, lo := 30, width := 1, ty := .ro, reset := 0 }
def HP_LINK.RATE : Fld := { id := 74, lo := 27, width := 3, ty := .ro, reset := 0 }
def HP_LINK.WIDTH : Fld := { id := 75, lo := 22, width := 5, ty := .ro, reset := 0 }
def HP_LINK.RETIMERS : Fld := { id := 76, lo := 20, width := 2, ty := .ro, reset := 0 }
def HP_LINK.LTSSM : Fld := { id := 77, lo := 8, width := 3, ty := .ro, reset := 0 }
def HP_LINK.RECOV : Fld := { id := 78, lo := 0, width := 8, ty := .rw, reset := 0 }
/-- HP_LINK (04). -/
def regHP_LINK : Reg := ⟨2, 256, 1, 0, false, .head, [HP_LINK.UP, HP_LINK.FLIT256, HP_LINK.RATE, HP_LINK.WIDTH, HP_LINK.RETIMERS, HP_LINK.LTSSM, HP_LINK.RECOV]⟩

def HP_ERRCNT.FEC_CORR : Fld := { id := 79, lo := 16, width := 16, ty := .rw, reset := 0 }
def HP_ERRCNT.REPLAY : Fld := { id := 80, lo := 0, width := 16, ty := .rw, reset := 0 }
/-- HP_ERRCNT (04). -/
def regHP_ERRCNT : Reg := ⟨2, 260, 1, 0, false, .head, [HP_ERRCNT.FEC_CORR, HP_ERRCNT.REPLAY]⟩

def HP_DROP.BMEDROP : Fld := { id := 81, lo := 16, width := 16, ty := .rw, reset := 0 }
def HP_DROP.LATE_CPL : Fld := { id := 82, lo := 0, width := 16, ty := .rw, reset := 0 }
/-- HP_DROP (04). -/
def regHP_DROP : Reg := ⟨2, 264, 1, 0, false, .head, [HP_DROP.BMEDROP, HP_DROP.LATE_CPL]⟩

def HP_CTO.TIMEOUTS : Fld := { id := 83, lo := 16, width := 16, ty := .rw, reset := 0 }
def HP_CTO.QUAR : Fld := { id := 84, lo := 0, width := 11, ty := .ro, reset := 0 }
/-- HP_CTO (04). -/
def regHP_CTO : Reg := ⟨2, 268, 1, 0, false, .head, [HP_CTO.TIMEOUTS, HP_CTO.QUAR]⟩

def HP_IDE.REQUIRED : Fld := { id := 85, lo := 31, width := 1, ty := .ro, reset := 0 }
def HP_IDE.IO_ACTIVE : Fld := { id := 86, lo := 30, width := 1, ty := .ro, reset := 0 }
def HP_IDE.MEM_ACTIVE : Fld := { id := 87, lo := 29, width := 1, ty := .ro, reset := 0 }
def HP_IDE.INSECURE : Fld := { id := 88, lo := 28, width := 1, ty := .ro, reset := 0 }
def HP_IDE.DROPS : Fld := { id := 89, lo := 0, width := 16, ty := .rw, reset := 0 }
/-- HP_IDE (04). -/
def regHP_IDE : Reg := ⟨2, 272, 1, 0, false, .head, [HP_IDE.REQUIRED, HP_IDE.IO_ACTIVE, HP_IDE.MEM_ACTIVE, HP_IDE.INSECURE, HP_IDE.DROPS]⟩

def HP_SURPRISE.COUNT : Fld := { id := 90, lo := 16, width := 16, ty := .ro, reset := 0 }
def HP_SURPRISE.CLEANUP : Fld := { id := 91, lo := 0, width := 1, ty := .ro, reset := 0 }
/-- HP_SURPRISE (04). -/
def regHP_SURPRISE : Reg := ⟨2, 276, 1, 0, false, .head, [HP_SURPRISE.COUNT, HP_SURPRISE.CLEANUP]⟩

def DEC_DSEL.SET : Fld := { id := 92, lo := 16, width := 4, ty := .rw, reset := 0 }
def DEC_DSEL.DEC : Fld := { id := 93, lo := 8, width := 5, ty := .rw, reset := 0 }
def DEC_DSEL.HEAD : Fld := { id := 94, lo := 0, width := 4, ty := .rw, reset := 0, per := some (32, [0, 1, 2, 3, 4, 5, 6, 7, 8, 9, 10, 11, 12, 13, 14, 15]) }
/-- DEC_DSEL (05). -/
def regDEC_DSEL : Reg := ⟨3, 0, 1, 0, false, .path, [DEC_DSEL.SET, DEC_DSEL.DEC, DEC_DSEL.HEAD]⟩

def DEC_DTPL.VALID : Fld := { id := 95, lo := 31, width := 1, ty := .rwl, reset := 0 }
def DEC_DTPL.REGION : Fld := { id := 96, lo := 22, width := 9, ty := .rwl, reset := 0 }
def DEC_DTPL.HOME : Fld := { id := 97, lo := 16, width := 6, ty := .rwl, reset := 63 }
def DEC_DTPL.SET : Fld := { id := 98, lo := 12, width := 4, ty := .rwl, reset := 0 }
def DEC_DTPL.HINT : Fld := { id := 99, lo := 10, width := 2, ty := .rwl, reset := 0 }
def DEC_DTPL.CLASS : Fld := { id := 100, lo := 9, width := 1, ty := .rwl, reset := 0 }
def DEC_DTPL.KW : Fld := { id := 101, lo := 4, width := 3, ty := .rwl, reset := 0 }
def DEC_DTPL.TYPE : Fld := { id := 102, lo := 0, width := 4, ty := .rwl, reset := 0 }
/-- DEC_DTPL (05). -/
def regDEC_DTPL : Reg := ⟨3, 4, 1, 0, false, .decoder, [DEC_DTPL.VALID, DEC_DTPL.REGION, DEC_DTPL.HOME, DEC_DTPL.SET, DEC_DTPL.HINT, DEC_DTPL.CLASS, DEC_DTPL.KW, DEC_DTPL.TYPE]⟩

def DEC_DEFKEY.KEY : Fld := { id := 103, lo := 0, width := 7, ty := .rw, reset := 0 }
/-- DEC_DEFKEY (05). -/
def regDEC_DEFKEY : Reg := ⟨3, 8, 1, 0, false, .decoder, [DEC_DEFKEY.KEY]⟩

def DEC_DPABASE_LO.BASE_L : Fld := { id := 104, lo := 28, width := 4, ty := .rw, reset := 15 }
/-- DEC_DPABASE_LO (05). -/
def regDEC_DPABASE_LO : Reg := ⟨3, 16, 1, 0, false, .decoder, [DEC_DPABASE_LO.BASE_L]⟩

def DEC_DPABASE_HI.BASE_H : Fld := { id := 105, lo := 0, width := 14, ty := .rw, reset := 16383 }
/-- DEC_DPABASE_HI (05). -/
def regDEC_DPABASE_HI : Reg := ⟨3, 20, 1, 0, false, .decoder, [DEC_DPABASE_HI.BASE_H]⟩

def DEC_KEYMASK.PERMIT : Fld := { id := 106, lo := 0, width := 32, ty := .rw, reset := 4294967295 }
/-- DEC_KEYMASK (05). -/
def regDEC_KEYMASK : Reg := ⟨3, 32, 4, 4, false, .dhead, [DEC_KEYMASK.PERMIT]⟩

def DEC_SET.VALID : Fld := { id := 107, lo := 31, width := 1, ty := .rwl, reset := 0 }
def DEC_SET.WAYS : Fld := { id := 108, lo := 24, width := 4, ty := .rwl, reset := 0 }
def DEC_SET.GRAN : Fld := { id := 109, lo := 20, width := 2, ty := .rwl, reset := 0 }
def DEC_SET.CHANNELS : Fld := { id := 110, lo := 0, width := 12, ty := .rwl, reset := 0 }
/-- DEC_SET (05). -/
def regDEC_SET : Reg := ⟨3, 48, 1, 0, false, .dset, [DEC_SET.VALID, DEC_SET.WAYS, DEC_SET.GRAN, DEC_SET.CHANNELS]⟩

def DEC_SETBASE.SIZE : Fld := { id := 111, lo := 16, width := 16, ty := .ro, reset := 0 }
def DEC_SETBASE.BASE : Fld := { id := 112, lo := 0, width := 16, ty := .ro, reset := 0 }
/-- DEC_SETBASE (05). -/
def regDEC_SETBASE : Reg := ⟨3, 52, 1, 0, false, .dset, [DEC_SETBASE.SIZE, DEC_SETBASE.BASE]⟩

def DEC_PMEC.FLUSH : Fld := { id := 113, lo := 31, width := 1, ty := .w1s, reset := 0 }
def DEC_PMEC.MISSES : Fld := { id := 114, lo := 16, width := 7, ty := .ro, reset := 0 }
def DEC_PMEC.PINNED : Fld := { id := 115, lo := 0, width := 16, ty := .ro, reset := 0 }
/-- DEC_PMEC (05). -/
def regDEC_PMEC : Reg := ⟨3, 64, 1, 0, false, .dev, [DEC_PMEC.FLUSH, DEC_PMEC.MISSES, DEC_PMEC.PINNED]⟩

def DEC_EXT.USED : Fld := { id := 116, lo := 0, width := 13, ty := .ro, reset := 0 }
/-- DEC_EXT (05). -/
def regDEC_EXT : Reg := ⟨3, 68, 1, 0, false, .dev, [DEC_EXT.USED]⟩

def DEC_PEERKEY.PERMIT : Fld := { id := 117, lo := 0, width := 32, ty := .rw, reset := 4294967295 }
/-- DEC_PEERKEY (05). -/
def regDEC_PEERKEY : Reg := ⟨3, 80, 4, 4, false, .dev, [DEC_PEERKEY.PERMIT]⟩

def COH_CTL.SNPTO : Fld := { id := 118, lo := 16, width := 16, ty := .rw, reset := 1000 }
/-- COH_CTL (06). -/
def regCOH_CTL : Reg := ⟨4, 0, 1, 0, false, .dev, [COH_CTL.SNPTO]⟩

def COH_TTUSE0.PEAK : Fld := { id := 119, lo := 16, width := 13, ty := .rw, reset := 0 }
def COH_TTUSE0.USED : Fld := { id := 120, lo := 0, width := 13, ty := .ro, reset := 0 }
/-- COH_TTUSE0 (06). -/
def regCOH_TTUSE0 : Reg := ⟨4, 4, 1, 0, false, .dev, [COH_TTUSE0.PEAK, COH_TTUSE0.USED]⟩

def COH_TTUSE1.C2 : Fld := { id := 121, lo := 16, width := 10, ty := .ro, reset := 0 }
def COH_TTUSE1.C1 : Fld := { id := 122, lo := 0, width := 10, ty := .ro, reset := 0 }
/-- COH_TTUSE1 (06). -/
def regCOH_TTUSE1 : Reg := ⟨4, 8, 1, 0, false, .dev, [COH_TTUSE1.C2, COH_TTUSE1.C1]⟩

def COH_DIR0.VALID : Fld := { id := 123, lo := 0, width := 21, ty := .ro, reset := 0 }
/-- COH_DIR0 (06). -/
def regCOH_DIR0 : Reg := ⟨4, 12, 1, 0, false, .dev, [COH_DIR0.VALID]⟩

def COH_DIR1.BCAST : Fld := { id := 124, lo := 0, width := 21, ty := .ro, reset := 0 }
/-- COH_DIR1 (06). -/
def regCOH_DIR1 : Reg := ⟨4, 16, 1, 0, false, .dev, [COH_DIR1.BCAST]⟩

def COH_RETRY.HELD : Fld := { id := 125, lo := 16, width := 16, ty := .rw, reset := 0 }
def COH_RETRY.SETS : Fld := { id := 126, lo := 0, width := 7, ty := .ro, reset := 0 }
/-- COH_RETRY (06). -/
def regCOH_RETRY : Reg := ⟨4, 20, 1, 0, false, .dev, [COH_RETRY.HELD, COH_RETRY.SETS]⟩

def COH_ROT.ROT : Fld := { id := 127, lo := 0, width := 5, ty := .ro, reset := 0 }
/-- COH_ROT (06). -/
def regCOH_ROT : Reg := ⟨4, 24, 1, 0, false, .dev, [COH_ROT.ROT]⟩

def COH_SNPTO.TIMEOUTS : Fld := { id := 128, lo := 20, width := 12, ty := .rw, reset := 0 }
def COH_SNPTO.LATE : Fld := { id := 129, lo := 7, width := 13, ty := .rw, reset := 0 }
def COH_SNPTO.TABLE : Fld := { id := 130, lo := 0, width := 7, ty := .ro, reset := 0 }
/-- COH_SNPTO (06). -/
def regCOH_SNPTO : Reg := ⟨4, 28, 1, 0, false, .dev, [COH_SNPTO.TIMEOUTS, COH_SNPTO.LATE, COH_SNPTO.TABLE]⟩

def COH_SCAN.ACTIVE : Fld := { id := 131, lo := 31, width := 1, ty := .ro, reset := 0 }
def COH_SCAN.NODE : Fld := { id := 132, lo := 25, width := 6, ty := .ro, reset := 0 }
def COH_SCAN.HEAD : Fld := { id := 133, lo := 21, width := 4, ty := .ro, reset := 0 }
def COH_SCAN.POISONED : Fld := { id := 134, lo := 0, width := 21, ty := .ro, reset := 0 }
/-- COH_SCAN (06). -/
def regCOH_SCAN : Reg := ⟨4, 32, 1, 0, false, .dev, [COH_SCAN.ACTIVE, COH_SCAN.NODE, COH_SCAN.HEAD, COH_SCAN.POISONED]⟩

def COH_KWALK.GO : Fld := { id := 135, lo := 31, width := 1, ty := .w1s, reset := 0 }
def COH_KWALK.DONE : Fld := { id := 136, lo := 30, width := 1, ty := .w1c, reset := 0 }
def COH_KWALK.KEY : Fld := { id := 137, lo := 20, width := 7, ty := .rw, reset := 0 }
def COH_KWALK.LINES : Fld := { id := 138, lo := 0, width := 20, ty := .ro, reset := 0 }
/-- COH_KWALK (06). -/
def regCOH_KWALK : Reg := ⟨4, 36, 1, 0, false, .dev, [COH_KWALK.GO, COH_KWALK.DONE, COH_KWALK.KEY, COH_KWALK.LINES]⟩

def DMC_CHSEL.CH : Fld := { id := 139, lo := 0, width := 5, ty := .rw, reset := 0 }
/-- DMC_CHSEL (07). -/
def regDMC_CHSEL : Reg := ⟨5, 0, 1, 0, false, .path, [DMC_CHSEL.CH]⟩

def DMC_CFG.SPARE : Fld := { id := 140, lo := 28, width := 4, ty := .rwl, reset := 15 }
def DMC_CFG.RANKS : Fld := { id := 141, lo := 24, width := 2, ty := .rwl, reset := 0 }
def DMC_CFG.HEIGHT : Fld := { id := 142, lo := 18, width := 3, ty := .ro, reset := 0 }
def DMC_CFG.SLOTS : Fld := { id := 143, lo := 16, width := 2, ty := .rwl, reset := 0 }
def DMC_CFG.X8 : Fld := { id := 144, lo := 15, width := 1, ty := .rwl, reset := 0 }
def DMC_CFG.MODULE : Fld := { id := 145, lo := 13, width := 2, ty := .rwl, reset := 0 }
def DMC_CFG.SPEED : Fld := { id := 146, lo := 11, width := 2, ty := .rwl, reset := 0 }
def DMC_CFG.SET : Fld := { id := 147, lo := 0, width := 4, ty := .rwl, reset := 15 }
/-- DMC_CFG (07). -/
def regDMC_CFG : Reg := ⟨5, 4, 1, 0, false, .chan, [DMC_CFG.SPARE, DMC_CFG.RANKS, DMC_CFG.HEIGHT, DMC_CFG.SLOTS, DMC_CFG.X8, DMC_CFG.MODULE, DMC_CFG.SPEED, DMC_CFG.SET]⟩

def DMC_STATUS.STATE : Fld := { id := 148, lo := 29, width := 3, ty := .ro, reset := 0 }
def DMC_STATUS.REF2X : Fld := { id := 149, lo := 28, width := 1, ty := .ro, reset := 0 }
def DMC_STATUS.PPD : Fld := { id := 150, lo := 27, width := 1, ty := .ro, reset := 0 }
def DMC_STATUS.DRAIN : Fld := { id := 151, lo := 26, width := 1, ty := .ro, reset := 0 }
def DMC_STATUS.RETRAIN : Fld := { id := 152, lo := 25, width := 1, ty := .ro, reset := 0 }
def DMC_STATUS.INSVC : Fld := { id := 153, lo := 16, width := 4, ty := .ro, reset := 0 }
/-- DMC_STATUS (07). -/
def regDMC_STATUS : Reg := ⟨5, 8, 1, 0, false, .chan, [DMC_STATUS.STATE, DMC_STATUS.REF2X, DMC_STATUS.PPD, DMC_STATUS.DRAIN, DMC_STATUS.RETRAIN, DMC_STATUS.INSVC]⟩

def DMC_QCTL.WR_HIGH : Fld := { id := 154, lo := 16, width := 6, ty := .rw, reset := 48 }
def DMC_QCTL.WR_LOW : Fld := { id := 155, lo := 8, width := 6, ty := .rw, reset := 16 }
def DMC_QCTL.STARVE : Fld := { id := 156, lo := 0, width := 8, ty := .rw, reset := 20 }
/-- DMC_QCTL (07). -/
def regDMC_QCTL : Reg := ⟨5, 12, 1, 0, false, .chan, [DMC_QCTL.WR_HIGH, DMC_QCTL.WR_LOW, DMC_QCTL.STARVE]⟩

def DMC_PAGE.STREAK : Fld := { id := 157, lo := 8, width := 8, ty := .rw, reset := 16 }
def DMC_PAGE.IDLE : Fld := { id := 158, lo := 0, width := 8, ty := .rw, reset := 32 }
/-- DMC_PAGE (07). -/
def regDMC_PAGE : Reg := ⟨5, 16, 1, 0, false, .chan, [DMC_PAGE.STREAK, DMC_PAGE.IDLE]⟩

def DMC_REFCTL.HOT_T : Fld := { id := 159, lo := 16, width := 8, ty := .rw, reset := 85 }
def DMC_REFCTL.COOL_T : Fld := { id := 160, lo := 8, width := 8, ty := .rw, reset := 83 }
def DMC_REFCTL.FORCE2X : Fld := { id := 161, lo := 2, width := 1, ty := .rw, reset := 0 }
def DMC_REFCTL.MODE : Fld := { id := 162, lo := 0, width := 2, ty := .rw, reset := 0 }
/-- DMC_REFCTL (07). -/
def regDMC_REFCTL : Reg := ⟨5, 20, 1, 0, false, .chan, [DMC_REFCTL.HOT_T, DMC_REFCTL.COOL_T, DMC_REFCTL.FORCE2X, DMC_REFCTL.MODE]⟩

def DMC_RH.RFM : Fld := { id := 163, lo := 31, width := 1, ty := .ro, reset := 0 }
def DMC_RH.DRFM : Fld := { id := 164, lo := 30, width := 1, ty := .ro, reset := 0 }
def DMC_RH.TH : Fld := { id := 165, lo := 0, width := 16, ty := .rw, reset := 1024 }
/-- DMC_RH (07). -/
def regDMC_RH : Reg := ⟨5, 24, 1, 0, false, .chan, [DMC_RH.RFM, DMC_RH.DRFM, DMC_RH.TH]⟩

def DMC_CAL.RECAL : Fld := { id := 166, lo := 31, width := 1, ty := .w1s, reset := 0 }
def DMC_CAL.ZQ_MS : Fld := { id := 167, lo := 16, width := 8, ty := .rw, reset := 128 }
def DMC_CAL.DQS_MS : Fld := { id := 168, lo := 8, width := 8, ty := .rw, reset := 32 }
def DMC_CAL.MAXSTALL : Fld := { id := 169, lo := 0, width := 8, ty := .rw, reset := 0 }
/-- DMC_CAL (07). -/
def regDMC_CAL : Reg := ⟨5, 28, 1, 0, false, .chan, [DMC_CAL.RECAL, DMC_CAL.ZQ_MS, DMC_CAL.DQS_MS, DMC_CAL.MAXSTALL]⟩

def DMC_TEMP.SLOT1 : Fld := { id := 170, lo := 16, width := 16, ty := .ro, reset := 32768 }
def DMC_TEMP.SLOT0 : Fld := { id := 171, lo := 0, width := 16, ty := .ro, reset := 32768 }
/-- DMC_TEMP (07). -/
def regDMC_TEMP : Reg := ⟨5, 32, 1, 0, false, .chan, [DMC_TEMP.SLOT1, DMC_TEMP.SLOT0]⟩

def DMC_ECC.CE : Fld := { id := 172, lo := 16, width := 16, ty := .rw, reset := 0 }
def DMC_ECC.UE : Fld := { id := 173, lo := 0, width := 16, ty := .rw, reset := 0 }
/-- DMC_ECC (07). -/
def regDMC_ECC : Reg := ⟨5, 36, 1, 0, false, .chan, [DMC_ECC.CE, DMC_ECC.UE]⟩

def DMC_ECCLOC0.UE : Fld := { id := 174, lo := 31, width := 1, ty := .ro, reset := 0 }
def DMC_ECCLOC0.SUB : Fld := { id := 175, lo := 30, width := 1, ty := .ro, reset := 0 }
def DMC_ECCLOC0.RANK : Fld := { id := 176, lo := 26, width := 4, ty := .ro, reset := 0 }
def DMC_ECCLOC0.BG : Fld := { id := 177, lo := 23, width := 3, ty := .ro, reset := 0 }
def DMC_ECCLOC0.BANK : Fld := { id := 178, lo := 21, width := 2, ty := .ro, reset := 0 }
def DMC_ECCLOC0.DEVICE : Fld := { id := 179, lo := 17, width := 4, ty := .ro, reset := 15 }
def DMC_ECCLOC0.ROW : Fld := { id := 180, lo := 0, width := 17, ty := .ro, reset := 0 }
/-- DMC_ECCLOC0 (07). -/
def regDMC_ECCLOC0 : Reg := ⟨5, 40, 1, 0, false, .chan, [DMC_ECCLOC0.UE, DMC_ECCLOC0.SUB, DMC_ECCLOC0.RANK, DMC_ECCLOC0.BG, DMC_ECCLOC0.BANK, DMC_ECCLOC0.DEVICE, DMC_ECCLOC0.ROW]⟩

def DMC_ECCLOC1.COL : Fld := { id := 181, lo := 0, width := 11, ty := .ro, reset := 0 }
/-- DMC_ECCLOC1 (07). -/
def regDMC_ECCLOC1 : Reg := ⟨5, 44, 1, 0, false, .chan, [DMC_ECCLOC1.COL]⟩

def DMC_SCRUB.EN : Fld := { id := 182, lo := 31, width := 1, ty := .rw, reset := 1 }
def DMC_SCRUB.HOURS : Fld := { id := 183, lo := 16, width := 8, ty := .rw, reset := 24 }
def DMC_SCRUB.PASSES : Fld := { id := 184, lo := 0, width := 16, ty := .ro, reset := 0 }
/-- DMC_SCRUB (07). -/
def regDMC_SCRUB : Reg := ⟨5, 48, 1, 0, false, .chan, [DMC_SCRUB.EN, DMC_SCRUB.HOURS, DMC_SCRUB.PASSES]⟩

def DMC_SCRUBPOS.POS : Fld := { id := 185, lo := 0, width := 32, ty := .ro, reset := 0 }
/-- DMC_SCRUBPOS (07). -/
def regDMC_SCRUBPOS : Reg := ⟨5, 52, 1, 0, false, .chan, [DMC_SCRUBPOS.POS]⟩

def DMC_SPARE.GO : Fld := { id := 186, lo := 31, width := 1, ty := .w1s, reset := 0 }
def DMC_SPARE.DONE : Fld := { id := 187, lo := 30, width := 1, ty := .w1c, reset := 0 }
def DMC_SPARE.STATE : Fld := { id := 188, lo := 28, width := 2, ty := .ro, reset := 0 }
def DMC_SPARE.FROM : Fld := { id := 189, lo := 24, width := 4, ty := .rw, reset := 0 }
def DMC_SPARE.RATE : Fld := { id := 190, lo := 16, width := 8, ty := .rw, reset := 4 }
def DMC_SPARE.CE_TH : Fld := { id := 191, lo := 0, width := 16, ty := .rw, reset := 256 }
/-- DMC_SPARE (07). -/
def regDMC_SPARE : Reg := ⟨5, 56, 1, 0, false, .chan, [DMC_SPARE.GO, DMC_SPARE.DONE, DMC_SPARE.STATE, DMC_SPARE.FROM, DMC_SPARE.RATE, DMC_SPARE.CE_TH]⟩

def DMC_SPAREPOS.POS : Fld := { id := 192, lo := 0, width := 32, ty := .ro, reset := 0 }
/-- DMC_SPAREPOS (07). -/
def regDMC_SPAREPOS : Reg := ⟨5, 60, 1, 0, false, .chan, [DMC_SPAREPOS.POS]⟩

def DMC_RANKMAP.MAP : Fld := { id := 193, lo := 0, width := 16, ty := .ro, reset := 65535 }
/-- DMC_RANKMAP (07). -/
def regDMC_RANKMAP : Reg := ⟨5, 64, 1, 0, false, .chan, [DMC_RANKMAP.MAP]⟩

def DMC_TEST.GO : Fld := { id := 194, lo := 31, width := 1, ty := .w1s, reset := 0 }
def DMC_TEST.DONE : Fld := { id := 195, lo := 30, width := 1, ty := .w1c, reset := 0 }
def DMC_TEST.RESULT : Fld := { id := 196, lo := 27, width := 3, ty := .ro, reset := 0 }
def DMC_TEST.RANK : Fld := { id := 197, lo := 16, width := 4, ty := .rw, reset := 0 }
def DMC_TEST.PATTERN : Fld := { id := 198, lo := 8, width := 8, ty := .rw, reset := 1 }
/-- DMC_TEST (07). -/
def regDMC_TEST : Reg := ⟨5, 68, 1, 0, false, .chan, [DMC_TEST.GO, DMC_TEST.DONE, DMC_TEST.RESULT, DMC_TEST.RANK, DMC_TEST.PATTERN]⟩

def DMC_TESTRES.ERRORS : Fld := { id := 199, lo := 0, width := 32, ty := .ro, reset := 0 }
/-- DMC_TESTRES (07). -/
def regDMC_TESTRES : Reg := ⟨5, 72, 1, 0, false, .chan, [DMC_TESTRES.ERRORS]⟩

def DMC_QOCC.WQ : Fld := { id := 200, lo := 16, width := 7, ty := .ro, reset := 0 }
def DMC_QOCC.RQ : Fld := { id := 201, lo := 0, width := 7, ty := .ro, reset := 0 }
/-- DMC_QOCC (07). -/
def regDMC_QOCC : Reg := ⟨5, 76, 1, 0, false, .chan, [DMC_QOCC.WQ, DMC_QOCC.RQ]⟩

def DMC_CAERR.CA : Fld := { id := 202, lo := 16, width := 16, ty := .rw, reset := 0 }
def DMC_CAERR.WCRC : Fld := { id := 203, lo := 0, width := 16, ty := .rw, reset := 0 }
/-- DMC_CAERR (07). -/
def regDMC_CAERR : Reg := ⟨5, 80, 1, 0, false, .chan, [DMC_CAERR.CA, DMC_CAERR.WCRC]⟩

def DMC_RHCNT.RFM : Fld := { id := 204, lo := 16, width := 16, ty := .rw, reset := 0 }
def DMC_RHCNT.TARGETED : Fld := { id := 205, lo := 0, width := 16, ty := .rw, reset := 0 }
/-- DMC_RHCNT (07). -/
def regDMC_RHCNT : Reg := ⟨5, 84, 1, 0, false, .chan, [DMC_RHCNT.RFM, DMC_RHCNT.TARGETED]⟩

def PRS_CTL.P7_EN : Fld := { id := 206, lo := 31, width := 1, ty := .ro, reset := 1 }
def PRS_CTL.PRED_EN : Fld := { id := 207, lo := 24, width := 7, ty := .rw, reset := 127 }
def PRS_CTL.EPIPE_EN : Fld := { id := 208, lo := 8, width := 4, ty := .rw, reset := 15 }
def PRS_CTL.DPIPE_EN : Fld := { id := 209, lo := 0, width := 6, ty := .rw, reset := 63 }
/-- PRS_CTL (08). -/
def regPRS_CTL : Reg := ⟨6, 0, 1, 0, false, .dev, [PRS_CTL.P7_EN, PRS_CTL.PRED_EN, PRS_CTL.EPIPE_EN, PRS_CTL.DPIPE_EN]⟩

def PRS_STATUS.EFENCE : Fld := { id := 210, lo := 24, width := 4, ty := .ro, reset := 0 }
def PRS_STATUS.DFENCE : Fld := { id := 211, lo := 16, width := 6, ty := .ro, reset := 0 }
def PRS_STATUS.EBUSY : Fld := { id := 212, lo := 8, width := 4, ty := .ro, reset := 0 }
def PRS_STATUS.DBUSY : Fld := { id := 213, lo := 0, width := 6, ty := .ro, reset := 0 }
/-- PRS_STATUS (08). -/
def regPRS_STATUS : Reg := ⟨6, 4, 1, 0, false, .dev, [PRS_STATUS.EFENCE, PRS_STATUS.DFENCE, PRS_STATUS.EBUSY, PRS_STATUS.DBUSY]⟩

def PRS_FENCE.TH : Fld := { id := 214, lo := 24, width := 8, ty := .rw, reset := 16 }
def PRS_FENCE.EUNFENCE : Fld := { id := 215, lo := 16, width := 4, ty := .wo, reset := 0 }
def PRS_FENCE.DUNFENCE : Fld := { id := 216, lo := 0, width := 6, ty := .wo, reset := 0 }
/-- PRS_FENCE (08). -/
def regPRS_FENCE : Reg := ⟨6, 8, 1, 0, false, .dev, [PRS_FENCE.TH, PRS_FENCE.EUNFENCE, PRS_FENCE.DUNFENCE]⟩

def PRS_RERUN.RERUNS : Fld := { id := 217, lo := 16, width := 16, ty := .rw, reset := 0 }
def PRS_RERUN.FAILED : Fld := { id := 218, lo := 0, width := 16, ty := .rw, reset := 0 }
/-- PRS_RERUN (08). -/
def regPRS_RERUN : Reg := ⟨6, 12, 1, 0, false, .dev, [PRS_RERUN.RERUNS, PRS_RERUN.FAILED]⟩

def PRS_HCACHE.FLUSH : Fld := { id := 219, lo := 31, width := 1, ty := .w1s, reset := 0 }
def PRS_HCACHE.VALID : Fld := { id := 220, lo := 0, width := 13, ty := .ro, reset := 0 }
/-- PRS_HCACHE (08). -/
def regPRS_HCACHE : Reg := ⟨6, 16, 1, 0, false, .dev, [PRS_HCACHE.FLUSH, PRS_HCACHE.VALID]⟩

def PRS_FMTERR.STREAM : Fld := { id := 221, lo := 16, width := 16, ty := .rw, reset := 0 }
def PRS_FMTERR.STORED : Fld := { id := 222, lo := 0, width := 16, ty := .rw, reset := 0 }
/-- PRS_FMTERR (08). -/
def regPRS_FMTERR : Reg := ⟨6, 20, 1, 0, false, .dev, [PRS_FMTERR.STREAM, PRS_FMTERR.STORED]⟩

def PRS_PAGES.ENCODED : Fld := { id := 223, lo := 0, width := 32, ty := .rw, reset := 0 }
/-- PRS_PAGES (08). -/
def regPRS_PAGES : Reg := ⟨6, 32, 1, 0, false, .dev, [PRS_PAGES.ENCODED]⟩

def PRS_RAWPG.RAW : Fld := { id := 224, lo := 0, width := 32, ty := .rw, reset := 0 }
/-- PRS_RAWPG (08). -/
def regPRS_RAWPG : Reg := ⟨6, 36, 1, 0, false, .dev, [PRS_RAWPG.RAW]⟩

def PRS_LINES.LINES : Fld := { id := 225, lo := 0, width := 32, ty := .rw, reset := 0 }
/-- PRS_LINES (08). -/
def regPRS_LINES : Reg := ⟨6, 40, 1, 0, false, .dev, [PRS_LINES.LINES]⟩

def PRS_FETCHED.FETCHED : Fld := { id := 226, lo := 0, width := 32, ty := .rw, reset := 0 }
/-- PRS_FETCHED (08). -/
def regPRS_FETCHED : Reg := ⟨6, 44, 1, 0, false, .dev, [PRS_FETCHED.FETCHED]⟩

def PRS_PRED.ODD : Fld := { id := 227, lo := 16, width := 16, ty := .rw, reset := 0 }
def PRS_PRED.EVEN : Fld := { id := 228, lo := 0, width := 16, ty := .rw, reset := 0 }
/-- PRS_PRED (08). -/
def regPRS_PRED : Reg := ⟨6, 48, 4, 4, false, .dev, [PRS_PRED.ODD, PRS_PRED.EVEN]⟩

def SLC_CTL.DEMOTE_EN : Fld := { id := 229, lo := 31, width := 1, ty := .rw, reset := 1 }
def SLC_CTL.PROMOTE_EN : Fld := { id := 230, lo := 30, width := 1, ty := .rw, reset := 1 }
def SLC_CTL.COLD_TH : Fld := { id := 231, lo := 0, width := 8, ty := .rw, reset := 8 }
/-- SLC_CTL (09). -/
def regSLC_CTL : Reg := ⟨7, 0, 1, 0, false, .dev, [SLC_CTL.DEMOTE_EN, SLC_CTL.PROMOTE_EN, SLC_CTL.COLD_TH]⟩

def SLC_TIERCFG.OVERCOMMIT : Fld := { id := 232, lo := 21, width := 6, ty := .rwl, reset := 16 }
def SLC_TIERCFG.T2_EN : Fld := { id := 233, lo := 20, width := 1, ty := .rwl, reset := 0 }
def SLC_TIERCFG.T0_SHARE : Fld := { id := 234, lo := 0, width := 11, ty := .rwl, reset := 0 }
/-- SLC_TIERCFG (09). -/
def regSLC_TIERCFG : Reg := ⟨7, 4, 1, 0, false, .dev, [SLC_TIERCFG.OVERCOMMIT, SLC_TIERCFG.T2_EN, SLC_TIERCFG.T0_SHARE]⟩

def SLC_META.MIB : Fld := { id := 235, lo := 0, width := 32, ty := .rwl, reset := 0 }
/-- SLC_META (09). -/
def regSLC_META : Reg := ⟨7, 8, 1, 0, false, .dev, [SLC_META.MIB]⟩

def SLC_EPOCH.US : Fld := { id := 236, lo := 0, width := 24, ty := .rwl, reset := 100000 }
/-- SLC_EPOCH (09). -/
def regSLC_EPOCH : Reg := ⟨7, 12, 1, 0, false, .dev, [SLC_EPOCH.US]⟩

def SLC_PROMO.TH : Fld := { id := 237, lo := 16, width := 8, ty := .rwl, reset := 64 }
def SLC_PROMO.STALL_US : Fld := { id := 238, lo := 0, width := 16, ty := .rwl, reset := 50 }
/-- SLC_PROMO (09). -/
def regSLC_PROMO : Reg := ⟨7, 16, 1, 0, false, .dev, [SLC_PROMO.TH, SLC_PROMO.STALL_US]⟩

def SLC_T0MARK.HIGH : Fld := { id := 239, lo := 16, width := 11, ty := .rwl, reset := 64 }
def SLC_T0MARK.LOW : Fld := { id := 240, lo := 0, width := 11, ty := .rwl, reset := 32 }
/-- SLC_T0MARK (09). -/
def regSLC_T0MARK : Reg := ⟨7, 20, 1, 0, false, .dev, [SLC_T0MARK.HIGH, SLC_T0MARK.LOW]⟩

def SLC_SLABMARK.HIGH : Fld := { id := 241, lo := 16, width := 11, ty := .rwl, reset := 64 }
def SLC_SLABMARK.LOW : Fld := { id := 242, lo := 0, width := 11, ty := .rwl, reset := 32 }
/-- SLC_SLABMARK (09). -/
def regSLC_SLABMARK : Reg := ⟨7, 24, 1, 0, false, .dev, [SLC_SLABMARK.HIGH, SLC_SLABMARK.LOW]⟩

def SLC_DCDMARK.RELEASE : Fld := { id := 243, lo := 0, width := 11, ty := .rwl, reset := 16 }
/-- SLC_DCDMARK (09). -/
def regSLC_DCDMARK : Reg := ⟨7, 28, 1, 0, false, .dev, [SLC_DCDMARK.RELEASE]⟩

def SLC_MIGRATE.MBS : Fld := { id := 244, lo := 0, width := 32, ty := .rwl, reset := 4096 }
/-- SLC_MIGRATE (09). -/
def regSLC_MIGRATE : Reg := ⟨7, 32, 1, 0, false, .dev, [SLC_MIGRATE.MBS]⟩

def SLC_EPOCHNUM.E : Fld := { id := 245, lo := 0, width := 32, ty := .ro, reset := 0 }
/-- SLC_EPOCHNUM (09). -/
def regSLC_EPOCHNUM : Reg := ⟨7, 36, 1, 0, false, .dev, [SLC_EPOCHNUM.E]⟩

def SLC_T0FREE.FREE : Fld := { id := 246, lo := 0, width := 32, ty := .ro, reset := 0 }
/-- SLC_T0FREE (09). -/
def regSLC_T0FREE : Reg := ⟨7, 40, 1, 0, false, .dev, [SLC_T0FREE.FREE]⟩

def SLC_SLABFREE.FREE : Fld := { id := 247, lo := 0, width := 32, ty := .ro, reset := 0 }
/-- SLC_SLABFREE (09). -/
def regSLC_SLABFREE : Reg := ⟨7, 44, 1, 0, false, .dev, [SLC_SLABFREE.FREE]⟩

def SLC_RSVFREE.FREE : Fld := { id := 248, lo := 0, width := 32, ty := .ro, reset := 0 }
/-- SLC_RSVFREE (09). -/
def regSLC_RSVFREE : Reg := ⟨7, 48, 1, 0, false, .dev, [SLC_RSVFREE.FREE]⟩

def SLC_LEDGER.EXPOSED : Fld := { id := 249, lo := 16, width := 16, ty := .ro, reset := 0 }
def SLC_LEDGER.BACKING : Fld := { id := 250, lo := 0, width := 16, ty := .ro, reset := 0 }
/-- SLC_LEDGER (09). -/
def regSLC_LEDGER : Reg := ⟨7, 52, 1, 0, false, .dev, [SLC_LEDGER.EXPOSED, SLC_LEDGER.BACKING]⟩

def SLC_T2.PAGES : Fld := { id := 251, lo := 0, width := 32, ty := .ro, reset := 0 }
/-- SLC_T2 (09). -/
def regSLC_T2 : Reg := ⟨7, 56, 1, 0, false, .dev, [SLC_T2.PAGES]⟩

def SLC_STALL.SPILLS : Fld := { id := 252, lo := 16, width := 16, ty := .rw, reset := 0 }
def SLC_STALL.QUEUED : Fld := { id := 253, lo := 0, width := 9, ty := .ro, reset := 0 }
/-- SLC_STALL (09). -/
def regSLC_STALL : Reg := ⟨7, 60, 1, 0, false, .dev, [SLC_STALL.SPILLS, SLC_STALL.QUEUED]⟩

def SLC_MOVES.NOROOM : Fld := { id := 254, lo := 16, width := 16, ty := .rw, reset := 0 }
def SLC_MOVES.DROPPED : Fld := { id := 255, lo := 0, width := 16, ty := .rw, reset := 0 }
/-- SLC_MOVES (09). -/
def regSLC_MOVES : Reg := ⟨7, 64, 1, 0, false, .dev, [SLC_MOVES.NOROOM, SLC_MOVES.DROPPED]⟩

def SLC_DEMOTED.PAGES : Fld := { id := 256, lo := 0, width := 32, ty := .rw, reset := 0 }
/-- SLC_DEMOTED (09). -/
def regSLC_DEMOTED : Reg := ⟨7, 68, 1, 0, false, .dev, [SLC_DEMOTED.PAGES]⟩

def SLC_PROMOTED.PAGES : Fld := { id := 257, lo := 0, width := 32, ty := .rw, reset := 0 }
/-- SLC_PROMOTED (09). -/
def regSLC_PROMOTED : Reg := ⟨7, 72, 1, 0, false, .dev, [SLC_PROMOTED.PAGES]⟩

def SLC_CAPFLT.REGIONS : Fld := { id := 258, lo := 16, width := 10, ty := .ro, reset := 0 }
def SLC_CAPFLT.LAST : Fld := { id := 259, lo := 0, width := 9, ty := .ro, reset := 0 }
/-- SLC_CAPFLT (09). -/
def regSLC_CAPFLT : Reg := ⟨7, 76, 1, 0, false, .dev, [SLC_CAPFLT.REGIONS, SLC_CAPFLT.LAST]⟩

def SLC_LEAK.UNITS : Fld := { id := 260, lo := 0, width := 32, ty := .ro, reset := 0 }
/-- SLC_LEAK (09). -/
def regSLC_LEAK : Reg := ⟨7, 80, 1, 0, false, .dev, [SLC_LEAK.UNITS]⟩

def SLC_GBSEL.BLOCK : Fld := { id := 261, lo := 0, width := 15, ty := .rw, reset := 0 }
/-- SLC_GBSEL (09). -/
def regSLC_GBSEL : Reg := ⟨7, 84, 1, 0, false, .path, [SLC_GBSEL.BLOCK]⟩

def SLC_GBSUM.SUM : Fld := { id := 262, lo := 0, width := 32, ty := .ro, reset := 0 }
/-- SLC_GBSUM (09). -/
def regSLC_GBSUM : Reg := ⟨7, 88, 1, 0, false, .block, [SLC_GBSUM.SUM]⟩

def SLC_GBSAT.STALE : Fld := { id := 263, lo := 31, width := 1, ty := .ro, reset := 0 }
def SLC_GBSAT.SAT : Fld := { id := 264, lo := 0, width := 16, ty := .ro, reset := 0 }
/-- SLC_GBSAT (09). -/
def regSLC_GBSAT : Reg := ⟨7, 92, 1, 0, false, .block, [SLC_GBSAT.STALE, SLC_GBSAT.SAT]⟩

def INL_KEYSEL.KEY : Fld := { id := 265, lo := 0, width := 7, ty := .rw, reset := 0 }
/-- INL_KEYSEL (10). -/
def regINL_KEYSEL : Reg := ⟨8, 0, 1, 0, false, .path, [INL_KEYSEL.KEY]⟩

def INL_SUMMARY.ACTIVE : Fld := { id := 266, lo := 24, width := 8, ty := .ro, reset := 1 }
def INL_SUMMARY.EXHAUSTED : Fld := { id := 267, lo := 16, width := 8, ty := .ro, reset := 0 }
def INL_SUMMARY.RETIRING : Fld := { id := 268, lo := 8, width := 8, ty := .ro, reset := 0 }
def INL_SUMMARY.RETIRED : Fld := { id := 269, lo := 0, width := 8, ty := .ro, reset := 0 }
/-- INL_SUMMARY (10). -/
def regINL_SUMMARY : Reg := ⟨8, 4, 1, 0, false, .dev, [INL_SUMMARY.ACTIVE, INL_SUMMARY.EXHAUSTED, INL_SUMMARY.RETIRING, INL_SUMMARY.RETIRED]⟩

def INL_SLOT.STATE : Fld := { id := 270, lo := 29, width := 3, ty := .ro, reset := 0 }
def INL_SLOT.MODE : Fld := { id := 271, lo := 27, width := 2, ty := .ro, reset := 0 }
def INL_SLOT.ADVISED : Fld := { id := 272, lo := 26, width := 1, ty := .ro, reset := 0 }
def INL_SLOT.SIGFIX : Fld := { id := 273, lo := 25, width := 1, ty := .ro, reset := 0 }
def INL_SLOT.OWNER : Fld := { id := 274, lo := 20, width := 5, ty := .ro, reset := 0 }
def INL_SLOT.KTAG : Fld := { id := 275, lo := 16, width := 4, ty := .ro, reset := 0 }
def INL_SLOT.RANGES_LEFT : Fld := { id := 276, lo := 0, width := 3, ty := .ro, reset := 0 }
/-- INL_SLOT (10). -/
def regINL_SLOT : Reg := ⟨8, 8, 1, 0, false, .key, [INL_SLOT.STATE, INL_SLOT.MODE, INL_SLOT.ADVISED, INL_SLOT.SIGFIX, INL_SLOT.OWNER, INL_SLOT.KTAG, INL_SLOT.RANGES_LEFT]⟩

def INL_WCNT.COUNT : Fld := { id := 277, lo := 0, width := 52, ty := .ro, reset := 0 }
/-- INL_WCNT (10). -/
def regINL_WCNT : Reg := ⟨8, 16, 1, 0, true, .key, [INL_WCNT.COUNT]⟩

def INL_RETIRE.BUSY : Fld := { id := 278, lo := 31, width := 1, ty := .ro, reset := 0 }
def INL_RETIRE.STEP : Fld := { id := 279, lo := 28, width := 3, ty := .ro, reset := 0 }
def INL_RETIRE.KEY : Fld := { id := 280, lo := 0, width := 7, ty := .ro, reset := 0 }
/-- INL_RETIRE (10). -/
def regINL_RETIRE : Reg := ⟨8, 24, 1, 0, false, .dev, [INL_RETIRE.BUSY, INL_RETIRE.STEP, INL_RETIRE.KEY]⟩

def INL_ADVISE.ADV : Fld := { id := 281, lo := 0, width := 32, ty := .w1c, reset := 0 }
/-- INL_ADVISE (10). -/
def regINL_ADVISE : Reg := ⟨8, 32, 4, 4, false, .dev, [INL_ADVISE.ADV]⟩

def INL_IE.FREED_IE : Fld := { id := 282, lo := 3, width := 1, ty := .rw, reset := 0 }
def INL_IE.RETIRED_IE : Fld := { id := 283, lo := 2, width := 1, ty := .rw, reset := 0 }
def INL_IE.END_IE : Fld := { id := 284, lo := 1, width := 1, ty := .rw, reset := 1 }
def INL_IE.ADVISE_IE : Fld := { id := 285, lo := 0, width := 1, ty := .rw, reset := 1 }
/-- INL_IE (10). -/
def regINL_IE : Reg := ⟨8, 48, 1, 0, false, .dev, [INL_IE.FREED_IE, INL_IE.RETIRED_IE, INL_IE.END_IE, INL_IE.ADVISE_IE]⟩

def INL_EVT.FREED : Fld := { id := 286, lo := 3, width := 1, ty := .w1c, reset := 0 }
def INL_EVT.RETIRED : Fld := { id := 287, lo := 2, width := 1, ty := .w1c, reset := 0 }
def INL_EVT.END : Fld := { id := 288, lo := 1, width := 1, ty := .w1c, reset := 0 }
def INL_EVT.ADVISE : Fld := { id := 289, lo := 0, width := 1, ty := .w1c, reset := 0 }
/-- INL_EVT (10). -/
def regINL_EVT : Reg := ⟨8, 52, 1, 0, false, .dev, [INL_EVT.FREED, INL_EVT.RETIRED, INL_EVT.END, INL_EVT.ADVISE]⟩

def INL_REFUSED.WRITES : Fld := { id := 290, lo := 16, width := 16, ty := .rw, reset := 0 }
def INL_REFUSED.STATE : Fld := { id := 291, lo := 0, width := 16, ty := .rw, reset := 0 }
/-- INL_REFUSED (10). -/
def regINL_REFUSED : Reg := ⟨8, 56, 1, 0, false, .dev, [INL_REFUSED.WRITES, INL_REFUSED.STATE]⟩

def INL_XTS.RERUNS : Fld := { id := 292, lo := 16, width := 16, ty := .rw, reset := 0 }
def INL_XTS.ENC_FENCED : Fld := { id := 293, lo := 8, width := 4, ty := .w1c, reset := 0 }
def INL_XTS.DEC_FENCED : Fld := { id := 294, lo := 0, width := 4, ty := .w1c, reset := 0 }
/-- INL_XTS (10). -/
def regINL_XTS : Reg := ⟨8, 60, 1, 0, false, .dev, [INL_XTS.RERUNS, INL_XTS.ENC_FENCED, INL_XTS.DEC_FENCED]⟩

def WEIR_CLSEL.CH : Fld := { id := 295, lo := 8, width := 5, ty := .rw, reset := 0 }
def WEIR_CLSEL.CLASS : Fld := { id := 296, lo := 0, width := 3, ty := .rw, reset := 0 }
/-- WEIR_CLSEL (11). -/
def regWEIR_CLSEL : Reg := ⟨9, 0, 1, 0, false, .path, [WEIR_CLSEL.CH, WEIR_CLSEL.CLASS]⟩

def WEIR_CTL.URG_EN : Fld := { id := 297, lo := 31, width := 1, ty := .rw, reset := 1 }
def WEIR_CTL.AGE : Fld := { id := 298, lo := 8, width := 8, ty := .rw, reset := 10 }
/-- WEIR_CTL (11). -/
def regWEIR_CTL : Reg := ⟨9, 4, 1, 0, false, .dev, [WEIR_CTL.URG_EN, WEIR_CTL.AGE]⟩

def WEIR_SHARE.MAX : Fld := { id := 299, lo := 16, width := 8, ty := .rwl, reset := 0, per := some (8, [96, 64, 32, 32, 48, 64, 8, 8]) }
def WEIR_SHARE.MIN : Fld := { id := 300, lo := 0, width := 8, ty := .rwl, reset := 0, per := some (8, [24, 16, 8, 8, 8, 8, 2, 2]) }
/-- WEIR_SHARE (11). -/
def regWEIR_SHARE : Reg := ⟨9, 8, 1, 0, false, .chcls, [WEIR_SHARE.MAX, WEIR_SHARE.MIN]⟩

def WEIR_WINDOW.US : Fld := { id := 301, lo := 0, width := 10, ty := .rwl, reset := 10 }
/-- WEIR_WINDOW (11). -/
def regWEIR_WINDOW : Reg := ⟨9, 12, 1, 0, false, .chcls, [WEIR_WINDOW.US]⟩

def WEIR_EFF.REDUCED : Fld := { id := 302, lo := 31, width := 1, ty := .ro, reset := 0 }
def WEIR_EFF.EFFMAX : Fld := { id := 303, lo := 16, width := 8, ty := .ro, reset := 0, per := some (8, [96, 64, 32, 32, 48, 64, 8, 8]) }
def WEIR_EFF.EFFMIN : Fld := { id := 304, lo := 0, width := 8, ty := .ro, reset := 0, per := some (8, [24, 16, 8, 8, 8, 8, 2, 2]) }
/-- WEIR_EFF (11). -/
def regWEIR_EFF : Reg := ⟨9, 16, 1, 0, false, .chcls, [WEIR_EFF.REDUCED, WEIR_EFF.EFFMAX, WEIR_EFF.EFFMIN]⟩

def WEIR_OUT.PEAK : Fld := { id := 305, lo := 16, width := 8, ty := .rw, reset := 0 }
def WEIR_OUT.NOW : Fld := { id := 306, lo := 0, width := 8, ty := .ro, reset := 0 }
/-- WEIR_OUT (11). -/
def regWEIR_OUT : Reg := ⟨9, 20, 1, 0, false, .chcls, [WEIR_OUT.PEAK, WEIR_OUT.NOW]⟩

def WEIR_BYTES.LAST : Fld := { id := 307, lo := 0, width := 32, ty := .ro, reset := 0 }
/-- WEIR_BYTES (11). -/
def regWEIR_BYTES : Reg := ⟨9, 24, 1, 0, false, .chcls, [WEIR_BYTES.LAST]⟩

def WEIR_WAIT.AGED : Fld := { id := 308, lo := 16, width := 16, ty := .rw, reset := 0 }
def WEIR_WAIT.MAXWAIT : Fld := { id := 309, lo := 0, width := 16, ty := .rw, reset := 0 }
/-- WEIR_WAIT (11). -/
def regWEIR_WAIT : Reg := ⟨9, 32, 1, 0, false, .chcls, [WEIR_WAIT.AGED, WEIR_WAIT.MAXWAIT]⟩

def WEIR_CAP.SHORT : Fld := { id := 310, lo := 31, width := 1, ty := .ro, reset := 0 }
def WEIR_CAP.REF2X : Fld := { id := 311, lo := 30, width := 1, ty := .ro, reset := 0 }
def WEIR_CAP.SPARE : Fld := { id := 312, lo := 28, width := 2, ty := .ro, reset := 0 }
def WEIR_CAP.SUMMIN : Fld := { id := 313, lo := 16, width := 11, ty := .ro, reset := 0 }
def WEIR_CAP.D : Fld := { id := 314, lo := 8, width := 8, ty := .ro, reset := 0 }
def WEIR_CAP.EFFSUM : Fld := { id := 315, lo := 0, width := 8, ty := .ro, reset := 0 }
/-- WEIR_CAP (11). -/
def regWEIR_CAP : Reg := ⟨9, 36, 1, 0, false, .wchan, [WEIR_CAP.SHORT, WEIR_CAP.REF2X, WEIR_CAP.SPARE, WEIR_CAP.SUMMIN, WEIR_CAP.D, WEIR_CAP.EFFSUM]⟩

def WEIR_SPAN.SUMC5 : Fld := { id := 316, lo := 16, width := 11, ty := .ro, reset := 0 }
def WEIR_SPAN.SPANCAP : Fld := { id := 317, lo := 0, width := 11, ty := .ro, reset := 0 }
/-- WEIR_SPAN (11). -/
def regWEIR_SPAN : Reg := ⟨9, 40, 1, 0, false, .dev, [WEIR_SPAN.SUMC5, WEIR_SPAN.SPANCAP]⟩

def WEIR_BRIM.HYST : Fld := { id := 318, lo := 24, width := 8, ty := .rw, reset := 10 }
def WEIR_BRIM.L3 : Fld := { id := 319, lo := 16, width := 8, ty := .rw, reset := 90 }
def WEIR_BRIM.L2 : Fld := { id := 320, lo := 8, width := 8, ty := .rw, reset := 75 }
def WEIR_BRIM.L1 : Fld := { id := 321, lo := 0, width := 8, ty := .rw, reset := 50 }
/-- WEIR_BRIM (11). -/
def regWEIR_BRIM : Reg := ⟨9, 44, 1, 0, false, .dev, [WEIR_BRIM.HYST, WEIR_BRIM.L3, WEIR_BRIM.L2, WEIR_BRIM.L1]⟩

def WEIR_URGH.LEVEL : Fld := { id := 322, lo := 0, width := 32, ty := .ro, reset := 0 }
/-- WEIR_URGH (11). -/
def regWEIR_URGH : Reg := ⟨9, 48, 1, 0, false, .dev, [WEIR_URGH.LEVEL]⟩

def WEIR_URGS.LEVEL : Fld := { id := 323, lo := 0, width := 8, ty := .ro, reset := 0 }
/-- WEIR_URGS (11). -/
def regWEIR_URGS : Reg := ⟨9, 52, 1, 0, false, .dev, [WEIR_URGS.LEVEL]⟩

def WEIR_SHORT.EVENTS : Fld := { id := 324, lo := 16, width := 16, ty := .rw, reset := 0 }
def WEIR_SHORT.SPAN : Fld := { id := 325, lo := 12, width := 1, ty := .ro, reset := 0 }
def WEIR_SHORT.CH : Fld := { id := 326, lo := 0, width := 12, ty := .ro, reset := 0 }
/-- WEIR_SHORT (11). -/
def regWEIR_SHORT : Reg := ⟨9, 56, 1, 0, false, .dev, [WEIR_SHORT.EVENTS, WEIR_SHORT.SPAN, WEIR_SHORT.CH]⟩

def DRW_SEL.DRAWER : Fld := { id := 327, lo := 0, width := 8, ty := .rw, reset := 0 }
/-- DRW_SEL (12). -/
def regDRW_SEL : Reg := ⟨10, 0, 1, 0, false, .path, [DRW_SEL.DRAWER]⟩

def DRW_GCTL.DRAIN_MAX : Fld := { id := 328, lo := 16, width := 16, ty := .rw, reset := 1000 }
def DRW_GCTL.OPS : Fld := { id := 329, lo := 0, width := 13, ty := .ro, reset := 0 }
/-- DRW_GCTL (12). -/
def regDRW_GCTL : Reg := ⟨10, 4, 1, 0, false, .dev, [DRW_GCTL.DRAIN_MAX, DRW_GCTL.OPS]⟩

def DRW_BIND.EN : Fld := { id := 330, lo := 31, width := 1, ty := .rw, reset := 0, per := some (256, [1]) }
def DRW_BIND.PRIV : Fld := { id := 331, lo := 30, width := 1, ty := .rwl, reset := 0, per := some (256, [1]) }
def DRW_BIND.ERR : Fld := { id := 332, lo := 29, width := 1, ty := .w1c, reset := 0 }
def DRW_BIND.HEAD : Fld := { id := 333, lo := 24, width := 4, ty := .rw, reset := 0 }
def DRW_BIND.PASID : Fld := { id := 334, lo := 0, width := 20, ty := .rw, reset := 0 }
/-- DRW_BIND (12). -/
def regDRW_BIND : Reg := ⟨10, 8, 1, 0, false, .drawer, [DRW_BIND.EN, DRW_BIND.PRIV, DRW_BIND.ERR, DRW_BIND.HEAD, DRW_BIND.PASID]⟩

def DRW_LIMIT.RINGS : Fld := { id := 335, lo := 29, width := 2, ty := .rw, reset := 3 }
def DRW_LIMIT.OPS : Fld := { id := 336, lo := 16, width := 13, ty := .rw, reset := 16 }
def DRW_LIMIT.SHARE : Fld := { id := 337, lo := 0, width := 11, ty := .rw, reset := 1024 }
/-- DRW_LIMIT (12). -/
def regDRW_LIMIT : Reg := ⟨10, 12, 1, 0, false, .drawer, [DRW_LIMIT.RINGS, DRW_LIMIT.OPS, DRW_LIMIT.SHARE]⟩

def DRW_QUOTA.GIB : Fld := { id := 338, lo := 0, width := 32, ty := .rw, reset := 0 }
/-- DRW_QUOTA (12). -/
def regDRW_QUOTA : Reg := ⟨10, 16, 1, 0, false, .drawer, [DRW_QUOTA.GIB]⟩

def DRW_KEYSET.PERMIT : Fld := { id := 339, lo := 0, width := 32, ty := .rw, reset := 0, per := some (4, [1]) }
/-- DRW_KEYSET (12). -/
def regDRW_KEYSET : Reg := ⟨10, 20, 4, 4, false, .drawer, [DRW_KEYSET.PERMIT]⟩

def DRW_RESET.GO : Fld := { id := 340, lo := 31, width := 1, ty := .w1s, reset := 0 }
def DRW_RESET.DONE : Fld := { id := 341, lo := 30, width := 1, ty := .w1c, reset := 0 }
def DRW_RESET.RESULT : Fld := { id := 342, lo := 28, width := 2, ty := .ro, reset := 0 }
def DRW_RESET.PAUSE : Fld := { id := 343, lo := 0, width := 4, ty := .wo, reset := 0 }
/-- DRW_RESET (12). -/
def regDRW_RESET : Reg := ⟨10, 36, 1, 0, false, .drawer, [DRW_RESET.GO, DRW_RESET.DONE, DRW_RESET.RESULT, DRW_RESET.PAUSE]⟩

def DRW_STAT.SQUASHED : Fld := { id := 344, lo := 16, width := 16, ty := .rw, reset := 0 }
def DRW_STAT.STALE : Fld := { id := 345, lo := 0, width := 16, ty := .rw, reset := 0 }
/-- DRW_STAT (12). -/
def regDRW_STAT : Reg := ⟨10, 40, 1, 0, false, .drawer, [DRW_STAT.SQUASHED, DRW_STAT.STALE]⟩

def DRW_STATE.STATE : Fld := { id := 346, lo := 30, width := 2, ty := .ro, reset := 0 }
def DRW_STATE.INFLIGHT : Fld := { id := 347, lo := 16, width := 13, ty := .ro, reset := 0 }
def DRW_STATE.GEN : Fld := { id := 348, lo := 0, width := 16, ty := .ro, reset := 0 }
/-- DRW_STATE (12). -/
def regDRW_STATE : Reg := ⟨10, 44, 1, 0, false, .drawer, [DRW_STATE.STATE, DRW_STATE.INFLIGHT, DRW_STATE.GEN]⟩

def DRW_CTL.UPERF : Fld := { id := 349, lo := 0, width := 1, ty := .rw, reset := 0 }
/-- DRW_CTL (12). -/
def regDRW_CTL : Reg := ⟨22, 0, 1, 0, false, .drawer, [DRW_CTL.UPERF]⟩

def DRW_VEC.COUNT : Fld := { id := 350, lo := 16, width := 11, ty := .rw, reset := 0 }
def DRW_VEC.BASE : Fld := { id := 351, lo := 0, width := 11, ty := .rw, reset := 0 }
/-- DRW_VEC (12). -/
def regDRW_VEC : Reg := ⟨22, 4, 1, 0, false, .drawer, [DRW_VEC.COUNT, DRW_VEC.BASE]⟩

def DRW_SQBASE.ADDR : Fld := { id := 352, lo := 12, width := 52, ty := .rw, reset := 0 }
/-- DRW_SQBASE (12). -/
def regDRW_SQBASE : Reg := ⟨23, 0, 1, 0, true, .ring, [DRW_SQBASE.ADDR]⟩

def DRW_CQBASE.ADDR : Fld := { id := 353, lo := 12, width := 52, ty := .rw, reset := 0 }
/-- DRW_CQBASE (12). -/
def regDRW_CQBASE : Reg := ⟨23, 8, 1, 0, true, .ring, [DRW_CQBASE.ADDR]⟩

def DRW_STAGE.ADDR : Fld := { id := 354, lo := 12, width := 52, ty := .rw, reset := 0 }
/-- DRW_STAGE (12). -/
def regDRW_STAGE : Reg := ⟨23, 16, 1, 0, true, .ring, [DRW_STAGE.ADDR]⟩

def DRW_RCFG.EN : Fld := { id := 355, lo := 31, width := 1, ty := .rw, reset := 0 }
def DRW_RCFG.STOP : Fld := { id := 356, lo := 30, width := 1, ty := .rw, reset := 1 }
def DRW_RCFG.EIE : Fld := { id := 357, lo := 29, width := 1, ty := .rw, reset := 0 }
def DRW_RCFG.EIRQ : Fld := { id := 358, lo := 8, width := 6, ty := .rw, reset := 0 }
def DRW_RCFG.LOG2 : Fld := { id := 359, lo := 0, width := 5, ty := .rw, reset := 6 }
/-- DRW_RCFG (12). -/
def regDRW_RCFG : Reg := ⟨23, 24, 1, 0, false, .ring, [DRW_RCFG.EN, DRW_RCFG.STOP, DRW_RCFG.EIE, DRW_RCFG.EIRQ, DRW_RCFG.LOG2]⟩

def DRW_RSTATE.RESUME : Fld := { id := 360, lo := 31, width := 1, ty := .w1s, reset := 0 }
def DRW_RSTATE.STATE : Fld := { id := 361, lo := 28, width := 3, ty := .ro, reset := 0 }
def DRW_RSTATE.CAUSE : Fld := { id := 362, lo := 24, width := 4, ty := .ro, reset := 0 }
/-- DRW_RSTATE (12). -/
def regDRW_RSTATE : Reg := ⟨23, 28, 1, 0, false, .ring, [DRW_RSTATE.RESUME, DRW_RSTATE.STATE, DRW_RSTATE.CAUSE]⟩

def SPN_PORTSEL.PORT : Fld := { id := 363, lo := 0, width := 2, ty := .rw, reset := 0 }
/-- SPN_PORTSEL (13). -/
def regSPN_PORTSEL : Reg := ⟨11, 0, 1, 0, false, .path, [SPN_PORTSEL.PORT]⟩

def SPN_CFG.ROLE : Fld := { id := 364, lo := 30, width := 2, ty := .rwl, reset := 0 }
def SPN_CFG.PORT_EN : Fld := { id := 365, lo := 26, width := 4, ty := .rwl, reset := 0 }
def SPN_CFG.NODE_ID : Fld := { id := 366, lo := 20, width := 6, ty := .rwl, reset := 0 }
def SPN_CFG.MAX_HOPS : Fld := { id := 367, lo := 17, width := 3, ty := .rwl, reset := 6 }
/-- SPN_CFG (13). -/
def regSPN_CFG : Reg := ⟨11, 4, 1, 0, false, .dev, [SPN_CFG.ROLE, SPN_CFG.PORT_EN, SPN_CFG.NODE_ID, SPN_CFG.MAX_HOPS]⟩

def SPN_FABRIC.ID : Fld := { id := 368, lo := 0, width := 32, ty := .rwl, reset := 0 }
/-- SPN_FABRIC (13). -/
def regSPN_FABRIC : Reg := ⟨11, 8, 1, 0, false, .dev, [SPN_FABRIC.ID]⟩

def SPN_DONATE.GIB : Fld := { id := 369, lo := 0, width := 32, ty := .rwl, reset := 0 }
/-- SPN_DONATE (13). -/
def regSPN_DONATE : Reg := ⟨11, 12, 1, 0, false, .dev, [SPN_DONATE.GIB]⟩

def SPN_NODE.STATE : Fld := { id := 370, lo := 29, width := 3, ty := .ro, reset := 0 }
def SPN_NODE.YIELDS : Fld := { id := 371, lo := 25, width := 4, ty := .ro, reset := 0 }
def SPN_NODE.ID : Fld := { id := 372, lo := 0, width := 6, ty := .ro, reset := 0 }
/-- SPN_NODE (13). -/
def regSPN_NODE : Reg := ⟨11, 16, 1, 0, false, .dev, [SPN_NODE.STATE, SPN_NODE.YIELDS, SPN_NODE.ID]⟩

def SPN_INCARN.INCARN : Fld := { id := 373, lo := 0, width := 32, ty := .ro, reset := 0 }
/-- SPN_INCARN (13). -/
def regSPN_INCARN : Reg := ⟨11, 20, 1, 0, false, .dev, [SPN_INCARN.INCARN]⟩

def SPN_CTL.LOSS_MS : Fld := { id := 374, lo := 16, width := 16, ty := .rw, reset := 50 }
def SPN_CTL.E2E_US : Fld := { id := 375, lo := 0, width := 16, ty := .rw, reset := 10000 }
/-- SPN_CTL (13). -/
def regSPN_CTL : Reg := ⟨11, 24, 1, 0, false, .dev, [SPN_CTL.LOSS_MS, SPN_CTL.E2E_US]⟩

def SPN_REACH.NODES : Fld := { id := 376, lo := 0, width := 32, ty := .ro, reset := 0 }
/-- SPN_REACH (13). -/
def regSPN_REACH : Reg := ⟨11, 32, 2, 4, false, .dev, [SPN_REACH.NODES]⟩

def SPN_ASLEEP.NODES : Fld := { id := 377, lo := 0, width := 32, ty := .ro, reset := 0 }
/-- SPN_ASLEEP (13). -/
def regSPN_ASLEEP : Reg := ⟨11, 40, 2, 4, false, .dev, [SPN_ASLEEP.NODES]⟩

def SPN_FWD.DROPS : Fld := { id := 378, lo := 22, width := 10, ty := .rw, reset := 0 }
def SPN_FWD.LATE : Fld := { id := 379, lo := 11, width := 11, ty := .rw, reset := 0 }
def SPN_FWD.USED : Fld := { id := 380, lo := 0, width := 11, ty := .ro, reset := 0 }
/-- SPN_FWD (13). -/
def regSPN_FWD : Reg := ⟨11, 48, 1, 0, false, .dev, [SPN_FWD.DROPS, SPN_FWD.LATE, SPN_FWD.USED]⟩

def SPN_GRANT.IN : Fld := { id := 381, lo := 16, width := 16, ty := .ro, reset := 0 }
def SPN_GRANT.OUT : Fld := { id := 382, lo := 0, width := 16, ty := .ro, reset := 0 }
/-- SPN_GRANT (13). -/
def regSPN_GRANT : Reg := ⟨11, 52, 1, 0, false, .dev, [SPN_GRANT.IN, SPN_GRANT.OUT]⟩

def SPN_PSTATE.LINK : Fld := { id := 383, lo := 29, width := 3, ty := .ro, reset := 0 }
def SPN_PSTATE.QCAUSE : Fld := { id := 384, lo := 25, width := 4, ty := .ro, reset := 0 }
def SPN_PSTATE.WIDTH : Fld := { id := 385, lo := 21, width := 4, ty := .ro, reset := 0 }
def SPN_PSTATE.RATE64 : Fld := { id := 386, lo := 20, width := 1, ty := .ro, reset := 0 }
def SPN_PSTATE.PEER : Fld := { id := 387, lo := 14, width := 6, ty := .ro, reset := 0 }
/-- SPN_PSTATE (13). -/
def regSPN_PSTATE : Reg := ⟨11, 256, 1, 0, false, .sport, [SPN_PSTATE.LINK, SPN_PSTATE.QCAUSE, SPN_PSTATE.WIDTH, SPN_PSTATE.RATE64, SPN_PSTATE.PEER]⟩

def SPN_PCTL.RETRY : Fld := { id := 388, lo := 31, width := 1, ty := .w1s, reset := 0 }
def SPN_PCTL.WIDEN : Fld := { id := 389, lo := 30, width := 1, ty := .w1s, reset := 0 }
def SPN_PCTL.HOLD : Fld := { id := 390, lo := 29, width := 1, ty := .rw, reset := 0 }
/-- SPN_PCTL (13). -/
def regSPN_PCTL : Reg := ⟨11, 260, 1, 0, false, .sport, [SPN_PCTL.RETRY, SPN_PCTL.WIDEN, SPN_PCTL.HOLD]⟩

def SPN_PERR.FEC_CORR : Fld := { id := 391, lo := 16, width := 16, ty := .rw, reset := 0 }
def SPN_PERR.REPLAY : Fld := { id := 392, lo := 0, width := 16, ty := .rw, reset := 0 }
/-- SPN_PERR (13). -/
def regSPN_PERR : Reg := ⟨11, 264, 1, 0, false, .sport, [SPN_PERR.FEC_CORR, SPN_PERR.REPLAY]⟩

def SPN_PLANES.NARROWS : Fld := { id := 393, lo := 8, width := 8, ty := .ro, reset := 0 }
def SPN_PLANES.FAILED : Fld := { id := 394, lo := 0, width := 8, ty := .ro, reset := 0 }
/-- SPN_PLANES (13). -/
def regSPN_PLANES : Reg := ⟨11, 268, 1, 0, false, .sport, [SPN_PLANES.NARROWS, SPN_PLANES.FAILED]⟩

def SPN_PEERSN.SERIAL : Fld := { id := 395, lo := 0, width := 64, ty := .ro, reset := 0 }
/-- SPN_PEERSN (13). -/
def regSPN_PEERSN : Reg := ⟨11, 272, 1, 0, true, .sport, [SPN_PEERSN.SERIAL]⟩

def PWR_STATE.CUR : Fld := { id := 396, lo := 29, width := 3, ty := .ro, reset := 0 }
def PWR_STATE.TARGET : Fld := { id := 397, lo := 26, width := 3, ty := .ro, reset := 0 }
def PWR_STATE.PHASE : Fld := { id := 398, lo := 23, width := 3, ty := .ro, reset := 0 }
def PWR_STATE.SRC : Fld := { id := 399, lo := 16, width := 4, ty := .ro, reset := 0 }
/-- PWR_STATE (14). -/
def regPWR_STATE : Reg := ⟨12, 0, 1, 0, false, .dev, [PWR_STATE.CUR, PWR_STATE.TARGET, PWR_STATE.PHASE, PWR_STATE.SRC]⟩

def PWR_CMD.VOTE : Fld := { id := 400, lo := 0, width := 3, ty := .rw, reset := 0 }
/-- PWR_CMD (14). -/
def regPWR_CMD : Reg := ⟨12, 4, 1, 0, false, .self, [PWR_CMD.VOTE]⟩

def PWR_SBVOTE.VOTE : Fld := { id := 401, lo := 0, width := 3, ty := .rw, reset := 7 }
/-- PWR_SBVOTE (14). -/
def regPWR_SBVOTE : Reg := ⟨12, 8, 1, 0, false, .dev, [PWR_SBVOTE.VOTE]⟩

def PWR_VOTES.VOTE : Fld := { id := 402, lo := 0, width := 32, ty := .ro, reset := 0 }
/-- PWR_VOTES (14). -/
def regPWR_VOTES : Reg := ⟨12, 12, 2, 4, false, .dev, [PWR_VOTES.VOTE]⟩

def PWR_VOTES2.DEBUG : Fld := { id := 403, lo := 4, width := 4, ty := .ro, reset := 15 }
def PWR_VOTES2.SB : Fld := { id := 404, lo := 0, width := 4, ty := .ro, reset := 15 }
/-- PWR_VOTES2 (14). -/
def regPWR_VOTES2 : Reg := ⟨12, 20, 1, 0, false, .dev, [PWR_VOTES2.DEBUG, PWR_VOTES2.SB]⟩

def PWR_CTL.ENTRY_MAX_US : Fld := { id := 405, lo := 16, width := 16, ty := .rw, reset := 100 }
def PWR_CTL.REENTRY_US : Fld := { id := 406, lo := 0, width := 16, ty := .rw, reset := 50 }
/-- PWR_CTL (14). -/
def regPWR_CTL : Reg := ⟨12, 24, 1, 0, false, .dev, [PWR_CTL.ENTRY_MAX_US, PWR_CTL.REENTRY_US]⟩

def PWR_WAKESRC.HEADLINK : Fld := { id := 407, lo := 16, width := 16, ty := .w1c, reset := 0 }
def PWR_WAKESRC.DEBUG : Fld := { id := 408, lo := 5, width := 1, ty := .w1c, reset := 0 }
def PWR_WAKESRC.VOTE : Fld := { id := 409, lo := 4, width := 1, ty := .w1c, reset := 0 }
def PWR_WAKESRC.SB : Fld := { id := 410, lo := 3, width := 1, ty := .w1c, reset := 0 }
def PWR_WAKESRC.SPAN : Fld := { id := 411, lo := 2, width := 1, ty := .w1c, reset := 0 }
def PWR_WAKESRC.PERST : Fld := { id := 412, lo := 1, width := 1, ty := .w1c, reset := 0 }
def PWR_WAKESRC.LINK : Fld := { id := 413, lo := 0, width := 1, ty := .w1c, reset := 0 }
/-- PWR_WAKESRC (14). -/
def regPWR_WAKESRC : Reg := ⟨12, 28, 1, 0, false, .dev, [PWR_WAKESRC.HEADLINK, PWR_WAKESRC.DEBUG, PWR_WAKESRC.VOTE, PWR_WAKESRC.SB, PWR_WAKESRC.SPAN, PWR_WAKESRC.PERST, PWR_WAKESRC.LINK]⟩

def PWR_COUNT.ENTRIES : Fld := { id := 414, lo := 16, width := 16, ty := .rw, reset := 0 }
def PWR_COUNT.ABORTS : Fld := { id := 415, lo := 0, width := 16, ty := .rw, reset := 0 }
/-- PWR_COUNT (14). -/
def regPWR_COUNT : Reg := ⟨12, 32, 1, 0, false, .dev, [PWR_COUNT.ENTRIES, PWR_COUNT.ABORTS]⟩

def PWR_LASTWAKE.FROM : Fld := { id := 416, lo := 29, width := 3, ty := .ro, reset := 0 }
def PWR_LASTWAKE.NS : Fld := { id := 417, lo := 0, width := 29, ty := .ro, reset := 0 }
/-- PWR_LASTWAKE (14). -/
def regPWR_LASTWAKE : Reg := ⟨12, 36, 1, 0, false, .dev, [PWR_LASTWAKE.FROM, PWR_LASTWAKE.NS]⟩

def PWR_WSEL.STATE : Fld := { id := 418, lo := 8, width := 3, ty := .rw, reset := 0 }
def PWR_WSEL.STEP : Fld := { id := 419, lo := 0, width := 4, ty := .rw, reset := 1 }
/-- PWR_WSEL (14). -/
def regPWR_WSEL : Reg := ⟨12, 40, 1, 0, false, .path, [PWR_WSEL.STATE, PWR_WSEL.STEP]⟩

def PWR_WSTEP.VALID : Fld := { id := 420, lo := 31, width := 1, ty := .rwl, reset := 0 }
def PWR_WSTEP.ACTION : Fld := { id := 421, lo := 27, width := 4, ty := .rwl, reset := 0 }
def PWR_WSTEP.DELAY_NS : Fld := { id := 422, lo := 0, width := 27, ty := .rwl, reset := 0 }
/-- PWR_WSTEP (14). -/
def regPWR_WSTEP : Reg := ⟨12, 44, 1, 0, false, .wstep, [PWR_WSTEP.VALID, PWR_WSTEP.ACTION, PWR_WSTEP.DELAY_NS]⟩

def PWR_WMIN.NS : Fld := { id := 423, lo := 0, width := 27, ty := .rwl, reset := 0 }
/-- PWR_WMIN (14). -/
def regPWR_WMIN : Reg := ⟨12, 48, 1, 0, false, .wstep, [PWR_WMIN.NS]⟩

def PWR_WMAX.NS : Fld := { id := 424, lo := 0, width := 27, ty := .rwl, reset := 0 }
/-- PWR_WMAX (14). -/
def regPWR_WMAX : Reg := ⟨12, 52, 1, 0, false, .wstep, [PWR_WMAX.NS]⟩

def PWR_BIAS.ASSIST : Fld := { id := 425, lo := 24, width := 2, ty := .rwl, reset := 0 }
def PWR_BIAS.NBIAS_MV : Fld := { id := 426, lo := 12, width := 12, ty := .rwl, reset := 0 }
def PWR_BIAS.PBIAS_MV : Fld := { id := 427, lo := 0, width := 12, ty := .rwl, reset := 0 }
/-- PWR_BIAS (14). -/
def regPWR_BIAS : Reg := ⟨12, 56, 1, 0, false, .pstate, [PWR_BIAS.ASSIST, PWR_BIAS.NBIAS_MV, PWR_BIAS.PBIAS_MV]⟩

def PWR_RETN.CANARY_FAIL : Fld := { id := 428, lo := 16, width := 16, ty := .rw, reset := 0 }
def PWR_RETN.SIG_FAIL : Fld := { id := 429, lo := 8, width := 8, ty := .rw, reset := 0 }
def PWR_RETN.SUSPECT : Fld := { id := 430, lo := 0, width := 8, ty := .ro, reset := 0 }
/-- PWR_RETN (14). -/
def regPWR_RETN : Reg := ⟨12, 60, 1, 0, false, .dev, [PWR_RETN.CANARY_FAIL, PWR_RETN.SIG_FAIL, PWR_RETN.SUSPECT]⟩

def IFC_STATUS.STATE : Fld := { id := 431, lo := 29, width := 3, ty := .ro, reset := 0 }
def IFC_STATUS.PHASE : Fld := { id := 432, lo := 28, width := 1, ty := .ro, reset := 0 }
def IFC_STATUS.PG : Fld := { id := 433, lo := 27, width := 1, ty := .ro, reset := 0 }
def IFC_STATUS.COOLING : Fld := { id := 434, lo := 26, width := 1, ty := .ro, reset := 0 }
def IFC_STATUS.MODEL : Fld := { id := 435, lo := 25, width := 1, ty := .ro, reset := 1 }
def IFC_STATUS.CAUSE : Fld := { id := 436, lo := 21, width := 4, ty := .ro, reset := 0 }
/-- IFC_STATUS (15). -/
def regIFC_STATUS : Reg := ⟨13, 0, 1, 0, false, .dev, [IFC_STATUS.STATE, IFC_STATUS.PHASE, IFC_STATUS.PG, IFC_STATUS.COOLING, IFC_STATUS.MODEL, IFC_STATUS.CAUSE]⟩

def IFC_CTL.REARM : Fld := { id := 437, lo := 31, width := 1, ty := .w1s, reset := 0 }
def IFC_CTL.HOLD : Fld := { id := 438, lo := 30, width := 1, ty := .rw, reset := 0 }
/-- IFC_CTL (15). -/
def regIFC_CTL : Reg := ⟨13, 4, 1, 0, false, .dev, [IFC_CTL.REARM, IFC_CTL.HOLD]⟩

def IFC_MEAS.I : Fld := { id := 439, lo := 16, width := 16, ty := .ro, reset := 0 }
def IFC_MEAS.VOUT : Fld := { id := 440, lo := 0, width := 16, ty := .ro, reset := 0 }
/-- IFC_MEAS (15). -/
def regIFC_MEAS : Reg := ⟨13, 8, 1, 0, false, .dev, [IFC_MEAS.I, IFC_MEAS.VOUT]⟩

def IFC_TEMP.TFET_MAX : Fld := { id := 441, lo := 16, width := 16, ty := .rwl, reset := 300 }
def IFC_TEMP.TFET : Fld := { id := 442, lo := 0, width := 16, ty := .ro, reset := 0 }
/-- IFC_TEMP (15). -/
def regIFC_TEMP : Reg := ⟨13, 12, 1, 0, false, .dev, [IFC_TEMP.TFET_MAX, IFC_TEMP.TFET]⟩

def IFC_PGCFG.PG_MV : Fld := { id := 443, lo := 16, width := 16, ty := .rw, reset := 10800 }
def IFC_PGCFG.PG_QUAL_US : Fld := { id := 444, lo := 0, width := 16, ty := .rw, reset := 1000 }
/-- IFC_PGCFG (15). -/
def regIFC_PGCFG : Reg := ⟨13, 16, 1, 0, false, .dev, [IFC_PGCFG.PG_MV, IFC_PGCFG.PG_QUAL_US]⟩

def IFC_IFAST.MA : Fld := { id := 445, lo := 0, width := 32, ty := .rwl, reset := 110000 }
/-- IFC_IFAST (15). -/
def regIFC_IFAST : Reg := ⟨13, 20, 1, 0, false, .dev, [IFC_IFAST.MA]⟩

def IFC_RAMP.MV_US : Fld := { id := 446, lo := 16, width := 16, ty := .rwl, reset := 2 }
def IFC_RAMP.TIMER_MS : Fld := { id := 447, lo := 0, width := 16, ty := .rwl, reset := 20 }
/-- IFC_RAMP (15). -/
def regIFC_RAMP : Reg := ⟨13, 24, 1, 0, false, .dev, [IFC_RAMP.MV_US, IFC_RAMP.TIMER_MS]⟩

def IFC_RAMPLIM.MA : Fld := { id := 448, lo := 0, width := 32, ty := .rwl, reset := 8000 }
/-- IFC_RAMPLIM (15). -/
def regIFC_RAMPLIM : Reg := ⟨13, 28, 1, 0, false, .dev, [IFC_RAMPLIM.MA]⟩

def IFC_TRIPS.TRIPS : Fld := { id := 449, lo := 16, width := 16, ty := .rw, reset := 0 }
def IFC_TRIPS.TIMERS : Fld := { id := 450, lo := 0, width := 16, ty := .rw, reset := 0 }
/-- IFC_TRIPS (15). -/
def regIFC_TRIPS : Reg := ⟨13, 32, 1, 0, false, .dev, [IFC_TRIPS.TRIPS, IFC_TRIPS.TIMERS]⟩

def IFC_BP.TIME_US : Fld := { id := 451, lo := 32, width := 32, ty := .rwl, reset := 0, per := some (8, [20, 100, 500, 2000, 10000, 50000, 200000, 1000000]) }
def IFC_BP.CURRENT_MA : Fld := { id := 452, lo := 0, width := 32, ty := .rwl, reset := 0, per := some (8, [90000, 70000, 55000, 45000, 38000, 33000, 29000, 26000]) }
/-- IFC_BP (15). -/
def regIFC_BP : Reg := ⟨13, 64, 8, 8, true, .dev, [IFC_BP.TIME_US, IFC_BP.CURRENT_MA]⟩

def IFC_MODEL.C_UJ_K : Fld := { id := 453, lo := 32, width := 32, ty := .rwl, reset := 0, per := some (3, [2000, 50000, 2000000]) }
def IFC_MODEL.R_MK_W : Fld := { id := 454, lo := 0, width := 32, ty := .rwl, reset := 0, per := some (3, [300, 1200, 8000]) }
/-- IFC_MODEL (15). -/
def regIFC_MODEL : Reg := ⟨13, 128, 3, 8, true, .dev, [IFC_MODEL.C_UJ_K, IFC_MODEL.R_MK_W]⟩

def FLT_STATUS.ACTIVE : Fld := { id := 455, lo := 31, width := 1, ty := .ro, reset := 0 }
def FLT_STATUS.HELD : Fld := { id := 456, lo := 30, width := 1, ty := .ro, reset := 0 }
def FLT_STATUS.FATAL : Fld := { id := 457, lo := 29, width := 1, ty := .ro, reset := 0 }
def FLT_STATUS.LEVEL : Fld := { id := 458, lo := 24, width := 2, ty := .ro, reset := 0 }
def FLT_STATUS.CLASS : Fld := { id := 459, lo := 0, width := 16, ty := .ro, reset := 0 }
/-- FLT_STATUS (16). -/
def regFLT_STATUS : Reg := ⟨21, 65280, 1, 0, false, .fset, [FLT_STATUS.ACTIVE, FLT_STATUS.HELD, FLT_STATUS.FATAL, FLT_STATUS.LEVEL, FLT_STATUS.CLASS]⟩

def FLT_LEVEL.LEVEL : Fld := { id := 460, lo := 0, width := 32, ty := .ro, reset := 0 }
/-- FLT_LEVEL (16). -/
def regFLT_LEVEL : Reg := ⟨21, 65284, 1, 0, false, .fset, [FLT_LEVEL.LEVEL]⟩

def FLT_FIRST.VALID : Fld := { id := 461, lo := 31, width := 1, ty := .w1c, reset := 0 }
def FLT_FIRST.ESC : Fld := { id := 462, lo := 30, width := 1, ty := .ro, reset := 0 }
def FLT_FIRST.LEVEL : Fld := { id := 463, lo := 28, width := 2, ty := .ro, reset := 0 }
def FLT_FIRST.UNIT : Fld := { id := 464, lo := 16, width := 8, ty := .ro, reset := 0 }
def FLT_FIRST.CLASS : Fld := { id := 465, lo := 0, width := 8, ty := .ro, reset := 0 }
/-- FLT_FIRST (16). -/
def regFLT_FIRST : Reg := ⟨21, 65288, 1, 0, false, .fset, [FLT_FIRST.VALID, FLT_FIRST.ESC, FLT_FIRST.LEVEL, FLT_FIRST.UNIT, FLT_FIRST.CLASS]⟩

def FLT_SYN.SYN : Fld := { id := 466, lo := 0, width := 32, ty := .ro, reset := 0 }
/-- FLT_SYN (16). -/
def regFLT_SYN : Reg := ⟨21, 65292, 3, 4, false, .fset, [FLT_SYN.SYN]⟩

def FLT_ADDR.VALUE : Fld := { id := 467, lo := 0, width := 64, ty := .ro, reset := 0 }
/-- FLT_ADDR (16). -/
def regFLT_ADDR : Reg := ⟨21, 65304, 1, 0, true, .fset, [FLT_ADDR.VALUE]⟩

def FLT_AUX.VALUE : Fld := { id := 468, lo := 0, width := 64, ty := .ro, reset := 0 }
/-- FLT_AUX (16). -/
def regFLT_AUX : Reg := ⟨21, 65312, 1, 0, true, .fset, [FLT_AUX.VALUE]⟩

def FLT_TIME.VALUE : Fld := { id := 469, lo := 0, width := 64, ty := .ro, reset := 0 }
/-- FLT_TIME (16). -/
def regFLT_TIME : Reg := ⟨21, 65320, 1, 0, true, .fset, [FLT_TIME.VALUE]⟩

def FLT_COUNT.COUNT : Fld := { id := 470, lo := 0, width := 16, ty := .rw, reset := 0 }
/-- FLT_COUNT (16). -/
def regFLT_COUNT : Reg := ⟨21, 65328, 1, 0, false, .fset, [FLT_COUNT.COUNT]⟩

def FLT_OVF.LOST : Fld := { id := 471, lo := 1, width := 1, ty := .w1c, reset := 0 }
def FLT_OVF.SAT : Fld := { id := 472, lo := 0, width := 1, ty := .w1c, reset := 0 }
/-- FLT_OVF (16). -/
def regFLT_OVF : Reg := ⟨21, 65332, 1, 0, false, .fset, [FLT_OVF.LOST, FLT_OVF.SAT]⟩

def FLT_ACK.UNACK : Fld := { id := 473, lo := 0, width := 16, ty := .w1c, reset := 0 }
/-- FLT_ACK (16). -/
def regFLT_ACK : Reg := ⟨21, 65336, 1, 0, false, .fset, [FLT_ACK.UNACK]⟩

def FLT_MASK.MASK : Fld := { id := 474, lo := 0, width := 16, ty := .rw, reset := 0 }
/-- FLT_MASK (16). -/
def regFLT_MASK : Reg := ⟨21, 65340, 1, 0, false, .fset, [FLT_MASK.MASK]⟩

def FLT_RECOV.RELEASE : Fld := { id := 475, lo := 31, width := 1, ty := .w1s, reset := 0 }
def FLT_RECOV.RECOVERIES : Fld := { id := 476, lo := 0, width := 16, ty := .ro, reset := 0 }
/-- FLT_RECOV (16). -/
def regFLT_RECOV : Reg := ⟨21, 65344, 1, 0, false, .fset, [FLT_RECOV.RELEASE, FLT_RECOV.RECOVERIES]⟩

def FLT_POLICY0.RECOVERY_MAX : Fld := { id := 477, lo := 16, width := 16, ty := .rwl, reset := 8 }
def FLT_POLICY0.QUIET_MS : Fld := { id := 478, lo := 0, width := 16, ty := .rwl, reset := 100 }
/-- FLT_POLICY0 (16). -/
def regFLT_POLICY0 : Reg := ⟨21, 65348, 1, 0, false, .fset, [FLT_POLICY0.RECOVERY_MAX, FLT_POLICY0.QUIET_MS]⟩

def FLT_POLICY1.WINDOW_S : Fld := { id := 479, lo := 0, width := 16, ty := .rwl, reset := 3600 }
/-- FLT_POLICY1 (16). -/
def regFLT_POLICY1 : Reg := ⟨21, 65352, 1, 0, false, .fset, [FLT_POLICY1.WINDOW_S]⟩

def WIT_STATUS.PRESENT : Fld := { id := 480, lo := 31, width := 1, ty := .ro, reset := 0 }
def WIT_STATUS.READY : Fld := { id := 481, lo := 30, width := 1, ty := .ro, reset := 0 }
def WIT_STATUS.ERASING : Fld := { id := 482, lo := 29, width := 1, ty := .ro, reset := 0 }
def WIT_STATUS.COMMIT : Fld := { id := 483, lo := 28, width := 1, ty := .ro, reset := 0 }
def WIT_STATUS.FATAL : Fld := { id := 484, lo := 27, width := 1, ty := .ro, reset := 0 }
def WIT_STATUS.STAGED : Fld := { id := 485, lo := 0, width := 8, ty := .ro, reset := 0 }
/-- WIT_STATUS (16). -/
def regWIT_STATUS : Reg := ⟨14, 0, 1, 0, false, .dev, [WIT_STATUS.PRESENT, WIT_STATUS.READY, WIT_STATUS.ERASING, WIT_STATUS.COMMIT, WIT_STATUS.FATAL, WIT_STATUS.STAGED]⟩

def WIT_HEAD.SLOT : Fld := { id := 486, lo := 0, width := 19, ty := .ro, reset := 0 }
/-- WIT_HEAD (16). -/
def regWIT_HEAD : Reg := ⟨14, 4, 1, 0, false, .dev, [WIT_HEAD.SLOT]⟩

def WIT_SEQ.SEQ : Fld := { id := 487, lo := 0, width := 32, ty := .ro, reset := 0 }
/-- WIT_SEQ (16). -/
def regWIT_SEQ : Reg := ⟨14, 8, 1, 0, false, .dev, [WIT_SEQ.SEQ]⟩

def WIT_OLDEST.SEQ : Fld := { id := 488, lo := 0, width := 32, ty := .ro, reset := 0 }
/-- WIT_OLDEST (16). -/
def regWIT_OLDEST : Reg := ⟨14, 12, 1, 0, false, .dev, [WIT_OLDEST.SEQ]⟩

def WIT_LOST.LOST : Fld := { id := 489, lo := 16, width := 16, ty := .rw, reset := 0 }
def WIT_LOST.PROGFAIL : Fld := { id := 490, lo := 0, width := 16, ty := .rw, reset := 0 }
/-- WIT_LOST (16). -/
def regWIT_LOST : Reg := ⟨14, 16, 1, 0, false, .dev, [WIT_LOST.LOST, WIT_LOST.PROGFAIL]⟩

def WIT_RSEL.SEQ : Fld := { id := 491, lo := 0, width := 32, ty := .rw, reset := 0 }
/-- WIT_RSEL (16). -/
def regWIT_RSEL : Reg := ⟨14, 20, 1, 0, false, .path, [WIT_RSEL.SEQ]⟩

def WIT_RDATA.DATA : Fld := { id := 492, lo := 0, width := 32, ty := .ro, reset := 4294967295 }
/-- WIT_RDATA (16). -/
def regWIT_RDATA : Reg := ⟨14, 64, 16, 4, false, .dev, [WIT_RDATA.DATA]⟩

def SEC_LC.STATE : Fld := { id := 493, lo := 29, width := 3, ty := .ro, reset := 0 }
def SEC_LC.FUSES : Fld := { id := 494, lo := 16, width := 5, ty := .ro, reset := 0 }
def SEC_LC.FW_FUSED : Fld := { id := 495, lo := 8, width := 8, ty := .ro, reset := 0 }
def SEC_LC.FW_IMAGE : Fld := { id := 496, lo := 0, width := 8, ty := .ro, reset := 0 }
/-- SEC_LC (17). -/
def regSEC_LC : Reg := ⟨15, 0, 1, 0, false, .dev, [SEC_LC.STATE, SEC_LC.FUSES, SEC_LC.FW_FUSED, SEC_LC.FW_IMAGE]⟩

def SEC_OWNER.REVOKED : Fld := { id := 497, lo := 4, width := 4, ty := .ro, reset := 0 }
def SEC_OWNER.ENROLLED : Fld := { id := 498, lo := 0, width := 4, ty := .ro, reset := 0 }
/-- SEC_OWNER (17). -/
def regSEC_OWNER : Reg := ⟨15, 4, 1, 0, false, .dev, [SEC_OWNER.REVOKED, SEC_OWNER.ENROLLED]⟩

def SEC_DBG.UNLOCKED : Fld := { id := 499, lo := 31, width := 1, ty := .ro, reset := 0 }
def SEC_DBG.STICKY : Fld := { id := 500, lo := 30, width := 1, ty := .ro, reset := 0 }
def SEC_DBG.OPEN : Fld := { id := 501, lo := 29, width := 1, ty := .ro, reset := 0 }
def SEC_DBG.LOCK : Fld := { id := 502, lo := 28, width := 1, ty := .w1s, reset := 0 }
def SEC_DBG.SIGNER : Fld := { id := 503, lo := 25, width := 3, ty := .ro, reset := 0 }
def SEC_DBG.REMAIN : Fld := { id := 504, lo := 0, width := 11, ty := .ro, reset := 0 }
/-- SEC_DBG (17). -/
def regSEC_DBG : Reg := ⟨15, 8, 1, 0, false, .dev, [SEC_DBG.UNLOCKED, SEC_DBG.STICKY, SEC_DBG.OPEN, SEC_DBG.LOCK, SEC_DBG.SIGNER, SEC_DBG.REMAIN]⟩

def SEC_DBGVOTE.VOTE : Fld := { id := 505, lo := 0, width := 4, ty := .rw, reset := 15 }
/-- SEC_DBGVOTE (17). -/
def regSEC_DBGVOTE : Reg := ⟨15, 12, 1, 0, false, .dev, [SEC_DBGVOTE.VOTE]⟩

def SEC_TOKEN.LOCKOUT : Fld := { id := 506, lo := 31, width := 1, ty := .ro, reset := 0 }
def SEC_TOKEN.FAILS : Fld := { id := 507, lo := 16, width := 8, ty := .ro, reset := 0 }
def SEC_TOKEN.KIND : Fld := { id := 508, lo := 8, width := 8, ty := .ro, reset := 0 }
def SEC_TOKEN.RESULT : Fld := { id := 509, lo := 0, width := 8, ty := .ro, reset := 0 }
/-- SEC_TOKEN (17). -/
def regSEC_TOKEN : Reg := ⟨15, 16, 1, 0, false, .dev, [SEC_TOKEN.LOCKOUT, SEC_TOKEN.FAILS, SEC_TOKEN.KIND, SEC_TOKEN.RESULT]⟩

def SEC_NONCE.VALID : Fld := { id := 510, lo := 31, width := 1, ty := .ro, reset := 0 }
def SEC_NONCE.AGE_S : Fld := { id := 511, lo := 0, width := 10, ty := .ro, reset := 0 }
/-- SEC_NONCE (17). -/
def regSEC_NONCE : Reg := ⟨15, 20, 1, 0, false, .dev, [SEC_NONCE.VALID, SEC_NONCE.AGE_S]⟩

def SEC_SERIAL.SERIAL : Fld := { id := 512, lo := 0, width := 64, ty := .ro, reset := 0 }
/-- SEC_SERIAL (17). -/
def regSEC_SERIAL : Reg := ⟨15, 24, 1, 0, true, .dev, [SEC_SERIAL.SERIAL]⟩

def DRW_UEVSEL.EV3 : Fld := { id := 513, lo := 24, width := 8, ty := .rw, reset := 0 }
def DRW_UEVSEL.EV2 : Fld := { id := 514, lo := 16, width := 8, ty := .rw, reset := 0 }
def DRW_UEVSEL.EV1 : Fld := { id := 515, lo := 8, width := 8, ty := .rw, reset := 0 }
def DRW_UEVSEL.EV0 : Fld := { id := 516, lo := 0, width := 8, ty := .rw, reset := 0 }
/-- DRW_UEVSEL (18). -/
def regDRW_UEVSEL : Reg := ⟨22, 12, 1, 0, false, .drawer, [DRW_UEVSEL.EV3, DRW_UEVSEL.EV2, DRW_UEVSEL.EV1, DRW_UEVSEL.EV0]⟩

def PMU_UNITSEL.UNIT : Fld := { id := 517, lo := 0, width := 5, ty := .rw, reset := 0 }
/-- PMU_UNITSEL (18). -/
def regPMU_UNITSEL : Reg := ⟨16, 0, 1, 0, false, .path, [PMU_UNITSEL.UNIT]⟩

def PMU_CTL.FREEZE : Fld := { id := 518, lo := 31, width := 1, ty := .rw, reset := 0 }
def PMU_CTL.FRZ_OVF : Fld := { id := 519, lo := 30, width := 1, ty := .rw, reset := 0 }
def PMU_CTL.CLEAR : Fld := { id := 520, lo := 29, width := 1, ty := .wo, reset := 0 }
/-- PMU_CTL (18). -/
def regPMU_CTL : Reg := ⟨16, 4, 1, 0, false, .unit, [PMU_CTL.FREEZE, PMU_CTL.FRZ_OVF, PMU_CTL.CLEAR]⟩

def PMU_CYC.VALUE : Fld := { id := 521, lo := 0, width := 64, ty := .ro, reset := 0 }
/-- PMU_CYC (18). -/
def regPMU_CYC : Reg := ⟨16, 8, 1, 0, true, .unit, [PMU_CYC.VALUE]⟩

def PMU_TBSNAP.VALUE : Fld := { id := 522, lo := 0, width := 64, ty := .ro, reset := 0 }
/-- PMU_TBSNAP (18). -/
def regPMU_TBSNAP : Reg := ⟨16, 16, 1, 0, true, .unit, [PMU_TBSNAP.VALUE]⟩

def PMU_CTR.COUNT : Fld := { id := 523, lo := 0, width := 48, ty := .rw, reset := 0 }
/-- PMU_CTR (18). -/
def regPMU_CTR : Reg := ⟨16, 32, 8, 8, true, .unit, [PMU_CTR.COUNT]⟩

def PMU_EVSEL.EN : Fld := { id := 524, lo := 31, width := 1, ty := .rw, reset := 0 }
def PMU_EVSEL.CHAIN : Fld := { id := 525, lo := 30, width := 1, ty := .rw, reset := 0 }
def PMU_EVSEL.IE : Fld := { id := 526, lo := 29, width := 1, ty := .rw, reset := 0 }
def PMU_EVSEL.EVENT : Fld := { id := 527, lo := 0, width := 8, ty := .rw, reset := 0 }
/-- PMU_EVSEL (18). -/
def regPMU_EVSEL : Reg := ⟨16, 96, 8, 4, false, .unit, [PMU_EVSEL.EN, PMU_EVSEL.CHAIN, PMU_EVSEL.IE, PMU_EVSEL.EVENT]⟩

def PMU_FILTA.CLASS : Fld := { id := 528, lo := 24, width := 8, ty := .rw, reset := 255 }
def PMU_FILTA.CH : Fld := { id := 529, lo := 0, width := 12, ty := .rw, reset := 4095 }
/-- PMU_FILTA (18). -/
def regPMU_FILTA : Reg := ⟨16, 128, 8, 8, false, .unit, [PMU_FILTA.CLASS, PMU_FILTA.CH]⟩

def PMU_FILTB.HEAD_EN : Fld := { id := 530, lo := 31, width := 1, ty := .rw, reset := 0 }
def PMU_FILTB.DRW_EN : Fld := { id := 531, lo := 30, width := 1, ty := .rw, reset := 0 }
def PMU_FILTB.DRAWER : Fld := { id := 532, lo := 16, width := 8, ty := .rw, reset := 0 }
def PMU_FILTB.HEAD : Fld := { id := 533, lo := 0, width := 4, ty := .rw, reset := 0 }
/-- PMU_FILTB (18). -/
def regPMU_FILTB : Reg := ⟨16, 132, 8, 8, false, .unit, [PMU_FILTB.HEAD_EN, PMU_FILTB.DRW_EN, PMU_FILTB.DRAWER, PMU_FILTB.HEAD]⟩

def PMU_OVF.OVF : Fld := { id := 534, lo := 0, width := 8, ty := .w1c, reset := 0 }
/-- PMU_OVF (18). -/
def regPMU_OVF : Reg := ⟨16, 192, 1, 0, false, .unit, [PMU_OVF.OVF]⟩

def PMU_DYECTL.EN : Fld := { id := 535, lo := 31, width := 1, ty := .rw, reset := 0 }
def PMU_DYECTL.SPAN : Fld := { id := 536, lo := 30, width := 1, ty := .rw, reset := 0 }
def PMU_DYECTL.K : Fld := { id := 537, lo := 24, width := 5, ty := .rw, reset := 16 }
def PMU_DYECTL.TH : Fld := { id := 538, lo := 16, width := 8, ty := .rw, reset := 192 }
def PMU_DYECTL.HEADS : Fld := { id := 539, lo := 0, width := 16, ty := .rw, reset := 65535 }
/-- PMU_DYECTL (18). -/
def regPMU_DYECTL : Reg := ⟨16, 256, 1, 0, false, .dev, [PMU_DYECTL.EN, PMU_DYECTL.SPAN, PMU_DYECTL.K, PMU_DYECTL.TH, PMU_DYECTL.HEADS]⟩

def PMU_DYESEED.SEED : Fld := { id := 540, lo := 0, width := 32, ty := .rw, reset := 1 }
/-- PMU_DYESEED (18). -/
def regPMU_DYESEED : Reg := ⟨16, 260, 1, 0, false, .dev, [PMU_DYESEED.SEED]⟩

def PMU_DYESTAT.POP : Fld := { id := 541, lo := 31, width := 1, ty := .w1s, reset := 0 }
def PMU_DYESTAT.THR : Fld := { id := 542, lo := 30, width := 1, ty := .w1c, reset := 0 }
def PMU_DYESTAT.MISSED : Fld := { id := 543, lo := 9, width := 16, ty := .rw, reset := 0 }
def PMU_DYESTAT.FILL : Fld := { id := 544, lo := 0, width := 9, ty := .ro, reset := 0 }
/-- PMU_DYESTAT (18). -/
def regPMU_DYESTAT : Reg := ⟨16, 264, 1, 0, false, .dev, [PMU_DYESTAT.POP, PMU_DYESTAT.THR, PMU_DYESTAT.MISSED, PMU_DYESTAT.FILL]⟩

def PMU_DYEREC.DATA : Fld := { id := 545, lo := 0, width := 32, ty := .ro, reset := 0 }
/-- PMU_DYEREC (18). -/
def regPMU_DYEREC : Reg := ⟨16, 320, 16, 4, false, .dev, [PMU_DYEREC.DATA]⟩

def GLB_ID.DEVICE : Fld := { id := 546, lo := 16, width := 16, ty := .ro, reset := 38422 }
def GLB_ID.REV : Fld := { id := 547, lo := 8, width := 8, ty := .ro, reset := 16 }
/-- GLB_ID (20). -/
def regGLB_ID : Reg := ⟨0, 0, 1, 0, false, .dev, [GLB_ID.DEVICE, GLB_ID.REV]⟩

def GLB_HEADS.ENABLED : Fld := { id := 548, lo := 16, width := 16, ty := .rwl, reset := 0 }
def GLB_HEADS.MGMT : Fld := { id := 549, lo := 0, width := 16, ty := .rwl, reset := 0 }
/-- GLB_HEADS (20). -/
def regGLB_HEADS : Reg := ⟨0, 4, 1, 0, false, .dev, [GLB_HEADS.ENABLED, GLB_HEADS.MGMT]⟩

def GLB_PATH.MGMT : Fld := { id := 550, lo := 5, width := 1, ty := .ro, reset := 0 }
def GLB_PATH.PATH : Fld := { id := 551, lo := 0, width := 5, ty := .ro, reset := 0 }
/-- GLB_PATH (20). -/
def regGLB_PATH : Reg := ⟨0, 8, 1, 0, false, .dev, [GLB_PATH.MGMT, GLB_PATH.PATH]⟩

def GLB_TJ.WARN : Fld := { id := 552, lo := 31, width := 1, ty := .ro, reset := 0 }
def GLB_TJ.SENSOR : Fld := { id := 553, lo := 20, width := 4, ty := .ro, reset := 0 }
def GLB_TJ.PEAK : Fld := { id := 554, lo := 8, width := 8, ty := .rw, reset := 0 }
def GLB_TJ.NOW : Fld := { id := 555, lo := 0, width := 8, ty := .ro, reset := 0 }
/-- GLB_TJ (20). -/
def regGLB_TJ : Reg := ⟨0, 12, 1, 0, false, .dev, [GLB_TJ.WARN, GLB_TJ.SENSOR, GLB_TJ.PEAK, GLB_TJ.NOW]⟩

def GLB_SCRATCH.DATA : Fld := { id := 556, lo := 0, width := 32, ty := .rws, reset := 0 }
/-- GLB_SCRATCH (20). -/
def regGLB_SCRATCH : Reg := ⟨0, 16, 4, 4, false, .dev, [GLB_SCRATCH.DATA]⟩

/-- The registers of window 0. -/
def regsOfWin0 : List Reg := [regGLB_ID, regGLB_HEADS, regGLB_PATH, regGLB_TJ, regGLB_SCRATCH]

/-- The registers of window 1. -/
def regsOfWin1 : List Reg := [regCUT_STATUS, regCUT_VERSION, regCUT_BUILD, regCUT_REJECT, regCUT_LIVE_TS, regCUT_DIGEST]

/-- The registers of window 2. -/
def regsOfWin2 : List Reg := [regHP_PORTSEL, regHP_CFG, regHP_PRESENCE, regHP_LINK, regHP_ERRCNT, regHP_DROP, regHP_CTO, regHP_IDE,
  regHP_SURPRISE]

/-- The registers of window 3. -/
def regsOfWin3 : List Reg := [regDEC_DSEL, regDEC_DTPL, regDEC_DEFKEY, regDEC_DPABASE_LO, regDEC_DPABASE_HI, regDEC_KEYMASK, regDEC_SET, regDEC_SETBASE,
  regDEC_PMEC, regDEC_EXT, regDEC_PEERKEY]

/-- The registers of window 4. -/
def regsOfWin4 : List Reg := [regCOH_CTL, regCOH_TTUSE0, regCOH_TTUSE1, regCOH_DIR0, regCOH_DIR1, regCOH_RETRY, regCOH_ROT, regCOH_SNPTO,
  regCOH_SCAN, regCOH_KWALK]

/-- The registers of window 5. -/
def regsOfWin5 : List Reg := [regDMC_CHSEL, regDMC_CFG, regDMC_STATUS, regDMC_QCTL, regDMC_PAGE, regDMC_REFCTL, regDMC_RH, regDMC_CAL,
  regDMC_TEMP, regDMC_ECC, regDMC_ECCLOC0, regDMC_ECCLOC1, regDMC_SCRUB, regDMC_SCRUBPOS, regDMC_SPARE, regDMC_SPAREPOS,
  regDMC_RANKMAP, regDMC_TEST, regDMC_TESTRES, regDMC_QOCC, regDMC_CAERR, regDMC_RHCNT]

/-- The registers of window 6. -/
def regsOfWin6 : List Reg := [regPRS_CTL, regPRS_STATUS, regPRS_FENCE, regPRS_RERUN, regPRS_HCACHE, regPRS_FMTERR, regPRS_PAGES, regPRS_RAWPG,
  regPRS_LINES, regPRS_FETCHED, regPRS_PRED]

/-- The registers of window 7. -/
def regsOfWin7 : List Reg := [regSLC_CTL, regSLC_TIERCFG, regSLC_META, regSLC_EPOCH, regSLC_PROMO, regSLC_T0MARK, regSLC_SLABMARK, regSLC_DCDMARK,
  regSLC_MIGRATE, regSLC_EPOCHNUM, regSLC_T0FREE, regSLC_SLABFREE, regSLC_RSVFREE, regSLC_LEDGER, regSLC_T2, regSLC_STALL,
  regSLC_MOVES, regSLC_DEMOTED, regSLC_PROMOTED, regSLC_CAPFLT, regSLC_LEAK, regSLC_GBSEL, regSLC_GBSUM, regSLC_GBSAT]

/-- The registers of window 8. -/
def regsOfWin8 : List Reg := [regINL_KEYSEL, regINL_SUMMARY, regINL_SLOT, regINL_WCNT, regINL_RETIRE, regINL_ADVISE, regINL_IE, regINL_EVT,
  regINL_REFUSED, regINL_XTS]

/-- The registers of window 9. -/
def regsOfWin9 : List Reg := [regWEIR_CLSEL, regWEIR_CTL, regWEIR_SHARE, regWEIR_WINDOW, regWEIR_EFF, regWEIR_OUT, regWEIR_BYTES, regWEIR_WAIT,
  regWEIR_CAP, regWEIR_SPAN, regWEIR_BRIM, regWEIR_URGH, regWEIR_URGS, regWEIR_SHORT]

/-- The registers of window 10. -/
def regsOfWin10 : List Reg := [regDRW_SEL, regDRW_GCTL, regDRW_BIND, regDRW_LIMIT, regDRW_QUOTA, regDRW_KEYSET, regDRW_RESET, regDRW_STAT,
  regDRW_STATE]

/-- The registers of window 11. -/
def regsOfWin11 : List Reg := [regSPN_PORTSEL, regSPN_CFG, regSPN_FABRIC, regSPN_DONATE, regSPN_NODE, regSPN_INCARN, regSPN_CTL, regSPN_REACH,
  regSPN_ASLEEP, regSPN_FWD, regSPN_GRANT, regSPN_PSTATE, regSPN_PCTL, regSPN_PERR, regSPN_PLANES, regSPN_PEERSN]

/-- The registers of window 12. -/
def regsOfWin12 : List Reg := [regPWR_STATE, regPWR_CMD, regPWR_SBVOTE, regPWR_VOTES, regPWR_VOTES2, regPWR_CTL, regPWR_WAKESRC, regPWR_COUNT,
  regPWR_LASTWAKE, regPWR_WSEL, regPWR_WSTEP, regPWR_WMIN, regPWR_WMAX, regPWR_BIAS, regPWR_RETN]

/-- The registers of window 13. -/
def regsOfWin13 : List Reg := [regIFC_STATUS, regIFC_CTL, regIFC_MEAS, regIFC_TEMP, regIFC_PGCFG, regIFC_IFAST, regIFC_RAMP, regIFC_RAMPLIM,
  regIFC_TRIPS, regIFC_BP, regIFC_MODEL]

/-- The registers of window 14. -/
def regsOfWin14 : List Reg := [regWIT_STATUS, regWIT_HEAD, regWIT_SEQ, regWIT_OLDEST, regWIT_LOST, regWIT_RSEL, regWIT_RDATA]

/-- The registers of window 15. -/
def regsOfWin15 : List Reg := [regSEC_LC, regSEC_OWNER, regSEC_DBG, regSEC_DBGVOTE, regSEC_TOKEN, regSEC_NONCE, regSEC_SERIAL]

/-- The registers of window 16. -/
def regsOfWin16 : List Reg := [regPMU_UNITSEL, regPMU_CTL, regPMU_CYC, regPMU_TBSNAP, regPMU_CTR, regPMU_EVSEL, regPMU_FILTA, regPMU_FILTB,
  regPMU_OVF, regPMU_DYECTL, regPMU_DYESEED, regPMU_DYESTAT, regPMU_DYEREC]

/-- The registers of window 17. -/
def regsOfWin17 : List Reg := [regCLK_STATUS, regCLK_XMODE, regCLK_XOVRN, regCLK_XSTUCK, regCLK_XCTL, regCLK_UNIT, regCLK_AVS, regCLK_MARGIN,
  regCLK_RSTCAUSE]

/-- The registers of window 20. -/
def regsOfWin20 : List Reg := [regMS_CAP, regMS_PRESENCE, regMS_PRESCHG, regMS_POWER, regMS_ATTN, regMS_IND, regMS_CTL]

/-- The registers of window 21. -/
def regsOfWin21 : List Reg := [regFLT_STATUS, regFLT_LEVEL, regFLT_FIRST, regFLT_SYN, regFLT_ADDR, regFLT_AUX, regFLT_TIME, regFLT_COUNT,
  regFLT_OVF, regFLT_ACK, regFLT_MASK, regFLT_RECOV, regFLT_POLICY0, regFLT_POLICY1]

/-- The registers of window 22. -/
def regsOfWin22 : List Reg := [regDRW_CTL, regDRW_VEC, regDRW_UEVSEL]

/-- The registers of window 23. -/
def regsOfWin23 : List Reg := [regDRW_SQBASE, regDRW_CQBASE, regDRW_STAGE, regDRW_RCFG, regDRW_RSTATE]

/-- The registers of a window. -/
def regsOfWin : Nat → List Reg
  | 0 => regsOfWin0
  | 1 => regsOfWin1
  | 2 => regsOfWin2
  | 3 => regsOfWin3
  | 4 => regsOfWin4
  | 5 => regsOfWin5
  | 6 => regsOfWin6
  | 7 => regsOfWin7
  | 8 => regsOfWin8
  | 9 => regsOfWin9
  | 10 => regsOfWin10
  | 11 => regsOfWin11
  | 12 => regsOfWin12
  | 13 => regsOfWin13
  | 14 => regsOfWin14
  | 15 => regsOfWin15
  | 16 => regsOfWin16
  | 17 => regsOfWin17
  | 20 => regsOfWin20
  | 21 => regsOfWin21
  | 22 => regsOfWin22
  | 23 => regsOfWin23
  | _ => []

/-- Every register of the part. -/
def allRegs : List Reg := (List.range 24).flatMap regsOfWin

end Sys2Proof.Machine
end

