-- ==== Sys2Proof/Machine/State.lean ====
section
/-! DEFINITION. The state of the HX9616 as plain data. Each field's docstring reads
`<file> <rule> | what it is | reset`; the register map of the part is the field `regs`, named register by register in
Sys2Proof/Machine/Regs.lean. Field defaults are the reset values. -/

namespace Sys2Proof.Machine

open Sys2Proof

/-- Weir classes, levels and small codes are numbers; times are WCLK steps of 250 ns (assumption 2). -/
abbrev Time := Nat

/-! ## Lines and memory -/

/-- The key under which a line was protected: which load of which slot (10 R253, R262). -/
structure KeyInst where
  /-- 10 R262 | key slot | n/a -/
  slot : KeyId := 0
  /-- 10 R262 | which load of the slot this is (a fresh key is a new instance) | 0 -/
  load : Nat := 0
  /-- 10 R253 | 0 MIX, 1 XTS, 2 BYPASS | 0 -/
  mode : Nat := 0
deriving DecidableEq, Repr

/-- One stored line: 64 data bytes and the metadata of 07 R181. -/
structure Line where
  /-- 07 R179 | the plaintext of the data bytes as the writer gave them | unwritten -/
  data : Data := 0
  /-- 10 R253 | the key instance the data bytes are protected under | unwritten -/
  inst : KeyInst := {}
  /-- 07 R181 | KTAG, 4 bits | unwritten -/
  ktag : BitVec 4 := 0
  /-- 07 R181 | SLAB marker | unwritten -/
  slab : Bool := false
  /-- 07 R181 | POISON | unwritten -/
  poison : Bool := false
deriving DecidableEq, Repr

/-! ## Requests and the transaction table -/

/-- Where a transaction stands on the path of 01 R17. -/
inductive Phase where
  | ingress | pme | lockWait | queued | snoop | wayWait | retryQ | stalled | promoting | credit | dmcq | issued | xts | press
deriving DecidableEq, Repr

/-- What a transaction does. -/
inductive TxnKind where
  | read | write | part
deriving DecidableEq, Repr

/-- Who asked (06 R140). -/
inductive Src where
  | head (h : Head)
  | peer (node : NodeId) (h : Head) (tag : BitVec 12)
  | sluice | drawer (op : Nat) | bench
deriving DecidableEq, Repr

/-- A transaction-table entry (06 R138-R139). -/
structure Txn where
  /-- 06 R139 | what it does | n/a -/
  kind : TxnKind := .read
  /-- 06 R140 | who asked | n/a -/
  src : Src := .bench
  /-- 01 R17 | where it stands | n/a -/
  phase : Phase := .ingress
  /-- 06 R133 | line number DPA >> 6 | n/a -/
  ln : Nat := 0
  /-- 05 R116 | key ID | n/a -/
  key : KeyId := 0
  /-- 06 R132 | state asked for | n/a -/
  mv : MetaValue := .I
  /-- 07 R184 | write data | n/a -/
  data : Data := 0
  /-- 07 R184 | byte enables of a partial write | n/a -/
  be : ByteEn := 0
  /-- 05 R118 | shared-coherent region | n/a -/
  shared : Bool := false
  /-- 05 R118 | tiered region | n/a -/
  tiered : Bool := false
  /-- 05 R113 | region number | n/a -/
  region : Nat := 0
  /-- 05 R127 | SEQ that DEC read | n/a -/
  seq : BitVec 16 := 0
  /-- 05 R121 | MPA line number served, once known | n/a -/
  mpa : Option Nat := none
  /-- 11 R277 | Weir class | n/a -/
  cls : Nat := 0
  /-- 11 R283 | BRIM urgency | n/a -/
  urg : Nat := 0
  /-- 07 R168 | page hint: 0 OPEN, 1 CLOSE, 2 AUTO | n/a -/
  hint : Nat := 0
  /-- 06 R142 | snoops unanswered: node × 16 + head | n/a -/
  snoops : List Nat := []
  /-- 06 R155 | the line is to be returned poisoned | n/a -/
  poison : Bool := false
  /-- 10 R272 | the slot was RETIRED when DEC admitted the read | n/a -/
  retired : Bool := false
  /-- 07 R183 | SLAB expectation and marking | n/a -/
  slab : Bool := false
  /-- 11 R280 | when it became eligible for a grant | n/a -/
  since : Time := 0
  /-- 18 R433 | dyed | n/a -/
  dyed : Bool := false
  /-- 18 R434 | stage stamps TB at stages 0-7, 0 when not passed | n/a -/
  stamps : List Nat := []
  /-- 11 R291 | DevLoad of the response | n/a -/
  devload : Nat := 0
  /-- 06 R137 | message class | n/a -/
  mc : Nat := 3
  /-- 10 R258 | ciphertext ready beside a write-queue entry | n/a -/
  cipher : Bool := false
  /-- 10 R258 | engine checks failed so far (R259) | n/a -/
  tries : Nat := 0
  /-- 08 R205 | decode job serving a T1 or T2 read | n/a -/
  job : Option Nat := none
  /-- 18 R435 | its PME missed the cache | n/a -/
  pmeMiss : Bool := false
  /-- 11 R291 | WCLK steps waited for the grant | n/a -/
  waited : Time := 0
  /-- 07 R164, R170 | arrival number at its channel's queues | n/a -/
  arr : Nat := 0
  /-- 11 R283 | Span port a peer's request arrived on | n/a -/
  port : Nat := 0
  /-- 06 R156 | a head of the line's broadcast M-unknown set was lost and no head has written back | n/a -/
  unkLost : Bool := false
deriving DecidableEq, Repr

/-- A line lock: its holder and the line queue behind it (06 R139). -/
structure Lock where
  /-- 06 R139 | transaction holding the lock; none for an eviction, the key walk or another agent's step (R153, R158) | n/a -/
  holder : Option Nat := none
  /-- 06 R139 | at most 8 waiting transactions, in order | n/a -/
  queue : List Nat := []
deriving DecidableEq, Repr

/-- A directory entry, unpacked (06 R133): V is being listed. -/
structure DirEntry where
  /-- 06 R133 | DPA[45:22] | n/a -/
  tag : BitVec 24 := 0
  /-- 06 R133 | key ID | n/a -/
  key : KeyId := 0
  /-- 06 R133 | pointers P0-P3 with their PV bits | none -/
  ptrs : List (BitVec 10) := []
  /-- 06 R134 | OVF, broadcast mode | n/a -/
  ovf : Bool := false
  /-- 06 R134 | ST: M | n/a -/
  m : Bool := false
deriving DecidableEq, Repr

/-- An eviction in progress (06 R153). -/
structure Evict where
  /-- 06 R153 | line number of the victim | n/a -/
  ln : Nat := 0
  /-- 06 R153 | transaction waiting for the way, none for the key walk | n/a -/
  forTxn : Option Nat := none
  /-- 06 R153 | set × 16 + way | n/a -/
  way : Nat := 0
  /-- 06 R153 | snoops unanswered | n/a -/
  snoops : List Nat := []
  /-- 06 R156 | no writeback seen yet for a broadcast M-unknown entry of a lost head | n/a -/
  poisonIfNoWb : Bool := false
  /-- 06 R146 | an agent's BISnpData round: the entry goes to S and stays | false -/
  down : Bool := false
deriving DecidableEq, Repr

/-- COH (06). -/
structure Coh where
  /-- 06 R133 | directory entries by set × 16 + way | empty (R72) -/
  dir : SMap DirEntry := []
  /-- 06 R138 | transaction table | empty (R72) -/
  txns : SMap Txn := []
  /-- 06 R139 | line locks by line number | none held -/
  locks : SMap Lock := []
  /-- 06 R153 | evictions by victim line number | none -/
  evicts : SMap Evict := []
  /-- 06 R154 | retry queues by set | none -/
  retry : SMap (List Nat) := []
  /-- 06 R144 | timeout table of (node × 16 + head, line), oldest first, at most 64 | empty -/
  timeouts : List (Nat × Nat) := []
  /-- 06 R144 | snoops outstanding, by (head, line), with when each was sent | none -/
  sent : List (Nat × Nat × Nat) := []
  /-- 06 R158 | key walk in progress and lines it still waits on | none -/
  walk : Option (List Nat) := none
  /-- 06 R156 | head being cleaned (node × 16 + head) | none -/
  scan : Option Nat := none
  /-- 06 R139 | number of the next transaction | 0 -/
  next : Nat := 0
deriving DecidableEq, Repr

/-! ## Decode and page map -/

/-- A region of the Cut List (05 R113). -/
structure Region where
  /-- 05 R118 | type bits | n/a -/
  typ : BitVec 4 := 0
  /-- 05 R113 | DPA base assigned | n/a -/
  base : Nat := 0
  /-- 05 R41 | size in bytes | n/a -/
  size : Nat := 0
  /-- 05 R121 | interleave set | n/a -/
  set : Nat := 0
  /-- 05 R118 | Weir class C0 or C1 | n/a -/
  cls : Nat := 0
  /-- 07 R168 | page hint | n/a -/
  hint : Nat := 0
  /-- 05 R119 | home node, none for local | n/a -/
  home : Option NodeId := none
  /-- 05 R113 | sharing heads of this node | n/a -/
  sharingHeads : BitVec 16 := 0
  /-- 05 R119 | sharing nodes | n/a -/
  sharingNodes : BitVec 64 := 0
  /-- 05 R119 | the one peer head of a region without the shared-coherent bit | n/a -/
  peerHead : Option Head := none
deriving DecidableEq, Repr

/-- A decoder template loaded from a REGIONS record (05 R112). -/
structure Template where
  /-- 05 R112 | hpa_base | n/a -/
  hpaBase : Nat := 0
  /-- 05 R112 | size, this device's share | n/a -/
  size : Nat := 0
  /-- 05 R116 | keyid_width | n/a -/
  kw : Nat := 0
  /-- 05 R113 | region number | n/a -/
  region : Nat := 0
deriving DecidableEq, Repr

/-- An HDM decoder of the component registers (05 R111). -/
structure Decoder where
  /-- 05 R112 | Committed | clear -/
  committed : Bool := false
  /-- 05 R112 | Error Not Committed | clear -/
  err : Bool := false
  /-- 05 R111 | Lock On Commit in force | clear -/
  locked : Bool := false
  /-- 05 R111 | base | 0 (DESIGN CHOICE 8) -/
  base : Nat := 0
  /-- 05 R111 | size | 0 (DESIGN CHOICE 8) -/
  size : Nat := 0
  /-- 05 R111 | host interleave ways | 1 (DESIGN CHOICE 8) -/
  ways : Nat := 1
  /-- 05 R111 | log2 of the host interleave granularity | 8 (DESIGN CHOICE 8) -/
  gran : Nat := 8
deriving DecidableEq, Repr

/-- A DCD extent (05 R120). -/
structure Extent where
  /-- 05 R120 | DPA start | n/a -/
  start : Nat := 0
  /-- 05 R120 | length in 2 MiB units | n/a -/
  len : Nat := 0
  /-- 05 R120 | heads for which it matches | n/a -/
  heads : BitVec 16 := 0
  /-- 12 R310 | drawer it is tagged to | n/a -/
  drawer : Option Nat := none
  /-- 09 R242 | a release request has named it | n/a -/
  asked : Bool := false
deriving DecidableEq, Repr

/-- A page map entry (05 R125). -/
structure Pme where
  /-- 05 R125 | TIER 0-3 | 3 UNBACKED -/
  tier : Nat := 3
  /-- 05 R125 | RAW | 0 -/
  raw : Bool := false
  /-- 05 R125 | POISON | 0 -/
  poison : Bool := false
  /-- 05 R125 | SLABS | 0 -/
  slabs : Nat := 0
  /-- 05 R125 | COUNT | 0 -/
  count : Nat := 0
  /-- 05 R125 | NODE | 0 -/
  node : NodeId := 0
  /-- 05 R125 | LOC, 40 bits, in 256-byte units | 0 -/
  loc : Nat := 0
  /-- 05 R125 | SEQ | 0 -/
  seq : BitVec 16 := 0
deriving DecidableEq, Repr

/-- A PME cache entry (05 R126). -/
structure PmeLine where
  /-- 05 R126 | the cached PME | n/a -/
  pme : Pme := {}
  /-- 05 R126 | way pinned while PROMOTING or in a move | n/a -/
  pinned : Bool := false
deriving DecidableEq, Repr

/-- DEC (05). -/
structure Dec where
  /-- 05 R113 | regions by number | none -/
  regions : SMap Region := []
  /-- 05 R112 | templates by head × 32 + decoder | none -/
  templates : SMap Template := []
  /-- 05 R111 | decoders by head × 32 + decoder | all at reset -/
  decoders : SMap Decoder := []
  /-- 05 R120 | extent table, at most 4,096 | empty -/
  extents : SMap Extent := []
  /-- 05 R120 | releases waiting for requests past DEC: extent and transactions | none -/
  releasing : List (Extent × List Nat) := []
  /-- 05 R126 | PME cache by page number DPA >> 12 | empty -/
  pmec : SMap PmeLine := []
  /-- 05 R126 | PMEs being fetched, at most 64 | none -/
  misses : List Nat := []
deriving DecidableEq, Repr

/-! ## DRAM channels -/

/-- A bank of a subchannel (07 R165, R168-R170). -/
structure Bank where
  /-- 07 R168 | open row | closed (DESIGN CHOICE 8) -/
  row : Option Nat := none
  /-- 07 R168 | hint in force for the open row | 0 -/
  hint : Nat := 0
  /-- 07 R165 | column commands issued since the activate | 0 -/
  streak : Nat := 0
  /-- 07 R173 | rolling accumulated activation count | 0 -/
  raa : Nat := 0
  /-- 07 R173 | frequent-row table, at most 32 (row, count) | empty -/
  rows : List (Nat × Nat) := []
  /-- 07 R173 | when the refresh window of the table began | 0 -/
  rhFrom : Time := 0
deriving DecidableEq, Repr

/-- A DRAM channel (07). Its registers stand in the register map. -/
structure Channel where
  /-- 07 R163 | read queue, transaction numbers oldest first until their burst has come back, at most 96 | empty -/
  rq : List Nat := []
  /-- 07 R163 | write queue, oldest first, at most 64 | empty -/
  wq : List Nat := []
  /-- 07 R165 | reads issued, each with the line its burst carries, oldest first | none -/
  inflight : List (Nat × Line) := []
  /-- 07 R123 | banks by (sub × 16 + rank) × 32 + group × 4 + bank | closed -/
  banks : SMap Bank := []
  /-- 07 R164 | arrival number of the next transaction | 0 -/
  arr : Nat := 0
  /-- 07 R171 | refreshes owed by sub × 16 + rank | none owed -/
  owed : SMap Nat := []
  /-- 07 R171 | ranks (sub × 16 + rank) that reached the postponement limit and still owe refreshes | none -/
  forced : List Nat := []
  /-- 07 R171 | same-bank mode in force by sub × 16 + rank | 0 -/
  sameBank : SMap Bool := []
  /-- 07 R171 | bank of every group that the next same-bank refresh takes, by sub × 16 + rank | 0 (DESIGN CHOICE 8) -/
  nextSb : SMap Nat := []
  /-- 07 R173 | activation count at which the module asks for RFM | 0 (DESIGN CHOICE 8) -/
  raaimt : Nat := 0
  /-- 07 R172 | failed sensor reads in a row, slots 0 and 1 | 0 -/
  sensorFails : Nat × Nat := (0, 0)
  /-- 07 R172 | doubled rate because of temperature | false -/
  hot : Bool := false
  /-- 07 R172 | doubled rate because a sensor is unreadable | false -/
  blind : Bool := false
  /-- 07 R189 | times of corrected errors in the last 24 h by physical rank | none -/
  rankCe : SMap (List Time) := []
  /-- 07 R187 | times of corrected errors by row location | none -/
  rowCe : SMap (List Time) := []
  /-- 07 R176 | ranks still owing a requested oscillator measurement | none -/
  recalDqs : List Nat := []
  /-- 07 R176 | ranks still owing a requested ZQ calibration | none -/
  recalZq : List Nat := []
  /-- 07 R177 | test running: rank and pattern | none -/
  test : Option (Nat × Nat) := none
  /-- 07 R186 | lines scrubbed in the present pass | 0 (DESIGN CHOICE 8) -/
  scrubbed : Nat := 0
  /-- 07 R189 | when the sparing copy began | 0 -/
  spareFrom : Time := 0
  /-- 07 R189 | physical rank that sparing took out | none -/
  outRank : Option Nat := none
  /-- 07 R174 | trained values held in retained SRAM: number of good copies | 0 -/
  trained : Nat := 0
  /-- 07 R173 | rows of the module | 65,536 (DESIGN CHOICE 8) -/
  rows : Nat := 65536
  /-- 07 R188 | hard repairs queued for the next cold reset | none -/
  pprHard : List (Nat × Nat × Nat × Nat) := []
  /-- 07 R188 | rows softly repaired | none -/
  pprSoft : List (Nat × Nat × Nat × Nat) := []
  /-- 14 R361 | canaries saved and written (entry under way) | false -/
  canaries : Bool := false
  /-- 14 R362 | banks under priority scrub | none -/
  suspect : List Nat := []
  /-- 11 R292 | Weir grants stopped on a parity error | false -/
  creditStop : Bool := false
  /-- 11 R285 | bytes granted in the current window by class | 0 -/
  bytes : SMap Nat := []
  /-- 11 R285 | start of the current window by class | 0 -/
  winStart : SMap Time := []
deriving DecidableEq, Repr

/-! ## Press -/

/-- A segment decode (08 R203, R205). -/
structure DecJob where
  /-- 08 R203 | LOC | n/a -/
  loc : Nat := 0
  /-- 08 R203 | NODE | n/a -/
  node : NodeId := 0
  /-- 08 R203 | segment | n/a -/
  seg : Nat := 0
  /-- 08 R203 | key ID | n/a -/
  key : KeyId := 0
  /-- 08 R203 | attached transactions, at most 8 | n/a -/
  txns : List Nat := []
  /-- 08 R210 | pipes whose attempt failed | none -/
  failed : List Nat := []
  /-- 08 R205 | raw page: the line passes the pipe unchanged | n/a -/
  raw : Bool := false
  /-- 05 R125 | SLABS of the page | n/a -/
  slabs : Nat := 0
  /-- 05 R124 | page number DPA >> 12 | n/a -/
  page : Nat := 0
  /-- 13 R339 | lines of the run received from the peer, by line of the run | none -/
  got : SMap Data := []
  /-- 13 R339 | lines of the run requested from the peer and not received | none -/
  want : List Nat := []
  /-- 08 R205 | the lines are in PCLK: a pipe may decode | false -/
  ready : Bool := false
  /-- 08 R205 | the page's header was not cached when the job began | false -/
  miss : Bool := false
  /-- 08 R213 | a line of header or segment came poisoned | false -/
  bad : Bool := false
deriving DecidableEq, Repr

/-- The Press (08). -/
structure Press where
  /-- 08 R203 | decode jobs | none -/
  jobs : SMap DecJob := []
  /-- 08 R203 | number of the next decode job | 0 -/
  next : Nat := 0
  /-- 08 R207 | page-header cache, least recently used first: tag LOC × 64 + NODE and the header's 32 bytes as a number | empty -/
  hcache : List (Nat × Nat) := []
  /-- 08 R212 | mismatch times by pipe (decode 0-5, encode 6-9) | none -/
  mism : SMap (List Time) := []
deriving DecidableEq, Repr

/-! ## Sluice -/

/-- A 2 MiB record of the Ripple tree (09 R227). -/
structure Rec2M where
  /-- 09 R227 | SUM | 0 -/
  sum : Nat := 0
  /-- 09 R227 | STAMP | 0 -/
  stamp : BitVec 16 := 0
  /-- 09 R227 | pages in T0 | 0 -/
  t0 : Nat := 0
  /-- 09 R227 | pages in T1 | 0 -/
  t1 : Nat := 0
  /-- 09 R227 | STALE | 0 -/
  stale : Bool := false
deriving DecidableEq, Repr

/-- A 1 GiB record (09 R228). -/
structure Rec1G where
  /-- 09 R228 | SUM | 0 -/
  sum : BitVec 32 := 0
  /-- 09 R228 | T0PAGES | 0 -/
  t0 : Nat := 0
  /-- 09 R228 | T1PAGES | 0 -/
  t1 : Nat := 0
  /-- 09 R228 | SAT | 0 -/
  sat : Nat := 0
  /-- 09 R228 | STALE | 0 -/
  stale : Bool := false
deriving DecidableEq, Repr

/-- Kinds of Sluice move (09). -/
inductive MoveKind where
  | promoteOnWrite | readPromote | demote | toT2
deriving DecidableEq, Repr

/-- A write held in a page buffer (06 R149, R151). -/
structure BufWrite where
  /-- 06 R149 | line of the page | n/a -/
  line : Nat := 0
  /-- 06 R149 | data | n/a -/
  data : Data := 0
  /-- 06 R149 | key ID | n/a -/
  key : KeyId := 0
  /-- 06 R151 | the entry poisons its line and carries no data | false -/
  poison : Bool := false
deriving DecidableEq, Repr

/-- A page being moved or promoted (01 R24, 09 R238, R240). -/
structure Move where
  /-- 09 | kind | n/a -/
  kind : MoveKind := .demote
  /-- 06 R149 | writes taken into the page buffer, oldest first | none -/
  buffer : List BufWrite := []
  /-- 01 R24 | transactions whose writes wait to be merged, in arrival order | none -/
  writers : List Nat := []
  /-- 06 R148 | snoops of the page unanswered: (node × 16 + head, line) | none -/
  snoops : List (Nat × Nat) := []
  /-- 09 R233 | T0 page drawn: MPA >> 12 | none -/
  dest : Option Nat := none
  /-- 08 R208 | the encode's result: none pending, some 16 RAW, some k slabs, some 0 failure | none -/
  result : Option Nat := none
  /-- 10 R261 | key ID of the page | n/a -/
  key : KeyId := 0
  /-- 06 R148 | lines whose lock another transaction held when the page was taken | none -/
  late : List Nat := []
  /-- 08 R210 | encode pipes whose attempt failed | none -/
  failed : List Nat := []
  /-- 09 R238 | writes in the page buffer when the page was encoded | 0 -/
  encLen : Nat := 0
  /-- 09 R243 | a write of the page is being spilled to a peer | false -/
  spill : Bool := false
  /-- 09 R240 | the peer and slab address allocated | none -/
  peer : Option (NodeId × Nat) := none
  /-- 09 R233, R240 | lines of the run received from a peer, by line of the run | none -/
  got : SMap Data := []
  /-- 09 R233, R240 | lines of the run asked of a peer, or sent to it, and not yet answered | none -/
  want : List Nat := []
deriving DecidableEq, Repr

/-- A frame pool of one interleave set (09 R222): first 2 MiB frame and number of frames. -/
structure Pool where
  /-- 09 R222 | 0 T0, 1 reserve, 2 donor, 3 slab | n/a -/
  kind : Nat := 0
  /-- 09 R222 | interleave set | n/a -/
  set : Nat := 0
  /-- 09 R222 | first frame, MPA >> 21 | n/a -/
  first : Nat := 0
  /-- 09 R222 | frames | n/a -/
  count : Nat := 0
deriving DecidableEq, Repr

/-- A slab frame in use (09 R223): its size class and the runs taken. -/
structure SlabFrame where
  /-- 09 R223 | size class 1-16 | n/a -/
  cls : Nat := 1
  /-- 09 R223 | runs taken | n/a -/
  used : List Nat := []
deriving DecidableEq, Repr

/-- Sluice (09). -/
structure Sluice where
  /-- 05 R124 | the DPM: PMEs by page number DPA >> 12 | all UNBACKED (R76 step 12) -/
  dpm : SMap Pme := []
  /-- 10 R261 | key ID of each page, kept in its frame record | none -/
  pageKey : SMap KeyId := []
  /-- 09 R227 | 2 MiB records by block | zero -/
  rec2 : SMap Rec2M := []
  /-- 09 R228 | 1 GiB records by block | zero -/
  rec1 : SMap Rec1G := []
  /-- 09 R222 | frame pools | none until load -/
  pools : List Pool := []
  /-- 09 R222 | T0 pages taken, by MPA >> 12 | none -/
  t0used : SMap Unit := []
  /-- 09 R243 | reserve pages taken | none -/
  rsvUsed : SMap Unit := []
  /-- 09 R244 | pages of the T0 pool that refill the reserve | none -/
  rsvExtra : List Nat := []
  /-- 09 R223 | slab frames in use by MPA >> 21 | none -/
  slabs : SMap SlabFrame := []
  /-- 13 R339 | donor-pool frames in use | none -/
  donor : SMap SlabFrame := []
  /-- 09 R222 | set from which the next T0 page is taken | 0 -/
  rot : Nat := 0
  /-- 09 R235 | pages queued for promotion, at most 256 | none -/
  promoQ : List Nat := []
  /-- 09 R244 | stalled writes with when each entered, at most 256 | none -/
  stallQ : List (Nat × Time) := []
  /-- 09 | pages in a move or PROMOTING, by page number | none -/
  moves : SMap Move := []
  /-- 09 R237 | watermark demotion running | false -/
  demoting : Bool := false
  /-- 09 R240 | T2 movement running | false -/
  toT2 : Bool := false
  /-- 09 R237 | rotating cursor of the block walk | 0 -/
  cursor : Nat := 0
  /-- 09 R243 | regions in capacity fault | none -/
  capFault : List Nat := []
  /-- 09 R241 | GiB granted to this node, by donor | none -/
  grants : SMap Nat := []
  /-- 09 R229 | TB when the current epoch began, in ns | 0 -/
  epochStart : Nat := 0
  /-- 14 R348 | epoch ends that fell while CCLK was stopped | 0 -/
  missedEpochs : Nat := 0
  /-- 09 R250 | nodes whose donated storage the Span has reported lost | none -/
  lost : List Nat := []
  /-- 09 R242 | when the last release request was sent | none -/
  lastAsk : Option Time := none
  /-- 09 R236 | bytes of page data moved in the current 100 µs, and its start | 0 -/
  moved : Nat × Time := (0, 0)
deriving DecidableEq, Repr

/-! ## Inlay -/

/-- A key slot (10 R262); STATE 0 FREE, 1 ACTIVE, 2 EXHAUSTED, 3 RETIRING, 4 RETIRED. -/
structure Slot where
  /-- 10 R262 | STATE | 0 FREE; 1 ACTIVE for key ID 0 -/
  state : Nat := 0
  /-- 10 R253 | MODE 0 MIX, 1 XTS, 2 BYPASS | 0 -/
  mode : Nat := 0
  /-- 10 R264 | owner path 0-17 | 0; 17 for key ID 0 -/
  owner : Nat := 0
  /-- 10 R268 | write counter, 52 bits | 0 -/
  count : Nat := 0
  /-- 10 R269 | ADVISED | 0 -/
  advised : Bool := false
  /-- 10 R275 | SIGFIX | 0 -/
  sigfix : Bool := false
  /-- 10 R262 | loads so far: names the present key | 0 -/
  load : Nat := 0
  /-- 10 R273 | fill ranges left: pointer and end, in bytes of DPA | none -/
  ranges : List (Nat × Nat) := []
  /-- 10 R273 | fill ranges were named | false -/
  hadRanges : Bool := false
deriving DecidableEq, Repr

/-- Inlay (10). -/
structure Inlay where
  /-- 10 R274 | key slots by key ID | FREE; key ID 0 ACTIVE MIX -/
  slots : SMap Slot := [(0, { state := 1, owner := 17 })]
  /-- 10 R266 | highest IV counter accepted, by session | none -/
  ivs : SMap Nat := []
  /-- 10 R259 | rerun times by engine (decrypt 0-3, encrypt 4-7) | none -/
  reruns : SMap (List Time) := []
  /-- 10 R270 | path that started the retirement in progress | none -/
  retirer : Option Path := none
  /-- 04 R106 | the retirement is to be aborted at its next step boundary (FLR of its head) | false -/
  aborted : Bool := false
deriving DecidableEq, Repr

/-! ## Drawers -/

/-- A submission ring (12 R298, R301): STATE 0 DISABLED, 1 ACTIVE, 2 PAUSED. -/
structure RingSt where
  /-- 12 R301 | STATE | 0 DISABLED -/
  state : Nat := 0
  /-- 12 R301 | CAUSE | 0 -/
  cause : Nat := 0
  /-- 12 R301 | disabling: waits for operations in flight | false -/
  closing : Bool := false
  /-- 12 R298 | SQ_TAIL | 0 -/
  sqTail : Nat := 0
  /-- 12 R298 | SQ_HEAD | 0 -/
  sqHead : Nat := 0
  /-- 12 R298 | CQ_TAIL | 0 -/
  cqTail : Nat := 0
  /-- 12 R298 | CQ_HEAD | 0 -/
  cqHead : Nat := 0
  /-- 08 R216 | input bytes of the open block | empty -/
  openBlock : List Byte := []
  /-- 12 R317 | records held while paused for BME_OFF | none -/
  held : List Nat := []
deriving DecidableEq, Repr

/-- An interrupt entry (12 R309). -/
structure IrqEntry where
  /-- 12 R309 | address | 0 -/
  addr : Word64 := 0
  /-- 12 R309 | data | 0 -/
  data : Word := 0
  /-- 12 R309 | MASK | 1 -/
  mask : Bool := true
  /-- 12 R309 | PEND | 0 -/
  pend : Bool := false
  /-- 12 R309 | VEC | 0 -/
  vec : Bool := false
deriving DecidableEq, Repr

/-- One line write of a drawer operation to device memory (12 R303). -/
structure DevWrite where
  /-- 12 R307 | byte offset within the operand | n/a -/
  off : Nat := 0
  /-- 12 R303 | address of the line: HPA, or DPA | n/a -/
  addr : Nat := 0
  /-- 07 R184 | data | n/a -/
  data : Data := 0
  /-- 07 R184 | byte enables | n/a -/
  be : ByteEn := 0
deriving DecidableEq, Repr

/-- A drawer operation in flight (12 R299, R313). -/
structure Op where
  /-- 12 | drawer | n/a -/
  drawer : Nat := 0
  /-- 12 | ring | n/a -/
  ring : Nat := 0
  /-- 12 R306 | slot in the submission ring | n/a -/
  index : Nat := 0
  /-- 12 R313 | generation under which it was fetched | n/a -/
  gen : Nat := 0
  /-- 12 R302 | the descriptor | n/a -/
  desc : Descriptor
  /-- 12 R307 | executed: status once known | none -/
  status : Option Nat := none
  /-- 12 R306 | IN | 0 -/
  inBytes : Nat := 0
  /-- 12 R306 | OUT | 0 -/
  outBytes : Nat := 0
  /-- 12 R306 | OPEN or DETAIL | 0 -/
  detail : Nat := 0
  /-- 12 R313 | requests outstanding to the host (tags) | none -/
  tags : List Nat := []
  /-- 12 R305 | started: its checks have passed | false -/
  started : Bool := false
  /-- 12 R307 | its host-memory read has been asked for | false -/
  asked : Bool := false
  /-- 12 R303 | source lines in device memory asked for so far, in order: DPA line, plus 2^40 × (home + 1) at a remote home | none -/
  lines : List Nat := []
  /-- 12 R303 | source lines that have come back, with their poison | none -/
  got : SMap (Data × Bool) := []
  /-- 12 R313 | device-memory requests outstanding | 0 -/
  outst : Nat := 0
  /-- 12 R304 | writes to device memory still to be issued | none -/
  todo : List DevWrite := []
  /-- 12 R306 | how the operation ends once its writes are done: STATUS, IN, OUT, OPEN or DETAIL | none -/
  plan : Option (Nat × Nat × Nat × Nat) := none
  /-- 08 R216 | the open block after a COMPRESS or FLUSH that succeeds | none -/
  newOpen : Option (List Byte) := none
  /-- 18 R437 | when it was fetched | n/a -/
  at_ : Time := 0
  /-- 14 R356 | stopped by a power-state entry: issues no request until the wake | false -/
  stopped : Bool := false
deriving DecidableEq, Repr

/-- A drawer (12); its registers stand in the register map. -/
structure Drawer where
  /-- 12 R301 | rings | all DISABLED -/
  rings : SMap RingSt := []
  /-- 12 R309 | interrupt entries | masked -/
  irqs : SMap IrqEntry := []
  /-- 12 R315 | RESETTING | false -/
  resetting : Bool := false
  /-- 12 R315 | when the drain began | 0 -/
  drainFrom : Time := 0
  /-- 12 R316 | a cause that unbinds joined the reset | false -/
  unbindAfter : Bool := false
  /-- 18 R437 | user counters 0-3, 64 bits | 0 -/
  userCtr : SMap Nat := []
deriving DecidableEq, Repr

/-- Drawer engines (12). -/
structure Drawers where
  /-- 12 | drawers by number | unbound; D0 at load -/
  drawers : SMap Drawer := []
  /-- 12 R299 | operations in flight, at most 4,096 | none -/
  ops : SMap Op := []
  /-- 12 | number of the next operation | 0 -/
  next : Nat := 0
  /-- 12 R293 | max_drawers of the Cut List | 256 -/
  maxDrawers : Nat := 256
deriving DecidableEq, Repr

/-! ## Heads -/

/-- An MSI-X table entry (04 R93-R94). -/
structure Msix where
  /-- 04 R90 | message address | 0 -/
  addr : Word64 := 0
  /-- 04 R90 | message data | 0 -/
  data : Word := 0
  /-- 04 R94 | vector mask | 1 (PRESUMED 13, PCIe) -/
  mask : Bool := true
deriving DecidableEq, Repr

/-- A CXL event record (16 R391). -/
structure EvRec where
  /-- 16 R391 | 0 General Media, 1 DRAM, 2 Memory Module, 3 Dynamic Capacity, 4 vendor-specific | n/a -/
  kind : Nat := 0
  /-- 16 R380 | fault register set that raised it | n/a -/
  set : Nat := 0
  /-- 16 R380 | class | n/a -/
  cls : Nat := 0
  /-- 07 R185 | address reported | n/a -/
  addr : Nat := 0
deriving DecidableEq, Repr

/-- One head (04). -/
structure HeadSt where
  /-- 04 R98 | presence code 0-3 | 0 -/
  presence : Nat := 0
  /-- 04 R71 | PERSTn_N asserted | true (the platform holds it, R78) -/
  perst : Bool := true
  /-- 14 R345 | PERSTn_N has been deasserted and the link has not trained since: the head votes P0 | false -/
  waking : Bool := false
  /-- 04 R102 | PME_Turn_Off received and PME_TO_Ack not yet sent: the lines still to be back-invalidated | none -/
  turnOff : Option (List Nat) := none
  /-- 04 R101 | the PME_Turn_Off exchange has completed | false -/
  notice : Bool := false
  /-- 14 R345 | D3cold | false -/
  d3cold : Bool := false
  /-- 04 R87-R90 | writable configuration dwords, by offset; unlisted ones read their reset value | reset -/
  cfg : SMap Word := []
  /-- 04 R90 | D3hot | false (D0) -/
  d3hot : Bool := false
  /-- 04 R93 | MSI-X table entries written | reset (R466) -/
  msix : SMap Msix := []
  /-- 04 R94 | PBA, 2,048 bits | 0 -/
  pba : BitVec 2048 := 0
  /-- 04 R108 | outstanding non-posted requests: tag to operation and when it was issued | none -/
  tags : SMap (Nat × Time) := []
  /-- 04 R108 | quarantined tags: when, and why: 0 timed out, 1 abandoned by R105, 2 + d squashed with drawer d (12 R315) | none -/
  quar : SMap (Time × Nat) := []
  /-- 04 R106 | configuration requests answered with CRS until the FLR completes | false -/
  crs : Bool := false
  /-- 04 R97 | DOE object in progress | none -/
  doe : List Byte := []
  /-- 04 R95 | IDE key set programmed for CXL.io, CXL.mem | none -/
  ideKeys : Bool × Bool := (false, false)
  /-- 16 R391 | event logs Informational, Warning, Failure, Fatal, each at most 256 records | empty -/
  logs : SMap (List EvRec) := []
  /-- 16 R391 | overflow counts of the four logs | 0 -/
  logOvf : SMap Nat := []
  /-- 04 R87 | Subsystem Vendor ID and Subsystem ID | 0x1F6E, 0x0000 (R88) -/
  subsys : Nat × Nat := (0x1F6E, 0)
  /-- 04 R104 | memory active indicated | false -/
  memActive : Bool := false
  /-- 04 R103 | lines poisoned by the removal in progress | 0 -/
  poisoned : Nat := 0
  /-- 04 R103 | drawers still draining for the removal or FLR in progress | none -/
  draining : List Nat := []
deriving DecidableEq, Repr

/-! ## Span -/

/-- A flit held for replay (13 R325): kind code of R322, and its sequence number. -/
structure FlitRec where
  /-- 13 R325 | SEQ | n/a -/
  seq : Byte := 0
  /-- 13 R322 | TYPE: 1 MSG, 2 HELLO, 3 LSA, 4 SPDM, 5 CTRL | n/a -/
  typ : Nat := 1
deriving DecidableEq, Repr

/-- A Span port (13); its registers stand in the register map. -/
structure Link where
  /-- 13 R325 | next SEQ to send | 0 -/
  txSeq : Byte := 0
  /-- 13 R325 | replay buffer, at most 64 flits | empty -/
  replay : List FlitRec := []
  /-- 13 R325 | replays of the oldest flit so far | 0 -/
  replays : Nat := 0
  /-- 13 R325 | retraining | false -/
  retraining : Bool := false
  /-- 13 R326 | stopped for narrowing | false -/
  narrowing : Bool := false
  /-- 13 R328 | peer's HELLO received since the link trained | false -/
  gotHello : Bool := false
  /-- 13 R328 | when the last HELLO arrived | 0 -/
  lastHello : Time := 0
  /-- 13 R330 | when AUTH was entered | 0 -/
  authFrom : Time := 0
  /-- 13 R330 | INCARN of the peer's last HELLO | none -/
  peerIncarn : Option Word := none
  /-- 13 R323 | BEMASK waiting for its WRP in the same flit | none -/
  mask : Option ByteEn := none
  /-- 13 R330 | SPDM fragments received | empty -/
  spdm : List Byte := []
  /-- 13 R330 | next fragment index expected | 0 -/
  spdmIdx : Nat := 0
deriving DecidableEq, Repr

/-- A held LSA (13 R332). -/
structure LsaRec where
  /-- 13 R332 | the announcement | n/a -/
  body : LsaBody
  /-- 13 R332 | when it was last refreshed | n/a -/
  at_ : Time := 0
deriving DecidableEq, Repr

/-- A forwarding entry (13 R335). -/
structure FwdEntry where
  /-- 13 R335 | source and destination | n/a -/
  src : NodeId := 0
  /-- 13 R335 | destination | n/a -/
  dest : NodeId := 0
  /-- 13 R334 | message class | n/a -/
  mc : Nat := 0
  /-- 13 R334 | hops | n/a -/
  hop : Nat := 0
  /-- 13 R335 | urgency | n/a -/
  urg : Nat := 0
  /-- 13 R334 | tags of the requests it carries | n/a -/
  tags : List (BitVec 12) := []
  /-- 13 R335 | when it began to wait | n/a -/
  since : Time := 0
  /-- 13 R341 | waits for a sleeping node's wake | false -/
  wake : Bool := false
deriving DecidableEq, Repr

/-- What a TAG of this node stands for (13 R336). -/
structure SpanReq where
  /-- 13 R338 | head that asked, none for Sluice | n/a -/
  head : Option Head := none
  /-- 13 R324 | opcode | n/a -/
  op : Nat := 1
  /-- 13 R323 | line number | n/a -/
  ln : Nat := 0
  /-- 13 R336 | when it was sent | n/a -/
  since : Time := 0
  /-- 13 R240 | page moved, for slab traffic | n/a -/
  page : Nat := 0
  /-- 13 R336 | failed: waiting for the tag's release | false -/
  failed : Bool := false
  /-- 01 R26 | drawer operation that waits, if any | none -/
  drw : Option Nat := none
deriving DecidableEq, Repr

/-- A home's snoop of heads of this node (13 R338). -/
structure PeerSnoop where
  /-- 13 R338 | home | n/a -/
  home : Nat := 0
  /-- 13 R323 | TAG of the snoop | n/a -/
  tag : Nat := 0
  /-- 13 R323 | HEAD of the snoop | n/a -/
  head : Nat := 0
  /-- 13 R323 | LN | n/a -/
  ln : Nat := 0
  /-- 13 R338 | heads that have not answered | n/a -/
  heads : List Nat := []
  /-- 13 R338 | highest state left so far | I -/
  best : MetaValue := .I
deriving DecidableEq, Repr

/-- The Span (13). -/
structure Span where
  /-- 13 R330 | ports | DOWN -/
  links : SMap Link := []
  /-- 13 R332 | link-state database by serial | empty -/
  db : SMap LsaRec := []
  /-- 13 R332 | AGE_SEQ of this node's next LSA | 0 (DESIGN CHOICE 8) -/
  ageSeq : BitVec 16 := 0
  /-- 13 R333 | next-hop port by destination | none -/
  routes : SMap Nat := []
  /-- 13 R340 | when each node's route was lost | none -/
  lostAt : SMap Time := []
  /-- 13 R340 | nodes reported unreachable | none -/
  unreach : List Nat := []
  /-- 13 R336 | requests outstanding by destination × 4096 + TAG | none -/
  tags : SMap SpanReq := []
  /-- 13 R335 | forwarding entries | none -/
  fwd : SMap FwdEntry := []
  /-- 13 R335 | number of the next forwarding entry | 0 -/
  next : Nat := 0
  /-- 13 R339 | GiB granted to others, by node | none -/
  grantsOut : SMap Nat := []
  /-- 13 R339 | runs held for others: first slab to (node, slabs) | none -/
  runs : SMap (NodeId × Nat) := []
  /-- 13 R329 | claim interval started | none -/
  claimFrom : Option Time := none
  /-- 13 R329 | back-off in progress: when it began and its length in µs | none -/
  backoff : Option (Time × Nat) := none
  /-- 13 R338 | snoops being collected for homes, by arrival number | none -/
  snoops : SMap PeerSnoop := []
  /-- 13 R338 | arrival number of the next such snoop | 0 -/
  snoopNext : Nat := 0
  /-- 13 R287 | a link has been admitted since cold reset | false -/
  admittedOnce : Bool := false
  /-- 13 R328 | this node has withdrawn from the Span (R385, R355) | false -/
  withdrawn : Bool := false
deriving DecidableEq, Repr

/-! ## Wellhead: power, fuse, Witness -/

/-- What waits for a wake (14 R358): a request, doorbell or access of a path or of the TAP; a Span message by its opcode
(13 R324); the byte-enable mask of a write; a flit to forward. -/
inductive Held where
  | cmd (c : Instr)
  | span (op : Nat) (m : SpanMsg)
  | mask (port : Port) (be : ByteEn)
  | fwd (port : Port) (src dest : NodeId) (mc hop urg : Nat) (tags : List (BitVec 12))
deriving DecidableEq, Repr

/-- Power controller (14); its registers stand in the register map. -/
structure Power where
  /-- 14 R355, R347 | state being entered; in an excursion, the state it left or gave up entering | 0 -/
  goal : Nat := 0
  /-- 14 R356 | when the entry began | 0 -/
  entryFrom : Time := 0
  /-- 14 R349, R352 | trigger that an access has raised, acted on at the next WCLK step: source and head | none -/
  latched : Option (Nat × Nat) := none
  /-- 14 R351 | wake step in progress, 0 none | 0 -/
  wakeStep : Nat := 0
  /-- 14 R354 | the step is being rerun | false -/
  rerun : Bool := false
  /-- 14 R354 | out of service until a reset | false -/
  failed : Bool := false
  /-- 14 R358 | requests, doorbells, accesses and Span traffic that arrived after the commit, in order of arrival | none -/
  held : List Held := []
  /-- 14 R352 | time the wake in progress has taken up to its present step, in ns | 0 -/
  wakeNs : Nat := 0
  /-- 14 R351 | when the wake step in progress began | 0 -/
  stepFrom : Time := 0
  /-- 03 R60 | when TB stopped | 0 -/
  tbStop : Time := 0
  /-- 14 R347 | when the device last became idle | 0 -/
  idleFrom : Time := 0
  /-- 14 R355 | Bench state saved | false -/
  saved : Bool := false
  /-- 14 R351 | links to be returned to L0: heads up before entry | none -/
  wasUp : List Nat := []
  /-- 14 R350 | SB_SCL held low | false -/
  sclHeld : Bool := false
  /-- 14 R350 | when it was first held | 0 -/
  sclFrom : Time := 0
  /-- 03 R74 | WARM_RESET waiting for an entry or retirement to end | none -/
  warmWait : Option Path := none
  /-- 17 R422 | debug vote as written, 15 abstain | 15 -/
  dbgVote : Nat := 15
deriving DecidableEq, Repr

/-- Inrush and fuse controller (15); its registers stand in the register map. -/
structure Ifc where
  /-- 15 R366 | armed with a curve (step 3 of R76) | false -/
  armed : Bool := false
  /-- 15 R369 | IFC_EN level | false (DESIGN CHOICE 8) -/
  en : Bool := false
  /-- 15 R375 | when IFC_EN fell, or the trip that its fall coincided with | none -/
  lowFrom : Option Time := none
  /-- 04 R99 | when MS_POWER.CMD = 1 was taken: the gate turns off 1 ms later | none -/
  offFrom : Option Time := none
  /-- 15 R369 | state 3 was entered from state 2 | false -/
  fromOn : Bool := false
  /-- 15 R371 | curve timers 0-7 in WCLK steps | 0 -/
  timers : List Nat := [0, 0, 0, 0, 0, 0, 0, 0]
  /-- 15 R369 | WCLK steps qualified so far | 0 -/
  qual : Nat := 0
  /-- 15 R370 | WCLK steps of the ramp timer | 0 -/
  ramp : Nat := 0
  /-- 15 R372 | WCLK steps of undervoltage | 0 -/
  under : Nat := 0
  /-- 15 R367 | thermal-model rises of the three stages, kelvin | 0 -/
  rise : List Rat := [0, 0, 0]
  /-- 15 R367 | T_FET in half degrees | 0 -/
  tfet : Int := 0
  /-- 15 R367 | reference temperature, half degrees | 0 (DESIGN CHOICE 8) -/
  ref : Int := 0
  /-- 15 R368 | open or short readings in a row | 0 -/
  diodeBad : Nat := 0
  /-- 15 R368 | diode abandoned until Wellhead power-on reset | false -/
  diodeDead : Bool := false
  /-- 15 R375 | REARM hold-off running since | none -/
  rearmFrom : Option Time := none
  /-- 15 R366 | VIN of the last sample in mV | 0 -/
  vin : Nat := 0
  /-- 15 R344 | P4 (Dry) holds the gate off | false -/
  dry : Bool := false
deriving DecidableEq, Repr

/-- A Witness record (16 R394). -/
structure WitRec where
  /-- 16 R394 | KIND 0 FAULT, 1 BURST, 2 LOST, 3 RECOVERY, 4 MARKER | n/a -/
  kind : Nat := 0
  /-- 16 R394 | LEVEL | n/a -/
  level : Nat := 0
  /-- 16 R394 | ESC | n/a -/
  esc : Bool := false
  /-- 16 R394 | TIME in µs | n/a -/
  time : Nat := 0
  /-- 16 R394 | POWERON | n/a -/
  poweron : Nat := 0
  /-- 16 R394 | BOOTS | n/a -/
  boots : Nat := 0
  /-- 16 R394 | BLOCK | n/a -/
  block : Nat := 0
  /-- 16 R394 | CLASS | n/a -/
  cls : Nat := 0
  /-- 16 R394 | UNIT | n/a -/
  unit : Nat := 255
  /-- 16 R394 | COUNT | n/a -/
  count : Nat := 1
  /-- 16 R394 | SYNDROME | n/a -/
  syndrome : BitVec 96 := 0
  /-- 16 R394 | ADDR | n/a -/
  addr : Word64 := 0
  /-- 16 R394 | AUX | n/a -/
  aux : Word64 := 0
  /-- 16 R394 | TB | n/a -/
  tb : Nat := 0
  /-- 16 R394 | SEQ | n/a -/
  seq : Nat := 0
  /-- 16 R394 | CRC | n/a -/
  crc : Word := 0
deriving DecidableEq, Repr

/-- A coalescing window (16 R392). -/
structure WitWin where
  /-- 16 R392 | when it opened | n/a -/
  from_ : Time := 0
  /-- 16 R392 | reports counted | 0 -/
  count : Nat := 0
  /-- 16 R392 | first counted report, with the highest level and ESC reached | none -/
  first : Option WitRec := none
deriving DecidableEq, Repr

/-- The Witness engine and its flash (16). -/
structure Witness where
  /-- 16 R396 | flash slots written, by slot number | empty: never formatted (DESIGN CHOICE 9) -/
  flash : SMap WitRec := []
  /-- 16 R393 | staging SRAM, oldest first, at most 128 | empty -/
  staging : List WitRec := []
  /-- 16 R392 | open windows by block code × 32 + class code | none -/
  windows : SMap WitWin := []
  /-- 16 R393 | reports lost, by block, not yet in a LOST record | none -/
  lost : SMap Nat := []
  /-- 16 R396 | sectors erased and ready | none -/
  erased : List Nat := []
  /-- 16 R396 | sector being erased | none -/
  erasing : Option Nat := none
  /-- 16 R399 | bad sectors, until Wellhead power-on reset | none -/
  bad : List Nat := []
  /-- 16 R394 | CRC of the last record written | 0 -/
  lastCrc : Word := 0
  /-- 16 R394 | POWERON of the log | 0 -/
  poweron : Nat := 0
  /-- 16 R397 | the flash answers at probe (board) | true (DESIGN CHOICE 9) -/
  fitted : Bool := true
  /-- 16 R396 | SEQ of the oldest record in flash or staging | none -/
  oldest : Nat := 0
deriving DecidableEq, Repr

/-! ## Security, boot, clocks -/

/-- An SPDM session (17 R411). -/
structure Session where
  /-- 17 R411 | path, 0-17 | n/a -/
  path : Nat := 0
  /-- 17 R411 | session ID | n/a -/
  id : Word := 0
  /-- 17 R411 | FINISH accepted | false -/
  live : Bool := false
  /-- 17 R411 | keys updated so far | 0 -/
  updates : Nat := 0
deriving DecidableEq, Repr

/-- Fuses and non-volatile stores (17 R405, R410; 02 R47; 04 R88). -/
structure NonVol where
  /-- 17 R405 | three copies of fuse M | unblown (DESIGN CHOICE 9) -/
  fM : BitVec 3 := 0
  /-- 17 R405 | three copies of fuse D | unblown (DESIGN CHOICE 9) -/
  fD : BitVec 3 := 0
  /-- 17 R405 | three copies of fuse P | unblown (DESIGN CHOICE 9) -/
  fP : BitVec 3 := 0
  /-- 17 R405 | three copies of fuse T | unblown (DESIGN CHOICE 9) -/
  fT : BitVec 3 := 0
  /-- 17 R405 | three copies of fuse X | unblown (DESIGN CHOICE 9) -/
  fX : BitVec 3 := 0
  /-- 02 R40 | owner key digests enrolled, slots 1-4 at 0-3 | none (DESIGN CHOICE 9) -/
  owners : SMap (BitVec 384) := []
  /-- 02 R40 | owner slots revoked, bits 0-3 | 0 (DESIGN CHOICE 9) -/
  revoked : BitVec 4 := 0
  /-- 02 R52 | fused Cut List rollback counter, 0-255 | 0 (DESIGN CHOICE 9) -/
  cutFused : Nat := 0
  /-- 17 R410 | fused firmware rollback counter, 0-255 | 0 (DESIGN CHOICE 9) -/
  fwFused : Nat := 0
  /-- 17 R414 | device serial number | 0 (DESIGN CHOICE 9) -/
  serial : Word64 := 0
  /-- 17 R406 | the device secret is intact | true -/
  secretOk : Bool := true
  /-- 02 R47 | Cut List slot A | erased (DESIGN CHOICE 9) -/
  cutA : List Byte := []
  /-- 02 R47 | Cut List slot B | erased (DESIGN CHOICE 9) -/
  cutB : List Byte := []
  /-- 17 R410 | firmware slot A | erased (DESIGN CHOICE 9) -/
  fwA : List Byte := []
  /-- 17 R410 | firmware slot B | erased (DESIGN CHOICE 9) -/
  fwB : List Byte := []
  /-- 04 R88 | board record | erased (DESIGN CHOICE 9) -/
  board : List Byte := []
  /-- 17 R409 | identity certificate present and matching | false (DESIGN CHOICE 9) -/
  idCert : Bool := false
deriving DecidableEq, Repr

/-- Root of trust, debug and TAP (17); its registers stand in the register map. -/
structure Sec where
  /-- 17 R417 | outstanding nonce and when it was drawn | none -/
  nonce : Option (BitVec 256 × Time) := none
  /-- 17 R420 | end of the debug session | none -/
  dbgUntil : Option Time := none
  /-- 17 R411 | SPDM sessions | none -/
  sessions : List Session := []
  /-- 17 R411 | paths whose SPDM connection is negotiated: version, capabilities, algorithms | 0 -/
  spdm : SMap Nat := []
  /-- 17 R412 | block 5 as of the last cold reset: lifecycle, fused counters, enrolled and revoked owner slots | none -/
  raw5 : List Nat := []
  /-- 17 R412 | live chain, block 4 | 0 -/
  chain : BitVec 384 := 0
  /-- 17 R418 | TAP instruction register | 0x02 IDCODE (PRESUMED 39: IEEE 1149.1) -/
  ir : Byte := 0x02
  /-- 17 R418 | the last instruction was refused | false -/
  refused : Bool := false
  /-- 17 R421 | a TOKEN, NONCE or BDBG access stalls until P1 or P0 | false -/
  waiting : Bool := false
  /-- 17 R421 | BDBG selected | false -/
  bdbg : Bool := false
deriving DecidableEq, Repr

/-- The Cut List loaded (02). -/
structure Cut where
  /-- 02 R50 | bytes of the loaded image | none -/
  image : List Byte := []
  /-- 02 R43 | structural digest of the running image | 0 -/
  digest : BitVec 384 := 0
  /-- 02 R49 | image streamed, to load at the re-cut under way | none -/
  streamed : Option (List Byte) := none
  /-- 02 R41 | WAKE records in force: state × 16 + step to (action, delay, min, max) | none -/
  wakeDefs : SMap (Nat × Nat × Nat × Nat) := []
  /-- 19 R440 | OPPOINT records: rail to (mv, min, max) | none -/
  oppoint : SMap (Nat × Nat × Nat) := []
  /-- 19 R445 | BALLS settings by group | 0, 0, 1 -/
  balls : SMap Nat := [(2, 1)]
deriving DecidableEq, Repr

/-- Start-up, resets and clocks (03). -/
structure Boot where
  /-- 03 R76 | last start-up step completed, 0-13 | 0 -/
  step : Nat := 0
  /-- 17 R410 | firmware running | false -/
  fwUp : Bool := false
  /-- 17 R410 | slot of the running firmware: 0 A, 1 B | 0 -/
  fwSlot : Nat := 0
  /-- 20 R465 | firmware restart in progress | false -/
  fwRestart : Bool := false
  /-- 16 R385 | device-fatal handling | false -/
  fatal : Bool := false
  /-- 03 R72 | a warm reset is under way until the links retrain | false -/
  warm : Bool := false
  /-- 03 R71 | main rails lost | false -/
  railsLost : Bool := false
  /-- 03 R31 | on-demand units: 0 stopped, 1 starting, 2 running | pinned, running (R62) -/
  units : SMap Nat := [(0, 2), (1, 2), (2, 2)]
  /-- 03 R31 | when each unit became idle | 0 -/
  unitIdle : SMap Time := []
  /-- 03 R65 | crossings the Cut List sets FAST, bits 0-14 | 0 (R62) -/
  fast : BitVec 15 := 0
  /-- 03 R65 | PLLs that lost lock (0 core, 1 Press, 2-4 DRAM groups): none while relocking, then when each relocked, for 1 ms | none -/
  relock : SMap (Option Time) := []
  /-- 03 R81 | AVSBus acknowledged voltages before a margin test | 0 -/
  savedMv : Nat := 0
  /-- 03 R80 | core clock in MHz | 0 -/
  cclkMhz : Nat := 0
deriving DecidableEq, Repr

/-- A dyed request's record (18 R435). -/
structure DyeRec where
  /-- 18 R435 | TB0 | n/a -/
  tb0 : Nat := 0
  /-- 18 R435 | DELTA1-DELTA7 | n/a -/
  delta : List Nat := []
  /-- 18 R435 | SRC | n/a -/
  src : Nat := 0
  /-- 18 R435 | ATTR | n/a -/
  attr : Nat := 0
  /-- 18 R435 | CH | n/a -/
  ch : Nat := 255
  /-- 18 R435 | LOAD | n/a -/
  load : Nat := 0
  /-- 18 R435 | DPA | n/a -/
  dpa : Nat := 0
  /-- 18 R435 | SEQ | n/a -/
  seq : Nat := 0
  /-- 18 R435 | NODE | n/a -/
  node : Nat := 0
  /-- 18 R435 | ABORTED | n/a -/
  aborted : Bool := false
deriving DecidableEq, Repr

/-- PMU (18); its counters stand in the register map. -/
structure Pmu where
  /-- 18 R433 | LFSR | 1 -/
  lfsr : BitVec 32 := 1
  /-- 18 R436 | dye records, oldest first, at most 256 with the slots reserved | empty -/
  dye : List DyeRec := []
  /-- 18 R433 | slots reserved by dyed requests in flight | 0 -/
  reserved : Nat := 0
  /-- 18 R435 | next dye number | 0 -/
  seq : Nat := 0
deriving DecidableEq, Repr

/-- Fault state beyond the fault registers (16 R387-R388), by set × 16 + class or by set. -/
structure Faults where
  /-- 16 R387 | when each class's quiet time last restarted | none -/
  quiet : SMap Time := []
  /-- 16 R388 | times of the recoveries of each set | none -/
  hist : SMap (List Time) := []
deriving DecidableEq, Repr

/-! ## What the block sends out -/

/-- CXL return codes of mailbox and MCTP commands (02 R50, 10 R264, 17 R415, 20 R465). -/
inductive Rc where
  | success | background | unsupported | invalidInput | invalidSecurityState | busy | internalError | resourcesExhausted | retry
deriving DecidableEq, Repr

/-- A command of a DDR5 subchannel (07 R165). -/
inductive DramCmd where
  | act (row : Nat) | pre | rd | rdAp | wr | wrAp | refAb | refSb | rfm | drfm (row : Nat) | srEntry | srExit | zqCal
deriving DecidableEq, Repr

/-- What one command puts on the pins and links; each constructor is one kind of message or pin event. -/
inductive Out where
  /-- S2M data response (04, 11 R291) -/
  | drs (h : Head) (ln : Nat) (data : Data) (poison : Bool) (devload : Nat)
  /-- S2M completion; poisoned when the write was refused so -/
  | ndr (h : Head) (ln : Nat) (poison : Bool) (devload : Nat)
  /-- BISnpInv or BISnpData to a local head -/
  | bisnp (h : Head) (ln : Nat) (inv : Bool)
  | biConflictAck (h : Head) (ln : Nat)
  /-- MSI-X message -/
  | msix (h : Head) (v : Nat)
  /-- interrupt entry of a drawer: a memory write without PASID -/
  | irqWrite (h : Head) (addr : Word64) (data : Word)
  /-- mailbox or MCTP answer -/
  | reply (p : Path) (rc : Rc) (payload : List Nat)
  /-- data of a register read -/
  | regData (p : Path) (val : Word64)
  /-- read of host memory by a drawer -/
  | dmaRead (h : Head) (pasid : BitVec 20) (addr : Word64) (len : Nat) (tag : Nat)
  | dmaWrite (h : Head) (pasid : BitVec 20) (addr : Word64) (bytes : List Byte)
  /-- a completion record (12 R306) -/
  | record (d : DrawerId) (r : Nat) (id : Word) (index status flags inB outB detail gen tb : Nat)
  /-- a Span message to a destination node, with its opcode of R324 -/
  | span (dest : NodeId) (op : Nat) (m : SpanMsg)
  | helloFlit (port : Port)
  | lsaFlood (b : LsaBody)
  | lsaForward (port : Port) (b : LsaBody)
  | ctrlNak (port : Port) (seq : Byte)
  | ctrlNarrow (port : Port) (keep : Byte)
  | replayFrom (port : Port) (seq : Byte)
  | retrain (port : Port)
  | forwarded (port : Nat) (dest : NodeId) (hop urg : Nat)
  | wakeOut (port : Port)
  | dramCmd (ch : Chan) (sub : Bool) (bank : Nat) (c : DramCmd)
  | avsCmd (rail : Nat) (mv : Nat)
  | witErase (sector : Nat)
  | witProgram (slot : Nat)
  | viral (h : Head)
  | pmeToAck (h : Head)
  | spdm (p : Path) (code : Nat) (body : List Nat)
  | spdmError (p : Path) (code : Nat)
  | doe (h : Head) (body : List Nat)
  | tdo (w : Nat) (v : Nat)
  | sbAck | sbNack
  | cfgErr (h : Head)
  /-- Unsupported Request completion of a read of a BAR (04 R89) -/
  | barUr (h : Head)
deriving DecidableEq, Repr

/-! ## The whole state -/

/-- Reasons a step stops with a fault. The spec gives every command an effect in every state, so none is raised:
the type has one constructor, which no meaning returns (safe). -/
inductive Fault where
  /-- never raised -/
  | none
deriving DecidableEq, Repr

/-- Reasons a step gives a command no meaning. -/
inductive Refusal where
  /-- An arm of Dispatch.lean that has no meaning yet (safe: nothing is claimed of it). -/
  | notModelled (mnemonic : String)
deriving DecidableEq, Repr

/-- The state of the block. -/
structure State where
  /-- model | commands waiting, first in first out | empty -/
  pending : List Instr := []
  /-- model | outputs of the last command | none -/
  out : List Out := []
  /-- model | counter of free values drawn (assumption 4); the model's own field | 0 (DESIGN CHOICE 4) -/
  free : Nat := 0
  /-- 16 R394, 03 R58 | WCLK steps since Wellhead power-on reset | 0 -/
  wclk : Time := 0
  /-- 03 R60 | timebase TB in ns | 0 -/
  tb : Nat := 0
  /-- 20 R457, R463 | register map: the value of every register field (select registers: one per path) under `fldKey`; an unlisted field reads its reset value | reset -/
  regs : SMap Nat := []
  /-- 20 R460 | holding register of 64-bit reads, by path | 0 -/
  hold : SMap Word64 := []
  /-- model | times that DRAM contents have been lost: names what unwritten lines hold (assumption 7); the model's own field | 0 (DESIGN CHOICE 7) -/
  dramLoss : Nat := 0
  /-- 07 R179 | DRAM lines by MPA line number | nothing written (R467) -/
  dram : SMap Line := []
  /-- 03 | start-up, resets and clocks -/
  boot : Boot := {}
  /-- 17, 02, 04 | fuses and flash -/
  nv : NonVol := {}
  /-- 02 | Cut List -/
  cut : Cut := {}
  /-- 04 | heads by number -/
  heads : SMap HeadSt := []
  /-- 05 | decode and page map -/
  dec : Dec := {}
  /-- 06 | coherence -/
  coh : Coh := {}
  /-- 07 | channels by number -/
  chans : SMap Channel := []
  /-- 08 | Press -/
  press : Press := {}
  /-- 09 | Sluice -/
  slc : Sluice := {}
  /-- 10 | Inlay -/
  inl : Inlay := {}
  /-- 12 | drawers -/
  drw : Drawers := {}
  /-- 13 | Span -/
  spn : Span := {}
  /-- 14 | power controller -/
  pwr : Power := {}
  /-- 15 | fuse controller -/
  ifc : Ifc := {}
  /-- 16 | Witness engine -/
  wit : Witness := {}
  /-- 16 | fault state -/
  flt : Faults := {}
  /-- 17 | security -/
  sec : Sec := {}
  /-- 18 | PMU -/
  pmu : Pmu := {}
  /-- 19 R454 | THERMTRIP_N driven low | false -/
  thermtrip : Bool := false
deriving DecidableEq, Repr

/-- The part as Wellhead power-on reset leaves it, before 3.3 V auxiliary power is good: every field at its reset value. -/
def State.reset : State := {}

end Sys2Proof.Machine
end

