-- ==== Sys2Proof/Machine/Flags.lean ====
section
/-! DEFINITION. Fault classes and levels (16 R380-R383 and the class tables of every chapter), and the block codes. A fault
register set is numbered by its MSI-X vector of 04 R93: 0 GLB ... 5-16 DMC0-DMC11 ... 30 BEN. -/

namespace Sys2Proof.Machine

open Sys2Proof

/-- Fault set numbers by name (04 R93). -/
def setGLB : Nat := 0
def setCUT : Nat := 1
def setHP : Nat := 2
def setDEC : Nat := 3
def setCOH : Nat := 4
def setDMC (c : Nat) : Nat := 5 + c
def setPRS : Nat := 17
def setSLC : Nat := 18
def setINL : Nat := 19
def setWEIR : Nat := 20
def setDRW : Nat := 21
def setSPN : Nat := 22
def setPWR : Nat := 23
def setIFC : Nat := 24
def setWIT : Nat := 25
def setSEC : Nat := 26
def setPMU : Nat := 27
def setCLK : Nat := 28
def setTST : Nat := 29
def setBEN : Nat := 30

/-- Block code of a fault set (16 R380). -/
def blockOf (set : Nat) : Nat :=
  if set ≤ 4 then set else if set ≤ 16 then 5
  else match set with
    | 17 => 6 | 18 => 7 | 19 => 8 | 20 => 9 | 21 => 10 | 22 => 11 | 23 => 12 | 24 => 13 | 25 => 14 | 26 => 15
    | 27 => 16 | 28 => 17 | 29 => 18 | _ => 19

/-- Fault set of a block code; of the DMC, the channel's. -/
def setOf (block unit : Nat) : Nat :=
  if block ≤ 4 then block else if block = 5 then 5 + unit % 12
  else match block with
    | 6 => 17 | 7 => 18 | 8 => 19 | 9 => 20 | 10 => 21 | 11 => 22 | 12 => 23 | 13 => 24 | 14 => 25 | 15 => 26
    | 16 => 27 | 17 => 28 | 18 => 29 | _ => 30

/-- Base levels of a block's classes, class code 1 first (the class tables of 02-18 and 20). -/
def classLevels : Nat → List Nat
  | 0 => [0, 3]                              -- GLB R465
  | 1 => [0, 0, 2, 0]                        -- CUT R57
  | 2 => [2, 0]                              -- HP R109; SURPRISE takes the report's level
  | 3 => [0, 0, 0, 0, 0, 1]                  -- DEC R128
  | 4 => [0, 0, 3, 3, 1, 2, 0, 0]            -- COH R160; REMOTE_LOSS takes the report's level
  | 5 => [0, 1, 0, 1, 0, 2, 2, 2, 0, 0, 0]   -- DMC R191
  | 6 => [0, 0, 1, 2, 2, 3, 1, 0]            -- PRS R218
  | 7 => [0, 1, 2, 0, 0, 2, 1]               -- SLC R252
  | 8 => [0, 0, 0, 1, 2, 3, 0, 1, 3]         -- INL R276
  | 9 => [2, 0]                              -- WEIR R292
  | 10 => [0, 0, 0, 0, 0, 1]                 -- DRW R319
  | 11 => [0, 2, 2, 0, 2, 2, 0, 1, 1, 1]     -- SPN R342
  | 12 => [0, 2, 3, 0, 0]                    -- PWR R364
  | 13 => [3, 0, 2, 0]                       -- IFC R379
  | 14 => [0, 0, 2, 2, 1]                    -- WIT R404
  | 15 => [0, 1, 1, 0, 3, 0, 2]              -- SEC R423
  | 16 => [0]                                -- PMU R438
  | 17 => [0, 1, 2, 2, 2]                    -- CLK R83
  | 18 => [0, 3]                             -- TST R465
  | 19 => [0, 2, 2, 0]                       -- BEN R465
  | _ => []

/-- Classes that never escalate, by block (the class tables; 16 R382). -/
def neverEscalates : Nat → List Nat
  | 1 => [1]
  | 3 => [1, 2, 3, 4]
  | 4 => [7]
  | 5 => [1, 3]
  | 6 => [8]
  | 8 => [1, 2]
  | 9 => [1]
  | 10 => [1, 2]
  | 11 => [4]
  | 14 => [5]
  | 15 => [1, 3]
  | 19 => [4]
  | _ => []

/-- Base level of a class: SURPRISE (04 R109) and REMOTE_LOSS (06 R160) are L0 or L1 as the
report says; a code of no class takes the report's level. -/
def baseLevel (block code given : Nat) : Nat :=
  if block = 2 ∧ code = 2 then min given 1
  else if block = 4 ∧ code = 8 then min given 1
  else (classLevels block).getD (code - 1) given

/-- Where a class stands before a report: out of fault state, or at a level, acknowledged or not. -/
structure ClassSt where
  inFault : Bool
  level : Nat
  unack : Bool
deriving DecidableEq, Repr

/-- The level a report takes its class to, and whether the report escalates (16 R382). -/
def nextLevel (c : ClassSt) (base : Nat) (escalates : Bool) : Nat × Bool :=
  if !c.inFault then (base, false)
  else if !c.unack then (max c.level base, false)
  else if escalates then
    let cap := if base = 0 then 2 else 3
    let l := max c.level (min (c.level + 1) cap)
    (l, decide (c.level < l))
  else (c.level, false)

/-- Two-bit field number `i` of a word (`FLT_LEVEL`, presence codes). -/
def get2 (w i : Nat) : Nat := (w >>> (2 * i)) % 4

/-- Set two-bit field number `i` of a word. -/
def set2 (w i v : Nat) : Nat := w - (get2 w i <<< (2 * i)) + ((v % 4) <<< (2 * i))

end Sys2Proof.Machine
end

