-- ==== Sys2Proof/Machine/Ops.lean ====
section
/-! DEFINITION. The shared operations: register fields, outputs, free values, parts of the state by number, interrupts
(04 R93-R94), event records (16 R391), the Witness staging (16 R392-R394) and the fault report (16 R382-R390). -/

namespace Sys2Proof.Machine

open Sys2Proof

/-! ## Register fields -/

/-- Value of one instance of a register field. -/
def State.fget (s : State) (f : Fld) (i : Nat := 0) : Nat := smGet s.regs (fldKey f i) (fldReset f i)

/-- Set one instance of a register field; the value is cut to the field's width. -/
def State.fset (s : State) (f : Fld) (i v : Nat) : State :=
  { s with regs := smPut s.regs (fldKey f i) (fldReset f i) (v % 2 ^ f.width) }

/-- Is a one-bit field set? -/
def State.fone (s : State) (f : Fld) (i : Nat := 0) : Bool := s.fget f i == 1

/-- Set a one-bit field. -/
def State.fbit (s : State) (f : Fld) (i : Nat) (b : Bool) : State := s.fset f i b.toNat

/-- Add to a saturating counter field. -/
def State.fadd (s : State) (f : Fld) (i n : Nat) : State := s.fset f i (min (2 ^ f.width - 1) (s.fget f i + n))

/-- Count one event in a saturating counter field. -/
def State.finc (s : State) (f : Fld) (i : Nat := 0) : State := s.fadd f i 1

/-- Take one off a counter field, not below 0. -/
def State.fdec (s : State) (f : Fld) (i : Nat := 0) : State := s.fset f i (s.fget f i - 1)

/-- Bit n of a bit-per-item field. -/
def State.fbitAt (s : State) (f : Fld) (i n : Nat) : Bool := (s.fget f i).testBit n

/-- Set or clear bit n of a bit-per-item field. -/
def State.fputBit (s : State) (f : Fld) (i n : Nat) (b : Bool) : State := s.fset f i (withBit (s.fget f i) n b)

/-- Raise a high-water field to a value (20 R461). -/
def State.fpeak (s : State) (f : Fld) (i v : Nat) : State := if s.fget f i < v then s.fset f i v else s

/-- A timer field under a rule of the kind "values below m act as m". -/
def State.fmin (s : State) (f : Fld) (m : Nat) (i : Nat := 0) : Nat := max m (s.fget f i)

/-! ## Outputs and free values -/

/-- Start a command: the outputs of the last command are gone. -/
def State.clearOut (s : State) : State := { s with out := [] }

/-- Put something on the pins or links. -/
def State.emit (s : State) (o : Out) : State := { s with out := s.out ++ [o] }

/-- The next free value of `w` bits (assumption 4). -/
def State.freeVal (s : State) (w : Nat) : BitVec w := Config.freeBits w s.free

/-- Take the free value just read, so that the next one is another. -/
def State.freeTaken (s : State) : State := { s with free := s.free + 1 }

/-- The outcome of a command that has no path to the fuses and the flash images of 02 R47 and 17 R405-R410, nor to the queue. -/
def volatile (f : State → State) (s : State) : Host.Outcome State Fault Refusal :=
  .next { f s.clearOut with nv := s.nv, pending := s.pending }

/-- The outcome of a command that may change the fuses or flash images; not the queue. -/
def lasting (f : State → State) (s : State) : Host.Outcome State Fault Refusal :=
  .next { f s.clearOut with pending := s.pending }

/-- An effect with no path to the fuses and the flash images, inside a command that has one. -/
def State.keepNv (s : State) (f : State → State) : State := { f s with nv := s.nv }

/-- Apply a function for each member of a list, in order. -/
def State.each {α : Type} (s : State) (l : List α) (f : α → State → State) : State := l.foldl (fun s a => f a s) s

/-! ## Time (assumption 2) -/

/-- WCLK steps of n microseconds. -/
def usT (n : Nat) : Nat := 4 * n

/-- WCLK steps of n milliseconds. -/
def msT (n : Nat) : Nat := 4000 * n

/-- WCLK steps of n seconds. -/
def secT (n : Nat) : Nat := 4000000 * n

/-- Has a time passed since a moment? -/
def State.elapsed (s : State) (from_ span : Nat) : Bool := decide (from_ + span ≤ s.wclk)

/-- An access from a head, the sideband or the Span: the device is not idle (14 R347). -/
def State.active (s : State) : State := { s with pwr := { s.pwr with idleFrom := s.wclk } }

/-! ## Parts by number -/

/-- A head. -/
def State.head (s : State) (h : Nat) : HeadSt := smGet s.heads h {}

/-- Change a head. -/
def State.modHead (s : State) (h : Nat) (f : HeadSt → HeadSt) : State := { s with heads := smMod s.heads h {} f }

/-- A channel. -/
def State.chan (s : State) (c : Nat) : Channel := smGet s.chans c {}

/-- Change a channel. -/
def State.modChan (s : State) (c : Nat) (f : Channel → Channel) : State := { s with chans := smMod s.chans c {} f }

/-- A transaction. -/
def State.txn? (s : State) (t : Nat) : Option Txn := smFind? s.coh.txns t

/-- Change a transaction that exists. -/
def State.modTxn (s : State) (t : Nat) (f : Txn → Txn) : State :=
  { s with coh := { s.coh with txns := smAdj s.coh.txns t f } }

/-- A key slot. -/
def State.slot (s : State) (k : Nat) : Slot := smGet s.inl.slots k {}

/-- Change a key slot. -/
def State.modSlot (s : State) (k : Nat) (f : Slot → Slot) : State :=
  { s with inl := { s.inl with slots := smMod s.inl.slots k {} f } }

/-- A drawer. -/
def State.drawer (s : State) (d : Nat) : Drawer := smGet s.drw.drawers d {}

/-- Change a drawer. -/
def State.modDrawer (s : State) (d : Nat) (f : Drawer → Drawer) : State :=
  { s with drw := { s.drw with drawers := smMod s.drw.drawers d {} f } }

/-- A ring of a drawer. -/
def State.ring (s : State) (d r : Nat) : RingSt := smGet (s.drawer d).rings r {}

/-- Change a ring of a drawer. -/
def State.modRing (s : State) (d r : Nat) (f : RingSt → RingSt) : State :=
  s.modDrawer d fun x => { x with rings := smMod x.rings r {} f }

/-- A Span port's link. -/
def State.link (s : State) (p : Nat) : Link := smGet s.spn.links p {}

/-- Change a Span port's link. -/
def State.modLink (s : State) (p : Nat) (f : Link → Link) : State :=
  { s with spn := { s.spn with links := smMod s.spn.links p {} f } }

/-! ## Paths and heads -/

/-- Path number: 0-15 heads, 16 sideband, 17 Bench (20 R456). -/
def pathNo : Path → Nat
  | .head h => h.val
  | .sideband => 16
  | .bench => 17

/-- Is head h enabled by the Cut List (04 R85)? -/
def State.headOn (s : State) (h : Nat) : Bool := s.fbitAt GLB_HEADS.ENABLED 0 h

/-- Is head h a management head? -/
def State.headMgmt (s : State) (h : Nat) : Bool := s.fbitAt GLB_HEADS.MGMT 0 h

/-- Is the path a management path (20 R456)? -/
def State.mgmt (s : State) : Path → Bool
  | .head h => s.headMgmt h.val
  | _ => true

/-- The enabled heads. -/
def State.headsOn (s : State) : List Nat := (List.range 16).filter s.headOn

/-- The management heads. -/
def State.mgmtHeads (s : State) : List Nat := (List.range 16).filter s.headMgmt

/-! ## Accesses of the paths (14 R347, R349, R358; 16 R402; 20 R462) -/

/-- Is a head enabled with its link up, so that its requests reach the device? -/
def State.linkReady (s : State) (h : Nat) : Bool := s.headOn h && s.fone HP_LINK.UP h && (s.head h).presence == 2

/-- Is the device in P1 (Trickle), P2 (Still) or P3 (Basin), or waking from one? -/
def State.asleep (s : State) : Bool := decide (1 ≤ s.fget PWR_STATE.CUR ∧ s.fget PWR_STATE.CUR ≤ 3)

/-- Raise a wake trigger; the next WCLK step registers it. -/
def State.latch (s : State) (src h : Nat) : State := { s with pwr := { s.pwr with latched := some (src, h) } }

/-- A request or access arrives: below P0 it waits and triggers a wake; during an entry it ends the entry (R357). -/
def State.arrive (s : State) (c : Instr) (src h : Nat) (go : State → State) : State :=
  if s.asleep then { s with pwr := { s.pwr with held := s.pwr.held ++ [Held.cmd c] } }.latch src h
  else go (if s.fget PWR_STATE.PHASE = 1 then s.latch src h else s)

/-- Does the Bench serve commands: has it loaded its firmware and Cut List (03 R76 steps 8-10)? -/
def State.benchUp (s : State) : Bool := decide (10 ≤ s.boot.step)

/-- An access on a path: of a head whose link is up; of the sideband, which only the Wellhead answers while the Bench is not up
(16 R402); of the Bench itself in P0. -/
def access (c : Instr) (p : Path) (f : State → State) (s : State) : State :=
  match p with
  | .head h => if s.linkReady h.val then s.arrive c 1 h.val f else s
  | .sideband => if s.benchUp then s.arrive c 4 0 f else s.emit (.reply p .unsupported [])
  | .bench => if s.benchUp && s.fget PWR_STATE.CUR == 0 then f s else s

/-! ## Configuration space (04 R87, R90) -/

/-- Reset value of a configuration dword: the values R87 and R90 give; other read-only fields of the standards are not
modelled and read 0. -/
def cfgReset (off : Nat) : Word :=
  match off with
  | 0x000 => 0x96161F6E
  | 0x004 => 0x00100000
  | 0x008 => 0x05021010
  | 0x010 => 0x4 | 0x018 => 0x4 | 0x020 => 0x4
  | 0x034 => 0x40
  | 0x040 => 0x5001
  | 0x044 => 0x8
  | 0x050 => 0x9010
  | 0x090 => 0x07FF0011
  | 0x094 => 0x00000004 | 0x098 => 0x00008004
  | 0x100 => 0x14810001 | 0x148 => 0x1501001B | 0x14C => 0x1400
  | 0x150 => 0x16010025 | 0x160 => 0x19010026 | 0x190 => 0x1C01002A
  | 0x1C0 => 0x1E010031 | 0x1E0 => 0x23010027 | 0x230 => 0x2501002E | 0x250 => 0x29010030
  | 0x290 => 0x2D010023 | 0x294 => 0x03C01E98 | 0x298 => 0x0020
  | 0x2D0 => 0x30010023 | 0x2D4 => 0x02401E98 | 0x2D8 => 0x0008
  | 0x300 => 0x32010023 | 0x304 => 0x02001E98 | 0x308 => 0x0007
  | 0x320 => 0x33010023 | 0x324 => 0x01001E98 | 0x328 => 0x0005
  | 0x330 => 0x00010023 | 0x334 => 0x02801F6E | 0x338 => 0x0001
  | _ => 0

/-- Writable bits of a configuration dword (04 R87, R90; bit places are PCIe's and CXL's, assumption 13). -/
def cfgRw (off : Nat) : Word :=
  match off with
  | 0x004 => 0x0146
  | 0x00C => 0xFF
  | 0x010 => 0xFC000000 | 0x014 => 0xFFFFFFFF
  | 0x018 => 0xFFC00000 | 0x01C => 0xFFFFFFFF
  | 0x020 => 0xFFFF0000 | 0x024 => 0xFFFFFFFF
  | 0x03C => 0xFF
  | 0x044 => 0x0103
  | 0x058 => 0x71EF
  | 0x060 => 0x0103
  | 0x078 => 0x101F
  | 0x080 => 0x001F
  | 0x090 => 0xC0000000
  | 0x108 => 0xFFFFFFFF | 0x10C => 0xFFFFFFFF | 0x114 => 0xFFFFFFFF
  | 0x14C => 0x00010000
  | 0x154 => 0x80000000
  | 0x194 => 0x0000F000
  | 0x238 => 0x00000002
  | 0x25C => 0xFFFFFFFF
  | 0x29C => 0x4004
  | _ => if 0x1E4 ≤ off ∧ off < 0x228 then 0xFFFF else 0

/-- Write-1-to-clear bits of a configuration dword. -/
def cfgW1c (off : Nat) : Word :=
  match off with
  | 0x004 => 0xF9000000
  | 0x044 => 0x8000
  | 0x058 => 0x000F0000
  | 0x104 => 0xFFFFFFFF | 0x110 => 0xFFFFFFFF
  | _ => 0

/-- A configuration dword of a head. -/
def cfgGet (x : HeadSt) (off : Nat) : Word := smGet x.cfg off (cfgReset off)

/-- Set a configuration dword. -/
def cfgPut (x : HeadSt) (off : Nat) (v : Word) : HeadSt := { x with cfg := smPut x.cfg off (cfgReset off) v }

/-- Memory Space Enable (04 R89). -/
def memSpace (x : HeadSt) : Bool := (cfgGet x 0x004).getLsbD 1
/-- Bus Master Enable (04 R105). -/
def busMaster (x : HeadSt) : Bool := (cfgGet x 0x004).getLsbD 2
/-- MSI-X Enable. -/
def msixOn (x : HeadSt) : Bool := (cfgGet x 0x090).getLsbD 31
/-- MSI-X Function Mask. -/
def msixFnMask (x : HeadSt) : Bool := (cfgGet x 0x090).getLsbD 30
/-- Mem_Enable of the CXL Device DVSEC (04 R89). -/
def memEnable (x : HeadSt) : Bool := (cfgGet x 0x29C).getLsbD 2
/-- Viral_Enable of the CXL Device DVSEC (16 R385). -/
def viralEnable (x : HeadSt) : Bool := (cfgGet x 0x29C).getLsbD 14

/-! ## Interrupts (04 R93-R94) -/

/-- The PBA bit of a vector. -/
def pbaBit (v : Nat) : BitVec 2048 := 1#2048 <<< v

/-- An MSI-X table entry. -/
def msixEntry (x : HeadSt) (v : Nat) : Msix := smGet x.msix v {}

/-- A vector's cause rises on a head (R94): the message goes, or its PBA bit is set. -/
def State.signalHead (s : State) (v h : Nat) : State :=
  let x := s.head h
  if !msixOn x then s
  else if (msixEntry x v).mask || msixFnMask x || !busMaster x then
    s.modHead h fun x => { x with pba := x.pba ||| pbaBit v }
  else (s.emit (.msix (Fin.ofNat 16 h) v)).modHead h fun x => { x with pba := x.pba &&& ~~~(pbaBit v) }

/-- A block vector's cause rises (R93): on every head. -/
def State.signal (s : State) (v : Nat) : State := s.each (List.range 16) fun h s => s.signalHead v h

/-- Send the messages of a head whose PBA bits wait and whose three conditions have cleared (R94). -/
def State.sendPending (s : State) (h : Nat) : State :=
  let x := s.head h
  if !msixOn x || msixFnMask x || !busMaster x then s
  else s.each ((List.range 2048).filter fun v => x.pba.getLsbD v && !(msixEntry x v).mask) fun v s =>
    (s.emit (.msix (Fin.ofNat 16 h) v)).modHead h fun x => { x with pba := x.pba &&& ~~~(pbaBit v) }

/-! ## CXL event records (16 R391) -/

/-- Append an event record to one of a head's four logs, and raise vector 32 when the log was empty. -/
def State.logEvent (s : State) (h level : Nat) (e : EvRec) : State :=
  let l := smGet (s.head h).logs level []
  if l.length < 256 then
    let s := s.modHead h fun x => { x with logs := smSet x.logs level (l ++ [e]) }
    if l.isEmpty then s.signalHead 32 h else s
  else s.modHead h fun x => { x with logOvf := smMod x.logOvf level 0 (· + 1) }

/-- A decoder of a head: head × 32 + number. -/
def State.decoder (s : State) (i : Nat) : Decoder := smGet s.dec.decoders i {}

/-- Enabled heads with a committed local-home decoder whose range maps to the DPA (16 R391). -/
def State.headsMapping (s : State) (dpa : Nat) : List Nat :=
  s.headsOn.filter fun h => (List.range 32).any fun n =>
    match smFind? s.dec.templates (h * 32 + n) with
    | none => false
    | some t =>
      match smFind? s.dec.regions t.region with
      | none => false
      | some r => (s.decoder (h * 32 + n)).committed && r.home.isNone && decide (r.base ≤ dpa ∧ dpa < r.base + r.size)

/-- The event record of a fault report at the level it reached (16 R391). `dpa` is none when not known. -/
def State.eventOf (s : State) (set code level unit : Nat) (dpa : Option Nat) : State :=
  let b := blockOf set
  let rec_ (k : Nat) : EvRec := { kind := k, set := set, cls := code, addr := dpa.getD 0 }
  let toAll (k : Nat) (l : List Nat) (s : State) := s.each l fun h s => s.logEvent h level (rec_ k)
  if (b = 5 ∧ code = 2) ∨ (b = 3 ∧ code = 6) ∨ (b = 7 ∧ (code = 2 ∨ code = 6)) then
    let l := match dpa with
      | some a => s.headsMapping a
      | none => []
    toAll 0 (if l.isEmpty then s.mgmtHeads else l) s
  else if b = 5 ∧ (code = 6 ∨ code = 7 ∨ code = 8) then toAll 1 s.headsOn s
  else if b = 5 ∧ (code = 9 ∨ code = 10) then toAll 2 s.headsOn s
  else if level = 0 then s
  else
    let extra := if b = 2 then (List.range 4).map (fun k => unit / 4 * 4 + k)
      else if b = 10 then [s.fget DRW_BIND.HEAD unit] else []
    toAll 4 (s.mgmtHeads ++ (extra.filter fun h => s.headOn h && !s.headMgmt h)) s

/-! ## The Witness staging (16 R392-R394) -/

/-- A Witness record as its 60 bytes before the CRC (R394). -/
def witBytes (r : WitRec) : List Byte :=
  leBytes 2 0x5717 ++ leBytes 1 r.kind ++ leBytes 1 (r.level + if r.esc then 4 else 0) ++ leBytes 6 r.time ++
  leBytes 2 r.poweron ++ leBytes 2 r.boots ++ leBytes 1 r.block ++ leBytes 1 r.cls ++ leBytes 1 r.unit ++ leBytes 1 0 ++
  leBytes 2 r.count ++ leBytes 12 r.syndrome.toNat ++ leBytes 8 r.addr.toNat ++ leBytes 8 r.aux.toNat ++ leBytes 8 r.tb ++
  leBytes 4 r.seq

/-- Is TB running? From the core PLL's lock on `REFCLK0` on, and not in P4 (Dry), nor in P3 (Basin) until the
RESTORE step of the wake has reloaded it (03 R60, R76; 14 R351). -/
def State.tbRuns (s : State) : Bool :=
  (decide (s.fget PWR_STATE.CUR < 3) || (s.fget PWR_STATE.CUR == 3 && !s.pwr.saved)) && decide (7 ≤ s.boot.step)

/-- The next record: numbered, stamped and chained (R394). -/
def State.witStamp (s : State) (r : WitRec) : WitRec :=
  let r := { r with
    time := s.wclk / 4 % 2 ^ 48, poweron := s.wit.poweron % 2 ^ 16, boots := s.fget CLK_RSTCAUSE.BOOTS
    tb := if s.tbRuns then s.tb else 0, seq := s.fget WIT_SEQ.SEQ }
  { r with crc := BitVec.ofNat 32 (crc32c (witBytes r) s.wit.lastCrc.toNat) }

/-- May a record be displaced from a staging SRAM that works as a ring (R397)? -/
def witDisplaceable (r : WitRec) : Bool := (r.kind == 0 || r.kind == 1) && r.level != 3

/-- Take out the first displaceable record. -/
def witDisplace : List WitRec → Option (List WitRec)
  | [] => none
  | r :: rs => if witDisplaceable r then some rs else (witDisplace rs).map (r :: ·)

/-- Put a record into the staging SRAM, numbered and chained. -/
def State.witStage (s : State) (r : WitRec) (held : List WitRec) : State :=
  let r' := s.witStamp r
  { s.fset WIT_SEQ.SEQ 0 (r'.seq + 1) with wit := { s.wit with staging := held ++ [r'], lastCrc := r'.crc } }

/-- Write a record: into the staging SRAM when there is room; without the flash the oldest FAULT or BURST record gives way
(R397). The flag says that it was written (R393). -/
def State.witWrite (s : State) (r : WitRec) : State × Bool :=
  let held := s.wit.staging
  if held.length < 128 then (s.witStage r held, true)
  else if s.fone WIT_STATUS.PRESENT then (s, false)
  else match witDisplace held with
    | some rest => (s.witStage r rest, true)
    | none => (s, false)

/-- Count a report that could not be written (R393): in the coalescing table, in its set's `FLT_OVF.LOST` and in `WIT_LOST`. -/
def State.witLost (s : State) (set : Nat) : State :=
  let s := { s with wit := { s.wit with lost := smMod s.wit.lost (blockOf set) 0 (· + 1) } }
  (s.fbit FLT_OVF.LOST set true).finc WIT_LOST.LOST

/-- The Witness engine takes a report (R392): at once, or counted in its pair's open window. The flag says it was not lost. -/
def State.witReport (s : State) (set : Nat) (r : WitRec) : State × Bool :=
  let key := r.block * 32 + r.cls
  match smFind? s.wit.windows key with
  | some w =>
    if r.level = 3 then
      match s.witWrite r with
      | (s, true) => (s, true)
      | (s, false) => (s.witLost set, false)
    else
      let f := match w.first with
        | none => some r
        | some f => some { f with level := max f.level r.level, esc := f.esc || r.esc }
      ({ s with wit := { s.wit with windows := smSet s.wit.windows key { w with count := w.count + 1, first := f } } }, true)
  | none =>
    if 64 ≤ s.wit.windows.length ∧ r.level ≠ 3 then (s.witLost set, false)
    else
      let s := { s with wit := { s.wit with windows := smSet s.wit.windows key { from_ := s.wclk } } }
      match s.witWrite r with
      | (s, true) => (s, true)
      | (s, false) => (s.witLost set, false)

/-! ## Device-fatal handling (16 R385) -/

/-- Donor capacity not yet granted, in GiB: of the frames the donor pool has (13 R332, R339). -/
def State.freeGib (s : State) : Nat :=
  if s.fget SPN_CFG.ROLE = 2 then
    min (s.fget SPN_DONATE.GIB) (((s.slc.pools.filter fun p => p.kind == 2).map (·.count)).sum / 512) - s.fget SPN_GRANT.OUT
  else 0

/-- The announcement this node floods (13 R332). -/
def State.selfLsa (s : State) (asleep : Bool) : LsaBody :=
  { serial := s.nv.serial, incarn := BitVec.ofNat 32 (s.fget SPN_INCARN.INCARN), ageSeq := s.spn.ageSeq
    node := BitVec.ofNat 6 (s.fget SPN_NODE.ID), claimed := s.fget SPN_NODE.STATE == 2, asleep := asleep
    donor := s.fget SPN_CFG.ROLE == 2
    freeGib := s.freeGib
    links := (List.range 4).map fun p =>
      if s.fget SPN_PSTATE.LINK p = 4 ∧ !s.spn.withdrawn then
        some (BitVec.ofNat 6 (s.fget SPN_PSTATE.PEER p), Fin.ofNat 4 (s.fget SPN_PSTATE.WIDTH p / 2))
      else none }

/-- A sequenced flit leaves on a port: it takes the next SEQ and its copy stays for replay (13 R325). The acknowledgements that
free the buffer are taken to arrive (assumption 23). -/
def State.pushFlit (s : State) (p typ : Nat) : State :=
  s.modLink p fun l => { l with
    txSeq := l.txSeq + 1
    replay := (if 64 ≤ l.replay.length then l.replay.drop 1 else l.replay) ++ [{ seq := l.txSeq, typ := typ }] }

/-- Flood a new announcement of this node (13 R332). -/
def State.floodSelf (s : State) (asleep : Bool := false) : State :=
  let s := { s with spn := { s.spn with ageSeq := s.spn.ageSeq + 1 } }
  if s.fget SPN_CFG.ROLE = 0 then s
  else
    (s.emit (.lsaFlood (s.selfLsa asleep))).each ((List.range 4).filter fun p => s.fget SPN_PSTATE.LINK p == 4) fun p s => s.pushFlit p 3

/-- The device becomes fatal (R385): viral on every head whose Viral_Enable is set, and withdrawal from the Span. -/
def State.goFatal (s : State) : State :=
  if s.boot.fatal then s
  else
    let s := { s with boot := { s.boot with fatal := true } }
    let s := s.each ((List.range 16).filter fun h => viralEnable (s.head h)) fun h s => s.emit (.viral (Fin.ofNat 16 h))
    { s with spn := { s.spn with withdrawn := true } }.floodSelf

/-! ## Fault reports (16 R382-R390) -/

/-- Where a class of a set stands. -/
def State.classSt (s : State) (set code : Nat) : ClassSt :=
  { inFault := s.fbitAt FLT_STATUS.CLASS set (code - 1), level := get2 (s.fget FLT_LEVEL.LEVEL set) (code - 1)
    unack := s.fbitAt FLT_ACK.UNACK set (code - 1) }

/-- What a detection reports (R380): syndrome, address, auxiliary value and unit. -/
structure Capture where
  syn : Nat := 0
  addr : Nat := 0
  aux : Nat := 0
  unit : Nat := 255
  /-- the DPA, where the event record needs it (R391) -/
  dpa : Option Nat := none
deriving DecidableEq, Repr

/-- First capture (R390): the report is held while `FLT_FIRST.VALID` is clear. -/
def State.captureFirst (s : State) (set code level : Nat) (esc : Bool) (c : Capture) : State :=
  if s.fone FLT_FIRST.VALID set then s
  else
    let s := ((s.fset FLT_FIRST.VALID set 1).fbit FLT_FIRST.ESC set esc).fset FLT_FIRST.LEVEL set level
    let s := (s.fset FLT_FIRST.UNIT set c.unit).fset FLT_FIRST.CLASS set code
    let s := ((s.fset FLT_SYN.SYN (3 * set) c.syn).fset FLT_SYN.SYN (3 * set + 1) (c.syn >>> 32)).fset
      FLT_SYN.SYN (3 * set + 2) (c.syn >>> 64)
    ((s.fset FLT_ADDR.VALUE set c.addr).fset FLT_AUX.VALUE set c.aux).fset FLT_TIME.VALUE set s.tb

/-- Count a report (R390). -/
def State.countReport (s : State) (set : Nat) : State :=
  let s := s.finc FLT_COUNT.COUNT set
  if s.fget FLT_COUNT.COUNT set = 0xFFFF then s.fbit FLT_OVF.SAT set true else s

/-- Put a class at a level, in fault state and unacknowledged; its quiet timer restarts (R382, R387). -/
def State.enterClass (s : State) (set code level : Nat) : State :=
  let s := s.fset FLT_LEVEL.LEVEL set (set2 (s.fget FLT_LEVEL.LEVEL set) (code - 1) level)
  let s := (s.fputBit FLT_STATUS.CLASS set (code - 1) true).fputBit FLT_ACK.UNACK set (code - 1) true
  { s with flt := { s.flt with quiet := smSet s.flt.quiet (set * 16 + code - 1) s.wclk } }

/-- A report's effect on its register set, interrupt and event logs (R382, R384, R390, R391). -/
def State.reportRegs (s : State) (set code level : Nat) (esc : Bool) (c : Capture) : State :=
  let old := s.classSt set code
  let rises := !old.inFault || decide (old.level < level)
  let s := s.captureFirst set code level esc c
  let s := (s.countReport set).enterClass set code level
  let s := if rises && !s.fbitAt FLT_MASK.MASK set (code - 1) then
      (if set = setHP then s.each ((List.range 4).map fun k => c.unit / 4 * 4 + k) (fun h s => s.signalHead 2 h)
       else s.signal set)
    else s
  s.eventOf set code level c.unit c.dpa

/-- A fault report (R380-R392): one detection of class `code` in set `set`, at base level `base` where the class tables
leave it to the report. A lost record raises WIT LOST (R404), which is not itself recorded. -/
def State.report (s : State) (set code : Nat) (c : Capture := {}) (base : Nat := 0) : State :=
  let b := blockOf set
  let (level, esc) := nextLevel (s.classSt set code) (baseLevel b code base) (!(neverEscalates b).contains code)
  let s := s.reportRegs set code level esc c
  let w : WitRec := { kind := 0, level := level, esc := esc, block := b, cls := code
                      unit := if b = 5 then set - 5 else c.unit
                      syndrome := BitVec.ofNat 96 c.syn, addr := BitVec.ofNat 64 c.addr, aux := BitVec.ofNat 64 c.aux }
  let (s, kept) := s.witReport set w
  let s := if kept then s else
    let (l, e) := nextLevel (s.classSt setWIT 5) 1 false
    s.reportRegs setWIT 5 l e {}
  if level = 3 then s.goFatal else s

/-! ## Answers -/

/-- Answer a mailbox or MCTP command. -/
def State.reply (s : State) (p : Path) (rc : Rc) (payload : List Nat := []) : State := s.emit (.reply p rc payload)

end Sys2Proof.Machine
end

