-- ==== Sys2Proof/Machine/CutImage.lean ====
section
/-! DEFINITION. The Cut List image (02 R35-R46): its layout, its checks 0x01 to 0x11 with the section, record and consistency
rules of the owning chapters, and what its structural sections lay out (05 R113, R121; 09 R221-R225). -/

namespace Sys2Proof.Machine

open Sys2Proof

/-! ## Lifecycle (17 R405) -/

/-- Majority of a fuse's three copies. -/
def maj3 (b : BitVec 3) : Bool := 2 ≤ popCount b.toNat 3

/-- Lifecycle code: 0 BLANK, 1 MANUFACTURE, 2 DEVELOP, 3 PRODUCTION, 4 RETURN, 5 DECOMMISSIONED. -/
def lifecycle (n : NonVol) : Nat :=
  match maj3 n.fM, maj3 n.fD, maj3 n.fP, maj3 n.fT, maj3 n.fX with
  | false, false, false, false, false => 0
  | true, false, false, false, false => 1
  | true, true, false, false, false => 2
  | true, false, true, false, false => 3
  | true, true, false, true, false => 4
  | true, false, true, true, false => 4
  | _, _, _, _, _ => 5

/-- Is owner slot n (1-4) enrolled? -/
def ownerIn (n : NonVol) (slot : Nat) : Bool := smHas n.owners (slot - 1)

/-- Is owner slot n (1-4) enrolled and not revoked? -/
def ownerGood (n : NonVol) (slot : Nat) : Bool := ownerIn n slot && !n.revoked.getLsbD (slot - 1)

/-- Is any owner slot enrolled (R40)? -/
def ownerAny (n : NonVol) : Bool := !n.owners.isEmpty

/-! ## Layout (R35-R39) -/

/-- A failed check: code of R44, section-table index (255 none), record index (1,023 none). -/
structure CutFail where
  code : Nat
  sect : Nat := 255
  rec_ : Nat := 1023
deriving DecidableEq, Repr

/-- A section of an image: its table entry and body. -/
structure Sect where
  idx : Nat
  typ : Nat
  off : Nat
  len : Nat
  crc : Nat
  rsvd : Nat
  body : List Byte
deriving DecidableEq, Repr

/-- The sections of an image, by its table (R37). -/
def imgSects (b : List Byte) : List Sect :=
  (List.range (leAt b 0x14 2)).map fun i =>
    let e := 0x40 + 16 * i
    { idx := i, typ := leAt b e 2, rsvd := leAt b (e + 2) 2, off := leAt b (e + 4) 4, len := leAt b (e + 8) 4
      crc := leAt b (e + 12) 4, body := sliceBytes b (leAt b (e + 4) 4) (leAt b (e + 8) 4) }

/-- Records of a section (R38). -/
def sectRecs (s : Sect) : List (List Byte) :=
  (List.range (leAt s.body 0 2)).map fun i => sliceBytes s.body (8 + i * leAt s.body 2 2) (leAt s.body 2 2)

/-- The records of the section of a type, none when the image lacks it. -/
def recsOf? (l : List Sect) (typ : Nat) : Option (List (List Byte)) := (l.find? fun s => s.typ == typ).map sectRecs

/-- The records of the section of a type, empty when the image lacks it. -/
def recsOf (l : List Sect) (typ : Nat) : List (List Byte) := (recsOf? l typ).getD []

/-- Section-table index of a type. -/
def idxOf (l : List Sect) (typ : Nat) : Nat := ((l.find? fun s => s.typ == typ).map (·.idx)).getD 255

/-- Byte `i` of a record as a number. -/
def b1 (r : List Byte) (i : Nat) : Nat := leAt r i 1

/-- Section types of R41: structural, required, fewest and most records, record size. -/
def sectSpec : Nat → Option (Bool × Bool × Nat × Nat × Nat)
  | 0x0001 => some (true, true, 4, 4, 8)
  | 0x0002 => some (true, true, 12, 12, 8)
  | 0x0003 => some (true, true, 1, 16, 8)
  | 0x0004 => some (true, true, 1, 1, 16)
  | 0x0005 => some (true, false, 0, 512, 40)
  | 0x0006 => some (true, false, 1, 1, 16)
  | 0x0007 => some (true, false, 1, 1, 16)
  | 0x0008 => some (true, true, 1, 64, 8)
  | 0x0009 => some (true, true, 1, 48, 16)
  | 0x000A => some (true, true, 5, 5, 8)
  | 0x000B => some (true, false, 0, 16, 4)
  | 0x000C => some (true, true, 1, 8, 8)
  | 0x0101 => some (false, false, 1, 96, 8)
  | 0x0102 => some (false, false, 1, 256, 16)
  | 0x0103 => some (false, false, 1, 1, 32)
  | 0x0104 => some (false, false, 1, 1, 104)
  | 0x0105 => some (false, false, 1, 48, 8)
  | 0x0106 => some (false, false, 1, 13, 8)
  | 0x00F0 => some (false, false, 1, 1, 48)
  | _ => none

/-- Is a type structural? -/
def structural (typ : Nat) : Bool := match sectSpec typ with
  | some (b, _) => b
  | none => false

/-- Types a full image must carry (R41). -/
def requiredTypes : List Nat := [1, 2, 3, 4, 8, 9, 0xA, 0xC]

/-- The structural digest (R43). -/
def structDigest (l : List Sect) : BitVec 384 := Config.sha384 ((l.filter fun s => structural s.typ).flatMap (·.body))

/-- FLAGS.PATCH (R36). -/
def isPatch (b : List Byte) : Bool := (leAt b 0x16 2).testBit 0

/-! ## Checks 0x01 to 0x0D (R44) -/

/-- What an image is offered for (R44). -/
inductive CutUse where
  | reset | stream | slot | live | firmware
deriving DecidableEq, Repr

/-- Fail with a code when a condition holds. -/
def failIf (c : Bool) (code : Nat) (sect : Nat := 255) (rec_ : Nat := 1023) : Option CutFail :=
  if c then some ⟨code, sect, rec_⟩ else none

/-- The first failure of a list, in order. -/
def firstFail (l : List (Option CutFail)) : Option CutFail := l.findSome? id

/-- Checks 0x01 to 0x03: what a slot's header alone shows (R47). -/
def checkHeader (use : CutUse) (b : List Byte) : Option CutFail :=
  let magic := if use = .firmware then 0x4957464B else 0x5455434B
  (failIf (b.length < 64 || leAt b 0 4 != magic || leAt b 4 2 != 1 || leAt b 6 2 != 64) 1).or <|
  (failIf (decide (524288 < leAt b 8 4) || leAt b 8 4 != b.length) 2).or
  (failIf (leAt b 0x3C 4 != crc32c (b.take 0x3C)) 3)

/-- Offset of the signature block. -/
def sigOff (b : List Byte) : Nat := b.length - 200

/-- SIGNER of an image. -/
def imgSigner (b : List Byte) : Nat := leAt b (sigOff b + 6) 2

/-- A big-endian 96-byte value of a signature block (R39). -/
def be96 (b : List Byte) (off : Nat) : BitVec 768 := BitVec.ofNat 768 (beNat (sliceBytes b off 96))

/-- Check 0x04: the signature block and the signature (R39). -/
def checkSig (b : List Byte) : Option CutFail :=
  let o := sigOff b
  let digest := Config.sha384 (b.take o)
  let bad := decide (b.length < 64 + 200) || leAt b o 4 != 0x4749534B || leAt b (o + 4) 2 != 1 || decide (4 < imgSigner b)
  let pub := if imgSigner b = 0 then Config.vendorKey else be96 b (o + 8)
  (failIf bad 4).or <| (failIf (imgSigner b == 0 && be96 b (o + 8) != 0) 4).or
  (failIf (!Config.ecdsaOk pub digest (be96 b (o + 0x68))) 4)

/-- May the vendor key sign, or an owner slot (R40)? -/
def signerRefused (n : NonVol) (signer : Nat) (pubDigest : BitVec 384) : Bool :=
  if signer = 0 then (lifecycle n == 3 || lifecycle n == 4) && ownerAny n
  else !ownerGood n signer || smGet n.owners (signer - 1) 0 != pubDigest

/-- Checks 0x05 to 0x08. -/
def checkOrigin (n : NonVol) (use : CutUse) (fused : Nat) (b : List Byte) : Option CutFail :=
  let lc := lifecycle n
  (failIf (signerRefused n (imgSigner b) (Config.sha384 (sliceBytes b (sigOff b + 8) 96))) 5).or <|
  (failIf (leAt b 0x10 2 != 0x9616 || leAt b 0x12 1 != 0x10 ||
      (leAt b 0x18 8 != 0 && leAt b 0x18 8 != n.serial.toNat)) 6).or <|
  (failIf (decide (4 < lc) || !(leAt b 0x13 1).testBit lc || (use == .stream && decide (1 < lc))) 7).or
  (failIf (decide (leAt b 0x0C 4 < fused)) 8)

/-- Do two bodies overlap? -/
def sectsOverlap (a c : Sect) : Bool := a.idx != c.idx && decide (a.off < c.off + c.len ∧ c.off < a.off + a.len)

/-- Check 0x09: the section table (R37). -/
def checkTable (b : List Byte) (l : List Sect) : Option CutFail :=
  let n := leAt b 0x14 2
  (failIf (decide (n < 1) || decide (64 < n) || decide (sigOff b < 0x40 + 16 * n)) 9).or <|
  firstFail (l.map fun s =>
    let sorted := (l.find? fun p => p.idx + 1 == s.idx).all fun p => decide (p.typ < s.typ)
    failIf (!sorted || s.off % 8 != 0 || decide (s.off < 0x40 + 16 * n) || decide (sigOff b < s.off + s.len) ||
      l.any (sectsOverlap s)) 9 s.idx)

/-- Check 0x0A: the bodies' CRCs. -/
def checkCrcs (l : List Sect) : Option CutFail := firstFail (l.map fun s => failIf (s.crc != crc32c s.body) 0xA s.idx)

/-- Check 0x0B: unknown sections, and what a full image and a patch may carry. -/
def checkKnown (use : CutUse) (b : List Byte) (l : List Sect) : Option CutFail :=
  let patch := isPatch b
  (failIf (patch && use != .live) 0xB).or <|
  (firstFail (l.map fun s => failIf
    (((sectSpec s.typ).isNone && !s.typ.testBit 15) || (!patch && s.typ == 0xF0) || (patch && structural s.typ)) 0xB s.idx)).or
  (failIf (patch && (recsOf? l 0xF0).isNone) 0xB)

/-- Check 0x0C: required sections of a full image. -/
def checkRequired (b : List Byte) (l : List Sect) : Option CutFail :=
  failIf (!isPatch b && requiredTypes.any fun t => (recsOf? l t).isNone) 0xC

/-- Check 0x0D: record sizes and counts. -/
def checkRecords (l : List Sect) : Option CutFail := firstFail (l.map fun s =>
  match sectSpec s.typ with
  | none => none
  | some (_, _, lo, hi, size) =>
    let n := leAt s.body 0 2
    failIf (decide (s.len < 8) || leAt s.body 2 2 != size || leAt s.body 4 2 != s.typ || s.len != 8 + n * size ||
      decide (n < lo) || decide (hi < n)) 0xD s.idx)

/-! ## Check 0x0E: ranges (R41 and the owning chapters) -/

/-- A 16-bit two's-complement field. -/
def signed16 (n : Nat) : Int := if n < 32768 then n else (n : Int) - 65536

/-- Qualified minimum of a wake step (14 R353), by state and action. -/
def qualifiedMin : Nat → Nat → Nat
  | 1, 4 => 60 | 1, 6 => 100
  | 2, 2 => 1500 | 2, 4 => 300 | 2, 5 => 3000 | 2, 7 => 6000 | 2, 9 => 4000
  | 3, 1 => 80000 | 3, 2 => 10000 | 3, 3 => 30000 | 3, 4 => 2500 | 3, 5 => 20000 | 3, 7 => 40000 | 3, 8 => 800000
  | 3, 9 => 500000
  | _, _ => 0

/-- Are the fields of a record of a type within their ranges? -/
def recOk (typ : Nat) (r : List Byte) : Bool :=
  match typ with
  | 0x0001 => b1 r 0 < 4 && b1 r 1 ≤ 3 && b1 r 2 < 16 && b1 r 3 < 16 && b1 r 4 ≤ 5 && b1 r 5 ≤ 3 && b1 r 6 < 16 &&
      (b1 r 7 == 3 || b1 r 7 == 4)
  | 0x0002 => b1 r 0 < 12 && b1 r 1 ≤ 3 && b1 r 2 ≤ 2 && b1 r 3 ≤ 2 && b1 r 4 ≤ 2 && (b1 r 1 == 0 || 1 ≤ b1 r 4) &&
      (b1 r 5 == 4 || b1 r 5 == 8) && b1 r 7 == 0
  | 0x0003 => b1 r 0 < 16 && [1, 2, 3, 4, 6, 12].contains (b1 r 1) && b1 r 2 ≤ 2 && b1 r 3 == 0 && leAt r 4 2 < 4096 &&
      leAt r 6 2 == 0
  | 0x0004 => leAt r 0 2 ≤ 1024 && 16 ≤ b1 r 2 && b1 r 2 ≤ 32 && b1 r 3 ≤ 1 && leAt r 8 8 == 0
  | 0x0005 => b1 r 0 ≤ 16 && b1 r 1 < 32 && b1 r 2 < 16 && b1 r 3 ≤ 7 && b1 r 20 < 16 && b1 r 21 ≤ 1 && b1 r 22 ≤ 2 &&
      (b1 r 23 < 64 || b1 r 23 == 255) && (b1 r 26 < 16 || b1 r 26 == 255) && leAt r 27 5 == 0
  | 0x0006 => 1 ≤ leAt r 0 2 && leAt r 0 2 ≤ 256 && b1 r 2 ≤ 7 && leAt r 10 6 == 0 &&
      (List.range 7).all fun i => if i < b1 r 2 then b1 r (3 + i) != 0 else b1 r (3 + i) == 0
  | 0x0007 => b1 r 0 ≤ 2 && b1 r 1 < 16 && b1 r 2 < 64 && 1 ≤ b1 r 3 && b1 r 3 ≤ 6 && leAt r 12 4 == 0
  | 0x0008 => b1 r 2 ≤ 1 && b1 r 3 ≤ 1 &&
      (if b1 r 2 = 0 then leAt r 0 2 < 15 && leAt r 4 4 == 0 else leAt r 0 2 < 3 && leAt r 4 4 < 2 ^ 31)
  | 0x0009 => 1 ≤ b1 r 0 && b1 r 0 ≤ 3 && 1 ≤ b1 r 2 && b1 r 2 ≤ 9 && b1 r 3 == 0 &&
      decide (qualifiedMin (b1 r 0) (b1 r 2) ≤ leAt r 8 4)
  | 0x000A => b1 r 0 ≤ 4 && b1 r 1 ≤ 3 && decide (-400 ≤ signed16 (leAt r 2 2) ∧ signed16 (leAt r 2 2) ≤ 100) &&
      decide (-100 ≤ signed16 (leAt r 4 2) ∧ signed16 (leAt r 4 2) ≤ 400) && leAt r 6 2 == 0
  | 0x000B => b1 r 0 ≤ 2 && b1 r 1 ≤ 1 && leAt r 2 2 == 0
  | 0x000C => b1 r 0 ≤ 4 && b1 r 1 == 0
  | 0x0101 => b1 r 0 ≤ 7 && (b1 r 1 ≤ 11 || b1 r 1 == 0x1F) && leAt r 2 2 ≤ 160 && 1 ≤ leAt r 4 2 && leAt r 4 2 ≤ 160 &&
      1 ≤ leAt r 6 2 && leAt r 6 2 ≤ 1000
  | 0x0102 => 1 ≤ b1 r 1 && b1 r 1 ≤ 4 && 1 ≤ leAt r 2 2 && leAt r 2 2 ≤ 4096 && leAt r 4 2 ≤ 1024 && leAt r 6 2 == 0 &&
      leAt r 12 4 == 0
  | 0x0103 => 1000 ≤ leAt r 0 4 && leAt r 0 4 ≤ 10000000 && b1 r 5 == 0 && leAt r 6 2 ≤ 1024 && leAt r 8 2 ≤ 1024 &&
      leAt r 10 2 ≤ 1024 && leAt r 12 2 ≤ 1024 && leAt r 14 2 ≤ 1024 && leAt r 22 10 == 0
  | 0x0104 => leAt r 64 4 ≤ 115000 && leAt r 68 2 ≤ 350 && leAt r 78 2 == 0
  | 0x0105 => leAt r 2 2 == 0
  | 0x0106 => (b1 r 0 ≤ 0x13 || b1 r 0 == 255) && b1 r 1 == 0 && 1 ≤ leAt r 2 2 && leAt r 2 2 ≤ 60000 && 1 ≤ leAt r 6 2
  | _ => true

/-- Check 0x0E: the header's reserved fields, table entries and every record. -/
def checkRanges (b : List Byte) (l : List Sect) : Option CutFail :=
  (failIf (decide (255 < leAt b 0x0C 4) || decide (31 < leAt b 0x13 1) || decide (1 < leAt b 0x16 2) ||
    leAt b 0x28 20 != 0) 0xE).or <|
  firstFail (l.map fun s =>
    if (sectSpec s.typ).isNone then none
    else (failIf (s.rsvd != 0 || leAt s.body 6 2 != 0) 0xE s.idx).or
      (firstFail ((sectRecs s).zipIdx.map fun p => failIf (!recOk s.typ p.1) 0xE s.idx p.2)))

/-! ## What the structural sections lay out -/

/-- Rows and 3DS height of a channel's modules as SPD gives them (07 R161, R187), by channel. -/
abbrev Fit := List (Nat × Nat)

/-- CHANNELS record of a channel. -/
def chanRec (l : List Sect) (c : Nat) : Option (List Byte) := (recsOf l 2).find? fun r => b1 r 0 == c

/-- Physical ranks of a CHANNELS record (07 R162): slot × ranks per DIMM + rank. -/
def physRanks (r : List Byte) : List Nat :=
  (List.range 2).flatMap fun slot => if (b1 r 1).testBit slot then (List.range (b1 r 4)).map fun k => slot * b1 r 4 + k else []

/-- Physical ranks in service at load: all but the spare. -/
def servRanks (r : List Byte) : List Nat := (physRanks r).filter fun k => b1 r 6 != k

/-- Bytes of one physical rank (05 R123): rows × height × 512 KiB on x4 modules, half on x8. -/
def rankBytes (fit : Fit) (r : List Byte) : Nat :=
  let (rows, height) := fit.getD (b1 r 0) (65536, 1)
  rows * height * (if b1 r 5 = 8 then 262144 else 524288)

/-- In-service capacity C of a channel in bytes (R121). -/
def chanBytes (fit : Fit) (r : List Byte) : Nat := (servRanks r).length * rankBytes fit r

/-- An interleave set as laid out (R121). -/
structure SetLay where
  set : Nat
  ways : Nat
  gran : Nat
  mask : Nat
  base : Nat
  size : Nat
deriving DecidableEq, Repr

/-- The sets laid end to end in ascending set number (R110, R121). -/
def laySets (fit : Fit) (l : List Sect) : List SetLay :=
  let recs := recsOf l 3
  ((List.range 16).foldl (fun (acc : List SetLay × Nat) k =>
    match recs.find? fun r => b1 r 0 == k with
    | none => acc
    | some r =>
      let mask := leAt r 4 2
      let c := ((bitList mask 12).head?.bind (chanRec l)).map (chanBytes fit) |>.getD 0
      let sz := b1 r 1 * c
      (acc.1 ++ [{ set := k, ways := b1 r 1, gran := b1 r 2, mask := mask, base := acc.2, size := sz }], acc.2 + sz))
    ([], 0)).1

/-- Raw capacity R (09 R221). -/
def rawBytes (sets : List SetLay) : Nat := (sets.map (·.size)).sum

/-- A REGIONS record, read (R41). -/
structure RegRec where
  idx : Nat
  head : Nat
  dec : Nat
  typ : Nat
  kw : Nat
  hpaBase : Nat
  size : Nat
  set : Nat
  cls : Nat
  hint : Nat
  home : Nat
  sharing : Nat
  peer : Nat
  nodes : Nat
deriving DecidableEq, Repr

/-- Read the REGIONS records. -/
def regRecs (l : List Sect) : List RegRec := (recsOf l 5).zipIdx.map fun (r, i) =>
  { idx := i, head := b1 r 0, dec := b1 r 1, typ := b1 r 2, kw := b1 r 3, hpaBase := leAt r 4 8, size := leAt r 12 8
    set := b1 r 20, cls := b1 r 21, hint := b1 r 22, home := b1 r 23, sharing := leAt r 24 2, peer := b1 r 26
    nodes := leAt r 32 8 }

/-- Region type bits (R118). -/
def tTiered (t : Nat) : Bool := t.testBit 0
def tShared (t : Nat) : Bool := t.testBit 1
def tDcd (t : Nat) : Bool := t.testBit 2
def tRemote (t : Nat) : Bool := t.testBit 3

/-- Does a record form a region by itself (R113)? -/
def aloneRec (r : RegRec) : Bool := !tShared r.typ || r.head == 16 || tRemote r.typ

/-- A region as formed: its records, lowest index first. -/
abbrev RegLay := List RegRec

/-- The record of another head that joins a shared-coherent region (R113). -/
def joinRec (all : List RegRec) (used : List Nat) (r : RegRec) (h : Nat) : Option RegRec :=
  let ok := all.filter fun q => q.head == h && !used.contains q.idx && q.typ == r.typ && q.set == r.set &&
    q.size == r.size && q.sharing == r.sharing
  ok.foldl (fun best q => match best with
    | none => some q
    | some p => if q.dec < p.dec then some q else some p) none

/-- Form the regions in ascending record index (R113); `inr` is the index of a record whose region cannot be completed. -/
def formRegions (all : List RegRec) : List RegLay ⊕ Nat :=
  let r := all.foldl (fun (acc : Option Nat × List Nat × List RegLay) r =>
    if acc.1.isSome || acc.2.1.contains r.idx then acc
    else if aloneRec r then (none, r.idx :: acc.2.1, acc.2.2 ++ [[r]])
    else if !r.sharing.testBit r.head then (some r.idx, acc.2)
    else
      let others := (bitList r.sharing 16).filter (· != r.head)
      let got := others.foldl (fun (g : Option (List RegRec)) h => g.bind fun l =>
        (joinRec all (r.idx :: l.map (·.idx) ++ acc.2.1) r h).map fun q => l ++ [q]) (some [])
      match got with
      | none => (some r.idx, acc.2)
      | some l => (none, r.idx :: l.map (·.idx) ++ acc.2.1, acc.2.2 ++ [r :: l])) (none, [], [])
  match r.1 with
  | some i => .inr i
  | none => .inl r.2.2

/-- 2 MiB, the size of a frame. -/
def mib2 : Nat := 2097152

/-- Round up to a multiple. -/
def roundUp (n m : Nat) : Nat := (n + m - 1) / m * m

/-- A region with its DPA base (R113); remote regions have none. -/
structure RegPlace where
  reg : RegLay
  base : Nat
deriving DecidableEq, Repr

/-- The record that speaks for a region. -/
def regHead (p : RegLay) : RegRec := p.headD ⟨0, 0, 0, 0, 0, 0, 0, 0, 0, 0, 0, 0, 0, 0⟩

/-- Bytes of direct regions taken in each set so far. -/
def directUsed (l : List RegPlace) (set : Nat) : Nat :=
  ((l.filter fun p => (regHead p.reg).set == set && !tTiered (regHead p.reg).typ && !tRemote (regHead p.reg).typ).map
    fun p => (regHead p.reg).size).sum

/-- Paged bytes taken so far, up to the end of the last tiered region. -/
def pagedEnd (l : List RegPlace) : Nat :=
  (l.filter fun p => tTiered (regHead p.reg).typ).foldl (fun e p => max e (p.base + (regHead p.reg).size)) (2 ^ 44)

/-- Give the regions their DPA ranges in ascending order of lowest record index (R113). -/
def placeRegions (sets : List SetLay) (regs : List RegLay) : List RegPlace :=
  regs.foldl (fun acc reg =>
    let r := regHead reg
    let base := if tRemote r.typ then 0
      else if tTiered r.typ then roundUp (pagedEnd acc) mib2
      else ((sets.find? fun s => s.set == r.set).map (·.base)).getD 0 + directUsed acc r.set
    acc ++ [⟨reg, base⟩]) []

/-- Size of the metadata area: meta_mib rounded up to 4 MiB (R224). -/
def metaBytes (l : List Sect) : Nat := roundUp (((recsOf l 4).headD []) |> fun r => leAt r 4 4 * 1048576) (4 * 1048576)

/-- The set that holds the metadata area: the highest-numbered with at least 2 ways (R224). -/
def metaSet (sets : List SetLay) : Option SetLay := (sets.filter fun s => 2 ≤ s.ways).getLast?

/-- Base of the metadata area (R224). -/
def metaBase (s : SetLay) (size : Nat) : Nat := (s.base + s.size - size) / (4 * 1048576) * (4 * 1048576)

/-- The division of raw capacity (R221), in bytes: T0 pool, reserve, donor pool, slab pool (negative when it does not fit). -/
structure Division where
  t0 : Int
  reserve : Nat
  donor : Nat
  slab : Int
deriving DecidableEq, Repr

/-- Divide the raw capacity (R221). -/
def divide (raw meta_ direct t0share donorGib : Nat) : Division :=
  let a := raw - meta_
  let res := raw / 64 / mib2 * mib2
  let don := donorGib * 2 ^ 30
  { t0 := (a * t0share / 1024 : Nat) - (direct : Int), reserve := res, donor := don
    slab := (a : Int) - (a * t0share / 1024 : Nat) - res - don }

/-- The donor pool size of an image: donate_gib when role is 2 (R221). -/
def donorGibOf (l : List Sect) : Nat :=
  match (recsOf l 7).head? with
  | some r => if b1 r 0 = 2 then leAt r 8 4 else 0
  | none => 0

/-- Share the frames of a set's free part among the pools (R222): pools in the order T0, reserve, donor, slab. -/
def layPools (sets : List SetLay) (places : List RegPlace) (meta_ : Nat) (d : Division) : List Pool :=
  let hold := metaSet sets
  let free := sets.map fun s =>
    let first := (s.base + directUsed places s.set + mib2 - 1) / mib2
    let top := match hold with
      | some m => if m.set = s.set then metaBase m meta_ else s.base + s.size
      | none => s.base + s.size
    (s.set, first, top / mib2 - first)
  let total := (free.map fun f => f.2.2).sum
  let sizes : List Nat := [d.t0.toNat / mib2, d.reserve / mib2, d.donor / mib2, d.slab.toNat / mib2]
  let share (p s : Nat) : Nat := if total = 0 then 0 else sizes.getD p 0 * s / total
  let extra (p : Nat) : Nat := sizes.getD p 0 - (free.map fun f => share p f.2.2).sum
  let low := (free.head?.map (·.1)).getD 0
  free.flatMap fun f =>
    let n (p : Nat) : Nat := share p f.2.2 + if f.1 = low then extra p else 0
    (List.range 4).map fun p =>
      { kind := p, set := f.1, first := f.2.1 + ((List.range p).map n).sum, count := n p }

/-! ## Check 0x0F: consistency (R45 and the owning chapters) -/

/-- Is a list of numbers without repeats? -/
def distinct (l : List Nat) : Bool := l.Nodup

/-- The sub-ports a bifurcation forms, as a mask (04 R85). -/
def formedMask : Nat → Nat
  | 0 => 1 | 1 => 3 | 2 => 15 | _ => 0

/-- Highest speed of a channel's module and DPC (07 R161). -/
def topSpeed (r : List Byte) : Nat :=
  if b1 r 1 = 3 then 0 else if b1 r 2 = 2 then 2 else 1

/-- Consistency of one CHANNELS record by itself and against the earlier ones (R45, R162). -/
def chanBad (earlier : List (List Byte)) (r : List Byte) : Bool :=
  let g := b1 r 0 / 4
  earlier.any (fun q => b1 q 0 / 4 == g && b1 q 3 != b1 r 3) ||
  (b1 r 1 == 0 && b1 r 6 != 255) ||
  (b1 r 1 != 0 && (decide (topSpeed r < b1 r 3) || (b1 r 1 == 3 && b1 r 2 == 2) ||
    (b1 r 6 != 255 && (!(physRanks r).contains (b1 r 6) || (physRanks r).length == 1))))

/-- Consistency of one INTERLEAVE record by itself and against the earlier ones (R45, R121, R162). -/
def setBad (l : List Sect) (earlier : List (List Byte)) (r : List Byte) : Bool :=
  let mem := (bitList (leAt r 4 2) 12).filterMap (chanRec l)
  popCount (leAt r 4 2) 12 != b1 r 1 || mem.any (fun q => b1 q 1 == 0) ||
  mem.any (fun q => decide (q.tail ≠ (mem.headD []).tail)) ||
  earlier.any fun q => (leAt q 4 2 &&& leAt r 4 2) != 0

/-- Consistency of one REGIONS record by itself and against the earlier ones (R45, R118, R119). -/
def regBad (l : List Sect) (all : List RegRec) (r : RegRec) : Bool :=
  let local_ := !tRemote r.typ
  !([0, 1, 2, 3, 4, 5, 6, 7, 8, 10].contains r.typ) ||
  (r.head < 16 && (all.take r.idx).any fun q => q.head == r.head && q.dec == r.dec) ||
  (local_ && !(recsOf l 3).any fun q => b1 q 0 == r.set) ||
  (local_ != (r.home == 255)) ||
  (tShared r.typ && r.peer != 255) ||
  (!tShared r.typ && r.head < 16 && (r.nodes != 0 || r.peer != 255)) ||
  (!tShared r.typ && r.head == 16 && (popCount r.nodes 64 != 1 || r.peer == 255)) ||
  (local_ && tShared r.typ && r.head < 16 && !r.sharing.testBit r.head)

/-- The record of the first region with which the direct regions outgrow their set or their share, or the paged span ends too high (R113). -/
def regionOver (fit : Fit) (l : List Sect) (regs : List RegLay) : Option Nat :=
  let sets := laySets fit l
  let share := (rawBytes sets - metaBytes l) * leAt ((recsOf l 4).headD []) 0 2 / 1024
  (List.range regs.length).findSome? fun n =>
    let places := placeRegions sets (regs.take (n + 1))
    if sets.any (fun x => decide (x.size < directUsed places x.set)) ||
      decide (share < (sets.map fun x => directUsed places x.set).sum) || decide (2 ^ 44 + 2 ^ 45 < pagedEnd places)
    then (regs.getD n []).head?.map (·.idx) else none

/-- Capacity conditions of TIERS (R221, R224, R225). -/
def capacityBad (fit : Fit) (l : List Sect) (places : List RegPlace) : Bool :=
  let sets := laySets fit l
  let raw := rawBytes sets
  let t := (recsOf l 4).headD []
  let m := metaBytes l
  let direct := (sets.map fun s => directUsed places s.set).sum
  let d := divide raw m direct (leAt t 0 2) (donorGibOf l)
  let tiered := (places.filter fun p => tTiered (regHead p.reg).typ).map fun p => regHead p.reg
  let tAll := (tiered.map (·.size)).sum
  let tPlain := ((tiered.filter fun r => !tDcd r.typ).map (·.size)).sum
  let need := roundUp (2 * (tAll / 256 + raw / 32768) + tAll / 262144 + tAll / 67108864) (4 * 1048576)
  decide (leAt t 4 4 * 1048576 < need) ||
  (match metaSet sets with
    | none => true
    | some s => decide (s.size < m) || decide (metaBase s m < s.base + directUsed places s.set)) ||
  decide (d.slab < 0) || decide (d.t0 + d.slab * (b1 t 2 : Nat) / 16 < (tPlain : Int))

/-- Consistency of the WAKE records of a state (R353). -/
def wakeBad (recs : List (List Byte)) (st : Nat) : Bool :=
  let mine := recs.filter fun r => b1 r 0 == st
  let need := match st with
    | 1 => [4, 6] | 2 => [2, 4, 5, 7, 9] | _ => [1, 2, 3, 4, 5, 7, 8, 9]
  let at_ (n : Nat) := mine.find? fun r => b1 r 1 == n
  let acts := (List.range mine.length).filterMap fun i => (at_ (i + 1)).map fun r => b1 r 2
  acts.length != mine.length || !decide (acts.Pairwise (· < ·)) || need.any (fun a => !acts.contains a)

/-- Rails' ranges in mV (19 R440). -/
def railRange : Nat → Nat × Nat
  | 0 => (650, 900) | 1 => (700, 950) | 2 => (950, 1050) | 3 => (1067, 1133) | _ => (855, 945)

/-- Consistency of an OPPOINT record (R45, R440). -/
def oppBad (r : List Byte) : Bool :=
  let (lo, hi) := railRange (b1 r 0)
  let mv := leAt r 2 2
  let mn := leAt r 4 2
  let mx := leAt r 6 2
  decide (mv < mn) || decide (mx < mv) || [mv, mn, mx].any fun v => decide (v < lo) || decide (hi < v)

/-- Consistency of an IFC_CURVE record (R45, R378). -/
def curveBad (r : List Byte) : Bool :=
  let cur (k : Nat) := leAt r (8 * k) 4
  let tim (k : Nat) := leAt r (8 * k + 4) 4
  let fast := leAt r 64 4
  let ramp := leAt r 72 4
  (List.range 7).any (fun k => decide (cur k ≤ cur (k + 1)) || decide (tim (k + 1) ≤ tim k)) ||
  decide (fast ≤ cur 0) || decide (fast ≤ ramp) || decide (cur 7 ≤ ramp) ||
  (List.range 6).any fun k => leAt r (80 + 4 * k) 4 == 0

/-- BIAS record of a state. -/
def biasRec (l : List Sect) (st : Nat) : List Byte := ((recsOf l 0xA).find? fun r => b1 r 0 == st).getD []

/-- Consistency of one BIAS record against the others (R359). -/
def biasBad (l : List Sect) (earlier : List (List Byte)) (r : List Byte) : Bool :=
  earlier.any (fun q => b1 q 0 == b1 r 0) ||
  match b1 r 0 with
  | 0 => decide (1 < b1 r 1)
  | 1 => decide (r.tail ≠ (biasRec l 0).tail)
  | 2 => b1 r 1 != 2
  | _ => b1 r 1 != 3

/-- Bounds of a wake step in force: those of the image, or of the running image for a patch (R45). -/
def wakeBounds (l : List Sect) (running : SMap (Nat × Nat × Nat × Nat)) (patch : Bool) (st step : Nat) : Option (Nat × Nat) :=
  if patch then (smFind? running (st * 16 + step)).map fun d => (d.2.2.1, d.2.2.2)
  else ((recsOf l 9).find? fun r => b1 r 0 == st && b1 r 1 == step).map fun r => (leAt r 8 4, leAt r 12 4)

/-- Consistency of a WAKE_TRIM record by itself and against the earlier ones (R45). -/
def trimBad (l : List Sect) (running : SMap (Nat × Nat × Nat × Nat)) (patch : Bool) (earlier : List (List Byte)) (r : List Byte) : Bool :=
  match wakeBounds l running patch (b1 r 0) (b1 r 1) with
  | none => true
  | some (lo, hi) => decide (leAt r 4 4 < lo) || decide (hi < leAt r 4 4) ||
      earlier.any fun q => b1 q 0 == b1 r 0 && b1 q 1 == b1 r 1

/-- max_ops a drawer has once an image's DRAWER_LIMITS apply: its own record, the 0xFF record, or `old`. -/
def opsAfter (recs : List (List Byte)) (d old : Nat) : Nat :=
  match recs.find? fun r => b1 r 0 == d && d != 255 with
  | some r => leAt r 2 2
  | none => match recs.find? fun r => b1 r 0 == 255 with
    | some r => leAt r 2 2
    | none => old

/-- First record of a section for which a test over it and the earlier ones holds: of records that contradict one another the later
one fails (assumption 44). -/
def badAfter (l : List Sect) (typ : Nat) (p : List (List Byte) → List Byte → Bool) : Option CutFail :=
  ((recsOf l typ).zipIdx.find? fun x => p ((recsOf l typ).take x.2) x.1).map fun x => ⟨0xF, idxOf l typ, x.2⟩

/-- First record of a section for which a test holds. -/
def badRec (l : List Sect) (typ : Nat) (p : List Byte → Bool) : Option CutFail := badAfter l typ fun _ r => p r

/-- First record that names what an earlier one of its section names. -/
def badTwice (l : List Sect) (typ : Nat) (key : List Byte → Nat) : Option CutFail :=
  badAfter l typ fun earlier r => earlier.any fun q => key q == key r

/-- Fail a whole section. -/
def badSect (l : List Sect) (typ : Nat) (c : Bool) : Option CutFail := failIf c 0xF (idxOf l typ)

/-- Check 0x0F over a whole image. -/
def checkConsistency (s : State) (fit : Fit) (b : List Byte) (l : List Sect) : Option CutFail :=
  let patch := isPatch b
  let rr := regRecs l
  let draw := (recsOf l 6).headD []
  let maxD := if patch then s.drw.maxDrawers else if (recsOf? l 6).isSome then leAt draw 0 2 else 256
  let live := firstFail [
    badTwice l 0x101 (fun r => b1 r 1 * 256 + b1 r 0),
    badRec l 0x101 fun r => decide (leAt r 4 2 < leAt r 2 2),
    badTwice l 0x102 (fun r => b1 r 0),
    badSect l 0x102 (decide (4096 < ((List.range maxD).map fun d => opsAfter (recsOf l 0x102) d
      (if patch then s.fget DRW_LIMIT.OPS d else 16)).sum)),
    badRec l 0x103 fun r => decide (leAt r 8 2 ≤ leAt r 6 2) || decide (leAt r 12 2 ≤ leAt r 10 2),
    badRec l 0x104 curveBad,
    badAfter l 0x105 (trimBad l s.cut.wakeDefs patch),
    badTwice l 0x106 (fun r => b1 r 0)]
  if patch then live
  else
    let structural_ := firstFail [
      badTwice l 1 (fun r => b1 r 0),
      badRec l 1 fun r => decide ((b1 r 2 ||| formedMask (b1 r 1)) ≠ formedMask (b1 r 1)),
      badTwice l 2 (fun r => b1 r 0),
      badAfter l 2 chanBad,
      badTwice l 3 (fun r => b1 r 0),
      badAfter l 3 (setBad l),
      (rr.find? (regBad l rr)).map fun r => ⟨0xF, idxOf l 5, r.idx⟩,
      badRec l 6 fun r => let priv := (List.range (b1 r 2)).map fun i => b1 r (3 + i)
        !distinct priv || priv.any fun d => decide (maxD ≤ d),
      badRec l 7 fun r => b1 r 0 == 2 && b1 ((recsOf l 4).headD []) 3 == 0,
      badTwice l 8 (fun r => b1 r 2 * 65536 + leAt r 0 2),
      badRec l 8 fun r => b1 r 2 == 0 && b1 r 3 == 0 && decide (0xA < leAt r 0 2),
      badRec l 9 fun r => decide (leAt r 4 4 < leAt r 8 4) || decide (leAt r 12 4 < leAt r 4 4),
      badSect l 9 ((List.range 3).any fun k => wakeBad (recsOf l 9) (k + 1)),
      badAfter l 0xA (biasBad l),
      badTwice l 0xB (fun r => b1 r 0),
      badTwice l 0xC (fun r => b1 r 0),
      badRec l 0xC oppBad,
      badSect l 0xC ([0, 1].any fun k => !((recsOf l 0xC).map fun r => b1 r 0).contains k)]
    let capacity := (failIf (decide (rawBytes (laySets fit l) < metaBytes l)) 0xF (idxOf l 4) 0).or <|
      match formRegions rr with
      | .inr i => some ⟨0xF, idxOf l 5, i⟩
      | .inl regs => ((regionOver fit l regs).map fun i => ⟨0xF, idxOf l 5, i⟩).or <|
          failIf (capacityBad fit l (placeRegions (laySets fit l) regs)) 0xF (idxOf l 4) 0
    (structural_.or live).or capacity

end Sys2Proof.Machine
end

