-- ==== Sys2Proof/Machine/WeirCap.lean ====
section
/-! DEFINITION. Weir's limits (11 R286-R290): derated capacity, Span capacity, effective minimums and shortfalls. -/

namespace Sys2Proof.Machine

open Sys2Proof

/-- Derated capacity from the doubled rate, the state of sparing and whether an unused spare exists (R286). -/
def derated (doubled : Bool) (spareState : Nat) (hasSpare : Bool) : Nat :=
  let fref := if doubled then 819 else 922
  let fspare := if spareState = 1 then 819 else if spareState = 0 ∧ hasSpare then 993 else 1024
  128 * fref * fspare / 2 ^ 20

/-- Is a channel populated (07 R162)? -/
def State.chanPop (s : State) (c : Nat) : Bool := s.fget DMC_CFG.SLOTS c != 0

/-- Has a channel failed (07 R190)? -/
def State.chanFailed (s : State) (c : Nat) : Bool := s.fget DMC_STATUS.STATE c == 4

/-- Is a channel in service for Weir (R288): populated, in a set, not failed? -/
def State.chanServes (s : State) (c : Nat) : Bool := s.chanPop c && s.fget DMC_CFG.SET c != 15 && !s.chanFailed c

/-- Is the doubled refresh rate in force on a channel (07 R172)? -/
def State.doubled (s : State) (c : Nat) : Bool :=
  (s.chan c).hot || (s.chan c).blind || s.fone DMC_REFCTL.FORCE2X c

/-- Derated capacity D of a channel (R286). -/
def State.capD (s : State) (c : Nat) : Nat :=
  if s.chanFailed c then 0
  else derated (s.doubled c) (s.fget DMC_SPARE.STATE c) (s.fget DMC_CFG.SPARE c != 15)

/-- Lanes of admitted Span links in half lanes: a lane at 32 GT/s counts as half a lane (13 R320). -/
def State.halfLanes (s : State) : Nat :=
  ((List.range 4).map fun p =>
    if s.fget SPN_PSTATE.LINK p = 4 then s.fget SPN_PSTATE.WIDTH p * (1 + s.fget SPN_PSTATE.RATE64 p) else 0).sum

/-- Span capacity (R287). -/
def State.spanCap (s : State) : Nat :=
  if s.fget SPN_CFG.ROLE = 0 then 0
  else if s.spn.admittedOnce then min 1024 (16 * s.halfLanes)
  else 256 * popCount (s.fget SPN_CFG.PORT_EN) 4

/-- Configured minimums of a channel, C0 to C7. -/
def State.cfgMins (s : State) (c : Nat) : List Nat := (List.range 8).map fun k => s.fget WEIR_SHARE.MIN (c * 8 + k)

/-- Sum of the configured C5 minimums over the channels in service (R288). -/
def State.sumC5 (s : State) : Nat := (((List.range 12).filter s.chanServes).map fun c => s.fget WEIR_SHARE.MIN (c * 8 + 5)).sum

/-- Is the reduction on SPANCAP in force (R289)? -/
def State.spanShort (s : State) : Bool := s.fget SPN_CFG.ROLE != 0 && decide (s.spanCap < s.sumC5)

/-- Minimums of a channel after the Span reduction, or the holding of C5 at 0 (R289). -/
def State.spanMins (s : State) (c : Nat) : List Nat :=
  let m := s.cfgMins c
  let c5 := if s.fget SPN_CFG.ROLE = 0 then 0
    else if s.spanShort ∧ s.chanServes c then m.getD 5 0 * s.spanCap / s.sumC5
    else m.getD 5 0
  m.set 5 c5

/-- The order in which the reduction by D takes from the classes (R289). -/
def cutOrder : List Nat := [5, 4, 3, 2, 1, 0, 6, 7]

/-- The reduction by D (R289): minimums, and the capacity D. -/
def reduceByD (m : List Nat) (d : Nat) : List Nat :=
  (cutOrder.foldl (fun (acc : List Nat × Nat) c =>
    let cfg := m.getD c 0
    let floor := if [0, 1, 2, 6, 7].contains c ∧ 0 < cfg then 1 else 0
    let cut := min acc.2 (cfg - floor)
    (acc.1.set c (cfg - cut), acc.2 - cut)) (m, m.sum - d)).1

/-- Effective minimums of a channel (R289). -/
def State.effMins (s : State) (c : Nat) : List Nat := reduceByD (s.spanMins c) (s.capD c)

/-- Does the reduction by D lower any minimum of a channel (R290)? Not raised for a failed channel (R286). -/
def State.chShort (s : State) (c : Nat) : Bool :=
  s.chanServes c && decide (s.effMins c ≠ s.spanMins c)

/-- Set one channel's limits in force, and its capacity registers. -/
def State.weirSetChan (s : State) (c : Nat) : State :=
  let eff := s.effMins c
  let cfg := s.cfgMins c
  let s1 := s.each (List.range 8) fun k s =>
    let held := k = 5 ∧ s.fget SPN_CFG.ROLE = 0
    ((s.fset WEIR_EFF.EFFMIN (c * 8 + k) (eff.getD k 0)).fset WEIR_EFF.EFFMAX (c * 8 + k)
      (s.fget WEIR_SHARE.MAX (c * 8 + k))).fbit WEIR_EFF.REDUCED (c * 8 + k)
      (!decide held && decide (eff.getD k 0 < cfg.getD k 0))
  let spare := if s.chanFailed c then 3
    else match s.fget DMC_SPARE.STATE c with
      | 1 => 2
      | 0 => if s.fget DMC_CFG.SPARE c = 15 then 0 else 1
      | _ => 0
  let s1 := (s1.fbit WEIR_CAP.SHORT c (s.chShort c)).fbit WEIR_CAP.REF2X c (s.doubled c)
  ((((s1.fset WEIR_CAP.SPARE c spare).fset WEIR_CAP.SUMMIN c cfg.sum).fset WEIR_CAP.D c (s.capD c)).fset WEIR_CAP.EFFSUM c
    eff.sum)

/-- Capture of a SHORTFALL (R292): the channel, or 0x1F, with D and the configured sum. -/
def shortCapture (unit d sum : Nat) : Capture := { unit := unit, syn := d, aux := sum }

/-- A shortfall bit follows its condition (R290): setting it raises SHORTFALL; clearing it starts the quiet time again (16 R387). -/
def State.weirBit (s : State) (unit : Nat) (old new : Bool) (d sum : Nat) : State :=
  if new && !old then (s.finc WEIR_SHORT.EVENTS).report setWEIR 1 (shortCapture unit d sum)
  else if old && !new then { s with flt := { s.flt with quiet := smSet s.flt.quiet (setWEIR * 16) s.wclk } }
  else s

/-- Recompute every channel's effective minimums and the shortfall bits (R289, R290). -/
def State.weirRecompute (s : State) : State :=
  let s1 := s.each (List.range 12) fun c s => s.weirSetChan c
  let s1 := (s1.fset WEIR_SPAN.SUMC5 0 s.sumC5).fset WEIR_SPAN.SPANCAP 0 s.spanCap
  let mask := ((List.range 12).map fun c => if s.chShort c then 1 <<< c else 0).sum
  let s2 := (s1.fset WEIR_SHORT.CH 0 mask).fbit WEIR_SHORT.SPAN 0 s.spanShort
  let s2 := s2.each (List.range 12) fun c t =>
    t.weirBit c (s.fbitAt WEIR_SHORT.CH 0 c) (s.chShort c) (s.capD c) (s.cfgMins c).sum
  s2.weirBit 0x1F (s.fone WEIR_SHORT.SPAN) s.spanShort s.spanCap s.sumC5

end Sys2Proof.Machine
end

