-- ==== Sys2Proof/Machine/CutLoad.lean ====
section
/-! DEFINITION. What a checked Cut List image writes into the device (02 R41-R43, R47-R48, R53): structure at a re-cut, live
values at load and at live application; and the whole check of R44. -/

namespace Sys2Proof.Machine

open Sys2Proof

/-! ## Weir admission and the whole check (R44, R46, R288) -/

/-- Shares of a class and channel after an image's WEIR_SHARES: own record, the 0x1F record, or none (R279). -/
def shareRec (l : List Sect) (c k : Nat) : Option (List Byte) :=
  let recs := recsOf l 0x101
  (recs.find? fun r => b1 r 0 == k && b1 r 1 == c).or (recs.find? fun r => b1 r 0 == k && b1 r 1 == 0x1F)

/-- Minimum of a class and channel under an image: the record's, the reset value at load, the running value otherwise. -/
def minAfter (s : State) (l : List Sect) (live : Bool) (c k : Nat) : Nat :=
  match shareRec l c k with
  | some r => leAt r 2 2
  | none => if live then s.fget WEIR_SHARE.MIN (c * 8 + k) else fldReset WEIR_SHARE.MIN (c * 8 + k)

/-- Check 0x10 (R46, R288). -/
def checkAdmission (s : State) (use : CutUse) (l : List Sect) : Option CutFail :=
  let live := use == .live
  let inSet (c : Nat) := (recsOf l 3).any fun r => (leAt r 4 2).testBit c
  let serves (c : Nat) := if live then s.chanServes c else inSet c
  let d (c : Nat) := if live then s.capD c
    else derated false 0 (match chanRec l c with
      | some r => b1 r 6 != 255
      | none => false)
  let span := (recsOf l 7).headD []
  let role := if live then s.fget SPN_CFG.ROLE else b1 span 0
  let cap := if live then s.spanCap else if role = 0 then 0 else 256 * popCount (b1 span 1) 4
  let chans := (List.range 12).filter serves
  let sum (c : Nat) := ((List.range 8).map fun k => minAfter s l live c k).sum
  (failIf (chans.any fun c => decide (d c < sum c)) 0x10 (idxOf l 0x101)).or
  (failIf (role != 0 && decide (cap < (chans.map fun c => minAfter s l live c 5).sum)) 0x10 (idxOf l 0x101))

/-- Check 0x11 (R53). -/
def checkBase (s : State) (use : CutUse) (b : List Byte) (l : List Sect) : Option CutFail :=
  if use ≠ .live then none
  else if isPatch b then
    failIf (decide (BitVec.ofNat 384 (leNat ((recsOf l 0xF0).headD [])) ≠ s.cut.digest)) 0x11 (idxOf l 0xF0)
  else failIf (decide (structDigest l ≠ s.cut.digest)) 0x11

/-- Check 0x12 (R56): another Cut List command in progress, or live application outside P0. -/
def checkBusy (s : State) (use : CutUse) : Option CutFail :=
  failIf (use == .live && s.fget PWR_STATE.CUR != 0 || (use != .reset && s.fone CUT_STATUS.BUSY)) 0x12

/-- The modules as SPD gives them. -/
def State.fit (s : State) : Fit := (List.range 12).map fun c => ((s.chan c).rows, max 1 (s.fget DMC_CFG.HEIGHT c))

/-- Every check of R44 in order, on the image that begins a byte string; none: it passes. -/
def checkImage (s : State) (use : CutUse) (b : List Byte) : Option CutFail :=
  (checkHeader use b).or <| (checkSig b).or <| (checkOrigin s.nv use s.nv.cutFused b).or <|
  let l := imgSects b
  (checkTable b l).or <| (checkCrcs l).or <| (checkKnown use b l).or <| (checkRequired b l).or <| (checkRecords l).or <|
  (checkRanges b l).or <| (checkConsistency s s.fit b l).or <| (checkAdmission s use l).or <| (checkBase s use b l).or <|
  checkBusy s use

/-! ## Structural sections -/

/-- Load a PORTS record. -/
def loadPort (r : List Byte) (s : State) : State :=
  let p := b1 r 0
  let on := b1 r 2
  let s := ((s.fset HP_CFG.IDE_REQ p (b1 r 6)).fset HP_CFG.MGMT p (b1 r 3)).fset HP_CFG.HEAD_EN p on
  let s := ((s.fset HP_CFG.FLIT p (b1 r 5)).fbit HP_CFG.D3COLD_P4 p (b1 r 7 == 4)).fset HP_CFG.MAX_RATE p (b1 r 4)
  let s := s.fset HP_CFG.BIFUR p (b1 r 1)
  let s := s.fset GLB_HEADS.ENABLED 0 (s.fget GLB_HEADS.ENABLED ||| (on <<< (4 * p)))
  let s := s.fset GLB_HEADS.MGMT 0 (s.fget GLB_HEADS.MGMT ||| ((b1 r 3 &&& on) <<< (4 * p)))
  s.each (bitList on 4) fun k s => s.modHead (4 * p + k) fun x => { x with presence := 1 }

/-- Load a CHANNELS record. -/
def loadChan (l : List Sect) (r : List Byte) (s : State) : State :=
  let c := b1 r 0
  let set := ((recsOf l 3).find? fun q => (leAt q 4 2).testBit c).map fun q => b1 q 0
  let s := ((s.fset DMC_CFG.SPARE c (b1 r 6)).fset DMC_CFG.RANKS c (b1 r 4)).fset DMC_CFG.SLOTS c (b1 r 1)
  let s := ((s.fbit DMC_CFG.X8 c (b1 r 5 == 8)).fset DMC_CFG.MODULE c (b1 r 2)).fset DMC_CFG.SPEED c (b1 r 3)
  let ranks := servRanks r
  let map := ((List.range 4).map fun i => (ranks.getD i 15) <<< (4 * i)).sum
  (s.fset DMC_CFG.SET c (set.getD 15)).fset DMC_RANKMAP.MAP c map

/-- Load a laid-out interleave set. -/
def loadSet (x : SetLay) (s : State) : State :=
  let s := ((s.fset DEC_SET.VALID x.set 1).fset DEC_SET.WAYS x.set x.ways).fset DEC_SET.GRAN x.set x.gran
  ((s.fset DEC_SET.CHANNELS x.set x.mask).fset DEC_SETBASE.SIZE x.set (x.size / 2 ^ 30)).fset DEC_SETBASE.BASE x.set
    (x.base / 2 ^ 30)

/-- A region of the state from its placed records (R113, R118, R119). -/
def regionOf (p : RegPlace) : Region :=
  let r := regHead p.reg
  { typ := BitVec.ofNat 4 r.typ, base := p.base, size := r.size, set := r.set, cls := r.cls, hint := r.hint
    home := if r.home < 64 then some (BitVec.ofNat 6 r.home) else none
    sharingHeads := if r.head = 16 then 0 else if tShared r.typ then BitVec.ofNat 16 r.sharing else 1#16 <<< r.head
    sharingNodes := BitVec.ofNat 64 (p.reg.foldl (fun n q => n ||| q.nodes) 0)
    peerHead := if r.peer < 16 then some (Fin.ofNat 16 r.peer) else none }

/-- Load a record of a region: the decoder's template (R112). -/
def loadTemplate (n : Nat) (base : Nat) (q : RegRec) (s : State) : State :=
  if q.head = 16 then s
  else
    let i := q.head * 32 + q.dec
    let s := { s with dec := { s.dec with
      templates := smSet s.dec.templates i { hpaBase := q.hpaBase, size := q.size, kw := q.kw, region := n } } }
    let s := ((s.fset DEC_DTPL.VALID i 1).fset DEC_DTPL.REGION i n).fset DEC_DTPL.HOME i (if q.home < 64 then q.home else 63)
    let s := ((s.fset DEC_DTPL.SET i q.set).fset DEC_DTPL.HINT i q.hint).fset DEC_DTPL.CLASS i q.cls
    let s := (s.fset DEC_DTPL.KW i q.kw).fset DEC_DTPL.TYPE i q.typ
    if tRemote q.typ then s
    else (s.fset DEC_DPABASE_LO.BASE_L i (base >>> 28)).fset DEC_DPABASE_HI.BASE_H i (base >>> 32)

/-- Load a placed region as region number n. -/
def loadRegion (n : Nat) (p : RegPlace) (s : State) : State :=
  let s := { s with dec := { s.dec with regions := smSet s.dec.regions n (regionOf p) } }
  s.each p.reg (loadTemplate n p.base)

/-- Load a CLOCKS record (03 R61, R62). -/
def loadClock (r : List Byte) (s : State) : State :=
  let i := leAt r 0 2
  if b1 r 2 = 0 then
    if b1 r 3 = 0 then { s with boot := { s.boot with fast := s.boot.fast ||| (1#15 <<< i) } } else s
  else (s.fset CLK_UNIT.PIN i (b1 r 3)).fset CLK_UNIT.IDLE_NS i (leAt r 4 4)

/-- Load a WAKE record (14 R351). -/
def loadWake (r : List Byte) (s : State) : State :=
  let i := b1 r 0 * 16 + b1 r 1
  let s := ((s.fset PWR_WSTEP.VALID i 1).fset PWR_WSTEP.ACTION i (b1 r 2)).fset PWR_WSTEP.DELAY_NS i (leAt r 4 4)
  let s := (s.fset PWR_WMIN.NS i (leAt r 8 4)).fset PWR_WMAX.NS i (leAt r 12 4)
  { s with cut := { s.cut with wakeDefs := smSet s.cut.wakeDefs i (b1 r 2, leAt r 4 4, leAt r 8 4, leAt r 12 4) } }

/-- Load a BIAS record (14 R359). -/
def loadBias (r : List Byte) (s : State) : State :=
  ((s.fset PWR_BIAS.ASSIST (b1 r 0) (b1 r 1)).fset PWR_BIAS.NBIAS_MV (b1 r 0) (leAt r 2 2)).fset PWR_BIAS.PBIAS_MV (b1 r 0)
    (leAt r 4 2)

/-- Load the DRAWERS section (12 R293). -/
def loadDrawers (recs : List (List Byte)) (s : State) : State :=
  match recs.head? with
  | none => { s with drw := { s.drw with maxDrawers := 256 } }
  | some r =>
    let s := { s with drw := { s.drw with maxDrawers := leAt r 0 2 } }
    s.each (List.range (b1 r 2)) fun i s => s.fset DRW_BIND.PRIV (b1 r (3 + i)) 1

/-- Bind D0 with PASID 0 to the lowest-numbered enabled management head, or to none (12 R294, R295). -/
def bindD0 (s : State) : State :=
  match s.mgmtHeads.head? with
  | some h => ((s.fset DRW_BIND.EN 0 1).fset DRW_BIND.HEAD 0 h).fset DRW_BIND.PASID 0 0
  | none => s.fset DRW_BIND.EN 0 0

/-! ## Live sections (R41, R53) -/

/-- WEIR_SHARES of a channel: the classes its records reach. -/
def loadShares (l : List Sect) (c : Nat) (s : State) : State :=
  s.each (List.range 8) fun k s =>
    match shareRec l c k with
    | none => s
    | some r =>
      let i := c * 8 + k
      let win := leAt r 6 2
      let s := if s.fget WEIR_WINDOW.US i = win then s
        else (s.fset WEIR_BYTES.LAST i (smGet (s.chan c).bytes k 0)).modChan c fun x =>
          { x with bytes := smSet x.bytes k 0, winStart := smSet x.winStart k s.tb }
      ((s.fset WEIR_SHARE.MIN i (leAt r 2 2)).fset WEIR_SHARE.MAX i (leAt r 4 2)).fset WEIR_WINDOW.US i win

/-- DRAWER_LIMITS of a drawer: its own record or that of drawer 0xFF (12 R310). -/
def limitRec (recs : List (List Byte)) (d : Nat) : Option (List Byte) :=
  (recs.find? fun r => b1 r 0 == d && d != 255).or (recs.find? fun r => b1 r 0 == 255)

/-- Load the limits of the drawers a section reaches. -/
def loadLimits (recs : List (List Byte)) (s : State) : State :=
  s.each (List.range s.drw.maxDrawers) fun d s =>
    match limitRec recs d with
    | none => s
    | some r => ((s.fset DRW_LIMIT.RINGS d (b1 r 1 - 1)).fset DRW_LIMIT.OPS d (leAt r 2 2)).fset DRW_LIMIT.SHARE d (leAt r 4 2)
        |>.fset DRW_QUOTA.GIB d (leAt r 8 4)

/-- Load TIER_MARKS (09). -/
def loadMarks (r : List Byte) (s : State) : State :=
  let s := ((s.fset SLC_EPOCH.US 0 (leAt r 0 4)).fset SLC_PROMO.TH 0 (b1 r 4)).fset SLC_PROMO.STALL_US 0 (leAt r 16 2)
  let s := ((s.fset SLC_T0MARK.LOW 0 (leAt r 6 2)).fset SLC_T0MARK.HIGH 0 (leAt r 8 2)).fset SLC_SLABMARK.LOW 0 (leAt r 10 2)
  ((s.fset SLC_SLABMARK.HIGH 0 (leAt r 12 2)).fset SLC_DCDMARK.RELEASE 0 (leAt r 14 2)).fset SLC_MIGRATE.MBS 0 (leAt r 18 4)

/-- Load IFC_CURVE as a whole (15 R377). -/
def loadCurve (r : List Byte) (s : State) : State :=
  let s := s.each (List.range 8) fun k s =>
    (s.fset IFC_BP.CURRENT_MA k (leAt r (8 * k) 4)).fset IFC_BP.TIME_US k (leAt r (8 * k + 4) 4)
  let s := ((s.fset IFC_IFAST.MA 0 (leAt r 64 4)).fset IFC_TEMP.TFET_MAX 0 (leAt r 68 2)).fset IFC_RAMP.MV_US 0 (leAt r 70 2)
  let s := (s.fset IFC_RAMPLIM.MA 0 (leAt r 72 4)).fset IFC_RAMP.TIMER_MS 0 (leAt r 76 2)
  s.each (List.range 3) fun k s =>
    (s.fset IFC_MODEL.R_MK_W k (leAt r (80 + 8 * k) 4)).fset IFC_MODEL.C_UJ_K k (leAt r (84 + 8 * k) 4)

/-- Load a WAKE_TRIM record. -/
def loadTrim (r : List Byte) (s : State) : State := s.fset PWR_WSTEP.DELAY_NS (b1 r 0 * 16 + b1 r 1) (leAt r 4 4)

/-- Load FAULT_POLICY for every set a record reaches (16 R389). -/
def loadPolicy (recs : List (List Byte)) (s : State) : State :=
  s.each (List.range 31) fun set s =>
    match (recs.find? fun r => b1 r 0 == blockOf set).or (recs.find? fun r => b1 r 0 == 255) with
    | none => s
    | some r => ((s.fset FLT_POLICY0.QUIET_MS set (leAt r 2 2)).fset FLT_POLICY0.RECOVERY_MAX set (leAt r 4 2)).fset
        FLT_POLICY1.WINDOW_S set (leAt r 6 2)

/-- Every live section an image carries, all at one commit (R53, R54). -/
def loadLive (l : List Sect) (s : State) : State :=
  let s := s.each (List.range 12) (loadShares l)
  let s := loadLimits (recsOf l 0x102) s
  let s := s.each (recsOf l 0x103) loadMarks
  let s := s.each (recsOf l 0x104) loadCurve
  let s := s.each (recsOf l 0x105) loadTrim
  loadPolicy (recsOf l 0x106) s

/-- The structural sections of a checked full image, and what they lay out (R41, R113, R221). -/
def loadStructure (l : List Sect) (s : State) : State :=
  let fit := s.fit
  let s := s.each (recsOf l 1) loadPort
  let s := s.each (recsOf l 2) (loadChan l)
  let sets := laySets fit l
  let s := s.each sets loadSet
  let t := (recsOf l 4).headD []
  let meta_ := metaBytes l
  let s := ((s.fset SLC_TIERCFG.OVERCOMMIT 0 (b1 t 2)).fset SLC_TIERCFG.T2_EN 0 (b1 t 3)).fset SLC_TIERCFG.T0_SHARE 0 (leAt t 0 2)
  let s := s.fset SLC_META.MIB 0 (meta_ / 1048576)
  let regs := match formRegions (regRecs l) with
    | .inl r => r
    | .inr _ => []
  let places := placeRegions sets regs
  let s := s.each places.zipIdx fun p s => loadRegion p.2 p.1 s
  let direct := (sets.map fun x => directUsed places x.set).sum
  let d := divide (rawBytes sets) meta_ direct (leAt t 0 2) (donorGibOf l)
  let s := { s with slc := { s.slc with pools := layPools sets places meta_ d } }
  let s := loadDrawers (recsOf l 6) s
  let s := match (recsOf l 7).head? with
    | none => s
    | some r =>
      let s := ((s.fset SPN_CFG.ROLE 0 (b1 r 0)).fset SPN_CFG.PORT_EN 0 (b1 r 1)).fset SPN_CFG.NODE_ID 0 (b1 r 2)
      ((s.fset SPN_CFG.MAX_HOPS 0 (b1 r 3)).fset SPN_FABRIC.ID 0 (leAt r 4 4)).fset SPN_DONATE.GIB 0 (leAt r 8 4)
  let s := s.each (List.range 3) fun u s => s.fset CLK_UNIT.PIN u 0
  let s := s.each (recsOf l 8) loadClock
  let s := s.each (recsOf l 9) loadWake
  let s := s.each (recsOf l 0xA) loadBias
  let s := s.each (recsOf l 0xB) fun r s => { s with cut := { s.cut with balls := smSet s.cut.balls (b1 r 0) (b1 r 1) } }
  s.each (recsOf l 0xC) fun r s =>
    { s with cut := { s.cut with oppoint := smSet s.cut.oppoint (b1 r 0) (leAt r 2 2, leAt r 4 2, leAt r 6 2) } }

/-- `CUT_DIGEST0`-`CUT_DIGEST11` (R43). -/
def loadDigest (d : BitVec 384) (s : State) : State :=
  s.each (List.range 12) fun i s => s.fset CUT_DIGEST.DIGEST i (bits d.toNat (32 * i) 32)

/-- Load a checked full image at a re-cut (R47): source 0 slot A, 1 slot B, 2 streamed. -/
def loadImage (b : List Byte) (source : Nat) (s : State) : State :=
  let l := imgSects b
  let s := loadLive l (loadStructure l s)
  let s := { s with cut := { s.cut with image := b, digest := structDigest l } }
  let s := ((s.fset CUT_STATUS.SOURCE 0 source).fset CUT_STATUS.SIGNER 0 (imgSigner b)).fset CUT_VERSION.IMAGE 0 (leAt b 0x0C 4)
  (bindD0 (loadDigest (structDigest l) (s.fset CUT_BUILD.TAG 0 (leAt b 0x24 4)))).weirRecompute

/-- The fallback structure (R48): HP0 forms one x16 head, H0, a management head; no channel, no Span, every crossing ELASTIC,
every unit pinned. -/
def loadFallback (s : State) : State :=
  let s := (((s.fset HP_CFG.BIFUR 0 0).fset HP_CFG.HEAD_EN 0 1).fset HP_CFG.MGMT 0 1).fset HP_CFG.MAX_RATE 0 5
  let s := ((s.fset GLB_HEADS.ENABLED 0 1).fset GLB_HEADS.MGMT 0 1).modHead 0 fun x => { x with presence := 1 }
  bindD0 ((s.fset CUT_STATUS.SOURCE 0 3))

/-- Record a rejection in `CUT_REJECT` (R44): path code 0 reset load, 1 head, 2 sideband, 3 Bench. -/
def State.cutReject (s : State) (path head : Nat) (f : CutFail) : State :=
  let s := ((s.fset CUT_REJECT.PATH 0 path).fset CUT_REJECT.HEAD 0 head).fset CUT_REJECT.RECORD 0 f.rec_
  (s.fset CUT_REJECT.SECTION 0 f.sect).fset CUT_REJECT.CODE 0 f.code

/-- The value of `CUT_REJECT`, which CUT faults carry as their syndrome (R57). -/
def State.rejectWord (s : State) : Nat :=
  s.fget CUT_REJECT.PATH * 2 ^ 30 + s.fget CUT_REJECT.HEAD * 2 ^ 26 + s.fget CUT_REJECT.RECORD * 2 ^ 16 +
  s.fget CUT_REJECT.SECTION * 256 + s.fget CUT_REJECT.CODE

/-- The order in which a pair of slots is tried (R47): those whose header passes first, the higher ROLLBACK before the higher SEQUENCE
before slot A; then the others. -/
def slotOrder (hdrOk : Nat → Bool) (img : Nat → List Byte) : List Nat :=
  let before (i j : Nat) : Bool :=
    let key (k : Nat) := leAt (img k) 0x0C 4 * 2 ^ 32 + leAt (img k) 0x20 4
    decide (key j < key i) || (key i == key j && decide (i < j))
  let order := match (List.range 2).filter hdrOk with
    | [i, j] => if before i j then [i, j] else [j, i]
    | l => l
  order ++ (List.range 2).filter fun i => !order.contains i

/-- Load from the two flash slots (R47), or the streamed image of a re-cut by CUT_STREAM (R49). -/
def cutBoot (s : State) : State :=
  match s.cut.streamed with
  | some b => { loadImage b 2 s with cut := { (loadImage b 2 s).cut with streamed := none } }
  | none =>
    let img (i : Nat) : List Byte := if i = 0 then s.nv.cutA else s.nv.cutB
    let order := slotOrder (fun i => (checkHeader .reset (img i)).isNone) img
    let first := order.headD 0
    let second := 1 - first
    match checkImage s .reset (img first) with
    | none => loadImage (img first) first s
    | some f =>
      let s := s.cutReject 0 0 f
      match checkImage s .reset (img second) with
      | none =>
        let s := s.report setCUT 2 { syn := s.rejectWord, unit := first }
        loadImage (img second) second s
      | some f2 =>
        let s := s.cutReject 0 0 f2
        loadFallback (s.report setCUT 3 { syn := s.rejectWord, unit := second })

end Sys2Proof.Machine
end

