-- ==== Sys2Proof/Machine/PressCode.lean ====
section
/-! DEFINITION. The Press's coding (08 R192-R200, R213-R217): segments, pages and stream blocks as bytes. -/

namespace Sys2Proof.Machine

open Sys2Proof

/-! ## Words and residues (R192-R195) -/

/-- The little-endian 16-bit words of bytes (R192). -/
def wordsOf : List Byte → List Nat
  | a :: b :: rest => (a.toNat + 256 * b.toNat) :: wordsOf rest
  | _ => []

/-- The bytes of words. -/
def bytesOfWords (l : List Nat) : List Byte := l.flatMap (leBytes 2)

/-- Stride of a predictor, 0 for none (R193). -/
def stride : Nat → Nat
  | 1 => 1 | 2 => 2 | 3 => 4 | 4 => 8 | 5 => 32 | _ => 0

/-- Number of anchor words of a predictor (R193). -/
def anchors : Nat → Nat
  | 6 => 1 | p => stride p

/-- Zigzag form of the residue of w against u (R194). -/
def zigzag (w u : Nat) : Nat :=
  let r := (w + 65536 - u) % 65536
  if r < 32768 then 2 * r else 2 * (65536 - r) - 1

/-- Undo a zigzag value: the residue modulo 2^16 (R194). -/
def unzigzag (z : Nat) : Nat := if z % 2 = 0 then z / 2 else 65536 - (z + 1) / 2

/-- The stored values of a segment under a predictor with stride d: 0 in anchor slots (R194). -/
def residues (w : List Nat) (d : Nat) : List Nat :=
  (List.replicate d 0 ++ (List.zipWith zigzag (w.drop d) w)).take 128

/-- Width of a value set (R195): the smallest of 0-14 or 16 that holds every value. -/
def widthOf (l : List Nat) : Nat :=
  ((List.range 15).find? fun n => l.all fun z => decide (z < 2 ^ n)).getD 16

/-- The 16 groups of eight stored values. -/
def groupsOf (l : List Nat) : List (List Nat) := (List.range 16).map fun g => (l.drop (8 * g)).take 8

/-- Width code of a width, and width of a code (R195). -/
def widthCode (w : Nat) : Nat := if w = 16 then 15 else w
def codeWidth (c : Nat) : Nat := if c = 15 then 16 else c

/-- A group's bytes: eight slots of w bits, little-endian (R195). -/
def packGroup (w : Nat) (l : List Nat) : List Byte :=
  leBytes w ((l.zipIdx.map fun (z, k) => z <<< (k * w)).sum)

/-! ## Segments (R193, R196-R197) -/

/-- Does a predictor apply to a segment's 128 words (R193)? -/
def applies (w : List Nat) : Nat → Bool
  | 0 => w.all (· == 0)
  | 6 => w.all (· == w.headD 0)
  | _ => true

/-- The widths of a segment's groups under P1 to P5. -/
def widthsOf (w : List Nat) (p : Nat) : List Nat := (groupsOf (residues w (stride p))).map widthOf

/-- Coded size of a segment under a predictor (R196). -/
def segSize (w : List Nat) : Nat → Nat
  | 0 => 9 | 6 => 11 | 7 => 265
  | p => 9 + 2 * anchors p + (widthsOf w p).sum

/-- The predictor the encoder chooses under a mask of enabled predictors (R196). -/
def choosePred (w : List Nat) (en : Nat) : Nat :=
  let best := [0, 6, 1, 2, 3, 4, 5].foldl (fun (b : Option Nat) p =>
    if en.testBit p && applies w p then
      match b with
      | none => some p
      | some q => if segSize w p < segSize w q then some p else b
    else b) none
  match best with
  | none => 7
  | some p => if 256 ≤ segSize w p then 7 else p

/-- The bytes of a segment under a predictor (R197). -/
def segBytes (w : List Nat) (p : Nat) : List Byte :=
  let grps := if p = 0 ∨ p = 6 ∨ p = 7 then [] else groupsOf (residues w (stride p))
  let ws := grps.map widthOf
  let code (i : Nat) := widthCode (ws.getD i 0)
  BitVec.ofNat 8 p :: ((List.range 8).map fun k => BitVec.ofNat 8 (code (2 * k) + 16 * code (2 * k + 1))) ++
  bytesOfWords (w.take (anchors p)) ++
  (if p = 7 then bytesOfWords w else (List.zipWith packGroup ws grps).flatten)

/-- Width codes of a coded segment's groups. -/
def segCodes (b : List Byte) : List Nat :=
  (List.range 16).map fun g => bits ((b.getD (1 + g / 2) 0).toNat) (4 * (g % 2)) 4

/-- Groups whose code R195 requires to be 0. -/
def zeroGroups (p : Nat) : Nat := if p = 0 ∨ p = 6 ∨ p = 7 then 16 else if p = 4 then 1 else if p = 5 then 4 else 0

/-- The exact check of a segment when it is decoded (R213), given its RAWMAP bit. -/
def segOk (b : List Byte) (raw : Bool) : Bool :=
  let p := (b.headD 0).toNat
  let cs := segCodes b
  decide (p < 8) && (raw == (p == 7)) && (cs.take (zeroGroups p)).all (· == 0) &&
  decide (b.length = if p = 7 then 265 else 9 + 2 * anchors p + (cs.map codeWidth).sum)

/-- One stored value of a coded segment's group body. -/
def slotAt (grp : List Byte) (w k : Nat) : Nat := bits (leNat grp) (k * w) w

/-- The 128 words of a coded segment (R197). -/
def decodeSeg (b : List Byte) : List Nat :=
  let p := (b.headD 0).toNat % 8
  let a := anchors p
  let anch := wordsOf (sliceBytes b 9 (2 * a))
  if p = 0 then List.replicate 128 0
  else if p = 6 then List.replicate 128 (anch.headD 0)
  else if p = 7 then wordsOf (sliceBytes b 9 256)
  else
    let ws := (segCodes b).map codeWidth
    let starts := ws.foldl (fun (acc : List Nat × Nat) w => (acc.1 ++ [acc.2], acc.2 + w)) ([], 9 + 2 * a)
    let vals := (List.zipWith (fun st w => (List.range 8).map (slotAt (sliceBytes b st w) w)) starts.1 ws).flatten
    ((vals.drop a).foldl (fun (acc : List Nat) z => acc ++ [(acc.getD (acc.length - a) 0 + unzigzag z) % 65536]) anch).take 128

/-! ## Pages (R198-R200) -/

/-- The 16 segments of a page's bytes. -/
def pageSegs (b : List Byte) : List (List Nat) := (List.range 16).map fun s => wordsOf (sliceBytes b (256 * s) 256)

/-- A page header from its flags, segment ends and check (R198). -/
def headerBytes (flags : Nat) (ends : List Nat) : List Byte :=
  let b := leBytes 2 0x5EA7 ++ leBytes 4 flags ++
    (List.range 8).flatMap fun j => leBytes 3 (ends.getD (2 * j) 0 + 4096 * ends.getD (2 * j + 1) 0)
  b ++ leBytes 2 (crc16 b)

/-- What encoding a page gives: its coded bytes, END[15] and the predictors used. -/
structure Coded where
  bytes : List Byte
  size : Nat
  preds : List Nat
deriving DecidableEq, Repr

/-- Slabs of a coded page; 16 when it is stored raw (R200). -/
def Coded.slabs (c : Coded) : Nat := if 3840 < c.size then 16 else (c.size + 255) / 256

/-- Encode a 4 KiB page under a mask of enabled predictors (R196-R199). -/
def encodePage (page : List Byte) (en : Nat) : Coded :=
  let segs := pageSegs page
  let preds := segs.map fun w => choosePred w en
  let bodies := List.zipWith segBytes segs preds
  let ends := (bodies.foldl (fun (acc : List Nat × Nat) b => (acc.1 ++ [acc.2 + b.length], acc.2 + b.length)) ([], 32)).1
  let size := ends.getD 15 0
  let rawmap := ((preds.zipIdx).map fun (p, s) => if p = 7 then 1 <<< s else 0).sum
  { bytes := headerBytes ((size + 255) / 256 % 16 + 0x20 + 65536 * rawmap) ends ++ bodies.flatten, size := size, preds := preds }

/-- The bytes a page occupies in its slabs: coded and padded with zeros, or its plaintext when raw (R200). -/
def storedPage (page : List Byte) (c : Coded) : List Byte :=
  if 3840 < c.size then page else c.bytes ++ List.replicate (256 * c.slabs - c.size) 0

/-- END[s] of a header; END[-1] is 32 (R199). -/
def hdrEnd (h : List Byte) (s : Nat) : Nat := bits (leAt h (6 + 3 * (s / 2)) 3) (12 * (s % 2)) 12

/-- First byte of segment s. -/
def segStart (h : List Byte) (s : Nat) : Nat := if s = 0 then 32 else hdrEnd h (s - 1)

/-- RAWMAP bit of a segment. -/
def hdrRaw (h : List Byte) (s : Nat) : Bool := (leAt h 4 2).testBit s

/-- The check of a page header (R213) against the SLABS expected and the RAW flag allowed. -/
def headerOk (h : List Byte) (slabs : Nat) : Bool :=
  let flags := leAt h 2 4
  leAt h 0 2 == 0x5EA7 && bits flags 5 3 == 1 && leAt h 0x1E 2 == crc16 (h.take 30) && bits flags 0 4 == slabs &&
  bits flags 4 1 == 0 && bits flags 8 8 == 0 && decide (hdrEnd h 15 ≤ 256 * slabs) &&
  (List.range 16).all fun s =>
    let d := hdrEnd h s - segStart h s
    decide (segStart h s ≤ hdrEnd h s) && (d == 9 || d == 265 || decide (11 ≤ d ∧ d ≤ 255)) && (hdrRaw h s == (d == 265))

/-- Decode segment s of stored bytes under a header: its 256 bytes, none when it fails its check (R213). -/
def segPlain (h stored : List Byte) (s : Nat) : Option (List Byte) :=
  let b := sliceBytes stored (segStart h s) (hdrEnd h s - segStart h s)
  if segOk b (hdrRaw h s) then some (bytesOfWords (decodeSeg b)) else none

/-! ## Stream blocks (R214-R217) -/

/-- A page record of a stream block (R215). -/
def pageRecord (page : List Byte) (en : Nat) : List Byte :=
  let c := encodePage page en
  if 3840 < c.size then headerBytes (0x30 + 65536 * 0xFFFF) [] ++ page else c.bytes.take c.size

/-- RAWSEGS contribution of a page record. -/
def recordRaws (r : List Byte) : Nat := popCount (leAt r 4 2) 16

/-- Pad input to whole pages. -/
def padPage (b : List Byte) : List Byte := b ++ List.replicate (4096 - b.length) 0

/-- Cut input into 4 KiB pages, the last one padded with zeros. -/
def pagesOf (b : List Byte) : List (List Byte) :=
  (List.range ((b.length + 4095) / 4096)).map fun i => padPage (sliceBytes b (4096 * i) 4096)

/-- A stream block of up to 65,536 input bytes (R214, R215). -/
def streamBlock (input : List Byte) (flushed : Bool) (en : Nat) : List Byte :=
  let recs := (pagesOf input).map fun p => pageRecord p en
  let body := recs.flatten
  let tail := input.length - 4096 * (recs.length - 1)
  let h := leBytes 2 0x5EB7 ++ leBytes 1 recs.length ++ leBytes 1 flushed.toNat ++ leBytes 4 body.length ++
    leBytes 2 ((recs.map recordRaws).sum) ++ leBytes 2 tail
  h ++ leBytes 4 (crc32c (h ++ body)) ++ body

/-- Decode one page record at the front of bytes: the page and the record's length, none when it fails (R217). -/
def decodeRecord (b : List Byte) : Option (List Byte × Nat) :=
  let h := b.take 32
  let flags := leAt h 2 4
  if h.length < 32 then none
  else if flags.testBit 4 then
    if leAt h 0 2 = 0x5EA7 ∧ bits flags 5 3 = 1 ∧ leAt h 0x1E 2 = crc16 (h.take 30) ∧ bits flags 0 4 = 0 ∧ bits flags 8 8 = 0 ∧
        bits flags 16 16 = 0xFFFF ∧ (List.range 16).all (fun s => hdrEnd h s == 0) ∧ 4128 ≤ b.length then
      some (sliceBytes b 32 4096, 4128)
    else none
  else
    let n := hdrEnd h 15
    if headerOk h ((n + 255) / 256) && decide (n ≤ b.length) then
      ((List.range 16).mapM fun s => segPlain h b s).map fun l => (l.flatten, n)
    else none

/-- Decode the page records of a block. -/
def decodeRecords : Nat → List Byte → Option (List Byte)
  | 0, b => if b.isEmpty then some [] else none
  | n + 1, b =>
    match decodeRecord b with
    | none => none
    | some (p, len) => (decodeRecords n (b.drop len)).map (p ++ ·)

/-- RAWSEGS of a block's page records, walked by their lengths. -/
def rawsIn : Nat → List Byte → Nat
  | 0, _ => 0
  | n + 1, b => recordRaws b + rawsIn n (b.drop (if (leAt b 2 4).testBit 4 then 4128 else hdrEnd b 15))

/-- Decode one block at the front of bytes (R217): its output and its length. -/
def decodeBlock (b : List Byte) : Option (List Byte × Nat) :=
  let pages := leAt b 2 1
  let len := leAt b 4 4
  let tail := leAt b 0xA 2
  let body := sliceBytes b 16 len
  if b.length < 16 ∨ leAt b 0 2 ≠ 0x5EB7 ∨ pages < 1 ∨ 16 < pages ∨ tail < 1 ∨ 4096 < tail ∨ b.length < 16 + len ∨
      leAt b 0xC 4 ≠ crc32c (b.take 12 ++ body) ∨ leAt b 8 2 ≠ rawsIn pages body then none
  else (decodeRecords pages body).map fun o => (o.take ((pages - 1) * 4096 + tail), 16 + len)

/-- Decode blocks back to back: the output of the blocks that passed, and the index of the first that failed. -/
def decodeBlocks : Nat → Nat → List Byte → List Byte × Option Nat
  | 0, _, _ => ([], none)
  | fuel + 1, i, b =>
    if b.isEmpty then ([], none)
    else match decodeBlock b with
      | none => ([], some i)
      | some (o, n) =>
        let r := decodeBlocks fuel (i + 1) (b.drop n)
        (o ++ r.1, r.2)

end Sys2Proof.Machine
end

