-- ==== Sys2Proof/Machine/Place.lean ====
section
/-! DEFINITION. Channel interleave (05 R121-R123), and DRAM lines as Inlay and the line metadata leave them (07 R179-R183,
10 R253). -/

namespace Sys2Proof.Machine

open Sys2Proof

/-! ## Channel interleave (05 R121-R123) -/

/-- Where a line lies: channel, subchannel, logical rank, bank group, bank, row, column. -/
structure Place where
  chan : Nat
  sub : Nat
  rank : Nat
  bg : Nat
  bank : Nat
  row : Nat
  col : Nat
deriving DecidableEq, Repr

/-- log2 of the granularity a GRAN code names. -/
def granLog2 : Nat → Nat
  | 0 => 8 | 1 => 12 | _ => 21

/-- Way and local chunk of a chunk number (R122). -/
def wayOf (ways c : Nat) : Nat × Nat :=
  if ways = 1 ∨ ways = 2 ∨ ways = 4 then (c % ways, c / ways)
  else
    let p := ways / 3
    let a := c % p
    let x := c / p
    let b := x % 3
    (a + p * b, (x - b) / 3)

/-- Way and channel-local address of an offset in a set (R122). -/
def localAddr (ways g o : Nat) : Nat × Nat :=
  let w := wayOf ways (o >>> g)
  (w.1, w.2 <<< g + o % 2 ^ g)

/-- DRAM fields of a channel-local line number (R123). -/
def dramFields (x8 : Bool) (rows ln : Nat) : Nat × Nat × Nat × Nat × Nat × Nat :=
  let cw := if x8 then 4 else 5
  let h := ln >>> (8 + cw)
  let row := h % rows
  (ln % 2, h / rows, (bits ln 3 3) ^^^ (row % 8), bits ln (6 + cw) 2, row, bits ln 1 2 * 16 + bits ln 6 cw * 64)

/-- The interleave set that holds an MPA line number. -/
def State.setOfMpa (s : State) (mpa : Nat) : Option Nat :=
  (List.range 12).find? fun i => s.fone DEC_SET.VALID i &&
    decide (s.fget DEC_SETBASE.BASE i * 2 ^ 24 ≤ mpa ∧ mpa < (s.fget DEC_SETBASE.BASE i + s.fget DEC_SETBASE.SIZE i) * 2 ^ 24)

/-- Place of an MPA line number (R121-R123); none outside every set. -/
def State.placeOf (s : State) (mpa : Nat) : Option Place :=
  match s.setOfMpa mpa with
  | none => none
  | some i =>
    let o := mpa * 64 - s.fget DEC_SETBASE.BASE i * 2 ^ 30
    let (way, l) := localAddr (s.fget DEC_SET.WAYS i) (granLog2 (s.fget DEC_SET.GRAN i)) o
    let c := (bitList (s.fget DEC_SET.CHANNELS i) 12).getD way 0
    let (sub, rank, bg, bank, row, col) := dramFields (s.fone DMC_CFG.X8 c) (s.chan c).rows (l / 64)
    some ⟨c, sub, rank, bg, bank, row, col⟩

/-- Number of a bank within its channel. -/
def Place.bankNo (p : Place) : Nat := (p.sub * 16 + p.rank) * 32 + p.bg * 4 + p.bank

/-! ## Lines under key instances (10 R253, R255; 07 R181) -/

/-- The key instance in a slot. -/
def State.keyInst (s : State) (k : KeyId) : KeyInst := { slot := k, load := (s.slot k.toNat).load, mode := (s.slot k.toNat).mode }

/-- A key instance as a number. -/
def instNo (i : KeyInst) : Nat := i.slot.toNat + 128 * i.load

/-- May the slot's key still protect or unprotect a line (R255)? -/
def State.keyUsable (s : State) (k : KeyId) : Bool := decide (1 ≤ (s.slot k.toNat).state ∧ (s.slot k.toNat).state ≤ 3)

/-- What a line's burst carries when nothing has been written there since cold reset (R467). -/
def unwrittenLine (mpa loss : Nat) : Line :=
  let b := Config.unwritten mpa loss
  { data := b.extractLsb' 0 512, ktag := b.extractLsb' 512 4, slab := b.getLsbD 516, poison := b.getLsbD 517 }

/-- The line stored at an MPA line number. -/
def State.rawLine (s : State) (mpa : Nat) : Line :=
  (smFind? s.dram mpa).getD (unwrittenLine mpa s.dramLoss)

/-- Data of a stored line as a key instance unprotects it. -/
def unprotect (l : Line) (mpa : Nat) (reader : KeyInst) : Data :=
  if l.inst = reader then l.data else Config.otherKey l.data mpa (instNo l.inst) (instNo reader)

/-- Store a line. -/
def State.putLine (s : State) (mpa : Nat) (l : Line) : State := { s with dram := smSet s.dram mpa l }

/-- Write a line's data under a key (R22, R181): POISON when the slot holds no usable key (10 R271). -/
def State.writeLine (s : State) (mpa : Nat) (k : KeyId) (d : Data) (slab poison : Bool) : State :=
  s.putLine mpa { data := d, inst := s.keyInst k, ktag := ktagOf k, slab := slab, poison := poison || !s.keyUsable k }

/-- Set POISON on a line, keeping its data bytes when they were readable and else zeros (07 R185). -/
def State.poisonLine (s : State) (mpa : Nat) (readable : Bool) : State :=
  let l := s.rawLine mpa
  s.putLine mpa { l with data := if readable then l.data else 0, poison := true }

/-- What the return path makes of a line (07 R181-R183, 10 R272): its data, and which check failed. -/
structure Seen where
  data : Data
  /-- POISON was stored -/
  poison : Bool
  /-- KTAG differs, or the slot is retired -/
  ktagBad : Bool
  /-- the SLAB marker is not the one expected -/
  slabBad : Bool
deriving DecidableEq, Repr

/-- Read a line under a key with a SLAB expectation. -/
def State.seen (s : State) (l : Line) (mpa : Nat) (k : KeyId) (slab : Bool) : Seen :=
  { data := unprotect l mpa (s.keyInst k), poison := l.poison, ktagBad := l.ktag != ktagOf k, slabBad := l.slab != slab }

/-- Is a line's data unfit to return? -/
def Seen.bad (x : Seen) : Bool := x.poison || x.ktagBad || x.slabBad

/-- 64-byte lines of a run or page as bytes, and whether any of them is unfit, read by an agent under a key. -/
def State.readLines (s : State) (mpa n : Nat) (k : KeyId) (slab : Bool) : List (Data × Bool) :=
  (List.range n).map fun i =>
    let x := s.seen (s.rawLine (mpa + i)) (mpa + i) k slab
    (x.data, x.bad)

end Sys2Proof.Machine
end

