-- ==== Sys2Proof/Machine/Keys.lean ====
section
/-! DEFINITION. Key slots as requests meet them (10 R262-R263, R268-R269, R276): states, the write counter, events. -/

namespace Sys2Proof.Machine

open Sys2Proof

/-- Bits of INL_EVT and INL_IE (R276): 0 ADVISE, 1 END, 2 RETIRED, 3 FREED. -/
def evtFld : Nat → Fld
  | 0 => INL_EVT.ADVISE | 1 => INL_EVT.END | 2 => INL_EVT.RETIRED | _ => INL_EVT.FREED
def ieFld : Nat → Fld
  | 0 => INL_IE.ADVISE_IE | 1 => INL_IE.END_IE | 2 => INL_IE.RETIRED_IE | _ => INL_IE.FREED_IE

/-- An Inlay event (R276): its bit is set, and vector 19's cause rises when the bit was clear and its enable is set. -/
def State.inlEvent (s : State) (n : Nat) : State :=
  if s.fone (evtFld n) then s
  else
    let s := s.fset (evtFld n) 0 1
    if s.fone (ieFld n) then s.signal setINL else s

/-- Put a slot into a state. -/
def State.slotTo (s : State) (k st : Nat) : State := s.modSlot k fun x => { x with state := st }

/-- The count of a slot reaches 2^51 (R269): ADVISE, its event and its event records. -/
def State.advise (s : State) (k : Nat) : State :=
  let x := s.slot k
  if x.advised then s
  else
    let s := (s.modSlot k fun x => { x with advised := true }).fputBit INL_ADVISE.ADV (k / 32) (k % 32) true
    let s := s.inlEvent 0
    let dest := s.mgmtHeads ++ (if x.owner < 16 ∧ !s.headMgmt x.owner then [x.owner] else [])
    s.each dest fun h s => s.logEvent h 0 { kind := 4, set := setINL, cls := 0, addr := k }

/-- Count a line write under a slot (R268, R269): the counter holds at its end, where a slot other than 0 becomes EXHAUSTED. -/
def State.countWrite (s : State) (k : Nat) : State :=
  let c := min (2 ^ 52 - 1) ((s.slot k).count + 1)
  let s := s.modSlot k fun x => { x with count := c }
  let s := if 2 ^ 51 ≤ c then s.advise k else s
  if c = 2 ^ 52 - 1 ∧ k ≠ 0 ∧ (s.slot k).state = 1 then (s.slotTo k 2).inlEvent 1 else s

/-- Count n line writes. -/
def State.countWrites (s : State) (k n : Nat) : State := s.each (List.range n) fun _ s => s.countWrite k

/-- What a request does, as R263 tells requests apart. -/
inductive Access where
  | read | write | writeback
deriving DecidableEq, Repr

/-- How a slot's state treats a request (R263): served, refused by state, refused at the counter's end, or (a read in
RETIRED) sent to DRAM to return poison. -/
inductive Verdict where
  | served | refused | ended | poisoned
deriving DecidableEq, Repr

/-- The table of R263; states 0 FREE, 1 ACTIVE, 2 EXHAUSTED, 3 RETIRING, 4 RETIRED. -/
def verdict : Nat → Access → Verdict
  | 1, _ => .served
  | 2, .write => .ended
  | 2, _ => .served
  | 3, .writeback => .served
  | 4, .read => .poisoned
  | _, _ => .refused

/-- Raise the fault of a refusal (R263, R269): the key ID is the syndrome. -/
def State.keyRefused (s : State) (v : Verdict) (k : Nat) (dpa : Nat) : State :=
  match v with
  | .ended => (s.finc INL_REFUSED.WRITES).report setINL 2 { syn := k, addr := dpa, dpa := some dpa }
  | .refused => (s.finc INL_REFUSED.STATE).report setINL 1 { syn := k, addr := dpa, dpa := some dpa }
  | _ => s

end Sys2Proof.Machine
end

