-- ==== Sys2Proof/Machine/Pages.lean ====
section
/-! DEFINITION. The page map, its cache and Sluice's storage (05 R124-R127; 09 R220-R235, R241-R248): what requests and
moves share. -/

namespace Sys2Proof.Machine

open Sys2Proof

/-! ## Regions and pages -/

/-- A region of this node by number. -/
def State.region (s : State) (n : Nat) : Region := smGet s.dec.regions n {}

/-- Type bits of a region (05 R118). -/
def Region.tiered (r : Region) : Bool := r.typ.getLsbD 0
def Region.shared (r : Region) : Bool := r.typ.getLsbD 1
def Region.dcd (r : Region) : Bool := r.typ.getLsbD 2
def Region.remote (r : Region) : Bool := r.typ.getLsbD 3

/-- The local-home region that holds a DPA, with its number. -/
def State.regionAt (s : State) (dpa : Nat) : Option (Nat × Region) :=
  s.dec.regions.find? fun e => e.2.home.isNone && decide (e.2.base ≤ dpa ∧ dpa < e.2.base + e.2.size)

/-- The epoch number E. -/
def State.epoch (s : State) : Nat := s.fget SLC_EPOCHNUM.E

/-- 2 MiB and 1 GiB blocks of a page of the paged span. -/
def blk2 (pn : Nat) : Nat := pn / 512
def blk1 (pn : Nat) : Nat := (pn - 2 ^ 32) / 262144

/-- The 2 MiB record of a block. -/
def State.rec2 (s : State) (b : Nat) : Rec2M := smGet s.slc.rec2 b {}
/-- The 1 GiB record of a block. -/
def State.rec1 (s : State) (b : Nat) : Rec1G := smGet s.slc.rec1 b {}
def State.modRec2 (s : State) (b : Nat) (f : Rec2M → Rec2M) : State :=
  { s with slc := { s.slc with rec2 := smMod s.slc.rec2 b {} f } }
def State.modRec1 (s : State) (b : Nat) (f : Rec1G → Rec1G) : State :=
  { s with slc := { s.slc with rec1 := smMod s.slc.rec1 b {} f } }

/-- The stored PME of a page. -/
def State.dpm (s : State) (pn : Nat) : Pme := smGet s.slc.dpm pn {}

/-- Effective value of a stored COUNT (R229). -/
def State.effCount (s : State) (pn : Nat) : Nat :=
  let g := (s.epoch + 65536 - (s.rec2 (blk2 pn)).stamp.toNat) % 65536
  (s.dpm pn).count >>> min 8 g

/-- The PME of a page as DEC sees it: cached, else stored with its effective COUNT. -/
def State.pme (s : State) (pn : Nat) : Pme :=
  match smFind? s.dec.pmec pn with
  | some l => l.pme
  | none => { s.dpm pn with count := s.effCount pn }

/-- Is the page's PME cached? -/
def State.pmeCached (s : State) (pn : Nat) : Bool := smHas s.dec.pmec pn

/-- Bring a block up to date (R231): every COUNT at its effective value, STAMP = E. -/
def State.catchUp (s : State) (b : Nat) : State :=
  if (s.rec2 b).stamp = BitVec.ofNat 16 s.epoch then s
  else
    let dpm := smMap s.slc.dpm fun pn p => if blk2 pn = b then { p with count := s.effCount pn } else p
    { s with slc := { s.slc with dpm := dpm } }.modRec2 b fun r => { r with stamp := BitVec.ofNat 16 s.epoch }

/-- Write a page's stored PME, its block brought up to date first (R231). -/
def State.putDpm (s : State) (pn : Nat) (p : Pme) : State :=
  let s := s.catchUp (blk2 pn)
  { s with slc := { s.slc with dpm := smPut s.slc.dpm pn {} p } }

/-- Set index of a page in the PME cache (05 R126). -/
def State.pmeSet (s : State) (pn : Nat) : Nat :=
  match s.regionAt (pn * 4096) with
  | some (n, r) => ((pn - r.base / 4096) ^^^ (n <<< 4)) % 8192
  | none => pn % 8192

/-- Cached pages of a set. -/
def State.pmeWays (s : State) (set : Nat) : List (Nat × PmeLine) := s.dec.pmec.filter fun e => s.pmeSet e.1 == set

/-- Drop a page from the PME cache, writing its COUNT back (R231). -/
def State.pmeDrop (s : State) (pn : Nat) : State :=
  match smFind? s.dec.pmec pn with
  | none => s
  | some l =>
    let s := s.putDpm pn l.pme
    { s with dec := { s.dec with pmec := smDel s.dec.pmec pn } }

/-- Install a page's PME in the cache (05 R126). The way that leaves is one of the unpinned ways of a full set, which of them
the pseudo-LRU leaves open (assumption 4). -/
def State.pmeInstall (s : State) (pn : Nat) : State :=
  if s.pmeCached pn then s
  else
    let ways := s.pmeWays (s.pmeSet pn)
    let s := if ways.length < 8 then s else
      let free := ways.filter fun e => !e.2.pinned
      match free[(s.freeVal 3).toNat % max 1 free.length]? with
      | some e => s.freeTaken.pmeDrop e.1
      | none => s
    { s with dec := { s.dec with pmec := smSet s.dec.pmec pn { pme := { s.dpm pn with count := s.effCount pn } } } }

/-- Pin or unpin a cached way. -/
def State.pmePin (s : State) (pn : Nat) (b : Bool) : State :=
  { s with dec := { s.dec with pmec := smAdj s.dec.pmec pn fun l => { l with pinned := b } } }

/-- May a move pin the page's way: no more than 4 ways of a set are pinned (05 R126)? -/
def State.pmeMayPin (s : State) (pn : Nat) : Bool :=
  decide (((s.pmeWays (s.pmeSet pn)).filter fun e => e.2.pinned).length < 4)

/-- Change the tier counts of a page's blocks when it leaves one tier for another. -/
def State.tierCount (s : State) (pn old new : Nat) : State :=
  let d (t n : Nat) : Nat := n + (if new = t then 1 else 0) - (if old = t then 1 else 0)
  (s.modRec2 (blk2 pn) fun r => { r with t0 := d 0 r.t0, t1 := d 1 r.t1 }).modRec1 (blk1 pn) fun r =>
    { r with t0 := d 0 r.t0, t1 := d 1 r.t1 }

/-- An update of a page's PME (05 R125): SEQ advances, both copies and the cached copy are written. -/
def State.pmeUpdate (s : State) (pn : Nat) (f : Pme → Pme) : State :=
  let old := s.pme pn
  let p := { f old with seq := old.seq + 1 }
  let s := (s.tierCount pn old.tier p.tier).putDpm pn p
  { s with dec := { s.dec with pmec := smAdj s.dec.pmec pn fun l => { l with pme := p } } }

/-- Count an access by a host (R226): COUNT holds at 255, SUMs follow, SAT counts the step to 255. -/
def State.countAccess (s : State) (pn : Nat) : State :=
  let c := (s.pme pn).count
  if 255 ≤ c then s
  else
    let s := if s.pmeCached pn then
        { s with dec := { s.dec with pmec := smAdj s.dec.pmec pn fun l => { l with pme := { l.pme with count := c + 1 } } } }
      else (s.catchUp (blk2 pn)).putDpm pn { s.dpm pn with count := c + 1 }
    let s := s.modRec2 (blk2 pn) fun r => { r with sum := min 65535 (r.sum + 1) }
    s.modRec1 (blk1 pn) fun r => { r with sum := r.sum + 1, sat := if c = 254 then min 65535 (r.sat + 1) else r.sat }

/-! ## Frames and slabs (R222-R223) -/

/-- First number of [first, first + count) that a rising list of taken numbers does not hold. -/
def firstGap (first count : Nat) : SMap Unit → Option Nat
  | [] => if count = 0 then none else some first
  | (k, _) :: m =>
    if count = 0 then none
    else if k < first then firstGap first count m
    else if k = first then firstGap (first + 1) (count - 1) m
    else some first

/-- Frames of a pool kind over all sets. -/
def State.poolFrames (s : State) (kind : Nat) : Nat := ((s.slc.pools.filter fun p => p.kind == kind).map (·.count)).sum

/-- F0: free pages of the T0 pool (R223). -/
def State.f0 (s : State) : Nat := 512 * s.poolFrames 0 - s.slc.t0used.length

/-- Free reserve pages. -/
def State.rsvFree (s : State) : Nat := 512 * s.poolFrames 1 + s.slc.rsvExtra.length - s.slc.rsvUsed.length

/-- Free slabs of the slab frames in a map, of n frames (R223). -/
def freeSlabs (n : Nat) (m : SMap SlabFrame) : Nat :=
  8192 * (n - m.length) + (m.map fun e => (8192 / e.2.cls - e.2.used.length) * e.2.cls).sum

/-- FS: free slabs of the slab pool (R223). -/
def State.fs (s : State) : Nat := freeSlabs (s.poolFrames 3) s.slc.slabs

/-- Draw a free T0 page, from the sets in rotation (R222). The page is MPA >> 12. -/
def State.drawT0 (s : State) : Option (Nat × State) :=
  let pools := s.slc.pools.filter fun p => p.kind == 0
  let n := pools.length
  let order := (List.range n).map fun i => pools.getD ((i + s.slc.rot) % max 1 n) {}
  (order.findSome? fun p => firstGap (p.first * 512) (p.count * 512) s.slc.t0used).map fun g =>
    (g, { s with slc := { s.slc with t0used := smSet s.slc.t0used g (), rot := (s.slc.rot + 1) % max 1 n } })

/-- Draw a page of the emergency reserve (R243). -/
def State.drawRsv (s : State) : Option (Nat × State) :=
  match s.slc.rsvExtra with
  | p :: rest => some (p, { s with slc := { s.slc with rsvExtra := rest } })
  | [] =>
    ((s.slc.pools.filter fun p => p.kind == 1).findSome? fun p => firstGap (p.first * 512) (p.count * 512) s.slc.rsvUsed).map
      fun g => (g, { s with slc := { s.slc with rsvUsed := smSet s.slc.rsvUsed g () } })

/-- Does a page (MPA >> 12) belong to the pool kind? -/
def State.pageIn (s : State) (kind page : Nat) : Bool :=
  s.slc.pools.any fun p => p.kind == kind && decide (p.first * 512 ≤ page ∧ page < (p.first + p.count) * 512)

/-- The frame with the fewest free runs of a class, among those that have one. -/
def fullestFrame (k : Nat) (m : SMap SlabFrame) : Option (Nat × SlabFrame) :=
  (m.filter fun e => e.2.cls == k && decide (e.2.used.length < 8192 / k)).foldl
    (fun b e => match b with
      | none => some e
      | some b => if b.2.used.length < e.2.used.length then some e else some b) none

/-- First number below n that a list does not hold. -/
def firstFree (n : Nat) (l : List Nat) : Option Nat := (List.range (min n (l.length + 1))).find? fun i => !l.contains i

/-- Take a run of k slabs from frames in use or a free frame (R223): the run's first slab, and the map after. -/
def takeRun (frames : List Nat) (k : Nat) (m : SMap SlabFrame) : Option (Nat × SMap SlabFrame) :=
  match fullestFrame k m with
  | some (f, fr) => (firstFree (8192 / k) fr.used).map fun i => (f * 8192 + i * k, smSet m f { fr with used := i :: fr.used })
  | none => (frames.find? fun f => !smHas m f).map fun f => (f * 8192, smSet m f { cls := k, used := [0] })

/-- Give a run back: a frame with no run taken is free (R223). -/
def giveRun (m : SMap SlabFrame) (slab : Nat) : SMap SlabFrame :=
  match smFind? m (slab / 8192) with
  | none => m
  | some fr =>
    let used := fr.used.filter fun i => i != slab % 8192 / fr.cls
    if used.isEmpty then smDel m (slab / 8192) else smSet m (slab / 8192) { fr with used := used }

/-- A few candidate frames of a pool kind, enough to find one that the map does not list. -/
def State.frameCands (s : State) (kind : Nat) (m : SMap SlabFrame) : List Nat :=
  (s.slc.pools.filter fun p => p.kind == kind).flatMap fun p => (List.range (min p.count (m.length + 1))).map (p.first + ·)

/-- Draw a run of k slabs for this node: LOC of its first slab (MPA >> 8). -/
def State.drawRun (s : State) (k : Nat) : Option (Nat × State) :=
  (takeRun (s.frameCands 3 s.slc.slabs) k s.slc.slabs).map fun r => (r.1, { s with slc := { s.slc with slabs := r.2 } })

/-- Drop a page header from the Press's cache (08 R207). -/
def State.hcacheDrop (s : State) (loc node : Nat) : State :=
  { s with press := { s.press with hcache := s.press.hcache.filter fun e => e.1 != loc * 64 + node } }

/-- Return a local run, its cached header with it. -/
def State.freeRun (s : State) (loc : Nat) : State :=
  { s with slc := { s.slc with slabs := giveRun s.slc.slabs loc } }.hcacheDrop loc 0

/-- A page of the T0 pool or the reserve becomes free and no write is stalled (R244): it refills the reserve until that is
full, and only then adds to F0. -/
def State.freePage (s : State) (page : Nat) : State :=
  let rsv := s.pageIn 1 page
  if s.rsvFree < 512 * s.poolFrames 1 then
    if rsv then { s with slc := { s.slc with rsvUsed := smDel s.slc.rsvUsed page } }
    else { s with slc := { s.slc with rsvExtra := s.slc.rsvExtra ++ [page] } }
  else if rsv then
    match s.slc.rsvExtra with
    | e :: rest => { s with slc := { s.slc with
        rsvUsed := smDel s.slc.rsvUsed page, rsvExtra := rest, t0used := smDel s.slc.t0used e } }
    | [] => { s with slc := { s.slc with rsvUsed := smDel s.slc.rsvUsed page } }
  else { s with slc := { s.slc with t0used := smDel s.slc.t0used page } }

/-- The key ID of a page becomes that of the write that changes it (10 R261). -/
def State.pageKeyTo (s : State) (pn : Nat) (k : KeyId) : State := { s with slc := { s.slc with pageKey := smSet s.slc.pageKey pn k } }

/-- Set a page's COUNT (R238). -/
def State.setCount (s : State) (pn n : Nat) : State :=
  if s.pmeCached pn then
    { s with dec := { s.dec with pmec := smAdj s.dec.pmec pn fun l => { l with pme := { l.pme with count := n } } } }
  else s.putDpm pn { s.dpm pn with count := n }

/-! ## The ledger (R241) -/

/-- EXPOSED in bytes; a released extent counts until its last request has completed (05 R120). -/
def State.exposed (s : State) : Nat :=
  ((s.dec.regions.filter fun e => e.2.tiered && !e.2.dcd && e.2.home.isNone).map (·.2.size)).sum +
  ((s.dec.extents.filter fun e => decide (2 ^ 44 ≤ e.2.start)).map fun e => e.2.len * 2097152).sum +
  ((s.dec.releasing.filter fun e => decide (2 ^ 44 ≤ e.1.start)).map fun e => e.1.len * 2097152).sum

/-- GiB that peers have granted this node. -/
def State.granted (s : State) : Nat := (s.slc.grants.map (·.2)).sum

/-- BACKING in bytes. -/
def State.backing (s : State) : Nat :=
  s.poolFrames 0 * 2097152 + s.poolFrames 3 * 2097152 * s.fget SLC_TIERCFG.OVERCOMMIT / 16 + s.granted * 2 ^ 30

/-- Pages this node holds in T2 on a peer (SLC_T2). -/
def State.t2Pages (s : State) : Nat := (s.slc.dpm.filter fun e => e.2.tier == 2).length

/-- Watermarks in 1/1,024 of a pool, in pages or slabs. -/
def State.t0Mark (s : State) (f : Fld) : Nat := s.fget f * (512 * s.poolFrames 0) / 1024
def State.slabMark (s : State) (f : Fld) : Nat := s.fget f * (8192 * s.poolFrames 3) / 1024

end Sys2Proof.Machine
end

