-- ==== Sys2Proof/Machine/Pmu.lean ====
section
/-! DEFINITION. Counting and dyeing (18 R424-R437) as the other blocks use them. -/

namespace Sys2Proof.Machine

open Sys2Proof

/-! ## Counters (R426-R429) -/

/-- The attributes a counted item has (R426). -/
structure Attr where
  cls : Option Nat := none
  ch : Option Nat := none
  head : Option Nat := none
  drw : Option Nat := none
deriving DecidableEq, Repr

/-- A mask filter: an item that lacks the attribute passes only the reset value. -/
def maskPass (mask reset : Nat) : Option Nat → Bool
  | some x => mask.testBit x
  | none => mask == reset

/-- Does an item pass counter n of unit u (R426)? On unit 9 the class filter selects message classes by its bits 3:0. -/
def State.pmuPass (s : State) (u n : Nat) (a : Attr) : Bool :=
  let i := u * 8 + n
  let cls := s.fget PMU_FILTA.CLASS i
  let ch := s.fget PMU_FILTA.CH i
  let one (en v : Fld) (x : Option Nat) : Bool := !s.fone en i || x == some (s.fget v i)
  (if u = 9 then maskPass (cls % 16) 15 a.cls else maskPass cls 255 a.cls) && maskPass ch 4095 a.ch &&
  one PMU_FILTB.HEAD_EN PMU_FILTB.HEAD a.head && one PMU_FILTB.DRW_EN PMU_FILTB.DRAWER a.drw

/-- Add to counter n of a unit (R429): on a wrap its bit of `PMU_OVF` sets, and it samples or carries into counter n + 1. -/
def State.ctrAdd (s : State) (u : Nat) : Nat → Nat → Nat → State
  | 0, _, _ => s
  | fuel + 1, n, k =>
    let i := u * 8 + n
    let v := s.fget PMU_CTR.COUNT i + k
    let s := s.fset PMU_CTR.COUNT i v
    if v < 2 ^ 48 then s
    else
      let s := s.fputBit PMU_OVF.OVF u n true
      if s.fone PMU_EVSEL.CHAIN i && decide (n < 7) then
        if s.fone PMU_EVSEL.EN (i + 1) && s.fget PMU_EVSEL.EVENT (i + 1) == 0xFE && !s.fone PMU_CTL.FREEZE u then
          s.ctrAdd u fuel (n + 1) 1
        else s
      else
        let s := if s.fone PMU_EVSEL.IE i then s.signal setPMU else s
        if s.fone PMU_CTL.FRZ_OVF u then s.fset PMU_CTL.FREEZE u 1 else s

/-- An event of a unit with its attributes and value (R426). -/
def State.count (s : State) (u ev : Nat) (a : Attr := {}) (k : Nat := 1) : State :=
  if s.fone PMU_CTL.FREEZE u then s
  else s.each (List.range 8) fun n s =>
    if s.fone PMU_EVSEL.EN (u * 8 + n) && s.fget PMU_EVSEL.EVENT (u * 8 + n) == ev && s.pmuPass u n a then s.ctrAdd u 8 n k
    else s

/-- Unit-clock cycles pass (R425): the cycle counter, event 0xFF, and the unit's occupancy event. -/
def State.pmuCycles (s : State) (u n occ : Nat) : State :=
  if n = 0 ∨ s.fone PMU_CTL.FREEZE u then s
  else
    let s := s.fset PMU_CYC.VALUE u ((s.fget PMU_CYC.VALUE u + n) % 2 ^ 64)
    (s.count u 0xFF {} n).count u 0x10 {} (occ * n)

/-! ## Drawer user counters (R437) -/

/-- An event of a drawer's current generation, with its value. -/
def State.userEvent (s : State) (d ev k : Nat) : State :=
  let sel (n : Nat) : Fld := match n with
    | 0 => DRW_UEVSEL.EV0 | 1 => DRW_UEVSEL.EV1 | 2 => DRW_UEVSEL.EV2 | _ => DRW_UEVSEL.EV3
  s.each (List.range 4) fun n s =>
    if s.fget (sel n) d == ev then
      s.modDrawer d fun x => { x with userCtr := smMod x.userCtr n 0 fun v => (v + k) % 2 ^ 64 }
    else s

/-! ## Dye (R433-R436) -/

/-- One step of the 32-bit Galois LFSR with polynomial x^32 + x^22 + x^2 + x + 1. -/
def lfsrStep (x : BitVec 32) : BitVec 32 := if x.getLsbD 0 then (x >>> 1) ^^^ 0x80200003#32 else x >>> 1

/-- K in force: values below 6 act as 6, above 24 as 24. -/
def State.dyeK (s : State) : Nat := min 24 (max 6 (s.fget PMU_DYECTL.K))

/-- A candidate for dye (R433): the LFSR advances; the candidate is dyed when its low K bits are zero and a slot is free. -/
def State.dyeCandidate (s : State) : Bool × State :=
  if !s.fone PMU_DYECTL.EN then (false, s)
  else
    let x := lfsrStep s.pmu.lfsr
    let s := { s with pmu := { s.pmu with lfsr := x } }
    if x.toNat % 2 ^ s.dyeK ≠ 0 then (false, s)
    else if 256 ≤ s.pmu.dye.length + s.pmu.reserved then (false, s.finc PMU_DYESTAT.MISSED)
    else (true, { s with pmu := { s.pmu with reserved := s.pmu.reserved + 1 } })

/-- Saturate a stage difference (R435). -/
def dyeDelta (tb0 st : Nat) : Nat := if st = 0 then 0 else min 0xFFFFFFFF (st - tb0)

/-- Stamp a stage of a dyed transaction with TB (R434). -/
def State.stampTxn (s : State) (t stage : Nat) : State :=
  s.modTxn t fun x => if x.dyed then { x with stamps := x.stamps.set stage s.tb } else x

/-- The requester number of a source (06 R140). -/
def reqNo : Src → Nat
  | .head h => h.val | .peer .. => 16 | .sluice => 17 | .drawer _ => 18 | .bench => 19

/-- A dyed transaction completes, or is squashed (R435): its record takes the slot it reserved; reaching TH raises THR and
the PMU cause (R436). -/
def State.dyeRecord (s : State) (x : Txn) (ch : Nat) (aborted : Bool) : State :=
  if !x.dyed then s
  else
    let node := match x.src with
      | .peer k _ _ => k.toNat
      | _ => 0
    let st := if x.stamps.getD 7 0 = 0 then x.stamps.set 7 s.tb else x.stamps
    let tier := x.job.isSome
    let r : DyeRec := {
      tb0 := st.getD 0 0, delta := (st.drop 1).map (dyeDelta (st.getD 0 0)), src := reqNo x.src
      attr := x.cls % 8 + (if x.kind = .read then 0 else 8) + (if tier then 16 else 0) +
        (if (s.slot x.key.toNat).mode = 1 then 32 else 0) + (if x.shared then 64 else 0) + (if x.pmeMiss then 128 else 0)
      ch := ch, load := x.urg + 4 * x.devload, dpa := x.ln * 64, seq := s.pmu.seq, node := node, aborted := aborted }
    let fill := s.pmu.dye.length
    let s := { s with pmu := { s.pmu with dye := s.pmu.dye ++ [r], reserved := s.pmu.reserved - 1, seq := (s.pmu.seq + 1) % 2 ^ 32 } }
    let th := max 1 (s.fget PMU_DYECTL.TH)
    if fill < th ∧ th ≤ fill + 1 then (s.fset PMU_DYESTAT.THR 0 1).signal setPMU else s

end Sys2Proof.Machine
end

