-- ==== Sys2Proof/Machine/Mailbox.lean ====
section
/-! DEFINITION. Mailbox and MCTP commands as the Bench serves them (02 R50, 04 R91, 10 R264, 18 R427, 20 R465). -/

namespace Sys2Proof.Machine

open Sys2Proof

/-- A vendor or maintenance command reaches the Bench (20 R465): Busy while the firmware restarts; else it is counted (unit 11:
0x01 mailbox commands, 0x02 MCTP messages) and served, by the boot ROM when there is no firmware to run (17 R410). -/
def State.mailbox (s : State) (p : Path) (go : State → State) : State :=
  let s := s.active.count 11 (if p = .sideband then 2 else 1)
  if s.boot.fwRestart then s.reply p .busy else go s

/-- A management head or the sideband (02 R50, 17 R413). -/
def State.admin (s : State) : Path → Bool
  | .head h => s.headMgmt h.val
  | .sideband => true
  | .bench => false

/-- A command that only management heads and the sideband may issue: Unsupported to any other head. -/
def State.adminCmd (s : State) (p : Path) (go : State → State) : State :=
  s.mailbox p fun s => if s.admin p then go s else s.reply p .unsupported

end Sys2Proof.Machine
end

