-- ==== Sys2Proof/Machine/Directory.lean ====
section
/-! DEFINITION. The directory, snoops and poisoning (06 R129-R136, R142-R159), and Span messages as other blocks send them
(13 R323-R324, R336). -/

namespace Sys2Proof.Machine

open Sys2Proof

/-! ## This node and Span messages -/

/-- Node ID that local heads' pointers carry (06 R133): the claimed ID, else 0. -/
def State.selfNode (s : State) : Nat := if s.fget SPN_NODE.STATE = 2 then s.fget SPN_NODE.ID else 0

/-- A Span message with the fields most opcodes leave 0 (13 R323). -/
def spanMsg (s : State) (h key tag ln arg : Nat) (mv : MetaValue := .I) (data : Data := 0) (poison shared : Bool := false)
    (devload urg : Nat := 0) : SpanMsg :=
  { src := BitVec.ofNat 6 s.selfNode, port := 0, head := Fin.ofNat 16 h, key := BitVec.ofNat 7 key, shared := shared
    devload := Fin.ofNat 4 devload, mv := mv, poison := poison, tag := BitVec.ofNat 12 tag, ln := BitVec.ofNat 40 ln
    arg := BitVec.ofNat 20 arg, data := data, urgency := Fin.ofNat 4 urg }

/-- Send a Span message: opcode of 13 R324. -/
def State.sendSpan (s : State) (dest op : Nat) (m : SpanMsg) : State :=
  let s := match smFind? s.spn.routes dest with
    | some p =>
      let s := s.pushFlit p 1
      if s.fget SPN_PSTATE.LINK p = 5 then s.emit (.wakeOut (Fin.ofNat 4 p)) else s
    | none => s
  (s.emit (.span (BitVec.ofNat 6 dest) op m)).count 9 1 { cls := some (if op < 0x20 then 3 else if op < 0x28 then 1 else if op < 0x30 then 2 else 0) }

/-- Lowest free TAG towards a node: fewer than 4,096 requests stand to one destination (13 R336). -/
def State.freeTag (s : State) (dest : Nat) : Option Nat :=
  (List.range (min 4096 (s.spn.tags.length + 1))).find? fun t => !smHas s.spn.tags (dest * 4096 + t)

/-- Send a request that takes a TAG (13 R336); unchanged when no TAG is free, with the flag false. -/
def State.sendReq (s : State) (dest op : Nat) (r : SpanReq) (mk : Nat → SpanMsg) : Bool × State :=
  match s.freeTag dest with
  | none => (false, s)
  | some t =>
    let s := { s with spn := { s.spn with tags := smSet s.spn.tags (dest * 4096 + t) { r with op := op, since := s.wclk } } }
    (true, s.sendSpan dest op (mk t))

/-! ## Entries (R133-R136) -/

/-- Set index and tag of a line (R133). -/
def dirSet (ln : Nat) : Nat := (ln % 65536) ^^^ (ln / 65536 % 65536)
def dirTag (ln : Nat) : Nat := ln / 65536

/-- The line an entry's place and tag name. -/
def dirLine (key : Nat) (e : DirEntry) : Nat := e.tag.toNat * 65536 + ((key / 16) ^^^ (e.tag.toNat % 65536))

/-- A line's entry, with its place set × 16 + way. -/
def State.dirFind (s : State) (ln : Nat) : Option (Nat × DirEntry) :=
  ((List.range 16).filterMap fun w => (smFind? s.coh.dir (dirSet ln * 16 + w)).map fun e => (dirSet ln * 16 + w, e)).find?
    fun p => p.2.tag.toNat == dirTag ln

/-- Write or remove an entry. -/
def State.dirPut (s : State) (key : Nat) (e : DirEntry) : State :=
  { s with coh := { s.coh with dir := smSet s.coh.dir key e } }
def State.dirDel (s : State) (key : Nat) : State := { s with coh := { s.coh with dir := smDel s.coh.dir key } }

/-- Snoop target: a head as node × 16 + head, or every qualifying head of node k as 1024 + k. -/
abbrev Target := Nat

/-- Pointer of a local head. -/
def State.localPtr (s : State) (h : Nat) : Target := s.selfNode * 16 + h

/-- Is the target a local head? -/
def State.isLocal (s : State) (p : Target) : Bool := decide (p < 1024) && p / 16 == s.selfNode

/-- Has a local head no part in snoops: presence code 1 or 3 (R136)? -/
def State.headGone (s : State) (h : Nat) : Bool := (s.head h).presence == 1 || (s.head h).presence == 3

/-- The region of a line of this node. -/
def State.lineRegion (s : State) (ln : Nat) : Region := ((s.regionAt (ln * 64)).map (·.2)).getD {}

/-- The sharing set of a line (R136). -/
def State.sharers (s : State) (ln : Nat) : List Target :=
  let r := s.lineRegion ln
  (((List.range 16).filter fun h => r.sharingHeads.getLsbD h && !s.headGone h).map s.localPtr) ++
  ((List.range 64).filter fun k => r.sharingNodes.getLsbD k).map (1024 + ·)

/-- Holders of an entry: its pointers, or the sharing set in broadcast mode. -/
def State.holders (s : State) (ln : Nat) (e : DirEntry) : List Target :=
  if e.ovf then s.sharers ln else (e.ptrs.map (·.toNat)).filter fun p => !(s.isLocal p && s.headGone (p % 16))

/-- Does a target stand for the pointer: the head itself, or the broadcast to its node? -/
def covers (t p : Target) : Bool := t == p || t == 1024 + p / 16

/-! ## Snoops (R132, R137, R142-R144) -/

/-- Snoops outstanding to a local head. -/
def State.sentTo (s : State) (p : Target) : Nat := (s.coh.sent.filter fun e => e.1 == p).length

/-- Is there room for these snoops: 128 per local head, 2,048 trackers (R138)? -/
def State.snoopRoom (s : State) (l : List Target) : Bool :=
  decide (s.coh.sent.length + l.length ≤ 2048) && l.all fun p => !s.isLocal p || decide (s.sentTo p < 128)

/-- Send one snoop of a line (R132): BISnpInv or BISnpData. -/
def State.snoop (s : State) (ln : Nat) (inv : Bool) (p : Target) : State :=
  let s := { s with coh := { s.coh with sent := s.coh.sent ++ [(p, ln, s.wclk)] } }
  let s := s.count 2 3
  if s.isLocal p then (s.emit (.bisnp (Fin.ofNat 16 p) ln inv)).count 0 5 { head := some (p % 16) }
  else
    let bc := decide (1024 ≤ p)
    s.sendSpan (if bc then p - 1024 else p / 16) (if inv then 0x28 else 0x29)
      (spanMsg s (if bc then 0 else p) 0 (ln % 4096) ln bc.toNat)

/-- Send snoops of a line. -/
def State.snoopAll (s : State) (ln : Nat) (inv : Bool) (l : List Target) : State :=
  let s := if l.any (1024 ≤ ·) then s.count 2 5 else s
  s.each l fun p s => s.snoop ln inv p

/-- Forget an outstanding snoop. -/
def State.unsent (s : State) (ln : Nat) (p : Target) : State :=
  { s with coh := { s.coh with sent := s.coh.sent.filter fun e => !(e.1 == p && e.2.1 == ln) } }

/-! ## Poisoning (R144, R151, R155-R156; 07 R185) -/

/-- MPA line number of a page's line in T0. -/
def t0Line (p : Pme) (ln : Nat) : Nat := p.loc * 4 + ln % 64

/-- Poison a line for COH, in class C2: in a move's page buffer (R151), in its T0 page, or in the direct span. A line of a T1,
T2 or UNBACKED page is first promoted: the mark joins a promotion. -/
def State.poisonDpa (s : State) (ln : Nat) : State :=
  if !(s.lineRegion ln).tiered then s.poisonLine ln true
  else
    let pn := ln / 64
    match smFind? s.slc.moves pn with
    | some m => { s with slc := { s.slc with
        moves := smSet s.slc.moves pn { m with buffer := m.buffer ++ [{ line := ln % 64, poison := true }] } } }
    | none =>
      let p := s.pme pn
      if p.poison then s
      else if p.tier = 0 then s.poisonLine (t0Line p ln) true
      else { s with slc := { s.slc with moves := smSet s.slc.moves pn { kind := .promoteOnWrite, buffer := [{ line := ln % 64, poison := true }]
                                                                        key := smGet s.slc.pageKey pn 0 } } }

/-- Faults of COH: the DPA, with the pointer as the syndrome (R160). -/
def State.cohFault (s : State) (code ln : Nat) (p : Target := 0) (base : Nat := 0) : State :=
  s.report setCOH code { addr := ln * 64, syn := p, dpa := some (ln * 64) } base

/-! ## Pinned ways and victims (R152) -/

/-- Is a line's lock held, or its eviction in progress? -/
def State.lineBusy (s : State) (ln : Nat) : Bool := smHas s.coh.locks ln || smHas s.coh.evicts ln

/-- A way for a new entry (R152): an invalid one, or a victim among unpinned ways, S before M. The pseudo-LRU among equals is
left open (assumption 4). -/
inductive WayPick where
  | free (way : Nat)
  | victim (way : Nat) (e : DirEntry)
  | none
deriving DecidableEq, Repr

/-- Ways of a set promised to a request whose eviction has not ended. -/
def State.waysPromised (s : State) : List Nat := (s.coh.evicts.filter fun e => e.2.forTxn.isSome).map (·.2.way)

/-- Pick a way for a line. -/
def State.pickWay (s : State) (ln : Nat) : WayPick :=
  let base := dirSet ln * 16
  let promised := s.waysPromised
  match (List.range 16).find? fun w => !smHas s.coh.dir (base + w) && !promised.contains (base + w) with
  | some w => .free (base + w)
  | none =>
    let cand (m : Bool) : List (Nat × DirEntry) := (List.range 16).filterMap fun w =>
      match smFind? s.coh.dir (base + w) with
      | some e => if e.m = m ∧ !s.lineBusy (dirLine (base + w) e) then some (base + w, e) else none
      | none => none
    let l := if (cand false).isEmpty then cand true else cand false
    match l[(s.freeVal 4).toNat % max 1 l.length]? with
    | some (w, e) => .victim w e
    | none => .none

end Sys2Proof.Machine
end

