-- ==== Sys2Proof/Machine/Lines.lean ====
section
/-! DEFINITION. Transactions on their way (01 R17-R25, R31): table entries and line locks (06 R138-R140), the directory step
(06 R132-R136, R152-R154), and the turn towards memory, Press, Sluice or the requester. -/

namespace Sys2Proof.Machine

open Sys2Proof

/-! ## Unit clocks (01 R31) -/

/-- A start trigger of an on-demand unit: a stopped clock starts, a starting one is joined, a running one begins its idle time
again (R31, R32). -/
def State.unitStart (s : State) (u : Nat) : State :=
  let st := smGet s.boot.units u 0
  if st = 0 then { s with boot := { s.boot with units := smSet s.boot.units u 1 } }
  else if st = 2 then { s with boot := { s.boot with unitIdle := smSet s.boot.unitIdle u s.wclk } }
  else s

/-- Is a unit's clock stable? -/
def State.unitRuns (s : State) (u : Nat) : Bool := smGet s.boot.units u 0 == 2

/-! ## Transaction-table entries (06 R138) -/

/-- Does a transaction hold a table entry: not in ingress or before COH, nor completed with its write in a DMC queue? -/
def Txn.holds (x : Txn) : Bool :=
  match x.phase with
  | .ingress | .pme => false
  | .dmcq | .issued | .xts => x.kind == .read
  | _ => true

/-- Entries held by message class. -/
def State.ttUsed (s : State) (mc : Nat) : Nat := (s.coh.txns.filter fun e => e.2.mc == mc && e.2.holds).length

/-- Class-2 operations: evictions and agents' snoop rounds. -/
def State.ttUsed2 (s : State) : Nat := s.coh.evicts.length

/-- Free shared entries: classes 1 and 2 take them past their reserves of 512. -/
def State.ttFree (s : State) : Nat := 7168 - (s.ttUsed 3 + (s.ttUsed 1 - 512) + (s.ttUsed2 - 512))

/-- Is there an entry for a class-1 or class-2 operation? -/
def State.ttRoom1 (s : State) : Bool := decide (s.ttUsed 1 < 512 ∨ 0 < s.ttFree)
def State.ttRoom2 (s : State) : Bool := decide (s.ttUsed2 < 512 ∨ 0 < s.ttFree)

/-- A new transaction: its number and the state. -/
def State.newTxn (s : State) (x : Txn) : Nat × State :=
  (s.coh.next, { s with coh := { s.coh with txns := smSet s.coh.txns s.coh.next x, next := s.coh.next + 1 } })

/-- Put a transaction into a phase. -/
def State.phase (s : State) (t : Nat) (p : Phase) : State := s.modTxn t fun x => { x with phase := p }

/-- Is the line queue of a line full (06 R139)? -/
def State.queueFull (s : State) (ln : Nat) : Bool :=
  match smFind? s.coh.locks ln with
  | some l => decide (8 ≤ l.queue.length)
  | none => false

/-- A class-3 transaction asks for its entry and lock: it takes them up, or stays in its ingress buffer (06 R138, R139). -/
def State.enterCoh (s : State) (t : Nat) : State :=
  match s.txn? t with
  | none => s
  | some x =>
    if s.ttFree = 0 ∨ s.queueFull x.ln then s.phase t .ingress
    else
      let s := s.phase t .lockWait
      s.fpeak COH_TTUSE0.PEAK 0 (s.ttUsed 3)

/-- Transactions kept in ingress buffers take up what has become free. -/
def State.admitWaiting (s : State) : State :=
  s.each ((s.coh.txns.filter fun e => e.2.mc == 3 && e.2.phase == .ingress).map (·.1)) fun t s => s.enterCoh t

/-! ## Line locks (06 R139-R140) -/

/-- Release a line's lock: it passes to the head of the line queue in the same CCLK. -/
def State.unlock (s : State) (ln : Nat) : State :=
  match smFind? s.coh.locks ln with
  | none => s
  | some l =>
    let locks := match l.queue with
      | [] => smDel s.coh.locks ln
      | q :: rest => smSet s.coh.locks ln { holder := some q, queue := rest }
    ({ s with coh := { s.coh with locks := locks } }).admitWaiting

/-- Release the lock of a line if the transaction holds it. -/
def State.unlockBy (s : State) (t ln : Nat) : State :=
  match smFind? s.coh.locks ln with
  | some l => if l.holder = some t then s.unlock ln else s
  | none => s

/-- Remove a transaction that has completed: its lock passes on. -/
def State.dropTxn (s : State) (t : Nat) : State :=
  match s.txn? t with
  | none => s
  | some x => ({ s with coh := { s.coh with txns := smDel s.coh.txns t } }.unlockBy t x.ln).admitWaiting

/-! ## Drawer operations as requests meet them (12 R313) -/

/-- Change an operation that exists. -/
def State.modOp (s : State) (o : Nat) (f : Op → Op) : State := { s with drw := { s.drw with ops := smAdj s.drw.ops o f } }

/-- Take an operation out of the table. -/
def State.dropOp (s : State) (o : Nat) : State := { s with drw := { s.drw with ops := smDel s.drw.ops o } }

/-- Is an operation fetched under its drawer's present generation? -/
def State.opCurrent (s : State) (o : Op) : Bool := o.gen == s.fget DRW_STATE.GEN o.drawer

/-- A device-memory request of an operation has ended: a line read, or a write. For an operation of an older generation it is
discarded and counted, and the last one frees its place (12 R313). -/
def State.opBack (s : State) (o k : Nat) (line : Option (Data × Bool)) : State :=
  match smFind? s.drw.ops o with
  | none => s
  | some op =>
    let s := s.modOp o fun x => { x with outst := x.outst - 1, got := match line with
      | some l => smSet x.got k l
      | none => x.got }
    if s.opCurrent op then s
    else
      let s := (s.finc DRW_STAT.STALE op.drawer).count 8 5 { drw := some op.drawer }
      if op.tags.isEmpty ∧ op.outst ≤ 1 then s.dropOp o else s

/-! ## Responses (01 R17 step 9, R23; 11 R291; 13 R338) -/

/-- Answer a read: its data, or poison. -/
def State.answerRead (s : State) (x : Txn) (d : Data) (poison : Bool) : State :=
  match x.src with
  | .head h => (s.emit (.drs h x.ln d poison x.devload)).count 0 2 { head := some h.val }
  | .peer k h tag => s.sendSpan k.toNat 0x30
      { spanMsg s h.val x.key.toNat tag.toNat x.ln 0 x.mv d poison x.shared x.devload with src := BitVec.ofNat 6 s.selfNode }
  | .drawer o => s.opBack o x.ln (some (d, poison))
  | _ => s

/-- Answer a write: its completion, poisoned when it was refused so. -/
def State.answerWrite (s : State) (x : Txn) (poison : Bool) : State :=
  match x.src with
  | .head h => (s.emit (.ndr h x.ln poison x.devload)).count 0 2 { head := some h.val }
  | .peer k h tag => s.sendSpan k.toNat 0x31 (spanMsg s h.val x.key.toNat tag.toNat x.ln 0 x.mv 0 poison x.shared x.devload)
  | .drawer o => s.opBack o 0 none
  | _ => s

/-- A read completes: answer, dye record, entry and lock freed. -/
def State.finishRead (s : State) (t : Nat) (d : Data) (poison : Bool) : State :=
  match s.txn? t with
  | none => s
  | some x =>
    let ch := ((x.mpa.bind s.placeOf).map (·.chan)).getD 255
    ((s.answerRead x d (poison || x.poison || s.boot.fatal)).dyeRecord x ch false).dropTxn t

/-- A write completes without reaching memory. -/
def State.finishWrite (s : State) (t : Nat) (poison : Bool) : State :=
  match s.txn? t with
  | none => s
  | some x => ((s.answerWrite x poison).dyeRecord x 255 false).dropTxn t

/-! ## Towards memory (01 R17 steps 3-8) -/

/-- Ask Weir for a credit on the channel that serves an MPA line. A failed channel's lines read as poison and its writes are
discarded with a normal completion (07 R190). -/
def State.toCredit (s : State) (t mpa : Nat) : State :=
  match s.txn? t, s.placeOf mpa with
  | some x, some p =>
    if s.chanFailed p.chan then
      if x.kind = .read then s.finishRead t 0 true else s.finishWrite t false
    else s.modTxn t fun x => { x with phase := .credit, mpa := some mpa, since := s.wclk }
  | some x, none => if x.kind = .read then s.finishRead t 0 true else s.finishWrite t false
  | none, _ => s

/-- The cached header of a run (08 R207), as bytes. -/
def State.hcacheGet (s : State) (loc node : Nat) : Option (List Byte) :=
  (s.press.hcache.find? fun e => e.1 == loc * 64 + node).map fun e => leBytes 32 e.2

/-- Set index of a header in the cache (08 R207). -/
def hcacheSet (tag : Nat) : Nat := (tag / 64 % 1024 ^^^ ((tag % 64) <<< 4)) % 1024

/-- Install a header: the least recently used of a full set leaves (08 R207). -/
def State.hcachePut (s : State) (loc node : Nat) (h : List Byte) : State :=
  let tag := loc * 64 + node
  let l := s.press.hcache.filter fun e => e.1 != tag
  let same := l.filter fun e => hcacheSet e.1 == hcacheSet tag
  let l := match same with
    | e :: _ => if 4 ≤ same.length then l.filter fun f => f.1 != e.1 else l
    | [] => l
  { s with press := { s.press with hcache := l ++ [(tag, leNat h)] } }

/-- Lines of a run that hold a segment under a header (08 R205 step 3). -/
def segLines (h : List Byte) (seg : Nat) : List Nat :=
  let a := segStart h seg / 64
  let b := (hdrEnd h seg - 1) / 64
  (List.range (b + 1 - a)).map (a + ·)

/-- Change a decode job. -/
def State.modJob (s : State) (j : Nat) (f : DecJob → DecJob) : State :=
  { s with press := { s.press with jobs := smAdj s.press.jobs j f } }

/-- Ask a peer for lines of a run it stores (13 R339). -/
def State.askSlabs (s : State) (node loc page : Nat) (lines : List Nat) : State :=
  s.each lines fun i s => (s.sendReq node 0x10 { ln := loc * 4 + i, page := page } fun tag => spanMsg s 0 0 tag (loc * 4 + i) 0).2

/-- A read of a T1 or T2 line goes to the Press (08 R203, R205): it joins a decode of its segment, or starts its own and
fetches; a T2 run's lines are asked of the peer. -/
def State.toPress (s : State) (t pn : Nat) (x : Txn) (p : Pme) : State :=
  let j := x.ln % 64
  let seg := j / 4
  let node := if p.tier = 2 then p.node else 0
  if p.tier = 2 ∧ s.spn.unreach.contains p.node.toNat then
    (s.report setSLC 7 { addr := x.ln * 64, dpa := some (x.ln * 64), unit := p.node.toNat }).finishRead t 0 true
  else
  let s := s.unitStart 0
  let same := s.press.jobs.find? fun e => !p.raw && e.2.loc == p.loc && e.2.node == node && e.2.seg == seg && e.2.key == x.key &&
    !e.2.raw && decide (e.2.txns.length < 8)
  match same with
  | some (n, _) =>
    ((s.modJob n fun d => { d with txns := d.txns ++ [t] }).modTxn t fun x => { x with phase := .press, job := some n }).count 4 3
  | none =>
    let n := s.press.next
    let hdr := s.hcacheGet p.loc node.toNat
    let first := if p.raw then j else match hdr with
      | some h => segStart h seg / 64
      | none => 0
    let want := if p.tier ≠ 2 then [] else if p.raw then [j] else match hdr with
      | some h => segLines h seg
      | none => [0]
    let job : DecJob := { loc := p.loc, node := node, seg := seg, key := x.key, txns := [t], raw := p.raw, slabs := p.slabs, page := pn
                          want := want, miss := hdr.isNone }
    let s := { s with press := { s.press with jobs := smSet s.press.jobs n job, next := n + 1 } }
    let s := s.modTxn t fun x => { x with job := some n, slab := true }
    let s := if !p.raw && hdr.isNone then s.count 4 6 else s
    let s := s.fadd PRS_FETCHED.FETCHED 0 (match hdr with
      | some h => (segLines h seg).length
      | none => 1)
    if p.tier = 2 then (s.phase t .press).askSlabs node.toNat p.loc pn want
    else s.toCredit t (p.loc * 4 + first)

/-- Snoop the holders of a line for a move (06 R148). -/
def State.moveSnoop (s : State) (pn ln : Nat) : State :=
  match s.dirFind ln with
  | none => s
  | some (_, e) =>
    let l := s.holders ln e
    let s := s.snoopAll ln true l
    { s with slc := { s.slc with moves := smAdj s.slc.moves pn fun m => { m with snoops := m.snoops ++ l.map fun p => (p, ln) } } }

/-- Take a page for a move (06 R148): BISnpInv for every line of the page with a valid entry. A line whose lock another
transaction than `own` holds is snooped once that has completed. -/
def State.takePage (s : State) (pn : Nat) (own : Option Nat) : State :=
  s.each ((List.range 64).map (pn * 64 + ·)) fun ln s =>
    match smFind? s.coh.locks ln with
    | some l =>
      if l.holder = own ∧ own.isSome ∨ (s.dirFind ln).isNone then s
      else { s with slc := { s.slc with moves := smAdj s.slc.moves pn fun m => { m with late := m.late ++ [ln] } } }
    | none => s.moveSnoop pn ln

/-- Does a line's lock holder wait on the page's own move? -/
def State.holderWaits (s : State) (ln : Nat) : Bool :=
  match (smFind? s.coh.locks ln).bind (·.holder) with
  | some t => (s.txn? t).any fun x => x.phase == .promoting || x.phase == .stalled
  | none => false

/-- Lines passed over when the page was taken whose holder has completed are snooped now; a holder that waits on the move
itself is not waited for. -/
def State.lateSnoops (s : State) (pn : Nat) : State :=
  match smFind? s.slc.moves pn with
  | none => s
  | some m =>
    let free := m.late.filter fun ln => !smHas s.coh.locks ln || s.holderWaits ln
    let s := { s with slc := { s.slc with moves := smAdj s.slc.moves pn fun m => { m with late := m.late.filter fun ln => !free.contains ln } } }
    s.each (free.filter fun ln => !smHas s.coh.locks ln) fun ln s => s.moveSnoop pn ln

/-- Have all the lines of a move's page been taken (06 R148)? -/
def Move.taken (m : Move) : Bool := m.snoops.isEmpty && m.late.isEmpty

/-- Change a move. -/
def State.modMove (s : State) (pn : Nat) (f : Move → Move) : State :=
  { s with slc := { s.slc with moves := smAdj s.slc.moves pn f } }

/-- Write the page buffer of a move into the T0 page at an MPA line, oldest first. -/
def State.flushBuffer (s : State) (base : Nat) (l : List BufWrite) : State :=
  s.each l fun b s => if b.poison then s.poisonLine (base + b.line) true else s.writeLine (base + b.line) b.key b.data false false

/-- A move ends: its way is unpinned. -/
def State.endMove (s : State) (pn : Nat) : State :=
  { s with slc := { s.slc with moves := smDel s.slc.moves pn } }.pmePin pn false

/-- A demotion is given up (09 R238, R239): the page buffer goes to the T0 page, which stays. -/
def State.dropDemotion (s : State) (pn : Nat) (m : Move) : State :=
  (s.flushBuffer ((s.pme pn).loc * 4) m.buffer).endMove pn

/-- Is the region of a page in capacity fault (09 R245)? -/
def State.inCapFault (s : State) (pn : Nat) : Bool :=
  match s.regionAt (pn * 4096) with
  | some (n, _) => s.slc.capFault.contains n
  | none => false

/-- A write needs a T0 page for its promotion, zero fill or repair (09 R233, R234, R243): the page is marked and drawn, or
the write stalls; with the stall queue full or the region in capacity fault it goes on down the exhaustion order at its
expiry step. The way is pinned; a fifth pin in its set is deferred, and the lock holder asks again (05 R126). -/
def State.toPromote (s : State) (t pn : Nat) (x : Txn) : State :=
  let s := s.unitStart 0
  match smFind? s.slc.moves pn with
  | some m =>
    let s := (s.modMove pn fun m => { m with writers := m.writers ++ [t] }).phase t .promoting
    if m.dest.isSome then s else
      match s.drawT0 with
      | some (d, s) => s.modMove pn fun m => { m with dest := some d }
      | none => s
  | none =>
    let s := s.pmeInstall pn
    if !s.pmeMayPin pn then s.phase t .lockWait
    else
      let s := s.count 5 1
      let s := s.pmePin pn true
      let m : Move := { kind := .promoteOnWrite, writers := [t], key := if (s.pme pn).tier = 3 ∨ (s.pme pn).poison then x.key else smGet s.slc.pageKey pn x.key }
      let s := { s with slc := { s.slc with moves := smSet s.slc.moves pn m } }
      let p := s.pme pn
      let s := if x.shared then s.takePage pn (some t) else s
      let s := if p.tier = 2 ∧ !p.poison then
          let lines := List.range (if p.raw then 64 else 4 * p.slabs)
          (s.modMove pn fun m => { m with want := lines }).askSlabs p.node.toNat p.loc pn lines
        else s
      match s.drawT0 with
      | some (d, s) => (s.modMove pn fun m => { m with dest := some d }).phase t .promoting
      | none =>
        if s.inCapFault pn ∨ 256 ≤ s.slc.stallQ.length then
          -- no stall: expiry is due at once (R244, R245)
          let s := { s with slc := { s.slc with stallQ := s.slc.stallQ ++ [(t, 0)] } }
          s.phase t .stalled
        else
          let s := (s.count 5 5).phase t .stalled
          { s with slc := { s.slc with stallQ := s.slc.stallQ ++ [(t, s.wclk + 1)] } }

/-- After coherence: a lock holder's request goes to memory, the Press, a promotion, or straight to its answer
(01 R17, R24-R25; 05 R127; 09 R219, R233-R234). -/
def State.toMemory (s : State) (t : Nat) : State :=
  match s.txn? t with
  | none => s
  | some x =>
    if !x.tiered then s.toCredit t x.ln
    else
      let pn := x.ln / 64
      let p := s.pme pn
      let s := if p.seq = x.seq then s else s.count 1 5
      let isRead := x.kind == .read
      let plain (s : State) : State :=
        if isRead then
          if p.poison then
            (s.report setDEC 6 { addr := x.ln * 64, dpa := some (x.ln * 64) }).finishRead t 0 true
          else if p.tier = 3 then s.finishRead t 0 false
          else if p.tier = 0 then s.toCredit t (t0Line p x.ln)
          else s.toPress t pn x p
        else if p.tier = 0 ∧ !p.poison then (s.pageKeyTo pn x.key).toCredit t (t0Line p x.ln)
        else s.toPromote t pn x
      match smFind? s.slc.moves pn with
      | none => plain s
      | some m =>
        match m.kind with
        | .promoteOnWrite | .readPromote =>
          if isRead then
            if m.buffer.any (fun b => b.line == x.ln % 64) then s.phase t .promoting else plain s
          else s.toPromote t pn x
        | .demote =>
          if isRead then (if m.buffer.any (fun b => b.line == x.ln % 64) then s.phase t .promoting else plain s)
          else if m.result.isNone then plain (s.dropDemotion pn m)
          else s.phase t .promoting
        | .toT2 =>
          if isRead ∧ !m.buffer.any (fun b => b.line == x.ln % 64) then plain s else s.phase t .promoting

/-! ## The directory step (06 R132-R136, R152-R154) -/

/-- Pointer of a requester; agents have none (R146). -/
def State.reqPtr (s : State) (x : Txn) : Option Target :=
  match x.src with
  | .head h => some (s.localPtr h.val)
  | .peer k h _ => some (k.toNat * 16 + h.val)
  | _ => none

/-- What a request asks of a line's entry (R132, R145-R146): a protocol violation, or snoops (none: go on). -/
inductive Plan where
  | violation
  | snoops (l : List Target) (inv : Bool)
deriving DecidableEq, Repr

/-- The table of R132. -/
def State.dirPlan (s : State) (x : Txn) (e : Option DirEntry) : Plan :=
  match e with
  | none => .snoops [] true
  | some e =>
    let me := s.reqPtr x
    let others := (s.holders x.ln e).filter fun p => some p != me
    match x.kind with
    | .read =>
      if e.m ∧ !e.ovf ∧ (e.ptrs.map fun p => some p.toNat) = [me] then .violation
      else if x.mv = .A ∧ me.isSome then .snoops others true
      else if e.m then .snoops others false
      else .snoops [] true
    | _ => .snoops others true

/-- Does the request need an entry for its line (R132)? -/
def State.needsEntry (s : State) (x : Txn) : Bool :=
  (s.reqPtr x).isSome && (x.mv == .A || (x.kind == .read && x.mv == .S))

/-- Add a sharer: the fifth sets OVF (R135). -/
def addSharer (e : DirEntry) (p : Target) : DirEntry :=
  if e.ovf ∨ e.ptrs.contains (BitVec.ofNat 10 p) then e
  else if e.ptrs.length < 4 then { e with ptrs := e.ptrs ++ [BitVec.ofNat 10 p] }
  else { e with ptrs := [], ovf := true }

/-- The entry after a request's snoops are resolved (R132), from the entry then standing; none: invalid. -/
def State.entryAfter (s : State) (x : Txn) (e : Option DirEntry) : Option DirEntry :=
  let fresh : DirEntry := { tag := BitVec.ofNat 24 (dirTag x.ln), key := x.key }
  match s.reqPtr x with
  | none => if x.kind = .read then e.map fun e => { e with m := false } else none
  | some me =>
    let own : DirEntry := { fresh with ptrs := [BitVec.ofNat 10 me], m := true }
    match x.kind, x.mv with
    | _, .A => some own
    | .read, .S => some (match e with
      | none => { fresh with ptrs := [BitVec.ofNat 10 me] }
      | some e => addSharer { e with m := false, key := x.key } me)
    | .read, .I => e.map fun e => { e with m := false }
    | _, _ => none

/-- Begin an eviction of a victim for a transaction (R153). -/
def State.evict (s : State) (way : Nat) (e : DirEntry) (t : Option Nat) (down : Bool := false) : State :=
  let ln := dirLine way e
  let l := s.holders ln e
  let s := { s with coh := { s.coh with
    evicts := smSet s.coh.evicts ln { ln := ln, forTxn := t, way := way, snoops := l, down := down }
    locks := smMod s.coh.locks ln {} fun k => { k with holder := none } } }
  (s.snoopAll ln (!down) l).count 2 4

/-- Put a request into its set's retry queue (R154), or keep it waiting when there is no room. -/
def State.toRetry (s : State) (t ln : Nat) : State :=
  let q := smGet s.coh.retry (dirSet ln) []
  if q.contains t then s
  else if 8 ≤ q.length ∨ (q.isEmpty ∧ 64 ≤ s.coh.retry.length) then (s.finc COH_RETRY.HELD).phase t .lockWait
  else ({ s with coh := { s.coh with retry := smSet s.coh.retry (dirSet ln) (q ++ [t]) } }.phase t .retryQ).count 2 6

/-- The directory step ends: the entry is written and the request goes on. A request that needs a way takes one, starts an
eviction, or enters the retry queue (R152-R154). -/
def State.dirDone (s : State) (t : Nat) : State :=
  match s.txn? t with
  | none => s
  | some x =>
    let s := if x.unkLost then
        (s.poisonDpa x.ln).modTxn t fun x => { x with unkLost := false, poison := x.poison || x.kind == .read }
      else s
    let cur := s.dirFind x.ln
    let go (s : State) : State := (s.stampTxn t 2).toMemory t
    match s.entryAfter x (cur.map (·.2)), cur with
    | none, none => go s
    | none, some (k, _) => go (s.dirDel k)
    | some e, some (k, _) => go (s.dirPut k e)
    | some e, none =>
      match s.pickWay x.ln with
      | .free w => go (s.dirPut w e)
      | .victim w v => if s.ttRoom2 ∧ s.snoopRoom (s.holders (dirLine w v) v) then
          ((s.freeTaken.evict w v (some t)).phase t .wayWait) else s.phase t .lockWait
      | .none => s.toRetry t x.ln

/-- What the lookup's SRAM gives (R159). -/
def State.dirLookup (s : State) (x : Txn) (err : DirErr) : State :=
  match err with
  | .none => s
  | .correctable => s.cohFault 1 x.ln
  | .entryBad =>
    match s.dirFind x.ln with
    | some (k, _) => (s.dirPut k { tag := BitVec.ofNat 24 (dirTag x.ln), key := x.key, ovf := true, m := true }).cohFault 2 x.ln
    | none => s
  | .otherWayBad w =>
    let k := dirSet x.ln * 16 + w.val
    match smFind? s.coh.dir k with
    | some e =>
      let e := { e with ovf := true, m := true, ptrs := [] }
      if s.lineBusy (dirLine k e) ∨ dirLine k e = x.ln then s
      else ((s.dirPut k e).evict k e none).cohFault 2 x.ln
    | none => s.cohFault 2 x.ln
  | .tagBad => s.cohFault 3 x.ln

/-- The lock holder's directory step (R132): snoops what it must, or goes on. -/
def State.dirStep (s : State) (t : Nat) (err : DirErr) : State :=
  match s.txn? t with
  | none => s
  | some x =>
    if !x.shared then (s.stampTxn t 2).toMemory t
    else
      let q := smGet s.coh.retry (dirSet x.ln) []
      if !q.isEmpty ∧ q.head? ≠ some t then s.toRetry t x.ln
      else
        let s := s.dirLookup x err
        match s.dirPlan x ((s.dirFind x.ln).map (·.2)) with
        | .violation => (s.cohFault 7 x.ln ((s.reqPtr x).getD 0)).finishRead t 0 true
        | .snoops [] _ => s.dirDone t
        | .snoops l inv =>
          if !s.snoopRoom l then s
          else (s.snoopAll x.ln inv l).modTxn t fun x => { x with phase := .snoop, snoops := l }

/-- A line's snoop of a target is resolved: whoever waits on it goes on (R142). -/
def State.resolved (s : State) (p : Target) (ln : Nat) : State :=
  let s := s.unsent ln p
  let s := { s with coh := { s.coh with
    evicts := smAdj s.coh.evicts ln fun v => { v with snoops := v.snoops.filter (· != p) } } }
  let s := s.modMove (ln / 64) fun m => { m with snoops := m.snoops.filter (· != (p, ln)) }
  let waits := (s.coh.txns.filter fun e => e.2.ln == ln && e.2.phase == .snoop && e.2.snoops.contains p).map (·.1)
  s.each waits fun t s =>
    let s := s.modTxn t fun x => { x with snoops := x.snoops.filter (· != p) }
    match s.txn? t with
    | some x => if x.snoops.isEmpty then s.dirDone t else s
    | none => s

/-- Remove a pointer from a line's entry; an entry with none left is invalid. -/
def State.dropPtr (s : State) (ln : Nat) (p : Target) : State :=
  match s.dirFind ln with
  | none => s
  | some (k, e) =>
    if e.ovf then s
    else
      let l := e.ptrs.filter fun q => q.toNat != p
      if l.isEmpty then s.dirDel k else s.dirPut k { e with ptrs := l }

/-- A snoop response (R142): the state left decides the pointer. -/
def State.snoopAnswer (s : State) (p : Target) (ln : Nat) (left : MetaValue) : State :=
  if s.coh.sent.any fun e => e.1 == p && e.2.1 == ln then
    let s := if left = .I then s.dropPtr ln p else s
    s.resolved p ln
  else s

/-- A line in broadcast M-unknown has lost a head of its set: it is poisoned at the end of its snoop round unless a head writes
it back (R156). -/
def State.unkLoss (s : State) (ln : Nat) : State :=
  let s := { s with coh := { s.coh with evicts := smAdj s.coh.evicts ln fun v => { v with poisonIfNoWb := true } } }
  s.each ((s.coh.txns.filter fun e => e.2.ln == ln && e.2.phase == .snoop).map (·.1)) fun t s =>
    s.modTxn t fun x => { x with unkLost := true }

/-- A snoop is resolved as lost (R144, R155): a line named in M is poisoned; the pointer goes. -/
def State.snoopLost (s : State) (p : Target) (ln : Nat) : State :=
  let wasM := match s.dirFind ln with
    | some (_, e) => e.m && !e.ovf && e.ptrs.any fun q => covers p q.toNat
    | none => false
  let s := if wasM then s.poisonDpa ln else s
  let s := if wasM then
      s.each ((s.coh.txns.filter fun e => e.2.ln == ln && e.2.phase == .snoop && e.2.kind == .read).map (·.1)) fun t s =>
        s.modTxn t fun x => { x with poison := true }
    else s
  let s := if (s.dirFind ln).any fun e => e.2.m && e.2.ovf then s.unkLoss ln else s
  (s.dropPtr ln p).resolved p ln

end Sys2Proof.Machine
end

