-- ==== Sys2Proof/Machine/Requests.lean ====
section
/-! DEFINITION. CXL.mem requests of the heads (01 R17-R24; 04 R89, R95-R96; 05 R111-R128; 06 R132, R138-R144) and the PME
fetch (05 R126-R127, 09 R246-R247). -/

namespace Sys2Proof.Machine

open Sys2Proof

/-! ## Decoding an HPA (05 R111-R114, R116) -/

/-- Take the host interleave bits out of an offset (05 R111; CXL 3.1): ways 2^k, or 3 × 2^k. -/
def deinterleave (ways gran off : Nat) : Nat :=
  let q := if ways % 3 = 0 then (off >>> gran) / ways else (off >>> gran) / max 1 ways
  (q <<< gran) + off % 2 ^ gran

/-- What a request meets in DEC: the decoder, its template, the address it matched on and the decoder offset. -/
structure Match where
  idx : Nat
  tpl : Template
  off : Nat
deriving DecidableEq, Repr

/-- HPA with its key-ID field of w bits cleared. -/
def keyCleared (hpa w : Nat) : Nat := hpa - (bits hpa 45 w <<< 45)

/-- The decoder of a head that matches an HPA (R114). -/
def State.decode (s : State) (h hpa : Nat) : Option Match :=
  (List.range 32).findSome? fun n =>
    let i := h * 32 + n
    let d := s.decoder i
    match smFind? s.dec.templates i with
    | none => none
    | some t =>
      let a := keyCleared hpa t.kw
      if d.committed ∧ d.base ≤ a ∧ a < d.base + d.size then some ⟨i, t, deinterleave d.ways d.gran (a - d.base)⟩ else none

/-- Key ID of a host request (R116). -/
def hostKey (defkey w hpa : Nat) : Nat := defkey / 2 ^ w * 2 ^ w + bits hpa 45 w

/-- Is a key ID permitted by a head's mask (R117)? -/
def State.keyPermitted (s : State) (h k : Nat) : Bool := s.fbitAt DEC_KEYMASK.PERMIT (4 * h + k / 32) (k % 32)

/-- DPA base in `DEC_DPABASE` of a decoder. -/
def State.dpaBase (s : State) (i : Nat) : Nat := s.fget DEC_DPABASE_LO.BASE_L i * 2 ^ 28 + s.fget DEC_DPABASE_HI.BASE_H i * 2 ^ 32

/-- Does an accepted extent of a head hold a DPA (R120)? -/
def State.inExtent (s : State) (h dpa : Nat) : Bool :=
  s.dec.extents.any fun e => e.2.heads.getLsbD h && decide (e.2.start ≤ dpa ∧ dpa < e.2.start + e.2.len * 2097152)

/-- A DEC fault (R128): the address is captured. -/
def State.decFault (s : State) (code addr : Nat) (h : Nat) : State := s.report setDEC code { addr := addr, unit := h }

/-! ## Page map lookup (05 R126) -/

/-- A counted access has its PME (09 R220, R226, R235): COUNT, and a queued read promotion. -/
def State.countTier (s : State) (pn : Nat) (isRead : Bool) : State :=
  let s := s.countAccess pn
  let p := s.pme pn
  if isRead ∧ (p.tier = 1 ∨ p.tier = 2) ∧ s.fget SLC_PROMO.TH < p.count ∧ s.fone SLC_CTL.PROMOTE_EN ∧ !s.slc.promoQ.contains pn then
    if s.slc.promoQ.length < 256 then { s with slc := { s.slc with promoQ := s.slc.promoQ ++ [pn] } }.unitStart 2
    else s.finc SLC_MOVES.DROPPED
  else s

/-- Does the access count (R220): host requests, from heads here or on other nodes? -/
def Txn.hosts (x : Txn) : Bool := match x.src with
  | .head _ | .peer .. => true
  | _ => false

/-- DEC has the page's PME: the access is counted, the SEQ read, and the request goes to COH. -/
def State.pmeKnown (s : State) (t : Nat) : State :=
  match s.txn? t with
  | none => s
  | some x =>
    let pn := x.ln / 64
    let s := if x.hosts then s.countTier pn (x.kind == .read) else s
    let p := s.pme pn
    let s := if p.tier = 1 ∨ p.tier = 2 ∨ (s.slot x.key.toNat).mode = 1 then s.unitStart 0 else s
    ((s.modTxn t fun x => { x with seq := p.seq }).stampTxn t 1).enterCoh t

/-- Look a page up in the PME cache (R126): a hit goes on, a miss fetches; misses to one PME merge, at most 64 stand. -/
def State.toPme (s : State) (t pn : Nat) : State :=
  let s := s.count 1 2
  if s.pmeCached pn then s.pmeKnown t
  else
    let s := (s.count 1 3).modTxn t fun x => { x with phase := .pme, pmeMiss := true }
    if s.dec.misses.contains pn ∨ 64 ≤ s.dec.misses.length then s
    else { s with dec := { s.dec with misses := s.dec.misses ++ [pn] } }

/-- The transaction goes from DEC to COH, by the page map when tiered. -/
def State.decoded (s : State) (t : Nat) : State :=
  match s.txn? t with
  | none => s
  | some x =>
    if x.tiered then s.toPme t (x.ln / 64)
    else ((if (s.slot x.key.toNat).mode = 1 then s.unitStart 0 else s).stampTxn t 1).enterCoh t

/-! ## Host requests -/

/-- Answer a refused request: poison to a read, a normal completion to a write (R114, R117, R120). -/
def State.turnAway (s : State) (x : Txn) : State :=
  if x.kind = .read then s.answerRead x 0 true else s.answerWrite x false

/-- Refuse by the state of the key slot (10 R263): poison to both. -/
def State.keyRefuse (s : State) (x : Txn) (v : Verdict) (dpa : Nat) : State :=
  let s := s.keyRefused v x.key.toNat dpa
  let s := s.count 6 (if v = .ended then 5 else 4)
  if x.kind = .read then s.answerRead x 0 true else s.answerWrite x true

/-- The key slot admits the request, or refuses it; a write it admits is counted (10 R263, R268). -/
def State.keyAdmit (s : State) (x : Txn) (a : Access) (dpa : Nat) (go : State → State) : State :=
  match verdict (s.slot x.key.toNat).state a with
  | .served => go (if a = .read then s else s.countWrite x.key.toNat)
  | .poisoned => go s
  | v => s.keyRefuse x v dpa

/-- Base transaction of a request to a local region. -/
def State.localTxn (s : State) (r : Region) (n : Nat) (x : Txn) (dpa : Nat) : Txn :=
  { x with ln := dpa / 64, shared := r.shared, tiered := r.tiered, region := n, cls := r.cls, hint := r.hint
           retired := (s.slot x.key.toNat).state == 4 }

/-- A dyed copy of a candidate's transaction (18 R433-R434). -/
def State.dye (s : State) (x : Txn) : Txn × State :=
  let r := s.dyeCandidate
  if r.1 then ({ x with dyed := true, stamps := [s.tb, 0, 0, 0, 0, 0, 0, 0] }, r.2) else (x, r.2)

/-- A request to a remote home leaves on the Span (01 R27, 13 R338). With every TAG taken it waits at ingress: nothing changes. -/
def State.toHome (s : State) (x : Txn) (h home ln : Nat) (shared : Bool) : State :=
  let op := match x.kind with
    | .read => 1 | .write => if x.mc = 1 then 0x20 else 2 | .part => 3
  let s' := if op = 3 then s.sendSpan home 4 { spanMsg s 0 0 0 0 0 with data := (x.be.zeroExtend 512) } else s
  (s'.sendReq home op { head := some (Fin.ofNat 16 h), ln := ln } fun tag =>
    spanMsg s h x.key.toNat tag ln 0 x.mv x.data false shared 0 (s.fget WEIR_URGH.LEVEL >>> (2 * h) % 4)).2

/-- Is a head's link up and the device in P0, so that requests arrive? -/
def State.accepts (s : State) (h : Nat) : Bool :=
  s.linkReady h && s.fget PWR_STATE.CUR == 0

/-- Are CXL.mem requests of a head refused for want of IDE (04 R95, R96)? -/
def State.ideRefused (s : State) (h : Nat) : Bool :=
  (s.fget HP_CFG.IDE_REQ (h / 4)).testBit (h % 4) && !s.fone HP_IDE.MEM_ACTIVE h || s.fone HP_IDE.INSECURE h

/-- The CXL.mem stream of a head enters the insecure state (04 R96). -/
def State.ideFail (s : State) (h : Nat) : State :=
  if s.fone HP_IDE.INSECURE h then s
  else
    let s := ((s.fset HP_IDE.INSECURE h 1).fset HP_IDE.MEM_ACTIVE h 0).modHead h fun x => { x with ideKeys := (x.ideKeys.1, false) }
    s.report setHP 1 { unit := h }

/-- What DEC makes of a host request: turned away, remote, or a transaction of a local region (R114-R120). -/
def State.hostDec (s : State) (h : Nat) (hpa : Nat) (x : Txn) (a : Access) (go : Txn → State → State) : State :=
  let s := s.count 1 1 { head := some h }
  let refuse (s : State) : State := (s.count 1 4 { head := some h }).turnAway x
  match s.decode h hpa with
  | none => refuse (s.decFault 1 hpa h)
  | some m =>
    let k := hostKey (s.fget DEC_DEFKEY.KEY m.idx) m.tpl.kw hpa
    let x := { x with key := BitVec.ofNat 7 k }
    if !s.keyPermitted h k then refuse (s.decFault 2 hpa h)
    else
      let dpa := s.dpaBase m.idx + m.off
      let r := s.region m.tpl.region
      match r.home with
      | some home => s.toHome x h home.toNat (dpa / 64) r.shared
      | none =>
        if r.dcd ∧ !s.inExtent h dpa then refuse (s.decFault 3 hpa h)
        else s.keyAdmit x a dpa (go (s.localTxn r m.tpl.region x dpa))

/-- A CXL.mem request of a head (R17, R22): accepted, and the front checks passed, it is decoded. -/
def State.hostReq (s : State) (h : Nat) (hpa : Nat) (x : Txn) (a : Access) (ideOk : Bool) (go : Txn → State → State) : State :=
  if !s.accepts h then s
  else
    let s := s.active.count 0 1 { head := some h }
    if s.ideRefused h then (s.finc HP_IDE.DROPS h).turnAway x
    else if !ideOk then s.ideFail h
    else if !memEnable (s.head h) ∨ s.boot.fatal then s.turnAway x
    else s.hostDec h hpa x a go

/-- Enter a class-3 request into the device: a dye candidate where its head is chosen (18 R433), then DEC's tier step. -/
def enterReq (h : Nat) (x : Txn) (s : State) : State :=
  let r := if s.fbitAt PMU_DYECTL.HEADS 0 h then s.dye x else (x, s)
  let n := r.2.newTxn r.1
  n.2.decoded n.1

/-- MEM_READ. -/
def memRead (h : Head) (hpa : Hpa) (mv : MetaValue) (ideOk : Bool) (s : State) : State :=
  s.hostReq h hpa.toNat { src := .head h, kind := .read, mv := mv } .read ideOk (enterReq h)

/-- MEM_READ (01 R17). -/
def execMemRead (h : Head) (hpa : Hpa) (mv : MetaValue) (ideOk : Bool) (s : State) : Host.Outcome State Fault Refusal :=
  volatile (access (.memRead h hpa mv ideOk) (.head h) (memRead h hpa mv ideOk)) s

/-- MEM_WRITE (01 R22-R24). -/
def memWrite (h : Head) (hpa : Hpa) (mv : MetaValue) (data : Data) (ideOk : Bool) (s : State) : State :=
  s.hostReq h hpa.toNat { src := .head h, kind := .write, mv := mv, data := data, be := BitVec.allOnes 64 } .write ideOk (enterReq h)

/-- MEM_WRITE. -/
def execMemWrite (h : Head) (hpa : Hpa) (mv : MetaValue) (data : Data) (ideOk : Bool) (s : State) :
    Host.Outcome State Fault Refusal := volatile (access (.memWrite h hpa mv data ideOk) (.head h) (memWrite h hpa mv data ideOk)) s

/-- PARTIAL_WRITE (07 R184). -/
def partialWrite (h : Head) (hpa : Hpa) (mv : MetaValue) (data : Data) (be : ByteEn) (ideOk : Bool) (s : State) : State :=
  s.hostReq h hpa.toNat { src := .head h, kind := .part, mv := mv, data := data, be := be } .write ideOk (enterReq h)

/-- PARTIAL_WRITE. -/
def execPartialWrite (h : Head) (hpa : Hpa) (mv : MetaValue) (data : Data) (be : ByteEn) (ideOk : Bool) (s : State) :
    Host.Outcome State Fault Refusal := volatile (access (.partialWrite h hpa mv data be ideOk) (.head h) (partialWrite h hpa mv data be ideOk)) s

/-! ## Message class 1 (06 R132, R138, R141, R144, R149) -/

/-- The directory change of a writeback (R132): from the M holder, or any head of a broadcast M-unknown entry. -/
def State.wbDirectory (s : State) (x : Txn) : State :=
  match s.dirFind x.ln, s.reqPtr x with
  | some (k, e), some me =>
    if e.m ∧ (e.ovf ∨ e.ptrs.contains (BitVec.ofNat 10 me)) then
      if x.mv = .S then s.dirPut k { e with ptrs := [BitVec.ofNat 10 me], ovf := false, m := false, key := x.key } else s.dirDel k
    else s
  | _, _ => s

/-- A writeback's data on its way (R141, R149, R151): into a move's page buffer, to its T0 line, or by promoting the page. -/
def State.wbData (s : State) (x : Txn) : State :=
  let toMem (mpa : Nat) (s : State) : State :=
    let n := s.newTxn { x with mc := 1, phase := .lockWait }
    n.2.toCredit n.1 mpa
  if !x.tiered then toMem x.ln s
  else
    let pn := x.ln / 64
    match smFind? s.slc.moves pn with
    | some m =>
      (s.modMove pn fun _ => { m with buffer := m.buffer ++ [{ line := x.ln % 64, data := x.data, key := x.key }] }).answerWrite x false
    | none =>
      let p := s.pme pn
      if p.tier = 0 ∧ !p.poison then toMem (t0Line p x.ln) (s.pageKeyTo pn x.key)
      else
        let m : Move := { kind := .promoteOnWrite, key := smGet s.slc.pageKey pn x.key
                          buffer := [{ line := x.ln % 64, data := x.data, key := x.key }] }
        ({ s with slc := { s.slc with moves := smSet s.slc.moves pn m } }).answerWrite x false

/-- Accept a class-1 write (R141): its snoop, if one stands, makes it class C2 (01 R29). A page in the timeout table discards it. -/
def State.acceptWb (s : State) (x : Txn) (p : Target) : State :=
  if s.coh.timeouts.contains (p, x.ln) then (s.finc COH_SNPTO.LATE).answerWrite x false
  else
    let x := if s.coh.sent.any fun e => e.1 == p && e.2.1 == x.ln then { x with cls := 2 } else x
    let s := { s with coh := { s.coh with
      evicts := smAdj s.coh.evicts x.ln fun v => { v with poisonIfNoWb := false }
      txns := smMap s.coh.txns fun _ y => if y.ln = x.ln then { y with unkLost := false } else y } }
    ((if x.shared then s.wbDirectory x else s).wbData x)

/-- MEM_WRITEBACK. It waits at ingress while no entry is free (R138): nothing changes then. -/
def memWriteback (h : Head) (hpa : Hpa) (mv : MetaValue) (data : Data) (s : State) : State :=
  if !s.ttRoom1 then s
  else s.hostReq h hpa.toNat { src := .head h, kind := .write, mv := mv, data := data, be := BitVec.allOnes 64, mc := 1 } .writeback
    true fun x s => s.acceptWb x (s.localPtr h.val)

/-- MEM_WRITEBACK (06 R141). -/
def execMemWriteback (h : Head) (hpa : Hpa) (mv : MetaValue) (data : Data) (s : State) : Host.Outcome State Fault Refusal :=
  volatile (access (.memWriteback h hpa mv data) (.head h) (memWriteback h hpa mv data)) s

/-- A clean eviction notice reaches the home (R132): the requester's pointer goes. -/
def State.cleanEvict (s : State) (x : Txn) (p : Target) : State :=
  (if x.shared then s.dropPtr x.ln p else s).answerWrite x false

/-- MEM_CLN_EVCT: neither refused nor counted by the state of its key slot (10 R263). -/
def memClnEvct (h : Head) (hpa : Hpa) (s : State) : State :=
  if !s.accepts h then s
  else
    let x : Txn := { src := .head h, kind := .write }
    match s.decode h hpa.toNat with
    | none => (s.decFault 1 hpa.toNat h).answerWrite x false
    | some m =>
      let dpa := s.dpaBase m.idx + m.off
      let r := s.region m.tpl.region
      let k := hostKey (s.fget DEC_DEFKEY.KEY m.idx) m.tpl.kw hpa.toNat
      match r.home with
      | some home => (s.sendReq home.toNat 5 { head := some h, ln := dpa / 64 } fun tag =>
          spanMsg s h k tag (dpa / 64) 0 .I 0 false r.shared).2
      | none => s.cleanEvict (s.localTxn r m.tpl.region { x with key := BitVec.ofNat 7 k } dpa) (s.localPtr h.val)

/-- MEM_CLN_EVCT (06 R132). -/
def execMemClnEvct (h : Head) (hpa : Hpa) (s : State) : Host.Outcome State Fault Refusal := volatile (access (.memClnEvct h hpa) (.head h) (memClnEvct h hpa)) s

/-- A snoop response reaches COH (R142, R144): a pair in the timeout table discards it and is cleared. -/
def State.birspAt (s : State) (p : Target) (ln : Nat) (left : MetaValue) : State :=
  if s.coh.timeouts.contains (p, ln) then
    { s with coh := { s.coh with timeouts := s.coh.timeouts.filter (· != (p, ln)) } }.finc COH_SNPTO.LATE
  else s.snoopAnswer p ln left

/-- Is a writeback of a line to a home not yet completed (13 R338)? -/
def State.wbPending (s : State) (home ln : Nat) : Bool :=
  s.spn.tags.any fun e => e.1 / 4096 == home && e.2.op == 0x20 && e.2.ln == ln && !e.2.failed

/-- A home's snoop is answered once every head has and every writeback of the line is completed (13 R338). -/
def State.peerSnoopDone (s : State) (k : Nat) : State :=
  match smFind? s.spn.snoops k with
  | none => s
  | some q =>
    if !q.heads.isEmpty ∨ s.wbPending q.home q.ln then s
    else ({ s with spn := { s.spn with snoops := smDel s.spn.snoops k } }).sendSpan q.home 0x32
      (spanMsg s q.head 0 q.tag q.ln 0 q.best)

/-- The higher of two states left. -/
def worseMv (a b : MetaValue) : MetaValue := if a = .A ∨ b = .A then .A else if a = .S ∨ b = .S then .S else .I

/-- A head of this node answers the oldest snoop of a home that waits on it for the line. -/
def State.peerSnoopHead (s : State) (h ln : Nat) (left : MetaValue) : State :=
  match s.spn.snoops.find? fun e => e.2.ln == ln && e.2.heads.contains h with
  | none => s
  | some (k, q) =>
    let q := { q with heads := q.heads.filter (· != h), best := worseMv q.best left }
    { s with spn := { s.spn with snoops := smSet s.spn.snoops k q } }.peerSnoopDone k

/-- M2S_BIRSP: the response to a snoop of this node's directory, or else of a home's snoop relayed to the head. -/
def m2sBirsp (h : Head) (ln : BitVec 40) (left : MetaValue) (s : State) : State :=
  let p := s.localPtr h.val
  if (s.coh.sent.any fun e => e.1 == p && e.2.1 == ln.toNat) || s.coh.timeouts.contains (p, ln.toNat) then s.birspAt p ln.toNat left
  else s.peerSnoopHead h ln.toNat left

/-- M2S_BIRSP (06 R142). -/
def execM2sBirsp (h : Head) (ln : BitVec 40) (left : MetaValue) (s : State) : Host.Outcome State Fault Refusal :=
  volatile (m2sBirsp h ln left) s

/-- BICONFLICT (06 R143): acknowledged, whatever the conflicting request waits on; for a line of a remote home the notice
goes there (13 R324). -/
def biconflict (h : Head) (ln : BitVec 40) (s : State) : State :=
  match s.spn.tags.find? fun e => e.2.head == some h && e.2.ln == ln.toNat && !e.2.failed && decide (e.2.op ≤ 3) with
  | some e => (s.sendReq (e.1 / 4096) 6 { head := some h, ln := ln.toNat } fun tag => spanMsg s h 0 tag ln.toNat 0).2
  | none => if s.accepts h then s.emit (.biConflictAck h ln.toNat) else s

/-- BICONFLICT. -/
def execBiconflict (h : Head) (ln : BitVec 40) (s : State) : Host.Outcome State Fault Refusal := volatile (biconflict h ln) s

/-! ## The line-lock arbiter (06 R140) -/

/-- Distance of a requester number from ROT. -/
def rotScore (rot r : Nat) : Nat := (r + 20 - rot % 20) % 20

/-- Contenders in increasing (r - ROT) mod 20, then in order of arrival. -/
def arbOrder (rot : Nat) (l : List (Nat × Nat)) : List (Nat × Nat) :=
  (List.range 20).flatMap fun d => l.filter fun c => rotScore rot c.2 == d

/-- Transactions asking for a line's lock, with their requester numbers: not yet holders and not in its queue. -/
def State.contenders (s : State) (ln : Nat) : List (Nat × Nat) :=
  let held := match smFind? s.coh.locks ln with
    | some l => l.holder.toList ++ l.queue
    | none => []
  (s.coh.txns.filter fun e => e.2.mc == 3 && e.2.ln == ln && e.2.phase == .lockWait && !held.contains e.1).map
    fun e => (e.1, reqNo e.2.src)

/-- Contenders join the line queue up to 8; those left stay in their ingress buffers (R139). -/
def State.joinQueue (s : State) (ln : Nat) (l : List Nat) : State :=
  let q := ((smFind? s.coh.locks ln).map (·.queue)).getD []
  let room := 8 - q.length
  let s := { s with coh := { s.coh with locks := smAdj s.coh.locks ln fun k => { k with queue := k.queue ++ l.take room } } }
  let s := if l.isEmpty then s else s.count 2 2 {} (min room l.length)
  s.each (l.drop room) fun t s => s.phase t .ingress

/-- LINE_LOCK_GRANT: R140 on one line, then the directory step of the holder. -/
def lineLockGrant (lnb : BitVec 40) (err : DirErr) (s : State) : State :=
  let ln := lnb.toNat
  let rot := s.fget COH_ROT.ROT
  let order := arbOrder rot (s.contenders ln)
  match smFind? s.coh.locks ln with
  | some k =>
    let s := s.joinQueue ln (order.map (·.1))
    match k.holder with
    | some t => if (s.txn? t).any (fun x => x.phase == .lockWait) then s.dirStep t err else s
    | none => s
  | none =>
    match order with
    | [] => s
    | (t, r) :: rest =>
      let s := { s with coh := { s.coh with locks := smSet s.coh.locks ln { holder := some t } } }
      let s := if rest.isEmpty then s else s.fset COH_ROT.ROT 0 ((r + 1) % 20)
      ((s.joinQueue ln (rest.map (·.1))).count 2 1).dirStep t err

/-- LINE_LOCK_GRANT (06 R140). -/
def execLineLockGrant (ln : BitVec 40) (err : DirErr) (s : State) : Host.Outcome State Fault Refusal :=
  volatile (lineLockGrant ln err) s

/-- EVICTION_COMPLETE (R153): every response and writeback is in; the entry goes (or, after an agent's BISnpData round, stays
in S), the way passes to the request that needs it, and the victim's lock to its queue. A broadcast M-unknown entry of a
lost head that no head wrote back is poisoned (R156). -/
def evictionComplete (lnb : BitVec 40) (s : State) : State :=
  let ln := lnb.toNat
  match smFind? s.coh.evicts ln with
  | none => s
  | some v =>
    if !v.snoops.isEmpty then s
    else
      let s := { s with coh := { s.coh with evicts := smDel s.coh.evicts ln } }
      let s := if v.poisonIfNoWb then (s.poisonDpa ln).finc COH_SCAN.POISONED else s
      let s := match s.dirFind ln with
        | some (k, e) => if v.down then s.dirPut k { e with m := false } else s.dirDel k
        | none => s
      let s := match s.coh.walk with
        | some l => { s with coh := { s.coh with walk := some (l.filter (· != ln)) } }
        | none => s
      let s := s.unlock ln
      match v.forTxn with
      | some t => s.dirDone t
      | none => s

/-- EVICTION_COMPLETE. -/
def execEvictionComplete (ln : BitVec 40) (s : State) : Host.Outcome State Fault Refusal := volatile (evictionComplete ln) s

/-- WAY_FREED (R154): a way of the set is free, or unpinned: it goes to the head of the set's retry queue. -/
def wayFreed (set : BitVec 16) (s : State) : State :=
  match smGet s.coh.retry set.toNat [] with
  | [] => s
  | t :: rest =>
    match s.txn? t with
    | none => { s with coh := { s.coh with retry := if rest.isEmpty then smDel s.coh.retry set.toNat else smSet s.coh.retry set.toNat rest } }
    | some x =>
      if s.pickWay x.ln = .none then s
      else
        let s := { s with coh := { s.coh with
          retry := if rest.isEmpty then smDel s.coh.retry set.toNat else smSet s.coh.retry set.toNat rest } }
        (s.phase t .lockWait).dirDone t

/-- WAY_FREED. -/
def execWayFreed (set : BitVec 16) (s : State) : Host.Outcome State Fault Refusal := volatile (wayFreed set) s

/-- SNOOP_TIMEOUT (R144): a snoop of a target unanswered for SNPTO is resolved as lost, and the pair enters the timeout table. -/
def snoopTimeout (node : NodeId) (h : Head) (lnb : BitVec 40) (s : State) : State :=
  let ln := lnb.toNat
  let p : Target := node.toNat * 16 + h.val
  let limit := max 100 (s.fget COH_CTL.SNPTO)
  match s.coh.sent.find? fun e => (e.1 == p || e.1 == 1024 + node.toNat && h.val == 0) && e.2.1 == ln with
  | none => s
  | some (q, _, at_) =>
    if !s.elapsed at_ (usT limit) then s
    else
      let s := (s.cohFault 5 ln q).finc COH_SNPTO.TIMEOUTS
      let full := decide (64 ≤ s.coh.timeouts.length)
      let s := if full then s.cohFault 6 ln q else s
      let tbl := (if full then s.coh.timeouts.drop 1 else s.coh.timeouts) ++ [(q, ln)]
      ({ s with coh := { s.coh with timeouts := tbl } }).snoopLost q ln

/-- SNOOP_TIMEOUT. -/
def execSnoopTimeout (node : NodeId) (h : Head) (ln : BitVec 40) (s : State) : Host.Outcome State Fault Refusal :=
  volatile (snoopTimeout node h ln) s

/-! ## The PME fetch (05 R126, 09 R246-R247) -/

/-- 4 KiB units of storage a PME names (09 R247). -/
def pmeUnits (p : Pme) : Nat :=
  match p.tier with
  | 0 => 1 | 1 => if p.raw then 1 else (p.slabs + 15) / 16 | _ => 0

/-- Both copies of a PME are lost (R247). -/
def State.pmeLost (s : State) (pn : Nat) : State :=
  let p := s.dpm pn
  let s := s.fadd SLC_LEAK.UNITS 0 (pmeUnits p)
  ((s.tierCount pn p.tier 3).putDpm pn { tier := 3, poison := true }).report setSLC 2 { addr := pn * 4096, dpa := some (pn * 4096) }

/-- PME_FETCH_RETURN: the PME is checked, installed, and the requests that wait for it go on; then the next miss is fetched. -/
def pmeFetchReturn (page : BitVec 33) (primaryOk mirrorOk : Bool) (s : State) : State :=
  let pn := page.toNat + 2 ^ 32
  if !s.dec.misses.contains pn then s
  else
    let s := { s with dec := { s.dec with misses := s.dec.misses.filter (· != pn) } }
    let s := if primaryOk then s
      else if mirrorOk then s.report setSLC 1 { addr := pn * 4096, dpa := some (pn * 4096) }
      else s.pmeLost pn
    let s := s.pmeInstall pn
    let waits := (s.coh.txns.filter fun e => e.2.phase == .pme && e.2.ln / 64 == pn).map (·.1)
    let s := s.each waits fun t s => s.pmeKnown t
    match s.coh.txns.find? fun e => e.2.phase == .pme && !s.dec.misses.contains (e.2.ln / 64) with
    | some e => { s with dec := { s.dec with misses := s.dec.misses ++ [e.2.ln / 64] } }
    | none => s

/-- PME_FETCH_RETURN. -/
def execPmeFetchReturn (page : BitVec 33) (primaryOk mirrorOk : Bool) (s : State) : Host.Outcome State Fault Refusal :=
  volatile (pmeFetchReturn page primaryOk mirrorOk) s

end Sys2Proof.Machine
end

