-- ==== Sys2Proof/Machine/Weir.lean ====
section
/-! DEFINITION. Weir's grants, urgency, byte counters and credit counts (11 R277-R285, R291-R292), and the entry of a granted
transaction into its DMC queue (07 R163-R164, R166). -/

namespace Sys2Proof.Machine

open Sys2Proof

/-! ## Urgency (R283) -/

/-- A buffer's level after its fill has changed: up at the thresholds, down below a threshold less the hysteresis. -/
def urgLevel (l1 l2 l3 hyst old fill : Nat) : Nat :=
  let th (n : Nat) : Nat := if n = 1 then l1 else if n = 2 then l2 else l3
  let up := if l3 ≤ fill then 3 else if l2 ≤ fill then 2 else if l1 ≤ fill then 1 else 0
  if old ≤ up then up
  else if fill < th 1 - hyst then 0 else if fill < th 2 - hyst then min old 1 else if fill < th 3 - hyst then min old 2 else old

/-- Requests that wait in a head's ingress buffer. -/
def State.headWaiting (s : State) (h : Nat) : Nat :=
  (s.coh.txns.filter fun e => e.2.phase == .ingress && reqNo e.2.src == h).length

/-- Requests that wait in a Span port's ingress buffer. -/
def State.portWaiting (s : State) (p : Nat) : Nat :=
  (s.coh.txns.filter fun e => e.2.phase == .ingress && reqNo e.2.src == 16 && e.2.port == p).length

/-- Recompute the levels of every ingress buffer. -/
def State.urgRefresh (s : State) : State :=
  let lvl (old n entries : Nat) : Nat :=
    urgLevel (s.fget WEIR_BRIM.L1) (s.fget WEIR_BRIM.L2) (s.fget WEIR_BRIM.L3) (s.fget WEIR_BRIM.HYST) old (100 * n / entries)
  let hs := ((List.range 16).map fun h => lvl (get2 (s.fget WEIR_URGH.LEVEL) h) (s.headWaiting h) Config.headIngress <<< (2 * h)).sum
  let ps := ((List.range 4).map fun p => lvl (get2 (s.fget WEIR_URGS.LEVEL) p) (s.portWaiting p) Config.spanIngress <<< (2 * p)).sum
  (s.fset WEIR_URGH.LEVEL 0 hs).fset WEIR_URGS.LEVEL 0 ps

/-- Urgency of a transaction (R283). -/
def State.urgencyOf (s : State) (x : Txn) : Nat :=
  match x.src with
  | .head h => if x.cls ≤ 1 then get2 (s.fget WEIR_URGH.LEVEL) h.val else 0
  | .peer .. => if x.cls = 5 then max x.urg (get2 (s.fget WEIR_URGS.LEVEL) x.port) else 0
  | _ => 0

/-- Urgency as the grant sees it: 0 for all with URG_EN clear (R284). -/
def State.weirUrg (s : State) (x : Txn) : Nat := if s.fone WEIR_CTL.URG_EN then s.urgencyOf x else 0

/-! ## Eligibility (R278, R280, R281, R284) -/

/-- Outstanding transactions of a class on a channel. -/
def State.outNow (s : State) (c k : Nat) : Nat := s.fget WEIR_OUT.NOW (c * 8 + k)

/-- Outstanding transactions of a channel. -/
def State.outTotal (s : State) (c : Nat) : Nat := ((List.range 8).map fun k => s.outNow c k).sum

/-- Effective maximum for a transaction of some urgency (R284). -/
def urgMax (m urg : Nat) : Nat := if 2 ≤ urg then min 160 (m + m / 2) else m

/-- Unfilled reservations of a channel (R281). -/
def State.unfilled (s : State) (c : Nat) : Nat :=
  ((List.range 8).map fun k => s.fget WEIR_EFF.EFFMIN (c * 8 + k) - s.outNow c k).sum

/-- Is a slot of the matching queue free (R163)? Reads take the read queue, writes and partial writes the write queue. -/
def State.slotFree (s : State) (c : Nat) (x : Txn) : Bool :=
  if x.kind = .read then decide ((s.chan c).rq.length < 96) else decide ((s.chan c).wq.length < 64)

/-- Is the transaction's class below its effective minimum? -/
def State.guaranteed (s : State) (c : Nat) (x : Txn) : Bool :=
  decide (s.outNow c x.cls < s.fget WEIR_EFF.EFFMIN (c * 8 + x.cls))

/-- Does an older writeback of the line wait, which a later transaction of the line may not pass (06 R141)? -/
def State.behindWb (s : State) (t : Nat) (x : Txn) : Bool :=
  s.coh.txns.any fun e => decide (e.1 < t) && e.2.mc == 1 && e.2.phase == .credit && e.2.mpa == x.mpa

/-- Is a drawer's transaction within the drawer's C4 share on the channel (12 R310)? -/
def State.inShare (s : State) (c : Nat) (x : Txn) : Bool :=
  match x.src with
  | .drawer op =>
    match smFind? s.drw.ops op with
    | none => true
    | some o =>
      let out := (s.coh.txns.filter fun e => e.2.mpa.isSome && ((e.2.mpa.bind s.placeOf).map (·.chan)) == some c &&
        e.2.phase != .credit && match e.2.src with
          | .drawer q => (smFind? s.drw.ops q).any fun p => p.drawer == o.drawer
          | _ => false).length
      decide (out < max 1 (s.fget WEIR_EFF.EFFMAX (c * 8 + 4) * s.fget DRW_LIMIT.SHARE o.drawer / 1024))
  | _ => true

/-- May Weir grant the transaction now? -/
def State.eligible (s : State) (c t : Nat) (x : Txn) : Bool :=
  let k := c * 8 + x.cls
  decide (s.outNow c x.cls < urgMax (s.fget WEIR_EFF.EFFMAX k) (s.weirUrg x)) && s.slotFree c x && !s.behindWb t x && s.inShare c x &&
  (s.guaranteed c x ||
    decide (s.unfilled c + 1 ≤ (96 - (s.chan c).rq.length) + (64 - (s.chan c).wq.length)))

/-- Transactions that wait for a credit on a channel. -/
def State.waiting (s : State) (c : Nat) : List (Nat × Txn) :=
  s.coh.txns.filter fun e => e.2.phase == .credit && ((e.2.mpa.bind s.placeOf).map (·.chan)) == some c

/-- Oldest first; then the lower requester number, then arrival (R282). -/
def older (a b : Nat × Txn) : Bool :=
  decide (a.2.since < b.2.since) || (a.2.since == b.2.since &&
    (decide (reqNo a.2.src < reqNo b.2.src) || (reqNo a.2.src == reqNo b.2.src && decide (a.1 < b.1))))

/-- The best of a list under an order. -/
def bestOf {α : Type} (before : α → α → Bool) : List α → Option α
  | [] => none
  | a :: l => match bestOf before l with
    | none => some a
    | some b => if before b a then some b else some a

/-- Urgency highest first, then oldest first. -/
def State.urgent (s : State) (a b : Nat × Txn) : Bool :=
  decide (s.weirUrg b.2 < s.weirUrg a.2) || (s.weirUrg a.2 == s.weirUrg b.2 && older a b)

/-- By ascending BYTES / maximum, ties to the lower class, within the class as R280 says. -/
def State.excessOrder (s : State) (c : Nat) (a b : Nat × Txn) : Bool :=
  let by_ (k : Nat) : Nat := smGet (s.chan c).bytes k 0
  let mx (k : Nat) : Nat := s.fget WEIR_SHARE.MAX (c * 8 + k)
  let x := by_ a.2.cls * mx b.2.cls
  let y := by_ b.2.cls * mx a.2.cls
  if a.2.cls = b.2.cls then s.urgent a b else decide (x < y) || (x == y && decide (a.2.cls < b.2.cls))

/-- The transaction Weir grants on a channel (R280), and whether it comes from A. -/
def State.weirPick (s : State) (c : Nat) : Option ((Nat × Txn) × Bool) :=
  let el := (s.waiting c).filter fun e => s.eligible c e.1 e.2
  let g := el.filter fun e => s.guaranteed c e.2
  let age := max 1 (s.fget WEIR_CTL.AGE)
  let aged := g.filter fun e => decide (age * 100 < (s.wclk - e.2.since) * 250)
  let byClass (l : List Nat) (from_ : List (Nat × Txn)) (before : Nat × Txn → Nat × Txn → Bool) : Option (Nat × Txn) :=
    l.findSome? fun k => bestOf before (from_.filter fun e => e.2.cls == k)
  match bestOf older aged with
  | some e => some (e, true)
  | none =>
    ((((byClass [2, 0, 5, 7, 6] g s.urgent).or
      (byClass [0, 5, 3, 1] (el.filter fun e => s.weirUrg e.2 == 3) older)).or
      (byClass [1, 3, 4] g s.urgent)).or
      (bestOf (s.excessOrder c) (el.filter fun e => !s.guaranteed c e.2))).map fun e => (e, false)

/-! ## DevLoad (R291) -/

/-- DevLoad of a response of a class served by a channel, after its wait. -/
def State.devLoad (s : State) (c k waited : Nat) : Nat :=
  let d := s.capD c
  let total := s.outTotal c
  if s.fone WEIR_EFF.REDUCED (c * 8 + k) ∨ usT 4 < waited then 3
  else if usT 1 < waited ∨ d * 90 ≤ total * 100 then 2
  else if total * 4 < d then 0
  else 1

/-! ## Credits -/

/-- A credit returns (R277). -/
def State.creditBack (s : State) (c k : Nat) : State := s.fdec WEIR_OUT.NOW (c * 8 + k)

/-- Bytes a grant counts (R285). -/
def Txn.grantBytes (x : Txn) : Nat := if x.kind = .part then 128 else 64

/-- A transaction is charged to its class (R277, R285) and its wait recorded. -/
def State.charge (s : State) (c : Nat) (x : Txn) (aged : Bool) : State :=
  let k := c * 8 + x.cls
  let s := s.fset WEIR_OUT.NOW k (s.fget WEIR_OUT.NOW k + 1)
  let s := s.fpeak WEIR_OUT.PEAK k (s.fget WEIR_OUT.NOW k)
  let s := s.modChan c fun ch => { ch with bytes := smMod ch.bytes x.cls 0 (· + x.grantBytes) }
  let s := s.fpeak WEIR_WAIT.MAXWAIT k (min 0xFFFF ((s.wclk - x.since) * 25))
  let s := if aged then s.finc WEIR_WAIT.AGED k else s
  let a : Attr := { cls := some x.cls, ch := some c }
  let s := (s.count 7 1 a).count 7 5 a (x.grantBytes / 64)
  let s := if aged then s.count 7 2 a else s
  let s := if 2 ≤ s.weirUrg x then s.count 7 3 a else s
  match x.src with
  | .drawer op => match smFind? s.drw.ops op with
    | some o => s.userEvent o.drawer 7 1
    | none => s
  | _ => s

/-! ## Entering a DMC queue (07 R163-R164, R166) -/

/-- Enough writes wait for a drain batch (R166). -/
def State.drainStart (s : State) (c : Nat) : State :=
  if !s.fone DMC_STATUS.DRAIN c && decide (s.fget DMC_QCTL.WR_HIGH c ≤ (s.chan c).wq.length) then
    (s.fset DMC_STATUS.DRAIN c 1).count 3 5 { ch := some c }
  else s

/-- A write has entered or merged: its completion is sent, and its lock freed (01 R23). -/
def State.writeEntered (s : State) (t : Nat) : State :=
  match s.txn? t with
  | none => s
  | some x => ((s.answerWrite x false).stampTxn t 7).unlockBy t x.ln |>.admitWaiting

/-- The youngest queued write of a line, if the new write may merge into it: same key ID and SLAB marking (R164). -/
def State.mergeInto (s : State) (c : Nat) (x : Txn) : Option Nat :=
  match ((s.chan c).wq.filter fun w => (s.txn? w).any fun y => y.mpa == x.mpa).getLast? with
  | none => none
  | some w => if (s.txn? w).any fun y => y.key == x.key && y.slab == x.slab then some w else none

/-- The queued write after a younger write has merged into it. -/
def mergeTxn (y x : Txn) : Txn :=
  let full := decide (x.kind = .write)
  { y with
    data := mergeData y.data x.data x.be
    be := y.be ||| x.be
    kind := if full && y.phase == .dmcq then .write else y.kind
    poison := if full then x.poison else y.poison || x.poison
    cipher := false }

/-- A granted transaction enters its queue: a read the read queue; a write merges or takes an entry. -/
def State.enterDmc (s : State) (c t : Nat) (x : Txn) : State :=
  if x.kind = .read then
    (s.modChan c fun ch => { ch with rq := ch.rq ++ [t], arr := ch.arr + 1 }).modTxn t fun x =>
      { x with phase := .dmcq, arr := (s.chan c).arr, since := s.wclk }
  else match s.mergeInto c x with
    | some w =>
      let s := (s.modTxn w fun y => mergeTxn y x).creditBack c x.cls
      let s := s.writeEntered t
      match s.txn? t with
      | some x => (s.dyeRecord x c false).dropTxn t
      | none => s
    | none =>
      let s := (s.modChan c fun ch => { ch with wq := ch.wq ++ [t], arr := ch.arr + 1 }).modTxn t fun x =>
        { x with phase := .dmcq, arr := (s.chan c).arr, since := s.wclk }
      (s.writeEntered t).drainStart c

/-- Does Weir grant on a channel: the channel serves, and its counts hold no parity error (R286, R292)? -/
def State.grants (s : State) (c : Nat) : Bool := s.fget DMC_STATUS.STATE c == 2 && !(s.chan c).creditStop

/-- WEIR_GRANT: at most one grant on the channel. -/
def weirGrant (ch : Chan) (s : State) : State :=
  let c := ch.val
  let s := s.urgRefresh
  if !s.grants c then s
  else match s.weirPick c with
    | none => s
    | some ((t, x), aged) =>
      let urg := s.urgencyOf x
      let waited := s.wclk - x.since
      let s := (s.charge c x aged).modTxn t fun x => { x with urg := urg, waited := waited }
      let s := (s.stampTxn t 3).modTxn t fun x => { x with devload := if x.kind = .read then x.devload else s.devLoad c x.cls waited }
      match s.txn? t with
      | some x => s.enterDmc c t x
      | none => s

/-- WEIR_GRANT (11 R280). -/
def execWeirGrant (ch : Chan) (s : State) : Host.Outcome State Fault Refusal := volatile (weirGrant ch) s

/-- WEIR_WINDOW_END (R285): TB has passed a multiple of the window since the window began; its count is latched. -/
def weirWindowEnd (cls : Fin 8) (ch : Chan) (s : State) : State :=
  let i := ch.val * 8 + cls.val
  let w := max 1 (s.fget WEIR_WINDOW.US i) * 1000
  let from_ := smGet (s.chan ch).winStart cls 0
  if s.tb / w ≤ from_ / w then s
  else (s.fset WEIR_BYTES.LAST i (smGet (s.chan ch).bytes cls 0)).modChan ch fun x =>
    { x with bytes := smSet x.bytes cls 0, winStart := smSet x.winStart cls (s.tb / w * w) }

/-- WEIR_WINDOW_END. -/
def execWeirWindowEnd (cls : Fin 8) (ch : Chan) (s : State) : Host.Outcome State Fault Refusal := volatile (weirWindowEnd cls ch) s

/-- CREDIT_PARITY_ERROR (R292): grants on the channel stop. -/
def creditParityError (ch : Chan) (s : State) : State :=
  (s.modChan ch fun x => { x with creditStop := true }).report setWEIR 2 (shortCapture ch (s.capD ch) (s.cfgMins ch).sum)

/-- CREDIT_PARITY_ERROR. -/
def execCreditParityError (ch : Chan) (s : State) : Host.Outcome State Fault Refusal := volatile (creditParityError ch) s

/-- CREDIT_RESYNC (R292): both queues are empty; the counts restart at 0. -/
def creditResync (ch : Chan) (s : State) : State :=
  let x := s.chan ch
  if x.creditStop ∧ x.rq.isEmpty ∧ x.wq.isEmpty then
    (s.modChan ch fun x => { x with creditStop := false }).each (List.range 8) fun k s => s.fset WEIR_OUT.NOW (ch.val * 8 + k) 0
  else s

/-- CREDIT_RESYNC. -/
def execCreditResync (ch : Chan) (s : State) : Host.Outcome State Fault Refusal := volatile (creditResync ch) s

end Sys2Proof.Machine
end

