-- ==== Sys2Proof/Machine/Dmc.lean ====
section
/-! DEFINITION. The DMC's schedulers (07 R163-R173): command selection, page policy, refresh and row-hammer defence, and the
return of a read (07 R180-R187, R184, R467). -/

namespace Sys2Proof.Machine

open Sys2Proof

/-! ## Queued requests and banks -/

/-- A queued request with its place. -/
structure Item where
  t : Nat
  x : Txn
  p : Place
deriving DecidableEq, Repr

/-- Queued requests of a list that belong to a subchannel. -/
def State.items (s : State) (l : List Nat) (sub : Bool) : List Item :=
  l.filterMap fun t =>
    match s.txn? t with
    | none => none
    | some x => match x.mpa.bind s.placeOf with
      | some p => if p.sub = sub.toNat then some ⟨t, x, p⟩ else none
      | none => none

/-- A bank of a channel. -/
def State.bank (s : State) (c b : Nat) : Bank := smGet (s.chan c).banks b {}

/-- Change a bank. -/
def State.modBank (s : State) (c b : Nat) (f : Bank → Bank) : State :=
  s.modChan c fun x => { x with banks := smMod x.banks b {} f }

/-- Rank of a bank number on its subchannel: sub × 16 + rank. -/
def rankKey (b : Nat) : Nat := b / 32

/-- Does the item's access hit its bank's open row? -/
def State.hits (s : State) (c : Nat) (i : Item) : Bool := (s.bank c i.p.bankNo).row == some i.p.row

/-- Is the bank in in-order mode (R170): a read waits behind an older write to its row? -/
def inOrder (reads writes : List Item) (b : Nat) : Bool :=
  reads.any fun r => r.p.bankNo == b && r.x.phase == .dmcq &&
    writes.any fun w => w.p.bankNo == b && w.p.row == r.p.row && decide (w.x.arr < r.x.arr)

/-- The oldest request of a bank. -/
def oldestOf (l : List Item) (b : Nat) : Option Item :=
  bestOf (fun a b => decide (a.x.arr < b.x.arr)) (l.filter fun i => i.p.bankNo == b)

/-- Reads in queue order: the oldest. -/
def byArr (a b : Item) : Bool := decide (a.x.arr < b.x.arr)

/-- What a request asks of its bank next (R165). -/
inductive Need where
  | column | act | pre
deriving DecidableEq, Repr

/-- The command a request needs next. -/
def State.need (s : State) (c : Nat) (i : Item) : Need :=
  match (s.bank c i.p.bankNo).row with
  | none => .act
  | some r => if r = i.p.row then .column else .pre

/-! ## Refresh (R171) -/

/-- Ranks (sub × 16 + rank) of a subchannel that owe refreshes. -/
def State.owing (s : State) (c : Nat) (sub : Bool) : List Nat :=
  ((s.chan c).owed.filter fun e => e.1 / 16 == sub.toNat && decide (0 < e.2)).map (·.1)

/-- Banks of a rank that a refresh takes: all, or the bank of every group in turn in same-bank mode. -/
def State.refBanks (s : State) (c rk : Nat) : List Nat :=
  if smGet (s.chan c).sameBank rk false then
    (List.range 8).map fun g => rk * 32 + g * 4 + smGet (s.chan c).nextSb rk 0 % 4
  else (List.range 32).map fun b => rk * 32 + b

/-- One refresh of a rank issues, or the precharge that it needs first; none: JEDEC timing holds it. -/
def State.refreshStep (s : State) (c : Nat) (sub : Bool) (blocked : List Nat) (rk : Nat) : Option State :=
  let banks := s.refBanks c rk
  if banks.any blocked.contains then none
  else match banks.find? fun b => (s.bank c b).row.isSome with
    | some b => some ((s.modBank c b fun x => { x with row := none, streak := 0 }).emit (.dramCmd (Fin.ofNat 12 c) sub b .pre))
    | none =>
      let sb := smGet (s.chan c).sameBank rk false
      let left := smGet (s.chan c).owed rk 0 - 1
      let s := s.modChan c fun x => { x with
        owed := smPut x.owed rk 0 left
        forced := if left = 0 then x.forced.filter (· != rk) else x.forced
        nextSb := if sb then smSet x.nextSb rk ((smGet x.nextSb rk 0 + 1) % 4) else x.nextSb }
      some ((s.emit (.dramCmd (Fin.ofNat 12 c) sub (banks.headD 0) (if sb then .refSb else .refAb))).count 3 6 { ch := some c })

/-! ## Row-hammer defence (R173) -/

/-- An activate of a bank: the accumulated count and the frequent-row table move. A full table gives up an entry that the spec
leaves open (assumption 4). The refresh window is 32 ms (PRESUMED 15). -/
def State.countAct (s : State) (c b row : Nat) : State :=
  let k := s.bank c b
  let rows := if s.elapsed k.rhFrom (msT 32) then [] else k.rows
  let from_ := if s.elapsed k.rhFrom (msT 32) then s.wclk else k.rhFrom
  let full := decide (32 ≤ rows.length) && !(rows.any fun e => e.1 == row)
  let rows := if full then rows.eraseIdx ((s.freeVal 5).toNat % 32) else rows
  let s := if full then s.freeTaken else s
  let n := ((rows.find? fun e => e.1 == row).map (·.2)).getD 0 + 1
  let rows := (rows.filter fun e => e.1 != row) ++ [(row, n)]
  s.modBank c b fun k => { k with raa := k.raa + 1, rows := rows, rhFrom := from_ }

/-- The refresh-management commands that an activate brings on (R173). -/
def State.rfm (s : State) (c : Nat) (sub : Bool) (b row : Nat) : State :=
  let k := s.bank c b
  let th := max 256 (s.fget DMC_RH.TH c)
  let n := ((k.rows.find? fun e => e.1 == row).map (·.2)).getD 0
  let cmd (s : State) (d : DramCmd) : State := s.emit (.dramCmd (Fin.ofNat 12 c) sub b d)
  let s := if th ≤ n then
      let s := (s.modBank c b fun k => { k with rows := k.rows.filter fun e => e.1 != row }).finc DMC_RHCNT.TARGETED c
      if s.fone DMC_RH.DRFM c then cmd s (.drfm row) else (cmd s .rfm).finc DMC_RHCNT.RFM c
    else s
  let t := (s.chan c).raaimt
  if s.fone DMC_RH.RFM c ∧ 0 < t ∧ t ≤ k.raa then
    (cmd (s.modBank c b fun k => { k with raa := k.raa - t }) .rfm).finc DMC_RHCNT.RFM c
  else s

/-! ## Column commands (R165, R168-R169) -/

/-- The oldest other queued access that would hit the row the item opens (R169). -/
def laterHit (all : List Item) (i : Item) : Option Item :=
  bestOf byArr (all.filter fun j => j.t != i.t && j.p.bankNo == i.p.bankNo && j.p.row == i.p.row && j.x.phase == .dmcq)

/-- Does the column command close its row (R168, R169)? AUTO with IDLE 0 closes at once. -/
def State.closes (s : State) (c : Nat) (all : List Item) (i : Item) : Bool :=
  (laterHit all i).isNone && (i.x.hint == 1 || (i.x.hint == 2 && s.fget DMC_PAGE.IDLE c == 0))

/-- The bank after a column command. -/
def State.columnBank (s : State) (c : Nat) (all : List Item) (i : Item) : State :=
  let close := s.closes c all i
  let hint := match laterHit all i with
    | some j => if i.x.hint = 1 then j.x.hint else i.x.hint
    | none => i.x.hint
  s.modBank c i.p.bankNo fun k =>
    if close then { k with row := none, streak := 0 } else { k with streak := k.streak + 1, hint := hint }

/-- A write's burst goes to DRAM (R22, R166, R181): the line is written, the credit and the entry freed. -/
def State.writeOut (s : State) (c : Nat) (i : Item) : State :=
  let s := match i.x.mpa with
    | some m => s.writeLine m i.x.key i.x.data i.x.slab i.x.poison
    | none => s
  let s := (s.modChan c fun x => { x with wq := x.wq.filter (· != i.t) }).creditBack c i.x.cls
  let s := if decide ((s.chan c).wq.length ≤ s.fget DMC_QCTL.WR_LOW c) then s.fset DMC_STATUS.DRAIN c 0 else s
  let s := s.stampTxn i.t 5
  match s.txn? i.t with
  | some x => (s.dyeRecord x c false).dropTxn i.t
  | none => s

/-- A read's burst is under way: it carries what the line now holds. -/
def State.readOut (s : State) (c : Nat) (i : Item) : State :=
  let l := match i.x.mpa with
    | some m => s.rawLine m
    | none => {}
  (s.modChan c fun x => { x with inflight := x.inflight ++ [(i.t, l)] }).modTxn i.t fun x => { x with phase := .issued }

/-- First command of an access (18 R434, stage 4). -/
def State.stamp4 (s : State) (t : Nat) : State :=
  s.modTxn t fun x => if x.dyed && x.stamps.getD 4 0 == 0 then { x with stamps := x.stamps.set 4 s.tb } else x

/-- Issue a request's next command. -/
def State.issue (s : State) (c : Nat) (sub : Bool) (all : List Item) (i : Item) : State :=
  let b := i.p.bankNo
  let a : Attr := { ch := some c, cls := some i.x.cls }
  let cmd (s : State) (d : DramCmd) : State := (s.emit (.dramCmd (Fin.ofNat 12 c) sub b d)).stamp4 i.t
  match s.need c i with
  | .pre => cmd (s.modBank c b fun k => { k with row := none, streak := 0 }) .pre
  | .act =>
    let s := (s.modBank c b fun k => { k with row := some i.p.row, hint := i.x.hint, streak := 0 }).countAct c b i.p.row
    (cmd (s.count 3 3 a) (.act i.p.row)).rfm c sub b i.p.row
  | .column =>
    let s := if 0 < (s.bank c b).streak then s.count 3 4 a else s
    let close := s.closes c all i
    let s := s.columnBank c all i
    if i.x.kind = .write then (cmd (s.count 3 2 a) (if close then .wrAp else .wr)).writeOut c i
    else (cmd (s.count 3 1 a) (if close then .rdAp else .rd)).readOut c i

/-! ## The choice of R165 -/

/-- What one command slot may choose from. -/
structure Slate where
  reads : List Item
  writes : List Item
  /-- every queued request, those with a burst under way among them -/
  all : List Item
deriving DecidableEq, Repr

/-- May a request be offered: it waits in its queue, no JEDEC timing holds its bank, its rank is not held for refresh, a write
has its ciphertext and no older write to its line, and in in-order mode it is its bank's oldest (R164, R165, R170; 10 R258)? -/
def State.offered (s : State) (c : Nat) (blocked : List Nat) (z : Slate) (i : Item) : Bool :=
  let b := i.p.bankNo
  i.x.phase == .dmcq && !blocked.contains b && !(s.chan c).forced.contains (rankKey b) &&
  (i.x.kind == .read || ((i.x.kind == .part || (s.slot i.x.key.toNat).mode != 1 || i.x.cipher) &&
    !(z.writes.any fun w => w.x.mpa == i.x.mpa && decide (w.x.arr < i.x.arr)))) &&
  (!inOrder z.reads z.writes b || (oldestOf z.all b).map (·.t) == some i.t)

/-- Item 3 of R165: a starved C0 read, or a read of urgency 3. -/
def State.starved (s : State) (c : Nat) (i : Item) : Bool :=
  i.x.kind == .read &&
  (i.x.urg == 3 || (i.x.cls == 0 && decide (max 1 (s.fget DMC_QCTL.STARVE c) * 100 < (s.wclk - i.x.since) * 250)))

/-- Item 4 of R165: a hit that the streak rule allows. -/
def State.hitAllowed (s : State) (c : Nat) (z : Slate) (i : Item) : Bool :=
  let k := s.bank c i.p.bankNo
  s.hits c i && !(decide (max 1 (s.fget DMC_PAGE.STREAK c) < k.streak) &&
    z.all.any fun j => j.p.bankNo == i.p.bankNo && j.p.row != i.p.row && decide (j.x.arr < i.x.arr) && j.x.phase == .dmcq)

/-- The request whose command issues in a slot: items 2 to 6 of R165. -/
def State.choose (s : State) (c : Nat) (blocked : List Nat) (z : Slate) : Option Item :=
  let rd := z.reads.filter (s.offered c blocked z)
  let wr := z.writes.filter (s.offered c blocked z)
  let drain := s.fone DMC_STATUS.DRAIN c
  let starved := bestOf byArr (rd.filter (s.starved c))
  let drainWr := if drain then (bestOf byArr (wr.filter (s.hits c))).or (bestOf byArr wr) else none
  let hit := bestOf byArr ((rd ++ wr).filter (s.hitAllowed c z))
  let behind := (z.reads.filter fun r => r.x.phase == .dmcq && inOrder z.reads z.writes r.p.bankNo).filterMap fun r =>
    (oldestOf z.all r.p.bankNo).filter (s.offered c blocked z)
  let open_ := rd.filter fun i => !s.hits c i
  let rowCmd := bestOf byArr (open_ ++ behind)
  let lone := if drain then none else
    bestOf byArr (wr.filter fun w => !(z.reads.any fun r => r.p.bankNo == w.p.bankNo))
  ((((starved.or drainWr).or hit).or rowCmd)).or lone

/-- One command slot of a subchannel (R165). A refresh at its limit comes first; an owed one issues when no read waits on its
rank (DEDUCED 16). -/
def dmcCommandIssue (ch : Chan) (sub : Bool) (blocked : List Nat) (s : State) : State :=
  let c := ch.val
  if s.fget DMC_STATUS.STATE c != 2 then s
  else
    let reads := s.items (s.chan c).rq sub
    let writes := s.items (s.chan c).wq sub
    let z : Slate := { reads := reads, writes := writes, all := reads ++ writes }
    let forced := (s.owing c sub).filter (s.chan c).forced.contains
    match forced.findSome? fun rk => s.refreshStep c sub blocked rk with
    | some s => s
    | none =>
      let free := (s.owing c sub).filter fun rk => !(reads.any fun r => rankKey r.p.bankNo == rk && r.x.phase == .dmcq)
      match free.findSome? fun rk => s.refreshStep c sub blocked rk with
      | some s => s
      | none => match s.choose c blocked z with
        | some i => s.issue c sub z.all i
        | none => s

/-- DMC_COMMAND_ISSUE (07 R165). -/
def execDmcCommandIssue (ch : Chan) (sub : Bool) (blocked : List Nat) (s : State) : Host.Outcome State Fault Refusal :=
  volatile (dmcCommandIssue ch sub blocked) s

/-- REFRESH_DUE (R171): each subchannel of the rank owes one more; the fourth is the limit; no fifth is owed. The mode takes
effect here. -/
def refreshDue (ch : Chan) (rank : Fin 16) (s : State) : State :=
  if s.fget DMC_STATUS.STATE ch != 2 then s
  else s.each [rank.val, 16 + rank.val] fun rk s =>
    let n := min 4 (smGet (s.chan ch).owed rk 0 + 1)
    s.modChan ch fun x => { x with
      owed := smPut x.owed rk 0 n
      forced := if n = 4 ∧ !x.forced.contains rk then x.forced ++ [rk] else x.forced
      sameBank := smPut x.sameBank rk false (s.fget DMC_REFCTL.MODE ch == 1) }

/-- REFRESH_DUE. -/
def execRefreshDue (ch : Chan) (rank : Fin 16) (s : State) : Host.Outcome State Fault Refusal := volatile (refreshDue ch rank) s

/-- AUTO_PAGE_IDLE (R168, R169): an AUTO row without a hit for IDLE closes, unless a hit has arrived. -/
def autoPageIdle (ch : Chan) (bank : Nat) (s : State) : State :=
  let k := s.bank ch bank
  let all := s.items ((s.chan ch).rq ++ (s.chan ch).wq) (512 ≤ bank)
  if k.hint = 2 ∧ k.row.isSome ∧ !(all.any fun i => i.p.bankNo == bank && s.hits ch i && i.x.phase == .dmcq) then
    (s.modBank ch bank fun k => { k with row := none, streak := 0 }).emit (.dramCmd ch (512 ≤ bank) bank .pre)
  else s

/-- AUTO_PAGE_IDLE. -/
def execAutoPageIdle (ch : Chan) (bank : Nat) (s : State) : Host.Outcome State Fault Refusal := volatile (autoPageIdle ch bank) s

/-! ## Errors of a burst (R180, R185, R187, R189) -/

/-- Physical rank of a logical rank: the index without the chip ID, through `DMC_RANKMAP` (R187). -/
def State.physRank (s : State) (c rank : Nat) : Nat := bits (s.fget DMC_RANKMAP.MAP c) (rank / max 1 (s.fget DMC_CFG.HEIGHT c) * 4) 4

/-- Is a physical rank mapped in service? -/
def State.rankMapped (s : State) (c phys : Nat) : Bool :=
  decide (phys < 15) && (List.range 4).any fun i => bits (s.fget DMC_RANKMAP.MAP c) (4 * i) 4 == phys

/-- Physical ranks that the slots of a channel hold (R162). -/
def State.rankExists (s : State) (c phys : Nat) : Bool :=
  let n := s.fget DMC_CFG.RANKS c
  decide (0 < n) && decide (phys < 2 * n) && (s.fget DMC_CFG.SLOTS c).testBit (phys / n)

/-- Sparing starts (R189): STATE 1, the copy pointer at 0, and Weir learns of it. -/
def State.spareStart (s : State) (c from_ : Nat) : State :=
  let s := ((s.fset DMC_SPARE.STATE c 1).fset DMC_SPARE.FROM c from_).fset DMC_SPAREPOS.POS c 0
  (s.modChan c fun x => { x with spareFrom := s.wclk }).weirRecompute

/-- Record an ECC event's location (R187). -/
def State.eccLoc (s : State) (c : Nat) (p : Place) (dev : Nat) (ue : Bool) : State :=
  let s := (((s.fbit DMC_ECCLOC0.UE c ue).fset DMC_ECCLOC0.SUB c p.sub).fset DMC_ECCLOC0.RANK c p.rank).fset DMC_ECCLOC0.BG c p.bg
  let s := ((s.fset DMC_ECCLOC0.BANK c p.bank).fset DMC_ECCLOC0.DEVICE c dev).fset DMC_ECCLOC0.ROW c p.row
  s.fset DMC_ECCLOC1.COL c p.col

/-- Channel-local location as faults capture it where there is no DPA (R191): bank number and row. -/
def Place.loc (p : Place) : Nat := p.bankNo * 131072 + p.row

/-- A corrected error (R187): counters, location, CE fault, rolling counts; eight of one row within 24 h make a repair
candidate; CE_TH of one rank start sparing (R189). -/
def State.corrected (s : State) (c : Nat) (p : Place) (dev : Nat) (addr : Nat) : State :=
  let phys := s.physRank c p.rank
  let recent (l : List Time) : List Time := (l.filter fun t => !s.elapsed t (secT 86400)) ++ [s.wclk]
  let s := ((s.finc DMC_ECC.CE c).eccLoc c p dev false).count 3 7 { ch := some c }
  let s := s.modChan c fun x => { x with
    rankCe := smMod x.rankCe phys [] recent, rowCe := smMod x.rowCe p.loc [] recent }
  let s := s.report (setDMC c) 1 { addr := addr, unit := c }
  let s := if 8 ≤ (smGet (s.chan c).rowCe p.loc []).length then
      (s.modChan c fun x => { x with rowCe := smSet x.rowCe p.loc [] }).each s.headsOn fun h s =>
        s.logEvent h 0 { kind := 1, set := setDMC c, cls := 1, addr := p.loc }
    else s
  let th := s.fget DMC_SPARE.CE_TH c
  if 0 < th ∧ th ≤ (smGet (s.chan c).rankCe phys []).length ∧ s.fget DMC_SPARE.STATE c = 0 ∧ s.fget DMC_CFG.SPARE c ≠ 15 ∧
      s.rankMapped c phys ∧ (s.chan c).test.isNone then s.spareStart c phys
  else s

/-- Does an MPA line lie in Sluice's metadata area: in a set, but in no direct region and no pool (09 R221)? -/
def State.inMeta (s : State) (mpa : Nat) : Bool :=
  (s.setOfMpa mpa).isSome && (s.regionAt (mpa * 64)).isNone &&
  !(s.slc.pools.any fun p => decide (p.first * 32768 ≤ mpa ∧ mpa < (p.first + p.count) * 32768))

/-- An uncorrectable error (R185): the line is rewritten with POISON unless a write has replaced it meanwhile; a metadata line
is repaired from its mirror (09 R249). -/
def State.uncorrected (s : State) (c : Nat) (p : Place) (mpa : Nat) (readable : Bool) (dpa : Option Nat) (same : Bool) : State :=
  let s := (s.finc DMC_ECC.UE c).eccLoc c p 15 true
  let s := if same ∧ !s.inMeta mpa then s.poisonLine mpa readable else s
  s.report (setDMC c) 2 { addr := dpa.getD (mpa * 64), unit := c, dpa := dpa }

/-! ## DRAM_READ_RETURN (01 R17 step 7; 07 R180-R185, R467; 10 R272) -/

/-- What the checks make of a returned line: its data, whether it is poison, and the state with the faults raised. -/
def State.checkLine (s : State) (c : Nat) (x : Txn) (p : Place) (mpa : Nat) (l : Line) (ecc : Ecc) : Data × Bool × State :=
  let dpa := x.ln * 64
  let z := s.seen l mpa x.key x.slab
  let s := match ecc with
    | .corrected d => s.corrected c p d.val dpa
    | _ => s
  match ecc with
  | .uncorrectable r => (0, true, s.uncorrected c p mpa r (some dpa) (s.rawLine mpa == l))
  | _ =>
    if z.poison then (z.data, true, s)
    else if x.retired then
      (0, true, (s.finc INL_REFUSED.STATE).report setINL 1 { syn := x.key.toNat, addr := dpa, dpa := some dpa })
    else if z.ktagBad then (0, true, s.report (setDMC c) 3 { addr := dpa, unit := c, dpa := some dpa })
    else if z.slabBad then (0, true, s.report (setDMC c) 4 { addr := dpa, aux := x.cls, unit := c, dpa := some dpa })
    else (z.data, false, s)

/-- The read half of a partial write has returned (R184): the merged line waits as a write. -/
def partMerge (x : Txn) (d : Data) (bad : Bool) : Txn :=
  { x with kind := .write, phase := .dmcq, cipher := false, data := mergeData d x.data x.be
           poison := x.poison || (bad && decide (x.be ≠ BitVec.allOnes 64)) }

/-- A read's data leaves the DMC (R17 steps 8-9): to Inlay under an XTS key, to its decode job, or to the answer. -/
def State.readBack (s : State) (t : Nat) (x : Txn) (d : Data) (bad : Bool) : State :=
  if !bad && (s.slot x.key.toNat).mode == 1 then s.modTxn t fun x => { x with phase := .xts, data := d }
  else match x.job with
    | some j => (s.modJob j fun k => { k with ready := true, bad := k.bad || bad }).modTxn t fun x =>
        { x with phase := .press, data := d }
    | none => s.finishRead t d bad

/-- DRAM_READ_RETURN: the oldest burst under way on the channel comes back. -/
def dramReadReturn (ch : Chan) (ecc : Ecc) (s : State) : State :=
  let c := ch.val
  match (s.chan c).inflight with
  | [] => s
  | (t, l) :: rest =>
    let s := s.modChan c fun x => { x with inflight := rest, rq := x.rq.filter (· != t) }
    match s.txn? t with
    | none => s
    | some x => match x.mpa, x.mpa.bind s.placeOf with
      | some mpa, some p =>
        let (d, bad, s) := s.checkLine c x p mpa l ecc
        if x.kind = .read then
          let s := (s.creditBack c x.cls).stampTxn t 5
          let dl := s.devLoad c x.cls x.waited
          let s := s.modTxn t fun x => { x with devload := max x.devload dl }
          s.readBack t x d bad
        else s.modTxn t fun x => partMerge x d bad
      | _, _ => s

/-- DRAM_READ_RETURN. -/
def execDramReadReturn (ch : Chan) (ecc : Ecc) (s : State) : Host.Outcome State Fault Refusal := volatile (dramReadReturn ch ecc) s

end Sys2Proof.Machine
end

