-- ==== Sys2Proof/Machine/Inlay.lean ====
section
/-! DEFINITION. Inlay (10): the XTS engines (R256-R259), key loading, freeing and query (R262-R269, R273) and the events of
R276. Retirement stands in Retire.lean. -/

namespace Sys2Proof.Machine

open Sys2Proof

/-! ## XTS engines (R257-R259) -/

/-- Field of the fence bits of a kind of engine. -/
def xtsFence (enc : Bool) : Fld := if enc then INL_XTS.ENC_FENCED else INL_XTS.DEC_FENCED

/-- An engine's check failed and the line runs again (R259): the rerun counts, and the sixteenth of an engine within one second
fences it; the last engine of a kind leaves none. -/
def State.xtsRerun (s : State) (enc : Bool) (e : Nat) (dpa key : Nat) : State :=
  let u := e + (if enc then 4 else 0)
  let times := ((smGet s.inl.reruns u []).filter fun t => !s.elapsed t (secT 1)) ++ [s.wclk]
  let s := { s with inl := { s.inl with reruns := smSet s.inl.reruns u times } }
  let s := (s.finc INL_XTS.RERUNS).count 6 3
  if times.length < 16 ∨ s.fbitAt (xtsFence enc) 0 e then s
  else
    let s := (s.fputBit (xtsFence enc) 0 e true).report setINL 5 { syn := key, addr := dpa, unit := u }
    if s.fget (xtsFence enc) = 15 then s.report setINL 6 { syn := key, addr := dpa, unit := u } else s

/-- What an engine's check makes of a line that has failed `tries` times before: none: it runs again; else the line is done,
well or poisoned (R259). -/
def State.xtsCheck (s : State) (enc : Bool) (e tries : Nat) (x : Txn) (ok : Bool) : Option Bool × State :=
  let dpa := x.ln * 64
  let k := x.key.toNat
  if ok then
    (some true, if 0 < tries then s.report setINL 3 { syn := k, addr := dpa, dpa := some dpa } else s)
  else if 2 ≤ tries then
    (some false, s.report setINL 4 { syn := k, addr := dpa, dpa := some dpa })
  else (none, s.xtsRerun enc e dpa k)

/-- XTS_DECRYPT_COMPLETE: a read's line leaves an engine in service, with PCLK running. -/
def xtsDecryptComplete (txn : Nat) (e : Fin 4) (ok : Bool) (s : State) : State :=
  match s.txn? txn with
  | none => s
  | some x =>
    if x.phase ≠ .xts ∨ !s.unitRuns 0 ∨ s.fbitAt INL_XTS.DEC_FENCED 0 e then s
    else
      match s.xtsCheck false e x.tries x ok with
      | (none, s) => s.modTxn txn fun x => { x with tries := x.tries + 1 }
      | (some good, s) =>
        let s := ((s.count 6 1).stampTxn txn 6).modTxn txn fun x => { x with tries := 0 }
        match x.job with
        | some j => (s.modJob j fun k => { k with ready := true, bad := k.bad || !good }).phase txn .press
        | none => s.finishRead txn x.data !good

/-- XTS_DECRYPT_COMPLETE (10 R257). -/
def execXtsDecryptComplete (txn : Nat) (e : Fin 4) (ok : Bool) (s : State) : Host.Outcome State Fault Refusal :=
  volatile (xtsDecryptComplete txn e ok) s

/-- The oldest entry of a channel's write queue that waits for its ciphertext (R258). -/
def State.toEncrypt (s : State) (c : Nat) : Option (Nat × Txn) :=
  (s.chan c).wq.findSome? fun t => (s.txn? t).bind fun x =>
    if x.kind = .write ∧ x.phase = .dmcq ∧ (s.slot x.key.toNat).mode = 1 ∧ !x.cipher then some (t, x) else none

/-- XTS_ENCRYPT_COMPLETE: the entry gets its ciphertext, or, after every attempt has failed, is stored with POISON. -/
def xtsEncryptComplete (ch : Chan) (e : Fin 4) (ok : Bool) (s : State) : State :=
  match s.toEncrypt ch with
  | none => s
  | some (t, x) =>
    if !s.unitRuns 0 ∨ s.fbitAt INL_XTS.ENC_FENCED 0 e then s
    else match s.xtsCheck true e x.tries x ok with
      | (none, s) => s.modTxn t fun x => { x with tries := x.tries + 1 }
      | (some good, s) =>
        (s.count 6 2).modTxn t fun x => { x with cipher := true, tries := 0, poison := x.poison || !good }

/-- XTS_ENCRYPT_COMPLETE (10 R258). -/
def execXtsEncryptComplete (ch : Chan) (e : Fin 4) (ok : Bool) (s : State) : Host.Outcome State Fault Refusal :=
  volatile (xtsEncryptComplete ch e ok) s

/-- XTS_UNFENCE: W1C bits of `INL_XTS`, by a management path; the engines named return to service. -/
def xtsUnfence (p : Path) (e : BitVec 4) (d : BitVec 4) (s : State) : State :=
  if s.mgmt p then
    (s.fset INL_XTS.ENC_FENCED 0 (BitVec.ofNat 4 (s.fget INL_XTS.ENC_FENCED) &&& ~~~e).toNat).fset INL_XTS.DEC_FENCED 0
      (BitVec.ofNat 4 (s.fget INL_XTS.DEC_FENCED) &&& ~~~d).toNat
  else s

/-- XTS_UNFENCE (10 R259). -/
def execXtsUnfence (p : Path) (e : BitVec 4) (d : BitVec 4) (s : State) : Host.Outcome State Fault Refusal :=
  volatile (access (.xtsUnfence p e d) p (xtsUnfence p e d)) s

/-! ## Events (R276) -/

/-- A write of `INL_IE`: an enable that becomes set beside its event's bit raises vector 19's cause. -/
def State.inlIe (s : State) (val : Nat) : State :=
  s.each (List.range 4) fun n s =>
    let rises := val.testBit n && !s.fone (ieFld n) && s.fone (evtFld n)
    let s := s.fbit (ieFld n) 0 (val.testBit n)
    if rises then s.signal setINL else s

/-- INL_IE_WRITE. -/
def inlIeWrite (p : Path) (val : Word) (s : State) : State := if s.mgmt p then s.inlIe val.toNat else s

/-- INL_IE_WRITE (10 R276). -/
def execInlIeWrite (p : Path) (val : Word) (s : State) : Host.Outcome State Fault Refusal := volatile (access (.inlIeWrite p val) p (inlIeWrite p val)) s

/-! ## KEY_LOAD (R264-R266) -/

/-- May a path load or query a key ID (R264)? -/
def State.keyPath (s : State) (p : Path) (k : Nat) : Bool :=
  match p with
  | .head h => s.headOn h.val && s.keyPermitted h.val k
  | .sideband => true
  | .bench => false

/-- The additional authenticated data of a wrapped key: bytes 0x00-0x07. -/
def wrapAad (w : WrappedKey) : List Byte := [w.mode, w.keyId] ++ leBytes 2 w.reserved.toNat ++ leBytes 4 w.session.toNat

/-- The unwrapped key has zero padding, and the two XTS keys differ (R266). -/
def keyBytesOk (mode : Nat) (k : List Byte) : Bool :=
  match mode with
  | 0 => (k.drop 16).all (· == 0)
  | 1 => decide (k.take 32 ≠ k.drop 32)
  | _ => k.all (· == 0)

/-- Does a session of the path live (R266)? -/
def State.sessionLive (s : State) (p : Path) (sid : Word) : Bool :=
  s.sec.sessions.any fun x => x.path == pathNo p && x.id == sid && x.live

/-- Is a KEY_LOAD refused with Invalid Input (R266)? -/
def State.keyLoadBad (s : State) (p : Path) (w : WrappedKey) : Bool :=
  decide (w.reserved ≠ 0) || decide (w.ivZero ≠ 0) || decide (w.keyId.toNat % 128 = 0) || decide (128 ≤ w.keyId.toNat) ||
  decide (2 < w.mode.toNat) || !s.sessionLive p w.session ||
  decide (w.ivCount.toNat ≤ smGet s.inl.ivs w.session.toNat 0 ∧ smHas s.inl.ivs w.session.toNat) ||
  (match Config.unwrapKey w.session w.ivZero w.ivCount (wrapAad w) w.ct w.tag with
    | none => true
    | some k => !keyBytesOk w.mode.toNat k)

/-- KEY_LOAD, its checks in the order of R266; refused while a debug session lasts (17 R419). -/
def keyLoad (p : Path) (w : WrappedKey) (s : State) : State :=
  s.mailbox p fun s =>
    let k := w.keyId.toNat
    let lc := lifecycle s.nv
    if !s.keyPath p k ∨ 4 ≤ lc ∨ (w.mode = 2 ∧ lc ≠ 2) ∨ s.sec.dbgUntil.isSome then s.reply p .unsupported
    else if s.keyLoadBad p w then s.reply p .invalidInput
    else if (s.slot k).state ≠ 0 then s.reply p .invalidSecurityState
    else
      let s := { s with inl := { s.inl with ivs := smSet s.inl.ivs w.session.toNat w.ivCount.toNat } }
      (s.modSlot k fun x => { state := 1, mode := w.mode.toNat, owner := pathNo p, load := x.load + 1 }).reply p .success

/-- KEY_LOAD (10 R264). -/
def execKeyLoad (p : Path) (w : WrappedKey) (s : State) : Host.Outcome State Fault Refusal := volatile (access (.keyLoad p w) p (keyLoad p w)) s

/-! ## KEY_FREE, KEY_QUERY and fill ranges (R264, R267, R273) -/

/-- May a path retire or free a slot: its owner, a management head or the sideband (R264)? -/
def State.keyOwner (s : State) (p : Path) (k : Nat) : Bool := (s.slot k).owner == pathNo p && (s.slot k).state != 0 || s.admin p

/-- A RETIRED slot becomes FREE; key ID 0 takes a fresh key and is ACTIVE (R262, R267). -/
def State.slotFreed (s : State) (k : Nat) : State :=
  s.modSlot k fun x => if k = 0 then { state := 1, owner := 17, load := x.load + 1 } else { load := x.load }

/-- KEY_FREE: for key ID 0 from a management path only, and not while a debug session lasts (17 R419). -/
def keyFree (p : Path) (kid : KeyId) (s : State) : State :=
  s.mailbox p fun s =>
    let k := kid.toNat
    let may := if k = 0 then s.mgmt p && s.sec.dbgUntil.isNone else s.keyOwner p k
    if !may then s.reply p .unsupported
    else if (s.slot k).state ≠ 4 then s.reply p .invalidSecurityState
    else (s.slotFreed k).reply p .success

/-- KEY_FREE (10 R264). -/
def execKeyFree (p : Path) (k : KeyId) (s : State) : Host.Outcome State Fault Refusal := volatile (access (.keyFree p k) p (keyFree p k)) s

/-- KEY_QUERY: state, mode, owner, write count, and what is left of each fill range. -/
def keyQuery (p : Path) (kid : KeyId) (s : State) : State :=
  s.mailbox p fun s =>
    let x := s.slot kid.toNat
    if !(s.mgmt p || s.keyPath p kid.toNat) then s.reply p .unsupported
    else s.reply p .success ([x.state, x.mode, x.owner, x.count] ++ x.ranges.map fun r => r.2 - r.1)

/-- KEY_QUERY (10 R264). -/
def execKeyQuery (p : Path) (k : KeyId) (s : State) : Host.Outcome State Fault Refusal := volatile (access (.keyQuery p k) p (keyQuery p k)) s

/-- A completed FILL of [a, b) under a key ID advances the pointers of every other RETIRED slot's ranges (R273): a slot whose
ranges are all covered becomes FREE. -/
def State.coverRanges (s : State) (a b key : Nat) : State :=
  s.each ((s.inl.slots.filter fun e => e.2.state == 4 && e.2.hadRanges && e.1 != key).map (·.1)) fun k s =>
    let rs := ((s.slot k).ranges.map fun r => if a ≤ r.1 ∧ r.1 < b then (min b r.2, r.2) else r).filter fun r => decide (r.1 < r.2)
    let s := s.modSlot k fun x => { x with ranges := rs }
    if rs.isEmpty then (s.slotFreed k).inlEvent 3 else s

end Sys2Proof.Machine
end

