-- ==== Sys2Proof/Machine/Press.lean ====
section
/-! DEFINITION. The Press at work (08 R202-R213): decode jobs, page decoding for promotions, page encoding for demotions, reruns
and fencing, and the flushes of the header and PME caches. -/

namespace Sys2Proof.Machine

open Sys2Proof

/-! ## Pipes in service (R210, R212) -/

/-- Decode pipes (false) or encode pipes (true) enabled and not fenced. -/
def State.pipes (s : State) (enc : Bool) : List Nat :=
  if enc then (List.range 4).filter fun p => s.fbitAt PRS_CTL.EPIPE_EN 0 p && !s.fbitAt PRS_STATUS.EFENCE 0 p
  else (List.range 6).filter fun p => s.fbitAt PRS_CTL.DPIPE_EN 0 p && !s.fbitAt PRS_STATUS.DFENCE 0 p

/-- May a pipe take a segment that some pipes have failed (R210): one that has not tried it, or, when all have, one other than
the last; the only pipe in service may always. -/
def State.mayTake (s : State) (enc : Bool) (p : Nat) (failed : List Nat) : Bool :=
  let l := s.pipes enc
  l.contains p && (!failed.contains p || (l.all failed.contains && (failed.getLast? != some p || l.length == 1)))

/-- A residue mismatch of a pipe (R212): at TH within one second the pipe is fenced. -/
def State.mismatch (s : State) (enc : Bool) (p addr loc : Nat) : State :=
  let u := p + if enc then 6 else 0
  let times := ((smGet s.press.mism u []).filter fun t => !s.elapsed t (secT 1)) ++ [s.wclk]
  let s := { s with press := { s.press with mism := smSet s.press.mism u times } }
  if times.length < max 1 (s.fget PRS_FENCE.TH) then s
  else
    let f := if enc then PRS_STATUS.EFENCE else PRS_STATUS.DFENCE
    if s.fbitAt f 0 p then s
    else
      let s := (s.fputBit f 0 p true).report setPRS 4 { addr := addr, aux := loc, unit := u }
      if (s.pipes enc).isEmpty then s.report setPRS (if enc then 5 else 6) { addr := addr, aux := loc, unit := u } else s

/-- One attempt of a pipe fails (R210): none: the segment runs again; some: every attempt has failed (R211). -/
def State.attemptFails (s : State) (enc : Bool) (p : Nat) (failed : List Nat) (addr loc : Nat) : Bool × State :=
  let s := s.mismatch enc p addr loc
  let most := if (s.pipes enc).length ≤ 1 then 2 else 3
  if most ≤ failed.length + 1 then
    (true, (s.finc PRS_RERUN.FAILED).report setPRS 3 { addr := addr, aux := loc })
  else (false, (s.finc PRS_RERUN.RERUNS).count 4 4)

/-- A rerun that succeeded (R210). -/
def State.attemptOk (s : State) (failed : List Nat) (addr loc : Nat) : State :=
  if failed.isEmpty then s else s.report setPRS 1 { addr := addr, aux := loc }

/-! ## Stored lines as plaintext (R205; 10 R256, R260) -/

/-- Tweak of a line of a run (10 R256). -/
def runTweak (page i : Nat) : Nat := page * 64 + i + 2 ^ 40

/-- A line of a run as it leaves this node's Inlay for a peer (10 R260): ciphertext under an XTS key, plain otherwise. -/
def State.toWire (s : State) (k : KeyId) (page i : Nat) (d : Data) : Data :=
  if (s.slot k.toNat).mode = 1 then Config.xts (instNo (s.keyInst k)) (runTweak page i) d else d

/-- The same line back from the peer. -/
def State.fromWire (s : State) (k : KeyId) (page i : Nat) (d : Data) : Data :=
  if (s.slot k.toNat).mode = 1 then (Config.xts (instNo (s.keyInst k)) (runTweak page i)).symm d else d

/-- A line of a run with its fitness: from this node's DRAM, or from what a peer returned. -/
def State.runLine (s : State) (loc page : Nat) (k : KeyId) (got : Option (SMap Data)) (i : Nat) : Data × Bool :=
  match got with
  | none =>
    let x := s.seen (s.rawLine (loc * 4 + i)) (loc * 4 + i) k true
    (x.data, x.bad || !s.keyUsable k)
  | some g => match smFind? g i with
    | some d => (s.fromWire k page i d, false)
    | none => (0, true)

/-- Bytes of lines 0 to n-1 of a run, lines not in `want` left 0, and whether a line wanted is unfit. -/
def State.runBytes (s : State) (loc page : Nat) (k : KeyId) (got : Option (SMap Data)) (n : Nat) (want : List Nat) :
    List Byte × Bool :=
  let ls := (List.range n).map fun i => if want.contains i then s.runLine loc page k got i else (0, false)
  (ls.flatMap fun l => bytesOfData l.1, ls.any (·.2))

/-- A stored page fails R213: counted, and the FORMAT fault. -/
def State.formatFail (s : State) (page loc : Nat) : State :=
  (s.finc PRS_FMTERR.STORED).report setPRS 7 { addr := page * 4096, aux := loc, dpa := some (page * 4096) }

/-! ## Decode jobs (R203, R205, R210-R213) -/

/-- The reads of a job take their lines of the segment's 256 bytes, or poison. -/
def State.jobDone (s : State) (n : Nat) (j : DecJob) (plain : Option (List Byte)) : State :=
  let s := { s with press := { s.press with jobs := smDel s.press.jobs n } }
  s.each j.txns fun t s =>
    match s.txn? t with
    | none => s
    | some x =>
      let s := (s.finc PRS_LINES.LINES).stampTxn t 6
      match plain with
      | some b => s.finishRead t (dataOfBytes (sliceBytes b (64 * (x.ln % 4)) 64)) false
      | none => s.finishRead t 0 true

/-- A raw page's line passes the pipe unchanged. -/
def State.jobRaw (s : State) (n : Nat) (j : DecJob) (got : Option (SMap Data)) : State :=
  let s := { s with press := { s.press with jobs := smDel s.press.jobs n } }
  s.each j.txns fun t s =>
    match s.txn? t with
    | none => s
    | some x =>
      let l := s.runLine j.loc j.page j.key got (x.ln % 64)
      ((s.finc PRS_LINES.LINES).stampTxn t 6).finishRead t l.1 (j.bad || l.2)

/-- The header of a job's page: cached, or checked and installed (R205 step 2, R207, R213). -/
def State.jobHeader (s : State) (j : DecJob) (got : Option (SMap Data)) : Option (List Byte) × State :=
  match s.hcacheGet j.loc j.node.toNat with
  | some h => (some h, s.hcachePut j.loc j.node.toNat h)
  | none =>
    let l := s.runLine j.loc j.page j.key got 0
    let h := (bytesOfData l.1).take 32
    if l.2 then (none, s)
    else if headerOk h j.slabs then (some h, s.hcachePut j.loc j.node.toNat h)
    else (none, s.formatFail j.page j.loc)

/-- Decode the segment of a job. -/
def State.jobSegment (s : State) (j : DecJob) (got : Option (SMap Data)) : Option (List Byte) × State :=
  match s.jobHeader j got with
  | (none, s) => (none, s)
  | (some h, s) =>
    let lines := segLines h j.seg
    let s := if j.miss then s.fadd PRS_FETCHED.FETCHED 0 (lines.filter (· != 0)).length else s
    let (b, bad) := s.runBytes j.loc j.page j.key got (4 * j.slabs) lines
    if bad then (none, s)
    else match segPlain h b j.seg with
      | some p => (some p, s)
      | none => (none, s.formatFail j.page j.loc)

/-- PRESS_DECODE_COMPLETE: a job whose lines are in PCLK leaves pipe p; `ok` is its residue and array check. -/
def pressDecodeComplete (job : Nat) (p : Fin 6) (ok : Bool) (s : State) : State :=
  match smFind? s.press.jobs job with
  | none => s
  | some j =>
    if !j.ready ∨ !s.unitRuns 0 ∨ !s.mayTake false p j.failed then s
    else
      let addr := j.page * 4096 + j.seg * 256
      let got := if j.node.toNat = 0 ∧ j.got.isEmpty then none else some j.got
      if j.bad then s.jobDone job j none
      else if !ok then
        match s.attemptFails false p j.failed addr j.loc with
        | (true, s) => s.jobDone job j none
        | (false, s) => s.modJob job fun j => { j with failed := j.failed ++ [p.val] }
      else
        let s := (s.attemptOk j.failed addr j.loc).count 4 1
        if j.raw then s.jobRaw job j got
        else
          let (plain, s) := s.jobSegment j got
          s.jobDone job j plain

/-- PRESS_DECODE_COMPLETE (08 R205). -/
def execPressDecodeComplete (job : Nat) (p : Fin 6) (ok : Bool) (s : State) : Host.Outcome State Fault Refusal :=
  volatile (pressDecodeComplete job p ok) s

/-! ## Whole pages (R208, R211, R213; 01 R24) -/

/-- A line of a page buffer: data, and whether it is poisoned. -/
abbrev PageLine := Data × Bool

/-- The 64 lines of a compressed page from its run: a failed header poisons every line, a failed segment its four; `lost` are
segments whose every decode attempt failed (R211). -/
def State.decodeStored (s : State) (p : Pme) (pn : Nat) (k : KeyId) (got : Option (SMap Data)) (lost : List (Fin 16)) :
    List PageLine × State :=
  let bad : List PageLine := List.replicate 4 (0, true)
  let s := s.each lost fun _ s => (s.finc PRS_RERUN.FAILED).report setPRS 3 { addr := pn * 4096, aux := p.loc }
  let h0 := s.runLine p.loc pn k got 0
  let h := match s.hcacheGet p.loc (if p.tier = 2 then p.node.toNat else 0) with
    | some h => some h
    | none => if !h0.2 && headerOk ((bytesOfData h0.1).take 32) p.slabs then some ((bytesOfData h0.1).take 32) else none
  match h with
  | none => ((List.range 16).flatMap fun _ => bad, if h0.2 then s else s.formatFail pn p.loc)
  | some h =>
    (List.range 16).foldl (fun (acc : List PageLine × State) i =>
      if lost.any (·.val == i) then (acc.1 ++ bad, acc.2)
      else
        let (b, unfit) := acc.2.runBytes p.loc pn k got (4 * p.slabs) (segLines h i)
        if unfit then (acc.1 ++ bad, acc.2)
        else match segPlain h b i with
          | some w => (acc.1 ++ (List.range 4).map fun q => (dataOfBytes (sliceBytes w (64 * q) 64), false), acc.2.count 4 1)
          | none => (acc.1 ++ bad, acc.2.formatFail pn p.loc)) ([], s)

/-- The 64 lines that a promotion, zero fill or repair starts from (01 R24; 09 R233, R234). -/
def State.pageLines (s : State) (p : Pme) (pn : Nat) (k : KeyId) (got : SMap Data) (lost : List (Fin 16)) : List PageLine × State :=
  if p.poison then (List.replicate 64 (0, true), s)
  else match p.tier with
    | 3 => (List.replicate 64 (0, false), s)
    | 0 => ((List.range 64).map fun i =>
        let x := s.seen (s.rawLine (p.loc * 4 + i)) (p.loc * 4 + i) k false
        (x.data, x.bad || !s.keyUsable k), s)
    | _ =>
      let g := if p.tier = 2 then some got else none
      if p.raw then ((List.range 64).map fun i => s.runLine p.loc pn k g i, s) else s.decodeStored p pn k g lost

/-- Lay a page buffer's writes over the lines, oldest first. -/
def overlay (l : List PageLine) (buf : List BufWrite) : List PageLine :=
  buf.foldl (fun l b => l.set b.line (if b.poison then ((l.getD b.line (0, true)).1, true) else (b.data, false))) l

/-- Encode a page of lines (R208): none when a line is poisoned. -/
def State.encodeLines (s : State) (l : List PageLine) : Option Coded :=
  if l.any (·.2) then none else some (encodePage (l.flatMap fun x => bytesOfData x.1) (s.fget PRS_CTL.PRED_EN + 128))

/-- Counters of an encode (R208, R427). -/
def State.encoded (s : State) (c : Coded) : State :=
  let s := (s.finc PRS_PAGES.ENCODED).count 4 2 {} 16
  let s := if c.slabs = 16 then (s.finc PRS_RAWPG.RAW).count 4 5 else s
  s.each (List.range 8) fun p s =>
    let n := c.preds.countP (· == p)
    if n = 0 then s else s.fadd (if p % 2 = 1 then PRS_PRED.ODD else PRS_PRED.EVEN) (p / 2) n

/-- Is any encode pipe in service (R212)? -/
def State.canEncode (s : State) : Bool := !(s.pipes true).isEmpty

/-- PRESS_ENCODE_COMPLETE: the encode of a page under demotion, every snoop answered (09 R238 step 2), leaves pipe p. A line
that fails its KTAG, or is poisoned, gives a failure (10 R261). -/
def pressEncodeComplete (page : BitVec 33) (p : Fin 4) (ok : Bool) (s : State) : State :=
  let pn := page.toNat + 2 ^ 32
  let s := s.lateSnoops pn
  match smFind? s.slc.moves pn with
  | none => s
  | some m =>
    if m.kind ≠ .demote ∨ m.result.isSome ∨ !m.taken ∨ !s.unitRuns 0 ∨ !s.mayTake true p m.failed then s
    else if !ok then
      match s.attemptFails true p m.failed (pn * 4096) (s.pme pn).loc with
      | (true, s) => s.modMove pn fun m => { m with result := some 0 }
      | (false, s) => s.modMove pn fun m => { m with failed := m.failed ++ [p.val] }
    else
      let s := s.attemptOk m.failed (pn * 4096) (s.pme pn).loc
      let (l, s) := s.pageLines (s.pme pn) pn m.key [] []
      match s.encodeLines (overlay l m.buffer) with
      | none => s.modMove pn fun m => { m with result := some 0 }
      | some c => (s.encoded c).modMove pn fun m => { m with result := some c.slabs, encLen := m.buffer.length }

/-- PRESS_ENCODE_COMPLETE (08 R208). -/
def execPressEncodeComplete (page : BitVec 33) (p : Fin 4) (ok : Bool) (s : State) : Host.Outcome State Fault Refusal :=
  volatile (pressEncodeComplete page p ok) s

/-! ## Flushes and unfencing (R207, R212; 05 R126) -/

/-- PRS_UNFENCE: a management path's write of `PRS_FENCE` returns pipes to service. -/
def prsUnfence (p : Path) (e : BitVec 4) (d : BitVec 6) (s : State) : State :=
  if s.mgmt p then
    (s.fset PRS_STATUS.EFENCE 0 (BitVec.ofNat 4 (s.fget PRS_STATUS.EFENCE) &&& ~~~e).toNat).fset PRS_STATUS.DFENCE 0
      (BitVec.ofNat 6 (s.fget PRS_STATUS.DFENCE) &&& ~~~d).toNat
  else s

/-- PRS_UNFENCE (08 R212). -/
def execPrsUnfence (p : Path) (e : BitVec 4) (d : BitVec 6) (s : State) : Host.Outcome State Fault Refusal :=
  volatile (access (.prsUnfence p e d) p (prsUnfence p e d)) s

/-- PRS_HCACHE_FLUSH: every cached header goes; the Bench only (20 R458). -/
def prsHcacheFlush (p : Path) (s : State) : State :=
  if p = .bench then { s with press := { s.press with hcache := [] } } else s

/-- PRS_HCACHE_FLUSH (08 R207). -/
def execPrsHcacheFlush (p : Path) (s : State) : Host.Outcome State Fault Refusal := volatile (access (.prsHcacheFlush p) p (prsHcacheFlush p)) s

/-- DEC_PMEC_FLUSH: every unpinned way is invalidated, its COUNT written back; the Bench only. -/
def decPmecFlush (p : Path) (s : State) : State :=
  if p = .bench then s.each ((s.dec.pmec.filter fun e => !e.2.pinned).map (·.1)) fun pn s => s.pmeDrop pn else s

/-- DEC_PMEC_FLUSH (05 R126). -/
def execDecPmecFlush (p : Path) (s : State) : Host.Outcome State Fault Refusal := volatile (access (.decPmecFlush p) p (decPmecFlush p)) s

end Sys2Proof.Machine
end

