-- ==== Sys2Proof/Machine/Sluice.lean ====
section
/-! DEFINITION. Sluice's moves (01 R24-R25; 09 R229-R245, R248, R250): promotion and zero fill, demotion, T2 moves, the exhaustion
order, epochs and visits. -/

namespace Sys2Proof.Machine

open Sys2Proof

/-! ## Freed pages and waiting requests (R244) -/

/-- Requests that waited on a page's move go on. -/
def State.rerunPage (s : State) (pn : Nat) : State :=
  let waits := (s.coh.txns.filter fun e => e.2.phase == .promoting && e.2.ln / 64 == pn).map (·.1)
  s.each waits fun t s => s.toMemory t

/-- Give a T0 page to the write at the head of the stall queue. -/
def State.giveStalled (s : State) (page : Nat) : Option State :=
  match s.slc.stallQ with
  | [] => none
  | (t, _) :: rest =>
    (s.txn? t).map fun x =>
      (({ s with slc := { s.slc with stallQ := rest } }).modMove (x.ln / 64) fun m => { m with dest := some page }).phase t .promoting

/-- A T0 page becomes free (R244): to the head of the stall queue, else to the reserve, else to F0. -/
def State.t0Freed (s : State) (page : Nat) : State := (s.giveStalled page).getD (s.freePage page)

/-- Storage that a page's PME names is returned: a T0 page, a local run, or the peer's run by FREE (13 R339). -/
def State.freeStorage (s : State) (pn : Nat) (p : Pme) : State :=
  match p.tier with
  | 0 => s.t0Freed (p.loc / 16)
  | 1 => s.freeRun p.loc
  | 2 =>
    if p.poison then s
    else
      let s := s.hcacheDrop p.loc p.node.toNat
      (s.sendReq p.node.toNat 0x13 { ln := p.loc * 4, page := pn } fun tag =>
        spanMsg s 0 0 tag (p.loc * 4) (if p.raw then 16 else p.slabs)).2
  | _ => s

/-- A page no longer has storage: its frame record's key goes with it. -/
def State.unback (s : State) (pn : Nat) (f : Pme → Pme) : State :=
  let s := s.pmeUpdate pn f
  { s with slc := { s.slc with pageKey := smDel s.slc.pageKey pn } }

/-! ## Promotion, zero fill and repair (01 R24; 09 R233-R235) -/

/-- Merge a writer's data into its line of the new page (01 R24 step 4; 07 R184). -/
def State.mergeWriter (s : State) (base : Nat) (x : Txn) : State :=
  let m := base + x.ln % 64
  if x.kind = .write then s.writeLine m x.key x.data false x.poison
  else
    let z := s.seen (s.rawLine m) m x.key false
    let full := decide (x.be = BitVec.allOnes 64)
    s.writeLine m x.key (mergeData z.data x.data x.be) false ((z.bad && !full) || x.poison)

/-- Lines that count as written anew (10 R268): a promotion's 64, a zero fill's 63, none of a repair's poison writes. -/
def moveCount (p : Pme) : Nat := if p.poison then 0 else if p.tier = 3 then 63 else 64

/-- PROMOTION_COMPLETE: the page is drawn, every snoop answered, and a peer's lines are in. The new page is written, the
page buffer and the writers merged in arrival order, the PME switched, the old storage returned and the writes completed. -/
def promotionComplete (page : BitVec 33) (lost : List (Fin 16)) (s : State) : State :=
  let pn := page.toNat + 2 ^ 32
  let s := s.lateSnoops pn
  match smFind? s.slc.moves pn with
  | none => s
  | some m =>
    let p := s.pme pn
    let isPromo := decide (m.kind = .promoteOnWrite) || decide (m.kind = .readPromote)
    let clock := p.poison || p.tier == 3 || s.unitRuns 0
    match m.dest with
    | none => s
    | some d =>
      if !isPromo ∨ !m.taken ∨ !m.want.isEmpty ∨ !clock then s
      else
        let (l, s) := s.pageLines p pn m.key m.got lost
        let s := s.each (l.zipIdx) fun e s => s.writeLine (d * 64 + e.2) m.key e.1.1 false e.1.2
        let s := s.countWrites m.key.toNat (moveCount p)
        let s := s.flushBuffer (d * 64) m.buffer
        let ws := m.writers.filterMap fun t => (s.txn? t).map fun x => (t, x)
        let s := s.each ws fun w s => s.mergeWriter (d * 64) w.2
        let key := match ws.getLast? with
          | some w => w.2.key
          | none => match (m.buffer.filter fun b => !b.poison).getLast? with
            | some b => b.key
            | none => m.key
        let s := (s.pmeUpdate pn fun q => { q with tier := 0, raw := false, poison := false, slabs := 0, node := 0, loc := d * 16 })
        let s := ((s.pageKeyTo pn key).endMove pn).finc SLC_PROMOTED.PAGES
        let s := if p.tier = 1 ∨ p.tier = 2 then s.freeStorage pn p else s
        let s := s.each ws fun w s => s.finishWrite w.1 false
        s.rerunPage pn

/-- PROMOTION_COMPLETE (01 R24 step 5). -/
def execPromotionComplete (page : BitVec 33) (lost : List (Fin 16)) (s : State) : Host.Outcome State Fault Refusal :=
  volatile (promotionComplete page lost) s

/-! ## The background moves' limits (R235-R236; 10 R263) -/

/-- May Sluice start work: in P0, no power-state entry under way (14 R355) and the device not fatal (16 R385)? -/
def State.enginesRun (s : State) : Bool :=
  s.fget PWR_STATE.CUR == 0 && s.fget PWR_STATE.PHASE != 1 && !s.boot.fatal

/-- May a move start: does the migration limit leave room for a page in the present 100 µs (R236)? -/
def State.moveRoom (s : State) : Bool :=
  let used := if s.elapsed s.slc.moved.2 (usT 100) then 0 else s.slc.moved.1
  s.enginesRun && (s.fget SLC_MIGRATE.MBS == 0 || decide (used + 4096 ≤ s.fget SLC_MIGRATE.MBS * 100))

/-- Charge a page to the migration limit. -/
def State.moveCharge (s : State) : State :=
  let m := if s.elapsed s.slc.moved.2 (usT 100) then (4096, s.wclk) else (s.slc.moved.1 + 4096, s.slc.moved.2)
  { s with slc := { s.slc with moved := m } }

/-- May Sluice start a move of a page: not in one, its key slot ACTIVE, its PME sound and its way pinnable? -/
def State.movable (s : State) (pn : Nat) : Bool :=
  !smHas s.slc.moves pn && (s.slot (smGet s.slc.pageKey pn 0).toNat).state == 1 && !(s.pme pn).poison &&
  (s.pmeCached pn && s.pmeMayPin pn || !s.pmeCached pn)

/-- Start a background move of a page: pinned, taken, and charged. -/
def State.startMove (s : State) (pn : Nat) (m : Move) : State :=
  let s := (s.unitStart 0).unitStart 2
  let s := (s.pmeInstall pn).pmePin pn true
  let s := { s with slc := { s.slc with moves := smSet s.slc.moves pn { m with key := smGet s.slc.pageKey pn 0 } } }
  let shared := (s.lineRegion (pn * 64)).shared
  (if shared then s.takePage pn none else s).moveCharge

/-- READ_PROMOTION_START: the page at the head of the promotion queue, while F0 is at or above t0_high. -/
def readPromotionStart (s : State) : State :=
  match s.slc.promoQ with
  | [] => s
  | pn :: rest =>
    let p := s.pme pn
    if p.tier ≠ 1 ∧ p.tier ≠ 2 ∨ smHas s.slc.moves pn then { s with slc := { s.slc with promoQ := rest } }
    else if s.f0 < s.t0Mark SLC_T0MARK.HIGH ∨ !s.moveRoom ∨ !s.movable pn ∨ !s.fone SLC_CTL.PROMOTE_EN then s
    else match s.drawT0 with
      | none => s
      | some (d, s) =>
        let s := { s with slc := { s.slc with promoQ := rest } }
        let lines := if p.tier = 2 then List.range (if p.raw then 64 else 4 * p.slabs) else []
        let s := (s.startMove pn { kind := .readPromote, dest := some d, want := lines }).count 5 2
        if p.tier = 2 then s.askSlabs p.node.toNat p.loc pn lines else s

/-- READ_PROMOTION_START (09 R235). -/
def execReadPromotionStart (s : State) : Host.Outcome State Fault Refusal := volatile readPromotionStart s

/-! ## Choosing pages (R237) -/

/-- The 1 GiB record with pages in a tier and the smallest SUM per such page; ties to the lower block. -/
def State.coldBlock (s : State) (tier : Nat) : Option Nat :=
  let n (r : Rec1G) : Nat := if tier = 0 then r.t0 else r.t1
  (bestOf (fun a b => decide (a.2.sum.toNat * n b.2 < b.2.sum.toNat * n a.2))
    (s.slc.rec1.filter fun e => decide (0 < n e.2)).reverse).map (·.1)

/-- Pages of a 1 GiB block in a tier that may move, not queued for promotion, with their effective COUNTs. -/
def State.blockPages (s : State) (blk tier : Nat) : List (Nat × Nat) :=
  (s.slc.dpm.filter fun e => blk1 e.1 == blk && decide (2 ^ 32 ≤ e.1) && (s.pme e.1).tier == tier && s.movable e.1 &&
    !s.slc.promoQ.contains e.1).map fun e => (e.1, (s.pme e.1).count)

/-- The page R237 chooses: the next cold one from the rotating cursor, else one of lowest COUNT. -/
def State.choosePage (s : State) (tier : Nat) : Option Nat :=
  (s.coldBlock tier).bind fun blk =>
    let l := s.blockPages blk tier
    let cold := l.filter fun e => decide (e.2 ≤ s.fget SLC_CTL.COLD_TH)
    let after := cold.filter fun e => decide (s.slc.cursor < e.1)
    ((after ++ cold).head?.or (bestOf (fun a b => decide (a.2 < b.2)) l.reverse)).map (·.1)

/-! ## Demotion (R237-R239) -/

/-- DEMOTION_START: F0 has fallen below t0_low, or demotion is under way and F0 has not reached t0_high. -/
def demotionStart (s : State) : State :=
  let below := decide (s.f0 < s.t0Mark SLC_T0MARK.LOW)
  let on := below || (s.slc.demoting && decide (s.f0 < s.t0Mark SLC_T0MARK.HIGH))
  let s := { s with slc := { s.slc with demoting := on } }
  if !on ∨ !s.fone SLC_CTL.DEMOTE_EN ∨ !s.canEncode ∨ !s.moveRoom then s
  else match s.choosePage 0 with
    | none => s
    | some pn =>
      let s := s.startMove pn { kind := .demote }
      { s with slc := { s.slc with cursor := pn } }

/-- DEMOTION_START (09 R237). -/
def execDemotionStart (s : State) : Host.Outcome State Fault Refusal := volatile demotionStart s

/-- A demotion is abandoned (R238; 10 R261): the page stays in T0 with COUNT 32. -/
def State.abandonDemotion (s : State) (pn : Nat) (m : Move) : State :=
  ((s.dropDemotion pn m).setCount pn 32).rerunPage pn

/-- DEMOTION_COMPLETE: the encoded page goes into a run, the PME is switched and the T0 page freed; a RAW outcome is kept only
with FS at or above slab_high; a failure, no run, or a writeback since the encode leaves the page in T0. -/
def demotionComplete (page : BitVec 33) (s : State) : State :=
  let pn := page.toNat + 2 ^ 32
  match smFind? s.slc.moves pn with
  | none => s
  | some m =>
    match m.kind, m.result with
    | .demote, some r =>
      if r = 0 ∨ m.buffer.length ≠ m.encLen ∨ (r = 16 ∧ s.fs < s.slabMark SLC_SLABMARK.HIGH) then s.abandonDemotion pn m
      else
        let p := s.pme pn
        let (l, s) := s.pageLines p pn m.key [] []
        let l := overlay l m.buffer
        match s.encodeLines l, s.drawRun r with
        | some c, some (loc, s) =>
          let b := storedPage (l.flatMap fun x => bytesOfData x.1) c
          let s := s.each (List.range (4 * r)) fun i s =>
            s.writeLine (loc * 4 + i) m.key (dataOfBytes (sliceBytes b (64 * i) 64)) true false
          let s := s.countWrites m.key.toNat (4 * r)
          let s := s.pmeUpdate pn fun q =>
            { q with tier := 1, raw := decide (r = 16), slabs := (if r = 16 then 0 else r), node := 0, loc := loc }
          let s := (((s.endMove pn).finc SLC_DEMOTED.PAGES).count 5 3).t0Freed (p.loc / 16)
          s.rerunPage pn
        | some _, none => (s.finc SLC_MOVES.NOROOM).abandonDemotion pn m
        | none, _ => s.abandonDemotion pn m
    | _, _ => s

/-- DEMOTION_COMPLETE (09 R238). -/
def execDemotionComplete (page : BitVec 33) (s : State) : Host.Outcome State Fault Refusal := volatile (demotionComplete page) s

/-! ## T2 moves and spills (R240, R243; 13 R339) -/

/-- The donor that a run is asked of: the lowest node that has granted capacity and is reachable. -/
def State.donorNode (s : State) : Option Nat :=
  (s.slc.grants.find? fun e => decide (0 < e.2) && !s.spn.unreach.contains e.1).map (·.1)

/-- Ask the donor for a run of k slabs (13 R339). -/
def State.askRun (s : State) (node pn k : Nat) : State :=
  (s.sendReq node 0x12 { ln := k, page := pn } fun tag => spanMsg s 0 0 tag 0 k).2

/-- The donor whose capacity this node asks for: the lowest reachable node whose announcement shows free capacity (13 R339). -/
def State.grantDonor (s : State) : Option Nat :=
  (List.range 64).find? fun n => s.spn.db.any fun e =>
    e.2.body.node.toNat == n && e.2.body.claimed && e.2.body.donor && decide (0 < e.2.body.freeGib) && smHas s.spn.routes n

/-- GiB that bring FS to slab_high. -/
def State.grantNeed (s : State) : Nat := ((s.slabMark SLC_SLABMARK.HIGH - s.fs) + 4194303) / 4194304

/-- Ask a donor for capacity, one request at a time (13 R339). -/
def State.askGrant (s : State) : State :=
  if s.grantNeed = 0 ∨ s.spn.tags.any (fun e => e.2.op == 0x14 && !e.2.failed) then s
  else match s.grantDonor with
    | none => s
    | some node => (s.sendReq node 0x14 {} fun tag => spanMsg s 0 0 tag 0 s.grantNeed).2

/-- T2_MOVE_START: FS has fallen below slab_low, or the movement is under way and FS has not reached slab_high. -/
def t2MoveStart (s : State) : State :=
  let below := decide (s.fs < s.slabMark SLC_SLABMARK.LOW)
  let on := below || (s.slc.toT2 && decide (s.fs < s.slabMark SLC_SLABMARK.HIGH))
  let s := { s with slc := { s.slc with toT2 := on } }
  if !on ∨ !s.fone SLC_TIERCFG.T2_EN ∨ !s.fone SLC_CTL.DEMOTE_EN ∨ !s.moveRoom then s
  else match s.donorNode, s.choosePage 1 with
    | some node, some pn =>
      let p := s.pme pn
      let s := (s.startMove pn { kind := .toT2 }).askRun node pn (if p.raw then 16 else p.slabs)
      { s with slc := { s.slc with cursor := pn } }
    | none, _ => s.askGrant
    | _, none => s

/-- T2_MOVE_START (09 R240). -/
def execT2MoveStart (s : State) : Host.Outcome State Fault Refusal := volatile t2MoveStart s

/-- The lines of a page as a write leaves it, for a spill (R243 step 2): the old lines, the page buffer and the writers; none when
they cannot be encoded as one page under one key. -/
def State.spillPage (s : State) (pn : Nat) (m : Move) : Option Coded × List Byte × KeyId :=
  let ws := m.writers.filterMap s.txn?
  let key := ((ws.getLast?).map (·.key)).getD m.key
  let l := overlay (s.pageLines (s.pme pn) pn m.key m.got []).1 m.buffer
  let l := ws.foldl (fun l x => l.set (x.ln % 64)
    (let o := l.getD (x.ln % 64) (0, true)
     (mergeData o.1 x.data x.be, (o.2 && decide (x.be ≠ BitVec.allOnes 64)) || x.poison))) l
  let one := (ws.all fun x => x.key == key) && (m.buffer.all fun b => b.key == key) && (m.key == key)
  match if one then s.encodeLines l else none with
  | some c => (some c, storedPage (l.flatMap fun x => bytesOfData x.1) c, key)
  | none => (none, [], key)

/-- Send the lines of a run to the peer that granted it (13 R339). -/
def State.sendRun (s : State) (pn node loc : Nat) (key : KeyId) (lines : List Data) : State :=
  let s := s.modMove pn fun m => { m with peer := some (BitVec.ofNat 6 node, loc), want := List.range lines.length }
  s.each lines.zipIdx fun e s =>
    (s.sendReq node 0x11 { ln := loc * 4 + e.2, page := pn } fun tag =>
      spanMsg s 0 0 tag (loc * 4 + e.2) 0 .I (s.toWire key pn e.2 e.1)).2

/-- The peer has granted a run for a move or a spill: its lines go out. -/
def State.runGranted (s : State) (pn node loc : Nat) : State :=
  match smFind? s.slc.moves pn with
  | none => s
  | some m =>
    let p := s.pme pn
    if m.kind = .toT2 then
      s.sendRun pn node loc m.key ((List.range (if p.raw then 64 else 4 * p.slabs)).map fun i => (s.runLine p.loc pn m.key none i).1)
    else match s.spillPage pn m with
      | (some c, b, key) =>
        (s.encoded c).sendRun pn node loc key ((List.range (4 * c.slabs)).map fun i => dataOfBytes (sliceBytes b (64 * i) 64))
      | _ => s

/-- The region number of a page. -/
def State.regionNo (s : State) (pn : Nat) : Nat := ((s.regionAt (pn * 4096)).map (·.1)).getD 0

/-- Step 4 of R243: the writes complete with poison, the page is lost, its region in capacity fault. -/
def State.capacityFault (s : State) (pn : Nat) (m : Move) : State :=
  let p := s.pme pn
  let r := s.regionNo pn
  let s := s.unback pn fun q => { q with tier := 3, poison := true, raw := false, slabs := 0, node := 0, loc := 0 }
  let s := if p.tier = 1 ∨ p.tier = 2 then s.freeStorage pn p else s
  let s := s.endMove pn
  let s := s.each m.writers fun t s => s.finishWrite t true
  let s := { s with slc := { s.slc with capFault := if s.slc.capFault.contains r then s.slc.capFault else s.slc.capFault ++ [r] } }
  ((s.fset SLC_CAPFLT.LAST 0 r).report setSLC 6 { addr := r, dpa := some (pn * 4096) }).rerunPage pn

/-- Steps 3 and 4 of R243. -/
def State.reserveOrFault (s : State) (pn : Nat) (m : Move) : State :=
  match s.drawRsv with
  | some (d, s) =>
    let s := (s.modMove pn fun m => { m with dest := some d, spill := false }).each m.writers fun t s => s.phase t .promoting
    (s.count 5 7).report setSLC 5 { addr := pn * 4096, dpa := some (pn * 4096) }
  | none => s.capacityFault pn m

/-- A donor has no run for the page: a T2 move ends, a spill goes on to the reserve. -/
def State.runRefused (s : State) (pn : Nat) : State :=
  match smFind? s.slc.moves pn with
  | none => s
  | some m => if m.kind = .toT2 then (s.endMove pn).rerunPage pn else s.reserveOrFault pn m

/-- STALL_EXPIRY of the write at the head of the stall queue: a page free now is its; else it spills, takes the reserve, or ends
in capacity fault. -/
def stallExpiry (s : State) : State :=
  match s.slc.stallQ with
  | [] => s
  | (t, at_) :: rest =>
    if at_ ≠ 0 ∧ !s.elapsed (at_ - 1) (usT (s.fget SLC_PROMO.STALL_US)) then s
    else
      let s := { s with slc := { s.slc with stallQ := rest } }
      match s.txn? t with
      | none => s
      | some x =>
        let pn := x.ln / 64
        match s.drawT0, smFind? s.slc.moves pn with
        | some (d, s), _ => (s.modMove pn fun m => { m with dest := some d }).phase t .promoting
        | none, none => s
        | none, some m =>
          match s.donorNode, (s.spillPage pn m).1 with
          | some node, some c =>
            if s.fone SLC_TIERCFG.T2_EN ∧ m.want.isEmpty ∧ s.canEncode then
              let s := (s.modMove pn fun m => { m with spill := true }).phase t .promoting
              ((s.finc SLC_STALL.SPILLS).count 5 6).askRun node pn c.slabs
            else s.reserveOrFault pn m
          | _, _ => s.reserveOrFault pn m

/-- STALL_EXPIRY (09 R243). -/
def execStallExpiry (s : State) : Host.Outcome State Fault Refusal := volatile stallExpiry s

/-- T2_MOVE_COMPLETE: every line of the run is with the peer; the PME names it and the local run is freed. A page buffer that
has taken a writeback meanwhile turns the move into a promotion, and the peer's run goes back. -/
def t2MoveComplete (page : BitVec 33) (s : State) : State :=
  let pn := page.toNat + 2 ^ 32
  let s := s.lateSnoops pn
  match smFind? s.slc.moves pn with
  | none => s
  | some m =>
    match m.peer with
    | none => s
    | some (node, loc) =>
      if !m.want.isEmpty ∨ !m.taken then s
      else
        let p := s.pme pn
        let coded := if m.kind = .toT2 then (p.raw, p.slabs) else match (s.spillPage pn m).1 with
          | some c => (decide (c.slabs = 16), if c.slabs = 16 then 0 else c.slabs)
          | none => (true, 0)
        let named (q : Pme) : Pme := { q with tier := 2, poison := false, raw := coded.1, slabs := coded.2, node := node, loc := loc }
        if m.kind = .toT2 ∧ !m.buffer.isEmpty then
          let s := s.freeStorage pn (named p)
          let s := s.modMove pn fun m => { m with kind := .promoteOnWrite, peer := none }
          match s.drawT0 with
          | some (d, s) => s.modMove pn fun m => { m with dest := some d }
          | none => s.reserveOrFault pn m
        else
          let s := s.pmeUpdate pn named
          let s := if p.tier = 1 then s.freeStorage pn p else s
          let s := (s.endMove pn).count 5 4
          let s := if m.kind = .toT2 then s else s.each m.writers fun t s => s.finishWrite t false
          s.rerunPage pn

/-- T2_MOVE_COMPLETE (09 R240). -/
def execT2MoveComplete (page : BitVec 33) (s : State) : Host.Outcome State Fault Refusal := volatile (t2MoveComplete page) s

/-- T2_DONOR_LOST_SCAN: a node whose donated storage the Span has reported lost; every PME that names it is poisoned, and its
grant is gone. -/
def t2DonorLostScan (node : NodeId) (s : State) : State :=
  if !s.slc.lost.contains node.toNat then s
  else
    let s := { s with slc := { s.slc with lost := s.slc.lost.filter (· != node.toNat), grants := smDel s.slc.grants node.toNat } }
    s.each ((s.slc.dpm.filter fun e => e.2.tier == 2 && e.2.node == node).map (·.1)) fun pn s =>
      s.pmeUpdate pn fun q => { q with poison := true }

/-- T2_DONOR_LOST_SCAN (09 R250). -/
def execT2DonorLostScan (node : NodeId) (s : State) : Host.Outcome State Fault Refusal := volatile (t2DonorLostScan node) s

/-! ## Epochs and visits (R229-R230, R248) -/

/-- One epoch end: E goes up, and the counters held on die halve. Stored COUNTs halve lazily by STAMP. -/
def State.epochStep (s : State) : State :=
  let s := s.fset SLC_EPOCHNUM.E 0 (s.epoch + 1)
  let s := { s with
    dec := { s.dec with pmec := smMap s.dec.pmec fun _ l => { l with pme := { l.pme with count := l.pme.count / 2 } } }
    slc := { s.slc with
      rec2 := smMap s.slc.rec2 fun _ r => { r with sum := r.sum / 2 }
      rec1 := smMap s.slc.rec1 fun _ r => { r with sum := r.sum / 2 } } }
  (s.count 5 8).unitStart 2

/-- EPOCH_END: the epoch has lasted `SLC_EPOCH.US` by TB; with CCLK stopped it waits for the wake (14 R348). -/
def epochEnd (s : State) : State :=
  if s.tb < s.slc.epochStart + max 1 (s.fget SLC_EPOCH.US) * 1000 then s
  else
    let s := { s with slc := { s.slc with epochStart := s.slc.epochStart + max 1 (s.fget SLC_EPOCH.US) * 1000 } }
    if s.fget PWR_STATE.CUR = 0 then s.epochStep else { s with slc := { s.slc with missedEpochs := s.slc.missedEpochs + 1 } }

/-- EPOCH_END (09 R229). -/
def execEpochEnd (s : State) : Host.Outcome State Fault Refusal := volatile epochEnd s

/-- STAMP_VISIT: a record found 16 or more epochs behind takes STAMP E - 16; a STALE record's counts are recomputed; an
uncorrectable one is reset to 32 per page. -/
def stampVisit (blk : Nat) (ok : Bool) (s : State) : State :=
  let r := s.rec2 blk
  let e := BitVec.ofNat 16 s.epoch
  if !ok then
    (s.modRec2 blk fun r => { r with sum := 16384, stamp := e, stale := true }).report setSLC 4 { addr := blk * 2097152 }
  else
    let s := if 16 ≤ (e - r.stamp).toNat then s.modRec2 blk fun r => { r with stamp := e - 16 } else s
    if r.stale then
      let n (t : Nat) : Nat := (s.slc.dpm.filter fun p => blk2 p.1 == blk && p.2.tier == t).length
      s.modRec2 blk fun r => { r with t0 := n 0, t1 := n 1, stale := false }
    else s

/-- STAMP_VISIT (09 R230). -/
def execStampVisit (blk : Nat) (ok : Bool) (s : State) : Host.Outcome State Fault Refusal := volatile (stampVisit blk ok) s

end Sys2Proof.Machine
end

