-- ==== Sys2Proof/Machine/Hdm.lean ====
section
/-! DEFINITION. HDM decoders and dynamic capacity (05 R111-R115, R119-R120; 09 R241-R242; 12 R310). -/

namespace Sys2Proof.Machine

open Sys2Proof

/-- Does a BAR access of a head arrive: in service, with Memory Space Enable set (04 R89)? -/
def State.barOk (s : State) (h : Nat) : Bool := s.accepts h && memSpace (s.head h)

/-! ## Decoder commit (R111, R112, R115, R119) -/

/-- The limits of R111. -/
def hdmLimits (base size ways gran : Nat) : Bool :=
  base % 2 ^ 28 == 0 && size % 2 ^ 28 == 0 && decide (0 < size) && [1, 2, 3, 4, 6, 8, 12, 16].contains ways &&
  decide (8 ≤ gran ∧ gran ≤ 14)

/-- Do two ranges overlap? -/
def overlaps (a la b lb : Nat) : Bool := decide (a < b + lb ∧ b < a + la)

/-- Every condition of R112 for decoder n of head h; a remote-home decoder's base must have been written (R119). -/
def State.hdmFits (s : State) (h n base size ways gran : Nat) : Bool :=
  match smFind? s.dec.templates (h * 32 + n) with
  | none => false
  | some t =>
    hdmLimits base size ways gran && base == t.hpaBase && size == t.size * ways &&
    ((List.range n).all fun m => !smHas s.dec.templates (h * 32 + m) ||
      (let d := s.decoder (h * 32 + m)
       d.committed && decide (d.base + d.size ≤ base))) &&
    (t.kw == 0 || bits base 45 t.kw == 0 && base / 2 ^ 45 == (base + size - 1) / 2 ^ 45) &&
    ((List.range 32).all fun m => m == n ||
      (let d := s.decoder (h * 32 + m)
       !d.committed || !overlaps base size d.base d.size)) &&
    ((s.region t.region).home.isNone || s.dpaBase (h * 32 + n) != 0x3FFFF0000000)

/-- Change a decoder. -/
def State.putDecoder (s : State) (i : Nat) (d : Decoder) : State :=
  { s with dec := { s.dec with decoders := smSet s.dec.decoders i d } }

/-- HDM_COMMIT: the decoder takes the base, size and interleave written and commits, or is left uncommitted with Error Not
Committed. A decoder already committed, or locked by Lock On Commit, does not change. -/
def hdmCommit (h : Head) (n : Fin 32) (base size ways gran : Nat) (lock : Bool) (s : State) : State :=
  let i := h.val * 32 + n.val
  let d := s.decoder i
  if !s.barOk h ∨ d.committed ∨ d.locked then s
  else
    let ok := s.hdmFits h n base size ways gran
    s.putDecoder i { committed := ok, err := !ok, locked := ok && lock, base := base, size := size, ways := ways, gran := gran }

/-- HDM_COMMIT (05 R112). -/
def execHdmCommit (h : Head) (n : Fin 32) (base size ways gran : Nat) (lock : Bool) (s : State) : Host.Outcome State Fault Refusal :=
  volatile (access (.hdmCommit h n base size ways gran lock) (.head h) (hdmCommit h n base size ways gran lock)) s

/-- HDM_UNCOMMIT: the host uncommits a decoder that Lock On Commit does not hold; requests that matched go on (R115). -/
def hdmUncommit (h : Head) (n : Fin 32) (s : State) : State :=
  let i := h.val * 32 + n.val
  let d := s.decoder i
  if !s.barOk h ∨ !d.committed ∨ d.locked then s else s.putDecoder i { d with committed := false, err := false }

/-- HDM_UNCOMMIT (05 R115). -/
def execHdmUncommit (h : Head) (n : Fin 32) (s : State) : Host.Outcome State Fault Refusal := volatile (access (.hdmUncommit h n) (.head h) (hdmUncommit h n)) s

/-! ## Dynamic capacity (R120; 09 R241-R242; 12 R310-R311) -/

/-- 2 MiB units tagged to a drawer. -/
def State.taggedUnits (s : State) (d : Nat) : Nat :=
  ((s.dec.extents.filter fun e => e.2.drawer == some d).map (·.2.len)).sum

/-- Could the device have offered this extent to this head: whole inside a local DCD region of the head, clear of other extents,
with room in the table, in the ledger (09 R241) and in the drawer's quota (12 R310)? -/
def State.extentOffered (s : State) (h start len : Nat) (drawer : Option Nat) : Bool :=
  match s.regionAt start with
  | none => false
  | some (_, r) =>
    r.dcd && r.sharingHeads.getLsbD h && decide (0 < len ∧ start % 2097152 = 0 ∧ start + len * 2097152 ≤ r.base + r.size) &&
    decide (s.dec.extents.length < 4096) &&
    (s.dec.extents.all fun e => !overlaps start (len * 2097152) e.2.start (e.2.len * 2097152)) &&
    (s.dec.releasing.all fun e => !overlaps start (len * 2097152) e.1.start (e.1.len * 2097152)) &&
    (!r.tiered || decide (s.exposed + len * 2097152 ≤ s.backing)) &&
    (match drawer with
     | none => true
     | some d => decide (s.taggedUnits d + len ≤ s.fget DRW_QUOTA.GIB d * 512))

/-- ADD_DC_RESPONSE: the extent matches for the head. A second head of a shared region joins the extent's mask. -/
def addDcResponse (h : Head) (start : Dpa) (len : Nat) (drawer : Option DrawerId) (s : State) : State :=
  if !s.barOk h then s
  else s.mailbox (.head h) fun s =>
    let a := start.toNat
    match smFind? s.dec.extents a with
    | some e =>
      if e.len = len ∧ ((s.regionAt a).any fun r => r.2.sharingHeads.getLsbD h) then
        ({ s with dec := { s.dec with extents := smSet s.dec.extents a { e with heads := e.heads ||| (1#16 <<< h.val) } } }).reply
          (.head h) .success
      else s.reply (.head h) .invalidInput
    | none =>
      if s.extentOffered h a len (drawer.map (·.val)) then
        let e : Extent := { start := a, len := len, heads := 1#16 <<< h.val, drawer := drawer.map (·.val) }
        ({ s with dec := { s.dec with extents := smSet s.dec.extents a e } }).reply (.head h) .success
      else s.reply (.head h) .invalidInput

/-- ADD_DC_RESPONSE (05 R120). -/
def execAddDcResponse (h : Head) (start : Dpa) (len : Nat) (drawer : Option DrawerId) (s : State) :
    Host.Outcome State Fault Refusal := volatile (access (.addDcResponse h start len drawer) (.head h) (addDcResponse h start len drawer)) s

/-- Does a DPA lie in an extent? -/
def Extent.holds (e : Extent) (dpa : Nat) : Bool := decide (e.start ≤ dpa ∧ dpa < e.start + e.len * 2097152)

/-- Pages of an extent become UNBACKED and their storage is freed (09 R242). -/
def State.unbackExtent (s : State) (e : Extent) : State :=
  s.each ((s.slc.dpm.filter fun p => e.holds (p.1 * 4096) && (p.2.tier != 3 || p.2.poison)).map (·.1)) fun pn s =>
    let p := s.pme pn
    (s.unback pn fun q => { q with tier := 3, poison := false, raw := false, slabs := 0, node := 0, loc := 0 }).freeStorage pn p

/-- Step 3 of R120: extents whose last request past DEC has completed return to the ledger. -/
def State.releaseDone (s : State) : State :=
  let done (e : Extent × List Nat) : Bool :=
    e.2.all (fun t => !smHas s.coh.txns t) && (s.slc.moves.all fun m => !e.1.holds (m.1 * 4096))
  let l := s.dec.releasing.filter done
  if l.isEmpty then s
  else
    let s := { s with dec := { s.dec with releasing := s.dec.releasing.filter fun e => !done e } }
    s.each l fun e s => if 2 ^ 44 ≤ e.1.start then s.unbackExtent e.1 else s

/-- RELEASE_DC_RESPONSE: the extent stops matching for the head; with no head left it leaves the table, and its capacity returns
once the requests already past DEC have completed. -/
def releaseDcResponse (h : Head) (start : Dpa) (s : State) : State :=
  if !s.barOk h then s
  else s.mailbox (.head h) fun s =>
    let a := start.toNat
    match smFind? s.dec.extents a with
    | none => s.reply (.head h) .invalidInput
    | some e =>
      if !e.heads.getLsbD h then s.reply (.head h) .invalidInput
      else
        let left := e.heads &&& ~~~(1#16 <<< h.val)
        let s := s.reply (.head h) .success
        if left ≠ 0 then { s with dec := { s.dec with extents := smSet s.dec.extents a { e with heads := left } } }
        else
          let waits := (s.coh.txns.filter fun x => e.holds (x.2.ln * 64)).map (·.1)
          ({ s with dec := { s.dec with extents := smDel s.dec.extents a, releasing := s.dec.releasing ++ [(e, waits)] } }).releaseDone

/-- RELEASE_DC_RESPONSE (05 R120). -/
def execReleaseDcResponse (h : Head) (start : Dpa) (s : State) : Host.Outcome State Fault Refusal :=
  volatile (access (.releaseDcResponse h start) (.head h) (releaseDcResponse h start)) s

/-- SUMs of the 1 GiB blocks that an extent touches. -/
def State.extentHeat (s : State) (e : Extent) : Nat :=
  let b := blk1 (e.start / 4096)
  ((List.range ((e.start % 2 ^ 30 + e.len * 2097152 + 2 ^ 30 - 1) / 2 ^ 30)).map fun i => (s.rec1 (b + i)).sum.toNat).sum

/-- Is a drawer above its quota, so that its extents are named first (12 R311)? -/
def State.overQuota (s : State) (e : Extent) : Bool :=
  match e.drawer with
  | some d => decide (s.fget DRW_QUOTA.GIB d * 512 < s.taggedUnits d)
  | none => false

/-- Name extents in order until they cover a number of 4 KiB units. -/
def coverUnits : Nat → List (Nat × Extent) → List (Nat × Extent)
  | _, [] => []
  | need, e :: l => if need = 0 then [] else e :: coverUnits (need - e.2.len * 512) l

/-- DCD_RELEASE_REQUEST: with F0 + FS/16 below dcd_release, and a second after the last request, hosts are asked to release tiered
extents, the coldest first and none twice. -/
def dcdReleaseRequest (s : State) : State :=
  let pools := 512 * s.poolFrames 0 + 512 * s.poolFrames 3
  let mark := s.fget SLC_DCDMARK.RELEASE * pools / 1024
  let free := s.f0 + s.fs / 16
  let soon : Bool := match s.slc.lastAsk with
    | none => false
    | some t => !s.elapsed t (secT 1)
  if mark ≤ free ∨ soon then s
  else
    let cands := s.dec.extents.filter fun e => decide (2 ^ 44 ≤ e.2.start) && !e.2.asked
    let rank (e : Nat × Extent) : Nat × Nat := (if s.overQuota e.2 then 0 else 1, s.extentHeat e.2)
    let order := sortBy (fun a b => decide ((rank a).1 < (rank b).1 ∨ (rank a).1 = (rank b).1 ∧ (rank a).2 ≤ (rank b).2)) cands
    let named := coverUnits (mark - free + pools / 64) order
    if named.isEmpty then s
    else
      let s := { s with slc := { s.slc with lastAsk := some s.wclk } }
      s.each named fun e s =>
        let s := { s with dec := { s.dec with extents := smSet s.dec.extents e.1 { e.2 with asked := true } } }
        s.each ((List.range 16).filter fun h => e.2.heads.getLsbD h) fun h s =>
          s.logEvent h 0 { kind := 3, set := setSLC, addr := e.2.start }

/-- DCD_RELEASE_REQUEST (09 R242). -/
def execDcdReleaseRequest (s : State) : Host.Outcome State Fault Refusal := volatile dcdReleaseRequest s

end Sys2Proof.Machine
end

