-- ==== Sys2Proof/Machine/DrwReset.lean ====
section
/-! DEFINITION. Drawers as resets, Bus Master Enable and completions meet them (04 R105, R108; 12 R294-R295, R309, R312-R317). -/

namespace Sys2Proof.Machine

open Sys2Proof

/-! ## Drawers (12 R293-R296) -/

/-- Does a drawer exist (R293)? -/
def State.drwExists (s : State) (d : Nat) : Bool := decide (d < s.drw.maxDrawers)
/-- Is it bound? -/
def State.drwBound (s : State) (d : Nat) : Bool := s.fone DRW_BIND.EN d
/-- Its bound head. -/
def State.drwHead (s : State) (d : Nat) : Nat := s.fget DRW_BIND.HEAD d
/-- Is it privileged? -/
def State.drwPriv (s : State) (d : Nat) : Bool := s.fone DRW_BIND.PRIV d
/-- The drawers bound to a head. -/
def State.boundTo (s : State) (h : Nat) : List Nat :=
  (List.range s.drw.maxDrawers).filter fun d => s.drwBound d && s.drwHead d == h

/-- A DRW fault: drawer and ring (R319). -/
def State.drwFault (s : State) (code d r : Nat) : State := s.report setDRW code { unit := d, syn := r }

/-- Operations of a drawer. -/
def State.drwOps (s : State) (d : Nat) : List (Nat × Op) := s.drw.ops.filter fun e => e.2.drawer == d

/-! ## Interrupt entries (R309) -/

/-- Does an entry of a head wait on the function mask or Bus Master Enable (04 R94)? -/
def entryHeld (x : HeadSt) : Bool := msixFnMask x || !busMaster x

/-- Send an unmasked entry. -/
def State.entrySend (s : State) (d : Nat) (e : IrqEntry) : State :=
  let h := s.drwHead d
  if !e.vec then s.emit (.irqWrite (Fin.ofNat 16 h) e.addr e.data)
  else
    let v := e.data.toNat % 2048
    let b := s.fget DRW_VEC.BASE d
    if b ≤ v ∧ v < b + s.fget DRW_VEC.COUNT d then s.signalHead v h else s.drwFault 2 d 0

/-- Signal an interrupt entry: sent, or left pending. -/
def State.entrySignal (s : State) (d n : Nat) : State :=
  let e := smGet (s.drawer d).irqs n {}
  if !s.drwBound d then s
  else if e.mask || entryHeld (s.head (s.drwHead d)) then
    s.modDrawer d fun x => { x with irqs := smSet x.irqs n { e with pend := true } }
  else s.entrySend d e

/-- Send an entry that waits, if nothing holds it any more. -/
def State.entryRetry (s : State) (d n : Nat) : State :=
  let e := smGet (s.drawer d).irqs n {}
  if !e.pend || e.mask || !s.drwBound d || entryHeld (s.head (s.drwHead d)) then s
  else (s.modDrawer d fun x => { x with irqs := smSet x.irqs n { e with pend := false } }).entrySend d e

/-- A head's function mask or Bus Master Enable has changed: what waited on it goes (04 R94, R309). -/
def State.headUnheld (s : State) (h : Nat) : State :=
  (s.sendPending h).each (s.boundTo h) fun d s =>
    s.each ((s.drawer d).irqs.map (·.1)) fun n s => s.entryRetry d n

/-! ## Host requests of operations (04 R105, R108) -/

/-- Quarantine a tag. -/
def State.quarantine (s : State) (h tag why : Nat) : State :=
  s.modHead h fun x => { x with tags := smDel x.tags tag, quar := smSet x.quar tag (s.wclk, why) }

/-- Abandon the host requests of an operation (R105). -/
def State.abandonTags (s : State) (o : Nat) (op : Op) (why : Nat) : State :=
  (s.each op.tags fun t s => s.quarantine (s.drwHead op.drawer) t why).modOp o fun x => { x with tags := [] }

/-- Forget the host requests of a head that has lost its link: nothing can return. -/
def State.forgetTags (s : State) (h : Nat) : State :=
  let s := s.each ((s.head h).tags.map (·.2.1)) fun o s => s.modOp o fun x => { x with tags := [] }
  s.modHead h fun x => { x with tags := [], quar := [] }

/-! ## Squash and reset (R312-R316) -/

/-- An operation is squashed: its host requests are abandoned, it writes no record (R315). -/
def State.squashOp (s : State) (o : Nat) (op : Op) : State := (s.abandonTags o op (2 + op.drawer)).dropOp o

/-- What a reset clears of a drawer (R312): rings, indexes and open block, masks, vectors, user counters. -/
def State.clearDrawer (s : State) (d : Nat) : State :=
  let s := s.modDrawer d fun x => { x with
    rings := [], irqs := smMap x.irqs fun _ e => { e with mask := true, pend := false }, userCtr := [] }
  let s := (s.fset DRW_VEC.COUNT d 0).fset DRW_VEC.BASE d 0
  s.each (List.range 4) fun r s =>
    let i := 4 * d + r
    s.each [DRW_SQBASE.ADDR, DRW_CQBASE.ADDR, DRW_STAGE.ADDR, DRW_RCFG.EN, DRW_RCFG.STOP, DRW_RCFG.EIE, DRW_RCFG.EIRQ, DRW_RCFG.LOG2,
      DRW_RSTATE.RESUME] fun f s => s.fset f i (fldReset f i)

/-- A drawer's binding ends; D0 passes to the next enabled management head (R295). -/
def State.unbindDrawer (s : State) (d : Nat) : State :=
  if d ≠ 0 then s.fset DRW_BIND.EN d 0
  else
    match (s.mgmtHeads.filter fun h => h != s.drwHead 0 && (s.head h).presence == 2).head? with
    | some h => (s.fset DRW_BIND.EN 0 1).fset DRW_BIND.HEAD 0 h
    | none => s.fset DRW_BIND.EN 0 0

/-- Operations of a drawer that a step to generation g would bring to an age of 32,768 or more (R314). -/
def State.tooOld (s : State) (d g : Nat) : List (Nat × Op) :=
  (s.drwOps d).filter fun e => decide (32768 ≤ (g + 65536 - e.2.gen) % 65536)

/-- The generation advances and the reset completes (R313, R315). Operations with nothing outstanding leave the table. -/
def State.advanceGen (s : State) (d result : Nat) : State :=
  let g := (s.fget DRW_STATE.GEN d + 1) % 65536
  let s := s.fset DRW_STATE.GEN d g
  let s := s.each (s.drwOps d) fun e s => if e.2.tags.isEmpty && e.2.outst == 0 then s.dropOp e.1 else s
  let s := s.clearDrawer d
  let s := if s.fone DRW_RESET.GO d then ((s.fset DRW_RESET.GO d 0).fset DRW_RESET.DONE d 1).fset DRW_RESET.RESULT d result else s
  let s := if (s.drawer d).unbindAfter then s.unbindDrawer d else s
  s.modDrawer d fun x => { x with resetting := false, unbindAfter := false }

/-- Reset of an ordinary drawer, by generation; of a cause other than GO, operations too old are squashed first (R313, R314). -/
def State.resetGen (s : State) (d : Nat) : State :=
  let old := s.tooOld d ((s.fget DRW_STATE.GEN d + 1) % 65536)
  let s := s.each old fun e s => s.squashOp e.1 e.2
  let s := if old.isEmpty then s else s.drwFault 4 d 0
  s.advanceGen d 0

/-- Reset of a privileged drawer begins: it drains (R315). -/
def State.resetDrain (s : State) (d : Nat) : State :=
  s.modDrawer d fun x => { x with resetting := true, drainFrom := s.wclk }

/-- A drawer is reset (R312, R316); `unbind` says that the cause ends its binding. -/
def State.resetDrawer (s : State) (d : Nat) (unbind : Bool) : State :=
  let s := s.modDrawer d fun x => { x with unbindAfter := x.unbindAfter || unbind }
  if (s.drawer d).resetting then s else if s.drwPriv d then s.resetDrain d else s.resetGen d

/-- Every operation of a drawer is squashed and its reset completes (R315; 14 R355 for P4). -/
def State.squashDrawer (s : State) (d result : Nat) : State :=
  let l := s.drwOps d
  let s := s.each l fun e s => s.squashOp e.1 e.2
  let s := if l.isEmpty then s else s.drwFault 3 d 0
  s.advanceGen d result

/-- The reset of all drawers that a warm reset makes: at once. -/
def State.resetAllDrawers (s : State) : State :=
  s.each (List.range s.drw.maxDrawers) fun d s =>
    if s.drwPriv d then s.squashDrawer d (if (s.drwOps d).isEmpty then 2 else 3) else s.resetGen d

/-! ## Rings entering PAUSED (R301) -/

/-- A ring enters PAUSED with a cause; its event entry is signalled. -/
def State.pauseRing (s : State) (d r cause : Nat) : State :=
  if (s.ring d r).state ≠ 1 then s
  else
    let s := s.modRing d r fun x => { x with state := 2, cause := cause }
    if s.fone DRW_RCFG.EIE (4 * d + r) then s.entrySignal d (s.fget DRW_RCFG.EIRQ (4 * d + r)) else s

/-! ## Rings closing (R301, R311) -/

/-- Is an operation of a ring in flight? -/
def State.ringBusy (s : State) (d r : Nat) : Bool := s.drw.ops.any fun e => e.2.drawer == d && e.2.ring == r && s.opCurrent e.2

/-- A closing ring is DISABLED once its last operation has ended: with cause LIMIT when max_rings no longer covers it. -/
def State.ringEnd (s : State) (d r : Nat) : State :=
  if !(s.ring d r).closing ∨ s.ringBusy d r then s
  else s.modRing d r fun x => { x with state := 0, closing := false, cause := if s.fget DRW_LIMIT.RINGS d < r then 5 else 0 }

/-- A ring stops fetching for good. -/
def State.ringClose (s : State) (d r : Nat) : State :=
  if (s.ring d r).state = 0 then s else (s.modRing d r fun x => { x with closing := true }).ringEnd d r

/-- Rings above max_rings close (R311). -/
def State.ringsShrink (s : State) (d : Nat) : State :=
  s.each ((List.range 4).filter fun r => decide (s.fget DRW_LIMIT.RINGS d < r)) fun r s => s.ringClose d r

/-- Bus Master Enable of a head has cleared (04 R105): requests abandoned, their operations end ABORTED, rings pause. -/
def State.bmeOff (s : State) (h : Nat) : State :=
  s.each (s.boundTo h) fun d s =>
    let s := s.each (s.drwOps d) fun e s =>
      if e.2.tags.isEmpty then s
      else if s.opCurrent e.2 then (s.abandonTags e.1 e.2 1).modOp e.1 fun x => { x with status := some 9, detail := 0 }
      else (s.abandonTags e.1 e.2 1).dropOp e.1
    s.each (List.range 4) fun r s => s.pauseRing d r 3

end Sys2Proof.Machine
end

