-- ==== Sys2Proof/Machine/SpanLink.lean ====
section
/-! DEFINITION. Span links, discovery, admission and routing (13 R320-R333, R340-R341). -/

namespace Sys2Proof.Machine

open Sys2Proof

/-! ## Link states (R330) -/

/-- State of a link: 0 DOWN, 1 HELLO, 2 AUTH, 3 QUARANTINED, 4 ADMITTED, 5 ASLEEP. -/
def State.linkSt (s : State) (p : Nat) : Nat := s.fget SPN_PSTATE.LINK p

/-- An SPN fault: port and peer (R342). -/
def State.spnFault (s : State) (code p peer addr : Nat) : State :=
  s.report setSPN code { unit := p, syn := peer, addr := addr }

/-- Put a link into a state. Entering or leaving ADMITTED or ASLEEP floods an LSA and changes SPANCAP (R332, R287). -/
def State.linkTo (s : State) (p st : Nat) : State :=
  let old := s.linkSt p
  let s := s.fset SPN_PSTATE.LINK p st
  if old = st then s
  else if 4 ≤ old ∨ 4 ≤ st then s.floodSelf.weirRecompute else s

/-- Send a HELLO on a port (R328). -/
def State.sendHello (s : State) (p : Nat) : State := (s.emit (.helloFlit (Fin.ofNat 4 p))).pushFlit p 2

/-- A link goes to HELLO. -/
def State.toHello (s : State) (p : Nat) : State :=
  ((s.linkTo p 1).modLink p fun l => { l with gotHello := false, lastHello := s.wclk }).sendHello p

/-- A link is quarantined (R330). -/
def State.quarantineLink (s : State) (p cause : Nat) : State :=
  ((s.linkTo p 3).fset SPN_PSTATE.QCAUSE p cause).spnFault 4 p (s.fget SPN_PSTATE.PEER p) 0

/-- A link goes down (R325, R326, R328). -/
def State.linkDown (s : State) (p : Nat) : State :=
  let was := s.linkSt p
  let s := s.linkTo p 0
  let s := ((s.fset SPN_PSTATE.WIDTH p 0).fset SPN_PSTATE.QCAUSE p 0).modLink p fun _ => {}
  if was = 4 then s.spnFault 3 p (s.fget SPN_PSTATE.PEER p) 0 else s

/-- Lifecycle code of this node, with the debug bit (R328; 17 R405). -/
def State.lcCode (s : State) : Nat := lifecycle s.nv

/-- May a peer's lifecycle be admitted (R330)? -/
def State.lcAccepts (s : State) (b : HelloBody) : Bool :=
  !((s.lcCode == 3 || s.lcCode == 4) && (decide (b.lc.val < 3) || b.debug))

/-- A link is admitted: the claim interval of the first admission begins (R329, R287). -/
def State.admitLink (s : State) (p : Nat) : State :=
  let first := !s.spn.admittedOnce
  let s := { s with spn := { s.spn with
    admittedOnce := true
    claimFrom := if first ∧ s.fget SPN_NODE.STATE = 1 then some s.wclk else s.spn.claimFrom } }
  (s.linkTo p 4).fset SPN_PSTATE.QCAUSE p 0

/-- A new incarnation is drawn (R328, R340). -/
def State.drawIncarn (s : State) : State := (s.fset SPN_INCARN.INCARN 0 (s.freeVal 32).toNat).freeTaken

/-- Key ID 0 has left ACTIVE (R340): a new INCARN, every run held for others freed with its grants, links back to HELLO. -/
def State.key0Leaves (s : State) : State :=
  if s.fget SPN_CFG.ROLE = 0 then s.drawIncarn
  else
    let s := s.drawIncarn
    let s := { s with spn := { s.spn with runs := [], grantsOut := [] }, slc := { s.slc with donor := [] } }
    let s := s.fset SPN_GRANT.OUT 0 0
    (s.each ((List.range 4).filter fun p => s.linkSt p == 4) fun p s => s.toHello p).floodSelf

/-! ## Training and the link layer (R321, R325, R326) -/

/-- May a port train: a member, the port enabled and not held, after step 10 of 03 R76, not DECOMMISSIONED (17 R405)? -/
def State.portMay (s : State) (p : Nat) : Bool :=
  s.fget SPN_CFG.ROLE != 0 && s.fbitAt SPN_CFG.PORT_EN 0 p && !s.fone SPN_PCTL.HOLD p && decide (10 ≤ s.boot.step) && s.lcCode != 5

/-- SPAN_LINK_TRAINED: from electrical idle the link comes up at full width in HELLO, or stays ASLEEP until its HELLO; a retrain or a
narrowing ends with replay from the first unacknowledged flit. -/
def spanLinkTrained (port : Port) (rate64 : Bool) (s : State) : State :=
  let p := port.val
  let l := s.link p
  let fresh (s : State) : State :=
    ((((s.fset SPN_PSTATE.WIDTH p 8).fbit SPN_PSTATE.RATE64 p rate64).fset SPN_PLANES.FAILED p 0).fset SPN_PLANES.NARROWS p 0).modLink p
      fun _ => {}
  let replay (s : State) : State :=
    match (s.link p).replay with
    | f :: _ => s.emit (.replayFrom port f.seq)
    | [] => s
  if !s.portMay p then s
  else if l.narrowing then
    (replay (s.modLink p fun l => { l with narrowing := false })).fset SPN_PCTL.WIDEN p 0
  else if l.retraining then
    replay ((s.modLink p fun l => { l with retraining := false, replays := 0 }).spnFault 1 p (s.fget SPN_PSTATE.PEER p) 0)
  else match s.linkSt p with
    | 0 => (fresh s).toHello p
    | 3 => ((fresh s).fset SPN_PSTATE.QCAUSE p 0).toHello p
    | 5 =>
      let inc := l.peerIncarn
      ((fresh s).modLink p fun l => { l with peerIncarn := inc, lastHello := s.wclk }).sendHello p
    | _ => s

/-- SPAN_LINK_TRAINED (13 R321). -/
def execSpanLinkTrained (port : Port) (rate64 : Bool) (s : State) : Host.Outcome State Fault Refusal :=
  volatile (spanLinkTrained port rate64) s

/-- Is a link trained and carrying flits? -/
def State.linkUp (s : State) (p : Nat) : Bool := decide (1 ≤ s.linkSt p ∧ s.linkSt p ≤ 4)

/-- FLIT_CRC_FAIL: the flit is discarded, and the receiver names the first missing SEQ (R325); which it is, the peer's flits say. -/
def flitCrcFail (port : Port) (s : State) : State :=
  if !s.linkUp port.val then s
  else (s.emit (.ctrlNak port (s.freeVal 8))).freeTaken.pushFlit port.val 5

/-- FLIT_CRC_FAIL (13 R325). -/
def execFlitCrcFail (port : Port) (s : State) : Host.Outcome State Fault Refusal := volatile (flitCrcFail port) s

/-- NAK: the flits before the SEQ named are freed and the rest replayed; after 4 replays of one SEQ the link retrains (R325). -/
def nak (port : Port) (seq : Byte) (s : State) : State :=
  let p := port.val
  if !s.linkUp p then s
  else
    let l := s.link p
    let same := l.replay.head?.any fun f => f.seq == seq
    let rest := l.replay.dropWhile fun f => f.seq != seq
    let n := if same then l.replays + 1 else 1
    let s := s.modLink p fun l => { l with replay := rest, replays := n }
    let s := ((s.fadd SPN_PERR.REPLAY p rest.length).count 9 4 {} rest.length).spnFault 1 p (s.fget SPN_PSTATE.PEER p) 0
    if 4 < n then (s.modLink p fun l => { l with retraining := true }).emit (.retrain port)
    else s.emit (.replayFrom port seq)

/-- NAK (13 R325). -/
def execNak (port : Port) (seq : Byte) (s : State) : Host.Outcome State Fault Refusal := volatile (nak port seq) s

/-- RETRAIN_TIMEOUT: a link that fails to retrain within 50 ms goes down. -/
def retrainTimeout (port : Port) (s : State) : State :=
  let l := s.link port.val
  if l.retraining || l.narrowing then s.linkDown port.val else s

/-- RETRAIN_TIMEOUT (13 R325). -/
def execRetrainTimeout (port : Port) (s : State) : Host.Outcome State Fault Refusal := volatile (retrainTimeout port) s

/-- The lanes a link narrows to (R326): x4 on lanes 0-3 or 4-7, else x2 on a sound pair; none: no sound pair. -/
def soundLanes (failed width : Nat) : Option (Nat × Nat) :=
  let sound (first n : Nat) : Bool := (List.range n).all fun i => !failed.testBit (first + i)
  let quads := if width = 8 then [0, 4] else []
  match quads.find? fun f => sound f 4 with
  | some f => some (f, 4)
  | none => ([0, 2, 4, 6].find? fun f => sound f 2).map fun f => (f, 2)

/-- Narrow a link to a number of lanes (R326; 11 R289). -/
def State.narrowTo (s : State) (p n : Nat) : State :=
  let s := (s.fset SPN_PSTATE.WIDTH p n).finc SPN_PLANES.NARROWS p
  ((s.modLink p fun l => { l with narrowing := true }).spnFault 2 p (s.fget SPN_PSTATE.PEER p) 0).floodSelf.weirRecompute

/-- LANE_FAILED: this end names the lanes to keep and both ends narrow; with no sound pair the link goes down (R326). -/
def laneFailed (port : Port) (lane : Fin 8) (s : State) : State :=
  let p := port.val
  if !s.linkUp p ∨ s.fbitAt SPN_PLANES.FAILED p lane.val then s
  else
    let s := s.fputBit SPN_PLANES.FAILED p lane.val true
    match soundLanes (s.fget SPN_PLANES.FAILED p) (s.fget SPN_PSTATE.WIDTH p) with
    | none => s.linkDown p
    | some (f, n) =>
      ((s.emit (.ctrlNarrow port (BitVec.ofNat 8 ((2 ^ n - 1) <<< f)))).pushFlit p 5).narrowTo p n

/-- LANE_FAILED (13 R326). -/
def execLaneFailed (port : Port) (lane : Fin 8) (s : State) : Host.Outcome State Fault Refusal := volatile (laneFailed port lane) s

/-- NARROW: the peer names the lanes to keep. -/
def narrow (port : Port) (keep : Byte) (s : State) : State :=
  let n := popCount keep.toNat 8
  if !s.linkUp port.val ∨ !(n == 4 || n == 2) ∨ s.fget SPN_PSTATE.WIDTH port.val ≤ n then s else s.narrowTo port.val n

/-- NARROW (13 R326). -/
def execNarrow (port : Port) (keep : Byte) (s : State) : Host.Outcome State Fault Refusal := volatile (narrow port keep) s

/-! ## `SPN_PCTL` (R326, R330) -/

/-- SPN_PCTL_RETRY: a quarantined link goes back to HELLO. -/
def spnPctlRetry (p : Path) (port : Port) (s : State) : State :=
  if !s.mgmt p ∨ s.linkSt port.val ≠ 3 then s else (s.fset SPN_PSTATE.QCAUSE port.val 0).toHello port.val

/-- SPN_PCTL_RETRY (13 R330). -/
def execSpnPctlRetry (p : Path) (port : Port) (s : State) : Host.Outcome State Fault Refusal := volatile (access (.spnPctlRetry p port) p (spnPctlRetry p port)) s

/-- SPN_PCTL_WIDEN: a narrowed link retrains at full width. -/
def spnPctlWiden (p : Path) (port : Port) (s : State) : State :=
  if !s.mgmt p ∨ !s.linkUp port.val ∨ s.fget SPN_PSTATE.WIDTH port.val = 8 then s
  else
    let n := port.val
    let s := (((s.fset SPN_PCTL.WIDEN n 1).fset SPN_PSTATE.WIDTH n 8).fset SPN_PLANES.FAILED n 0).fset SPN_PLANES.NARROWS n 0
    ((s.modLink n fun l => { l with narrowing := true }).emit (.retrain port)).floodSelf.weirRecompute

/-- SPN_PCTL_WIDEN (13 R326). -/
def execSpnPctlWiden (p : Path) (port : Port) (s : State) : Host.Outcome State Fault Refusal := volatile (access (.spnPctlWiden p port) p (spnPctlWiden p port)) s

/-- SPN_PCTL_HOLD: HOLD holds the link DOWN while set. -/
def spnPctlHold (p : Path) (port : Port) (on : Bool) (s : State) : State :=
  if !s.mgmt p then s
  else
    let s := s.fbit SPN_PCTL.HOLD port.val on
    if on && s.linkSt port.val != 0 then s.linkDown port.val else s

/-- SPN_PCTL_HOLD (13, `SPN_PCTL.HOLD`). -/
def execSpnPctlHold (p : Path) (port : Port) (on : Bool) (s : State) : Host.Outcome State Fault Refusal :=
  volatile (access (.spnPctlHold p port on) p (spnPctlHold p port on)) s

/-! ## The database and routes (R332, R333) -/

/-- Is AGE_SEQ a newer than b, modulo 65,536 (R332)? -/
def newer (a b : BitVec 16) : Bool := a != b && decide ((a - b).toNat < 32768)

/-- Width code of a link to a node in an announcement; 0 none. -/
def linkWidth (b : LsaBody) (n : Nat) : Nat :=
  ((b.links.filterMap fun l => l.bind fun x => if x.1.toNat = n then some x.2.val else none).foldl max 0)

/-- Announcements of claimed nodes. -/
def State.nodesHeld (s : State) : List LsaBody := (s.spn.db.map (·.2.body)).filter (·.claimed)

/-- Width code of the link between two other nodes: what a announces, or what a sleeping b announced last. -/
def edge (l : List LsaBody) (a b : Nat) : Nat :=
  let w := ((l.find? fun x => x.node.toNat == a).map fun x => linkWidth x b).getD 0
  if w ≠ 0 then w
  else ((l.find? fun x => x.node.toNat == b && x.asleep).map fun x => linkWidth x a).getD 0

/-- Does a node announce ASLEEP? -/
def nodeAsleep (l : List LsaBody) (n : Nat) : Bool := l.any fun x => x.node.toNat == n && x.asleep

/-- Nodes reached from a front, breadth first: node, hops, and whether a path of that length avoids x2 links. -/
def spread (l : List LsaBody) : Nat → Nat → List Nat → List (Nat × Bool) → List (Nat × Nat × Bool)
  | 0, k, _, front => front.map fun f => (f.1, k, f.2)
  | fuel + 1, k, seen, front =>
    let next := (List.range 64).filterMap fun n =>
      if seen.contains n then none
      else
        let ins := front.filterMap fun f =>
          if nodeAsleep l f.1 then none
          else match edge l f.1 n with
            | 0 => none
            | w => some (f.2 && decide (1 < w))
        if ins.isEmpty then none else some (n, ins.any (·))
    (front.map fun f => (f.1, k, f.2)) ++ (if next.isEmpty then [] else spread l fuel (k + 1) (seen ++ next.map (·.1)) next)

/-- Ways to every node through a port: destination, hops, x2 on the path, next-hop node, port. -/
def State.portWays (s : State) (p : Nat) : List (Nat × Nat × Nat × Nat × Nat) :=
  if s.linkSt p < 4 then []
  else
    let n := s.fget SPN_PSTATE.PEER p
    let clean := decide (2 < s.fget SPN_PSTATE.WIDTH p)
    (spread s.nodesHeld (s.fget SPN_CFG.MAX_HOPS - 1) 1 [s.fget SPN_NODE.ID, n] [(n, clean)]).map fun x =>
      (x.1, x.2.1, if x.2.2 then 0 else 1, n, p)

/-- Is one way better than another (R333): fewer hops, no x2, lower next hop, lower port? -/
def betterWay (a b : Nat × Nat × Nat × Nat × Nat) : Bool :=
  decide (a.2.1 < b.2.1) || a.2.1 == b.2.1 &&
  (decide (a.2.2.1 < b.2.2.1) || a.2.2.1 == b.2.2.1 &&
  (decide (a.2.2.2.1 < b.2.2.2.1) || a.2.2.2.1 == b.2.2.2.1 && decide (a.2.2.2.2 < b.2.2.2.2)))

/-- The route table that the database gives (R333): the next-hop port of every destination that has one. -/
def State.routeTable (s : State) : SMap Nat :=
  if s.fget SPN_CFG.ROLE = 0 ∨ s.fget SPN_NODE.STATE = 3 ∨ s.spn.withdrawn then []
  else
    let ways := (List.range 4).flatMap s.portWays
    (List.range 64).filterMap fun n =>
      (bestOf betterWay (ways.filter fun w => w.1 == n)).map fun w => (n, w.2.2.2.2)

/-- ROUTE_COMPUTE: the table follows the database; a node that loses its route starts to count towards unreachability, one that
regains it is reachable again (R333, R340). -/
def routeCompute (s : State) : State :=
  let new := s.routeTable
  let gone := (s.spn.routes.map (·.1)).filter fun n => !smHas new n
  let lost := s.spn.lostAt.filter fun e => !smHas new e.1
  let lost := gone.foldl (fun m n => if smHas m n then m else smSet m n s.wclk) lost
  { s with spn := { s.spn with routes := new, lostAt := lost, unreach := s.spn.unreach.filter fun n => !smHas new n } }

/-- ROUTE_COMPUTE (13 R333). -/
def execRouteCompute (s : State) : Host.Outcome State Fault Refusal := volatile routeCompute s

/-- A node's donated storage is lost, and the scan of 09 R250 is due (R340). -/
def State.storageLost (s : State) (n : Nat) : State :=
  if smHas s.slc.grants n ∧ !s.slc.lost.contains n then { s with slc := { s.slc with lost := s.slc.lost ++ [n] } } else s

/-- An announcement of another node enters the database (R332); a new INCARN under a held serial loses the storage (R340). -/
def State.takeLsa (s : State) (b : LsaBody) : State :=
  let s := match smFind? s.spn.db b.serial.toNat with
    | some r => if r.body.incarn ≠ b.incarn ∨ r.body.donor ∧ !b.donor then s.storageLost b.node.toNat else s
    | none => s
  { s with spn := { s.spn with db := smSet s.spn.db b.serial.toNat { body := b, at_ := s.wclk } } }

/-! ## Node IDs (R329) -/

/-- This node yields an ID: a back-off of 0-255 µs begins, and after 8 yields it has none. -/
def State.yieldId (s : State) : State :=
  let s := s.finc SPN_NODE.YIELDS
  if 8 ≤ s.fget SPN_NODE.YIELDS then
    ({ s.fset SPN_NODE.STATE 0 3 with spn := { s.spn with claimFrom := none, backoff := none } }.spnFault 6 255 0 0).floodSelf
  else
    { s with spn := { s.spn with claimFrom := none, backoff := some (s.wclk, (s.freeVal 8).toNat) } }.freeTaken

/-- This node, TENTATIVE, meets another serial holding its ID (R329). -/
def State.meetId (s : State) (b : LsaBody) : State :=
  if s.fget SPN_NODE.STATE = 1 ∧ s.spn.backoff.isNone ∧ b.serial ≠ s.nv.serial ∧ b.node.toNat = s.fget SPN_NODE.ID ∧
      (b.claimed ∨ b.serial.toNat < s.nv.serial.toNat) then s.yieldId
  else s

/-- CLAIM_INTERVAL_END: no conflict in 2 ms, so the node is CLAIMED; with no link admitted the interval begins 500 ms after step 10
of 03 R76. -/
def claimIntervalEnd (s : State) : State :=
  if s.fget SPN_NODE.STATE ≠ 1 then s
  else match s.spn.claimFrom with
    | none => s
    | some t =>
      if !s.elapsed t (msT 2) then s
      else
        let s := { s.fset SPN_NODE.STATE 0 2 with spn := { s.spn with claimFrom := none } }
        let s := if s.fget SPN_NODE.ID ≠ s.fget SPN_CFG.NODE_ID then s.spnFault 5 255 (s.fget SPN_NODE.ID) 0 else s
        s.floodSelf

/-- CLAIM_INTERVAL_END (13 R329). -/
def execClaimIntervalEnd (s : State) : Host.Outcome State Fault Refusal := volatile claimIntervalEnd s

/-- The next ID that no other serial in the database holds, counting upward modulo 64 (R329). -/
def State.nextId (s : State) : Nat :=
  let held := s.spn.db.map fun e => e.2.body.node.toNat
  ((List.range 63).map fun i => (s.fget SPN_NODE.ID + 1 + i) % 64).find? (fun n => !held.contains n) |>.getD (s.fget SPN_NODE.ID)

/-- YIELD_BACKOFF_END: the next free ID is announced as TENTATIVE and the claim interval restarts. -/
def yieldBackoffEnd (s : State) : State :=
  match s.spn.backoff with
  | none => s
  | some (t, us) =>
    if !s.elapsed t (usT us) then s
    else
      { s.fset SPN_NODE.ID 0 s.nextId with spn := { s.spn with backoff := none, claimFrom := some s.wclk } }.floodSelf

/-- YIELD_BACKOFF_END (13 R329). -/
def execYieldBackoffEnd (s : State) : Host.Outcome State Fault Refusal := volatile yieldBackoffEnd s

/-! ## HELLO, authentication and announcements (R328-R332) -/

/-- A HELLO takes a link in HELLO on: quarantined, or to AUTH. -/
def State.helloJudge (s : State) (p : Nat) (b : HelloBody) : State :=
  if b.fabric.toNat ≠ s.fget SPN_FABRIC.ID then s.quarantineLink p 1
  else if !s.lcAccepts b then s.quarantineLink p 2
  else if b.serial = s.nv.serial then s.quarantineLink p 6
  else (s.linkTo p 2).modLink p fun l => { l with authFrom := s.wclk, spdm := [], spdmIdx := 0 }

/-- HELLO from the peer of a port (R328, R330); after a wake an unchanged INCARN re-admits the link (R341). -/
def hello (port : Port) (b : HelloBody) (s : State) : State :=
  let p := port.val
  if s.linkSt p = 0 then s
  else
    let old := (s.link p).peerIncarn
    let s := (s.fset SPN_PEERSN.SERIAL p b.serial.toNat).fset SPN_PSTATE.PEER p b.node.toNat
    let s := s.modLink p fun l => { l with gotHello := true, lastHello := s.wclk, peerIncarn := some b.incarn }
    match s.linkSt p with
    | 1 => s.helloJudge p b
    | 5 => if old = some b.incarn then s.admitLink p else (s.linkTo p 1).helloJudge p b
    | 4 => if old ≠ some b.incarn then (s.storageLost b.node.toNat).toHello p else s
    | _ => s

/-- HELLO (13 R328). -/
def execHello (port : Port) (b : HelloBody) (s : State) : Host.Outcome State Fault Refusal := volatile (hello port b) s

/-- HELLO_PERIODIC: a trained link sends its HELLO. -/
def helloPeriodic (port : Port) (s : State) : State := if s.linkUp port.val then s.sendHello port.val else s

/-- HELLO_PERIODIC (13 R328). -/
def execHelloPeriodic (port : Port) (s : State) : Host.Outcome State Fault Refusal := volatile (helloPeriodic port) s

/-- HELLO_TIMEOUT: no HELLO for 300 ms takes the link down. -/
def helloTimeout (port : Port) (s : State) : State :=
  if s.linkUp port.val && s.elapsed (s.link port.val).lastHello (msT 300) then s.linkDown port.val else s

/-- HELLO_TIMEOUT (13 R328). -/
def execHelloTimeout (port : Port) (s : State) : Host.Outcome State Fault Refusal := volatile (helloTimeout port) s

/-- Do two databases show one ID claimed by different serials (R329)? -/
def State.idConflict (s : State) (db : List LsaBody) : Bool :=
  let mine := (s.selfLsa false) :: s.spn.db.map (·.2.body)
  mine.any fun a => db.any fun b => a.claimed && b.claimed && a.node == b.node && a.serial != b.serial

/-- AUTH_COMPLETE: the SPDM authentication of a link ends; on success the databases are exchanged. -/
def authComplete (port : Port) (ok : Bool) (db : List LsaBody) (s : State) : State :=
  let p := port.val
  if s.linkSt p ≠ 2 then s
  else if !ok then s.quarantineLink p 3
  else if s.idConflict db then (s.linkTo p 4).quarantineLink p 5
  else
    let s := s.admitLink p
    let s := s.each (db.filter fun b => b.serial != s.nv.serial) fun b s =>
      match smFind? s.spn.db b.serial.toNat with
      | some r => if newer b.ageSeq r.body.ageSeq then s.takeLsa b else s
      | none => s.takeLsa b
    s.each db fun b s => s.meetId b

/-- AUTH_COMPLETE (13 R330). -/
def execAuthComplete (port : Port) (ok : Bool) (db : List LsaBody) (s : State) : Host.Outcome State Fault Refusal :=
  volatile (authComplete port ok db) s

/-- AUTH_TIMEOUT: 500 ms without a result. -/
def authTimeout (port : Port) (s : State) : State :=
  if s.linkSt port.val = 2 ∧ s.elapsed (s.link port.val).authFrom (msT 500) then s.quarantineLink port.val 4 else s

/-- AUTH_TIMEOUT (13 R330). -/
def execAuthTimeout (port : Port) (s : State) : Host.Outcome State Fault Refusal := volatile (authTimeout port) s

/-- SPDM_FLIT: one fragment; fragments out of order are dropped, and the last one ends the message (R330). -/
def spdmFlit (port : Port) (len : BitVec 16) (idx : Byte) (last : Bool) (body : List Byte) (s : State) : State :=
  let p := port.val
  if s.linkSt p < 2 ∨ 4 < s.linkSt p ∨ 224 < body.length then s
  else
    let l := s.link p
    let got := if idx = 0 then [] else l.spdm
    if idx.toNat ≠ 0 ∧ idx.toNat ≠ l.spdmIdx then s.modLink p fun l => { l with spdm := [], spdmIdx := 0 }
    else if last then s.modLink p fun l => { l with spdm := (got ++ body).take len.toNat, spdmIdx := 0 }
    else s.modLink p fun l => { l with spdm := got ++ body, spdmIdx := idx.toNat + 1 }

/-- SPDM_FLIT (13 R330). -/
def execSpdmFlit (port : Port) (len : BitVec 16) (idx : Byte) (last : Bool) (body : List Byte) (s : State) :
    Host.Outcome State Fault Refusal := volatile (spdmFlit port len idx last body) s

/-- LSA: a newer announcement is kept and forwarded on the other admitted links (R332); it may carry an ID conflict (R329). -/
def lsa (port : Port) (b : LsaBody) (s : State) : State :=
  if s.linkSt port.val ≠ 4 ∨ b.serial = s.nv.serial then s
  else
    let fresh := match smFind? s.spn.db b.serial.toNat with
      | some r => newer b.ageSeq r.body.ageSeq || r.body.incarn != b.incarn
      | none => true
    if !fresh then s
    else
      let s := s.takeLsa b
      let s := s.each ((List.range 4).filter fun q => q != port.val && s.linkSt q == 4) fun q s =>
        (s.emit (.lsaForward (Fin.ofNat 4 q) b)).pushFlit q 3
      s.meetId b

/-- LSA (13 R332). -/
def execLsa (port : Port) (b : LsaBody) (s : State) : Host.Outcome State Fault Refusal := volatile (lsa port b) s

/-- LSA_PERIODIC: this node's announcement goes out every second. -/
def lsaPeriodic (s : State) : State := if s.fget SPN_CFG.ROLE = 0 ∨ s.spn.withdrawn then s else s.floodSelf

/-- LSA_PERIODIC (13 R332). -/
def execLsaPeriodic (s : State) : Host.Outcome State Fault Refusal := volatile lsaPeriodic s

/-- LSA_AGE_OUT: an announcement not refreshed for 3 s leaves the database. -/
def lsaAgeOut (serial : Word64) (s : State) : State :=
  match smFind? s.spn.db serial.toNat with
  | none => s
  | some r =>
    if s.elapsed r.at_ (secT 3) then { s with spn := { s.spn with db := smDel s.spn.db serial.toNat } } else s

/-- LSA_AGE_OUT (13 R332). -/
def execLsaAgeOut (serial : Word64) (s : State) : Host.Outcome State Fault Refusal := volatile (lsaAgeOut serial) s

/-! ## Sleep (R341) -/

/-- The links of a node that leaves P1 for a deeper state fall asleep, after the LSA with ASLEEP. -/
def State.spanSleep (s : State) : State :=
  s.each ((List.range 4).filter fun p => s.linkSt p == 4) fun p s => s.fset SPN_PSTATE.LINK p 5

/-- A node that goes to P4 withdraws and takes its links DOWN (14 R355 step 2). -/
def State.spanWithdraw (s : State) : State :=
  let s := { s with spn := { s.spn with withdrawn := true } }.floodSelf
  s.each ((List.range 4).filter fun p => s.linkSt p != 0) fun p s =>
    ((s.fset SPN_PSTATE.LINK p 0).fset SPN_PSTATE.WIDTH p 0).modLink p fun _ => {}

end Sys2Proof.Machine
end

