-- ==== Sys2Proof/Machine/Clocks.lean ====
section
/-! DEFINITION. Clocks, crossings, supplies and junction temperature (01 R31-R33; 03 R58-R70, R80-R83; 19 R440-R441,
R453-R454). -/

namespace Sys2Proof.Machine

open Sys2Proof

/-! ## On-demand units (01 R31-R33) -/

/-- Has a unit work: 0 Press and XTS engines, 1 drawer engines, 2 Sluice movers? -/
def State.unitBusy (s : State) (u : Nat) : Bool :=
  match u with
  | 0 => !s.press.jobs.isEmpty || s.coh.txns.any fun e => e.2.phase == .xts || e.2.phase == .press
  | 1 => !s.drw.ops.isEmpty
  | _ => !s.slc.moves.isEmpty || !s.slc.promoQ.isEmpty

/-- Put a unit's clock into a state: 0 stopped, 1 starting, 2 running. -/
def State.unitTo (s : State) (u st : Nat) : State :=
  { s with boot := { s.boot with units := smSet s.boot.units u st, unitIdle := smSet s.boot.unitIdle u s.wclk } }

/-- UNIT_CLOCK_STABLE: a starting clock runs, and the work that waits for it crosses. -/
def unitClockStable (u : Fin 3) (s : State) : State := if smGet s.boot.units u.val 0 = 1 then s.unitTo u.val 2 else s

/-- UNIT_CLOCK_STABLE (01 R31). -/
def execUnitClockStable (u : Fin 3) (s : State) : Host.Outcome State Fault Refusal := volatile (unitClockStable u) s

/-- UNIT_IDLE_STOP: an unpinned unit idle for its idle time stops; a start trigger in the same cycle wins (R32). -/
def unitIdleStop (u : Fin 3) (trigger : Bool) (s : State) : State :=
  let n := u.val
  if s.fone CLK_UNIT.PIN n ∨ !s.unitRuns n ∨ s.unitBusy n ∨
      !s.elapsed (smGet s.boot.unitIdle n 0) ((s.fget CLK_UNIT.IDLE_NS n + 249) / 250) then s
  else if trigger then s.unitStart n
  else s.unitTo n 0

/-- UNIT_IDLE_STOP (01 R32). -/
def execUnitIdleStop (u : Fin 3) (trigger : Bool) (s : State) : Host.Outcome State Fault Refusal := volatile (unitIdleStop u trigger) s

/-- Unit clocks as the end of a load or a wake leaves them: pinned ones run, the others stand stopped (R33, 03 R62). -/
def State.unitsFresh (s : State) : State :=
  s.each (List.range 3) fun u s => s.unitTo u (if s.fone CLK_UNIT.PIN u then 2 else 0)

/-! ## Crossings (03 R61-R65) -/

/-- Crossing items that a PLL feeds on either side (R63). -/
def pllItems : Nat → List Nat
  | 0 => [0, 1, 2, 3, 4, 5, 6, 7, 9, 10]
  | 1 => [7, 8, 9, 10]
  | _ => [2, 3, 4, 6, 8, 10]

/-- Is a crossing ELASTIC now: not FAST by the Cut List, or overridden (R65)? -/
def State.elastic (s : State) (i : Nat) : Bool :=
  !s.boot.fast.getLsbD i || s.fone CLK_STATUS.MARGIN || s.boot.relock.any fun e => (pllItems e.1).contains i

/-- `CLK_XMODE` and `CLK_STATUS.FORCE_ELASTIC` follow. -/
def State.xmode (s : State) : State :=
  let m := ((List.range 15).map fun i => if s.elastic i then 1 <<< i else 0).sum
  (s.fset CLK_XMODE.ELASTIC 0 m).fbit CLK_STATUS.FORCE_ELASTIC 0 (s.fone CLK_STATUS.MARGIN || !s.boot.relock.isEmpty)

/-- Lock bit of a PLL: 0 core, 1 Press, 2-4 DRAM groups. -/
def State.pllLocked (s : State) (p : Nat) : Bool :=
  match p with
  | 0 => s.fone CLK_STATUS.CORE_PLL | 1 => s.fone CLK_STATUS.PCLK_PLL | _ => s.fbitAt CLK_STATUS.MCLK_PLL 0 (p - 2)

/-- Set a PLL's lock bit. -/
def State.pllSet (s : State) (p : Nat) (b : Bool) : State :=
  match p with
  | 0 => s.fbit CLK_STATUS.CORE_PLL 0 b | 1 => s.fbit CLK_STATUS.PCLK_PLL 0 b | _ => s.fputBit CLK_STATUS.MCLK_PLL 0 (p - 2) b

/-- A CLK fault: the item, rail or PLL, and the value seen (R83). -/
def State.clkFault (s : State) (code item seen : Nat) : State := s.report setCLK code { unit := item, syn := seen }

/-- Put a PLL's relock state. -/
def State.relockTo (s : State) (m : SMap (Option Time)) : State := { s with boot := { s.boot with relock := m } }.xmode

/-- PLL_LOCK_LOSS: the crossings of a PLL that loses lock are forced ELASTIC. -/
def pllLockLoss (pll : Fin 5) (s : State) : State :=
  if !s.pllLocked pll.val then s else (s.pllSet pll.val false).relockTo (smSet s.boot.relock pll.val none)

/-- PLL_LOCK_LOSS (03 R65). -/
def execPllLockLoss (pll : Fin 5) (s : State) : Host.Outcome State Fault Refusal := volatile (pllLockLoss pll) s

/-- PLL_RELOCK: the PLL regains lock and PLL_LOSS is raised; ELASTIC stays for 1 ms. -/
def pllRelock (pll : Fin 5) (s : State) : State :=
  if smFind? s.boot.relock pll.val = some none then
    ((s.pllSet pll.val true).relockTo (smSet s.boot.relock pll.val (some s.wclk))).clkFault 5 pll.val 0
  else s

/-- PLL_RELOCK (03 R65, R83). -/
def execPllRelock (pll : Fin 5) (s : State) : Host.Outcome State Fault Refusal := volatile (pllRelock pll) s

/-- ELASTIC_HOLD_END: 1 ms after relock the crossings return to the mode the Cut List gives them. -/
def elasticHoldEnd (pll : Fin 5) (s : State) : State :=
  match smFind? s.boot.relock pll.val with
  | some (some t) => if s.elapsed t (msT 1) then s.relockTo (smDel s.boot.relock pll.val) else s
  | _ => s

/-- ELASTIC_HOLD_END (03 R65). -/
def execElasticHoldEnd (pll : Fin 5) (s : State) : Host.Outcome State Fault Refusal := volatile (elasticHoldEnd pll) s

/-- CROSSING_STUCK: a crossing reports a stuck value (R70). -/
def crossingStuck (item : Fin 15) (seen : Word) (s : State) : State :=
  ((s.fputBit CLK_XSTUCK.STUCK 0 item.val true).finc CLK_XSTUCK.COUNT).clkFault 2 item.val seen.toNat

/-- CROSSING_STUCK (03 R70). -/
def execCrossingStuck (item : Fin 15) (seen : Word) (s : State) : Host.Outcome State Fault Refusal :=
  volatile (crossingStuck item seen) s

/-- EVENT_CROSSING_OVERRUN: an event crossing drops events (R67). -/
def eventCrossingOverrun (item : Fin 15) (s : State) : State :=
  (s.fputBit CLK_XOVRN.OVRN 0 item.val true).clkFault 1 item.val 0

/-- EVENT_CROSSING_OVERRUN (03 R67). -/
def execEventCrossingOverrun (item : Fin 15) (s : State) : Host.Outcome State Fault Refusal := volatile (eventCrossingOverrun item) s

/-! ## AVSBus and margin tests (03 R80-R82) -/

/-- Acknowledged voltage of an AVSBus rail. -/
def railMv (r : Nat) : Fld := if r = 0 then CLK_AVS.CORE_MV else CLK_AVS.SRAM_MV

/-- The AVSBus master sets a rail, acknowledged. -/
def State.avsSet (s : State) (rail mv : Nat) : State := (s.emit (.avsCmd rail mv)).fset (railMv rail) 0 mv

/-- AVS_TIMEOUT: a VRM has not acknowledged three retries: the last acknowledged voltage stands, and the PLLs are held (R81). -/
def avsTimeout (rail : Fin 2) (s : State) : State :=
  ((s.fset CLK_AVS.ERR 0 1).fset CLK_AVS.BUSY 0 0).clkFault 3 rail.val (s.fget (railMv rail.val))

/-- AVS_TIMEOUT (03 R81). -/
def execAvsTimeout (rail : Fin 2) (s : State) : Host.Outcome State Fault Refusal := volatile (avsTimeout rail) s

/-- A margin test starts: CCLK goes down first, then the voltage, which waits where the fuses hold a higher minimum for the new
frequency (R80, R82). -/
def State.marginStart (s : State) : State :=
  let code := lifecycle s.nv
  if s.fone CLK_STATUS.MARGIN ∨ (code ≠ 1 ∧ code ≠ 2) then s
  else
    let mhz := 2000 - 25 * s.fget CLK_MARGIN.FSTEP
    let mv := s.fget CLK_MARGIN.MV
    let s := { s with boot := { s.boot with cclkMhz := mhz, savedMv := s.fget CLK_AVS.CORE_MV } }
    let s := ((s.fset CLK_MARGIN.GO 0 1).fset CLK_MARGIN.DONE 0 0).fset CLK_STATUS.MARGIN 0 1
    let s := if mv = 0 then s
      else if mv < Config.minMv 0 mhz then s.fset CLK_AVS.HELD 0 1
      else s.avsSet 0 mv
    s.xmode

/-- MARGIN_GO: only the Bench starts a margin test, in MANUFACTURE and DEVELOP. -/
def marginGo (p : Path) (s : State) : State := if p = .bench then s.marginStart else s

/-- MARGIN_GO (03 R82). -/
def execMarginGo (p : Path) (s : State) : Host.Outcome State Fault Refusal := volatile (access (.marginGo p) p (marginGo p)) s

/-- A margin test ends: voltage before frequency, then the crossing modes (R80, R82). -/
def State.marginStop (s : State) : State :=
  if !s.fone CLK_STATUS.MARGIN then s
  else
    let s := if s.fget CLK_AVS.CORE_MV = s.boot.savedMv then s else s.avsSet 0 s.boot.savedMv
    let s := { s with boot := { s.boot with cclkMhz := 2000 } }
    (((s.fset CLK_AVS.HELD 0 0).fset CLK_MARGIN.GO 0 0).fset CLK_STATUS.MARGIN 0 0).xmode

/-- MARGIN_END: the test ends and nominal is restored. -/
def marginEnd (s : State) : State := if s.fone CLK_STATUS.MARGIN then s.marginStop.fset CLK_MARGIN.DONE 0 1 else s

/-- MARGIN_END (03 R82). -/
def execMarginEnd (s : State) : Host.Outcome State Fault Refusal := volatile marginEnd s

/-! ## Rails (19 R440-R441) -/

/-- Good threshold of a rail in mV. -/
def railGood : Nat → Nat
  | 0 => 620 | 1 => 670 | 2 => 900 | 3 => 1020 | _ => 810

/-- Nominal voltage of a rail: the boot value, or the middle of the range of a fixed rail. -/
def railNominal : Nat → Nat
  | 0 => 750 | 1 => 850 | 2 => 1000 | 3 => 1100 | _ => 900

/-- Is a rail within its window: above the good threshold until the Cut List is loaded, then within its OPPOINT record or
nominal ±5%? -/
def State.railInWindow (s : State) (rail mv : Nat) : Bool :=
  if s.boot.step < 9 then decide (railGood rail ≤ mv)
  else match smFind? s.cut.oppoint rail with
    | some (_, lo, hi) => decide (lo ≤ mv ∧ mv ≤ hi)
    | none => decide (95 * railNominal rail ≤ 100 * mv ∧ 100 * mv ≤ 105 * railNominal rail)

/-- RAIL_OUT_OF_WINDOW: a rail outside its window for 10 µs, from step 5 of 03 R76. -/
def railOutOfWindow (rail : Fin 5) (mv : Nat) (s : State) : State :=
  if s.boot.railsLost ∨ s.boot.step < 5 ∨ s.railInWindow rail.val mv then s else s.clkFault 4 rail.val mv

/-- RAIL_OUT_OF_WINDOW (19 R441). -/
def execRailOutOfWindow (rail : Fin 5) (mv : Nat) (s : State) : Host.Outcome State Fault Refusal :=
  volatile (railOutOfWindow rail mv) s

/-! ## Junction temperature (19 R453-R454) -/

/-- Is a sensor active: in P3 (Basin) and P4 (Dry) only the Wellhead's? -/
def State.sensorOn (s : State) (n : Nat) : Bool := n == 8 || (decide (s.fget PWR_STATE.CUR < 3) && decide (7 ≤ s.boot.step))

/-- A sensor's reading is the hottest. -/
def State.tjRead (s : State) (sensor degC : Nat) : State :=
  let d := min 255 degC
  ((s.fset GLB_TJ.NOW 0 d).fset GLB_TJ.SENSOR 0 sensor).fpeak GLB_TJ.PEAK 0 d

/-- TJ_WARN: a sensor reads 100 °C or more. -/
def tjWarn (sensor : Fin 9) (degC : Nat) (s : State) : State :=
  if degC < 100 ∨ !s.sensorOn sensor.val then s
  else ((s.tjRead sensor.val degC).fset GLB_TJ.WARN 0 1).report setGLB 1 { unit := sensor.val, syn := degC }

/-- TJ_WARN (19 R453). -/
def execTjWarn (sensor : Fin 9) (degC : Nat) (s : State) : Host.Outcome State Fault Refusal := volatile (tjWarn sensor degC) s

/-- TJ_WARN_CLEAR: every sensor reads below 95 °C; the hottest of them is left open. The quiet time of TJ_WARN starts (16 R387). -/
def tjWarnClear (s : State) : State :=
  let s := (s.fset GLB_TJ.NOW 0 ((s.freeVal 8).toNat % 95)).freeTaken.fset GLB_TJ.WARN 0 0
  { s with flt := { s.flt with quiet := smSet s.flt.quiet (setGLB * 16) s.wclk } }

/-- TJ_WARN_CLEAR (19 R453). -/
def execTjWarnClear (s : State) : Host.Outcome State Fault Refusal := volatile tjWarnClear s

/-- THERMTRIP: a sensor reads 120 °C or more: the pin is driven where BALLS sets it, and the device becomes fatal. -/
def thermtrip (sensor : Fin 9) (degC : Nat) (s : State) : State :=
  if degC < 120 ∨ !s.sensorOn sensor.val then s
  else
    let s := (s.tjRead sensor.val degC).fset GLB_TJ.WARN 0 1
    ({ s with thermtrip := s.thermtrip || smGet s.cut.balls 2 1 == 1 }).report setGLB 2 { unit := sensor.val, syn := degC }

/-- THERMTRIP (19 R454). -/
def execThermtrip (sensor : Fin 9) (degC : Nat) (s : State) : Host.Outcome State Fault Refusal := volatile (thermtrip sensor degC) s

end Sys2Proof.Machine
end

