-- ==== Sys2Proof/Machine/HeadLoss.lean ====
section
/-! DEFINITION. The loss of a head (04 R102-R103; 06 R155-R157): outstanding snoops, squashed requests, the directory scan. -/

namespace Sys2Proof.Machine

open Sys2Proof

/-! ## Presence (04 R98) -/

/-- A presence code changes: its bit of `MS_PRESCHG` sets in every copy, and vector 33 rises on heads that enable it. -/
def State.setPresence (s : State) (h code : Nat) : State :=
  if (s.head h).presence = code then s
  else
    let s := s.modHead h fun x => { x with presence := code }
    s.each (List.range 17) fun m s =>
      let was := s.fbitAt MS_PRESCHG.CHG m h
      let s := s.fputBit MS_PRESCHG.CHG m h true
      if !was && decide (m < 16) && s.fone MS_CTL.PRES_IE m then s.signalHead 33 m else s

/-! ## Outstanding snoops (06 R155) -/

/-- Every snoop outstanding to a pointer is answered as a loss. -/
def State.snoopsLost (s : State) (p : Target) : State :=
  s.each ((s.coh.sent.filter fun e => e.1 == p).map (·.2.1)) fun ln s => s.snoopLost p ln

/-! ## Squashed requests (04 R103 step 2) -/

/-- Take a transaction out of every queue it waits in. -/
def State.unqueue (s : State) (t : Nat) (x : Txn) : State :=
  let set := dirSet x.ln
  let q := (smGet s.coh.retry set []).filter (· != t)
  let s := { s with coh := { s.coh with
    locks := smAdj s.coh.locks x.ln fun k => { k with queue := k.queue.filter (· != t) }
    retry := if q.isEmpty then smDel s.coh.retry set else smSet s.coh.retry set q } }
  { s with slc := { s.slc with stallQ := s.slc.stallQ.filter (·.1 != t) } }.modMove (x.ln / 64) fun m =>
    { m with writers := m.writers.filter (· != t) }

/-- A move that only squashed writes asked for, with no page drawn, ends. -/
def State.idleMove (s : State) (pn : Nat) : State :=
  match smFind? s.slc.moves pn with
  | some m =>
    if m.kind = .promoteOnWrite ∧ m.writers.isEmpty ∧ m.buffer.isEmpty ∧ m.dest.isNone then s.endMove pn else s
  | none => s

/-- A transaction goes on for no one: it completes without an answer and releases its lock. -/
def State.orphan (s : State) (t : Nat) (x : Txn) : State :=
  ((s.dyeRecord x 255 true).modTxn t fun x => { x with src := .bench, dyed := false }).unlockBy t x.ln

/-- A transaction is squashed: a read gives no answer; a write whose data has entered a write queue stands (01 R23), any other is
discarded; its lock is released. -/
def State.squashTxn (s : State) (t : Nat) (x : Txn) : State :=
  match x.phase with
  | .dmcq | .issued | .xts | .press => s.orphan t x
  | .snoop | .wayWait | .queued =>
    (s.dyeRecord x 255 true).modTxn t fun x => { x with src := .bench, kind := .read, mv := .I, dyed := false }
  | .credit =>
    if x.job.isSome then s.orphan t x else ((s.dyeRecord x 255 true).unqueue t x).dropTxn t
  | _ => (((s.dyeRecord x 255 true).unqueue t x).dropTxn t).idleMove (x.ln / 64)

/-- Requests of a head here, or of a head of another node, that have not completed are squashed. -/
def State.squashFrom (s : State) (p : Target) : State :=
  let mine := s.coh.txns.filter fun e => s.reqPtr e.2 == some p && e.2.mc == 3
  s.each mine fun e s =>
    match s.txn? e.1 with
    | some x => s.squashTxn e.1 x
    | none => s

/-! ## The scan (06 R156) -/

/-- Is a pointer's head in the sharing set of a line? -/
def State.inSharing (s : State) (p : Target) (ln : Nat) : Bool :=
  let r := s.lineRegion ln
  if s.isLocal p then r.sharingHeads.getLsbD (p % 16) else r.sharingNodes.getLsbD (p / 16)

/-- One entry under the scan for a pointer: the state, and whether its line was poisoned. -/
def State.scanEntry (s : State) (p : Target) (key : Nat) (e : DirEntry) : State × Bool :=
  let ln := dirLine key e
  if e.ovf then
    if e.m && s.inSharing p ln && !s.lineBusy ln then
      let s := s.evict key e none
      ({ s with coh := { s.coh with evicts := smAdj s.coh.evicts ln fun v => { v with poisonIfNoWb := true } } }, false)
    else if e.m && s.inSharing p ln then (s.unkLoss ln, false)
    else (s, false)
  else if !e.ptrs.contains (BitVec.ofNat 10 p) then (s, false)
  else if e.m then ((s.poisonDpa ln).dirDel key, true)
  else (s.dropPtr ln p, false)

/-- The scan of every set for a pointer: the state, with the number of lines poisoned at once. -/
def State.headScan (s : State) (p : Target) : State × Nat :=
  s.coh.dir.foldl (fun a e =>
    let r := a.1.scanEntry p e.1 e.2
    (r.1, a.2 + r.2.toNat)) (s, 0)

/-- A pointer's timeouts stand no longer (R144). -/
def State.timeoutsGone (s : State) (p : Target) : State :=
  { s with coh := { s.coh with timeouts := s.coh.timeouts.filter fun e => e.1 != p } }

/-- R155 and R156 for a pointer: lost snoops, squashed requests, the scan. -/
def State.pointerLost (s : State) (p : Target) : State × Nat :=
  (((s.timeoutsGone p).snoopsLost p).squashFrom p).headScan p

/-- R157 at the home: a head of another node has gone. Its requests complete for no one; class REMOTE_LOSS, at L1 when a line
was poisoned. -/
def State.remoteLoss (s : State) (p : Target) : State :=
  let r := s.pointerLost p
  let t := if r.1.fone COH_SCAN.ACTIVE then r.1
    else ((r.1.fset COH_SCAN.NODE 0 (p / 16)).fset COH_SCAN.HEAD 0 (p % 16)).fset COH_SCAN.POISONED 0 r.2
  t.cohFault 8 0 p (if r.2 = 0 then 0 else 1)

/-! ## A head's link is lost (04 R101-R103) -/

/-- Nodes that home a region a head reaches. -/
def State.homesOf (s : State) (h : Nat) : List Nat :=
  let l := (s.dec.templates.filter fun e => e.1 / 32 == h).filterMap fun e => (s.region e.2.region).home.map (·.toNat)
  l.dedup

/-- Tell the homes that a head has gone (06 R157; 13 R324 HEAD_GONE). -/
def State.tellHomes (s : State) (h : Nat) : State :=
  s.each (s.homesOf h) fun k s => s.sendSpan k 0x37 (spanMsg s h 0 0 0 0)

/-- Snoops of a home that a lost head has not answered need it no longer (13 R338). -/
def State.peerSnoopsLost (s : State) (h : Nat) : State :=
  s.each ((s.spn.snoops.filter fun e => e.2.heads.contains h).map (·.2.ln)) fun ln s => s.peerSnoopHead h ln .I

/-- The link registers of a head go to their reset values. -/
def State.linkFields (s : State) (h : Nat) : State :=
  s.each [HP_LINK.UP, HP_LINK.FLIT256, HP_LINK.RATE, HP_LINK.WIDTH, HP_LINK.RETIMERS, HP_LINK.LTSSM] fun f s => s.fset f h 0

/-- SPDM sessions of a path end (17 R411). -/
def State.endSessions (s : State) (path : Nat) : State :=
  { s with sec := { s.sec with sessions := s.sec.sessions.filter fun x => x.path != path, spdm := smDel s.sec.spdm path } }

end Sys2Proof.Machine
end

