-- ==== Sys2Proof/Machine/Resets.lean ====
section
/-! DEFINITION. Resets (03 R71-R75; 20 R466), and what they share with power entry: the registers each kind keeps, keys wiped,
the core lost, a head's function cleared, the directory emptied. -/

namespace Sys2Proof.Machine

open Sys2Proof

/-! ## Registers a reset keeps (20 R466) -/

/-- Identities of the register fields that meet a test. -/
def fldIds (p : Reg → Fld → Bool) : List Nat := allRegs.flatMap fun r => (r.flds.filter (p r)).map (·.id)

/-- Is a register one of the PWR, IFC or WIT windows, and no select? -/
def wellReg (r : Reg) : Bool := (r.win == 12 || r.win == 13 || r.win == 14) && r.scope != .path

/-- Votes, and the power state itself. -/
def voteIds : List Nat := [PWR_CMD.VOTE.id, PWR_SBVOTE.VOTE.id, PWR_STATE.CUR.id, PWR_STATE.TARGET.id, PWR_STATE.PHASE.id]

/-- Fields that report the Wellhead's hardware outside its windows: the indicators and the junction sensors. -/
def wellIds : List Nat := [MS_IND.PWR_LED.id, MS_IND.ATTN_LED.id, GLB_TJ.NOW.id, GLB_TJ.WARN.id, GLB_TJ.SENSOR.id]

/-- Counters of PMU unit 10, which only Wellhead power-on reset clears (18 R425). -/
def unit10Key (id i : Nat) : Bool :=
  id == PMU_CTR.COUNT.id && i / 8 == 10 || (id == PMU_CYC.VALUE.id || id == PMU_TBSNAP.VALUE.id) && i == 10

/-- Fields a cold reset keeps. -/
def coldIds : List Nat :=
  (fldIds fun r f => wellReg r && f.ty != .rwl && !voteIds.contains f.id) ++ wellIds ++
  [CLK_RSTCAUSE.KIND.id, CLK_RSTCAUSE.SOURCE.id, CLK_RSTCAUSE.HEAD.id, CLK_RSTCAUSE.BOOTS.id, CLK_XSTUCK.COUNT.id]

/-- Drawer bindings and resources, which only a cold reset clears (12 R312). -/
def bindRegs : List Reg := [regDRW_BIND, regDRW_LIMIT, regDRW_QUOTA, regDRW_KEYSET]

/-- Read-only fields whose hardware a warm reset clears. -/
def warmClears (r : Reg) (f : Fld) : Bool :=
  r.win == 2 && r.scope == .head || r.win == 4 && f.ty == .ro || r.win == 6 && f.ty == .ro || r.win == 16 || r.win == 22 || r.win == 23 ||
  r.win == 20 && r.scope == .ms || r.scope == .sport || r.scope == .path || f.id == WEIR_OUT.NOW.id || f.id == DMC_STATUS.DRAIN.id

/-- Fields a warm reset keeps. -/
def warmIds : List Nat :=
  (fldIds fun r f =>
    if r.win = 21 then f.ty == .rwl
    else if wellReg r then !voteIds.contains f.id
    else if bindRegs.contains r then true
    else (f.ty == .ro || f.ty == .rwl || f.ty == .rws) && !warmClears r f) ++ wellIds

/-- Keep the register values that meet a test; every other field returns to its reset value. -/
def State.keepRegs (s : State) (keep : Nat → Nat → Bool) : State :=
  { s with regs := s.regs.filter fun e => keep (e.1 % 1024) (e.1 / 1024) }

/-- Return the fields of registers that meet a test to their reset values, at the instances that meet another. -/
def State.dropFlds (s : State) (ids : List Nat) (inst : Nat → Bool) : State :=
  s.keepRegs fun id i => !(ids.contains id && inst i)

/-! ## Keys (10 R262, R274) -/

/-- Every key slot is wiped: FREE, and key ID 0 ACTIVE with a fresh key. -/
def State.wipeKeys (s : State) : State :=
  let slots := smMap s.inl.slots fun k x =>
    if k = 0 then { state := 1, owner := 17, load := x.load + 1 } else { load := x.load }
  { s with inl := { slots := slots } }

/-! ## The fuse controller as others see it (04 R98; 15 R369) -/

/-- The IFC enters a state: `IFC_PG` follows, `MS_POWER.CHG` sets in every copy, vector 33 rises where enabled. -/
def State.ifcTo (s : State) (st : Nat) : State :=
  let old := s.fget IFC_STATUS.STATE
  let s := (s.fset IFC_STATUS.STATE 0 st).fbit IFC_STATUS.PG 0 (st == 2 || st == 3 && s.ifc.fromOn)
  if old = st then s
  else s.each (List.range 17) fun m s =>
    let was := s.fone MS_POWER.CHG m
    let s := s.fset MS_POWER.CHG m 1
    if !was && decide (m < 16) && s.fone MS_CTL.PWR_IE m then s.signalHead 33 m else s

/-- The curve timers and the other timers of a ramp are cleared (R371). -/
def State.ifcTimers0 (s : State) : State :=
  { s with ifc := { s.ifc with timers := [0, 0, 0, 0, 0, 0, 0, 0], qual := 0, ramp := 0, under := 0, fromOn := false } }

/-! ## The core is lost or reset cold (03 R71-R72) -/

/-- Everything outside the Wellhead returns to its reset value (R72). -/
def State.coreClear (s : State) : State :=
  let s := (s.keepRegs fun id i => coldIds.contains id || unit10Key id i).wipeKeys
  { s with
    tb := 0, hold := [], dram := [], dramLoss := s.dramLoss + 1, boot := {}, cut := {}, dec := {}, coh := {}, chans := [], press := {}, slc := {}, drw := {}, spn := {}
    flt := {}, pmu := {}, pwr := {}
    heads := smMap s.heads fun _ x => { perst := x.perst, waking := !x.perst }
    sec := { ir := s.sec.ir, refused := s.sec.refused } }

/-- The main rails are gone: nothing but the Wellhead works until they return. -/
def State.railsOff (s : State) : State :=
  if s.boot.railsLost then s
  else
    let s := s.coreClear
    { s with boot := { s.boot with step := 3, railsLost := true } }

/-- The IFC turns the gate off with no trip: state 0 (15 R369). -/
def State.gateOff (s : State) : State := ((s.fset IFC_STATUS.PHASE 0 0).ifcTimers0.ifcTo 0).railsOff

/-- A cold reset with its source and head (R71, R75); start-up goes on from a step of R76. -/
def State.coldReset (s : State) (source head step : Nat) : State :=
  let img := s.cut.streamed
  let s := s.coreClear.finc CLK_RSTCAUSE.BOOTS
  let s := ((s.fset CLK_RSTCAUSE.KIND 0 1).fset CLK_RSTCAUSE.SOURCE 0 source).fset CLK_RSTCAUSE.HEAD 0 head
  { s with boot := { s.boot with step := step }, cut := { s.cut with streamed := img } }

/-- HEAD and number of a path in `CLK_RSTCAUSE`: heads by index, 0 otherwise. -/
def pathHead : Path → Nat
  | .head h => h.val
  | _ => 0

/-! ## A head's function (04 R103-R106; 20 R466) -/

/-- Field identities of the registers that meet a test. -/
def regIds (p : Reg → Bool) : List Nat := fldIds fun r _ => p r

/-- Head-scoped HP fields. -/
def headRegIds : List Nat := regIds fun r => r.win == 2 && r.scope == .head
/-- Select registers and per-head fields of the Module Service DVSEC. -/
def selectIds : List Nat := regIds fun r => r.scope == .path
def msIds : List Nat := regIds fun r => r.win == 20 && r.scope == .ms

/-- What a head's configuration space and selects lose in both of its resets. -/
def State.functionRegs (s : State) (h : Nat) : State := s.dropFlds (selectIds ++ msIds) (· == h)

/-- Head reset of the function: configuration space, MSI-X, decoders, device registers, IDE keys, link fields and vote. Presence,
PERST and the subsystem IDs of the board record stand. -/
def State.clearHead (s : State) (h : Nat) : State :=
  let s := ((s.functionRegs h).dropFlds headRegIds (· == h)).fset PWR_CMD.VOTE h 0
  let s := s.modHead h fun x => { presence := x.presence, perst := x.perst, subsys := x.subsys, waking := x.waking, d3cold := x.d3cold
                                  notice := x.notice, draining := x.draining, poisoned := x.poisoned }
  { s with dec := { s.dec with decoders := s.dec.decoders.filter fun e => e.1 / 32 != h } }.endSessions h

/-- Function-level reset of the registers (04 R106): Mem_Enable, IDE keys, logs and the vote stand. -/
def State.clearFunction (s : State) (h : Nat) : State :=
  let mem := memEnable (s.head h)
  let s := (s.functionRegs h).modHead h fun x =>
    { x with cfg := if mem then [(0x29C, 4)] else [], d3hot := false, msix := [], pba := 0, doe := [] }
  s.endSessions h

/-- Reset the drawers bound to a head, and say which still drain (12 R312). -/
def State.resetBound (s : State) (h : Nat) (unbind : Bool) : State :=
  let l := s.boundTo h
  let s := s.each l fun d s => s.resetDrawer d unbind
  s.modHead h fun x => { x with draining := l.filter fun d => (s.drawer d).resetting }

/-- A drawer's drain has ended: a head's FLR that waited on it alone is complete (04 R106). -/
def State.drainEnded (s : State) (d : Nat) : State :=
  { s with heads := smMap s.heads fun _ x =>
      let l := x.draining.filter (· != d)
      { x with draining := l, crs := x.crs && !l.isEmpty } }

/-! ## Emptying the directory (03 R73; 14 R355 step 5; 06 R158) -/

/-- Evict an entry for no request, when its lock and the trackers are free. -/
def State.agentEvict (s : State) (key : Nat) (e : DirEntry) : State :=
  let ln := dirLine key e
  if s.lineBusy ln ∨ !s.ttRoom2 ∨ !s.snoopRoom (s.holders ln e) then s else s.evict key e none

/-- Evict every entry that meets a test. -/
def State.evictWhere (s : State) (p : DirEntry → Bool) : State :=
  s.each (s.coh.dir.filter fun e => p e.2) fun e s => s.agentEvict e.1 e.2

/-- Has the device no request, move or snoop in progress? -/
def State.quiesced (s : State) : Bool := s.coh.txns.isEmpty && s.coh.evicts.isEmpty && s.slc.moves.isEmpty && s.coh.sent.isEmpty

/-- Write back every PME cache entry that is not pinned, and drop it (09 R251). -/
def State.pmecEmpty (s : State) : State := s.each ((s.dec.pmec.filter fun e => !e.2.pinned).map (·.1)) fun pn s => s.pmeDrop pn

/-! ## Warm reset (03 R73) -/

/-- A channel after a warm reset: out of self-refresh under its saved training, with queues empty and banks closed. -/
def warmChan (x : Channel) : Channel :=
  { x with rq := [], wq := [], inflight := [], banks := [], owed := [], forced := [], test := none, canaries := false, suspect := []
           creditStop := false, bytes := [], winStart := [] }

/-- Pages drawn for moves that a warm reset ends return to their pool. -/
def State.dropMoves (s : State) : State :=
  let s := s.each (s.slc.moves.filterMap (·.2.dest)) fun page s => s.freePage page
  { s with slc := { s.slc with moves := [], promoQ := [], stallQ := [], demoting := false, toT2 := false } }

/-- The Span after a warm reset: links down, its node ID claimed anew; INCARN, grants and runs stand (13 R340). -/
def State.warmSpan (s : State) : State :=
  let s := { s with spn := { s.spn with
    links := [], db := [], routes := [], lostAt := [], unreach := [], tags := [], fwd := [], snoops := [], backoff := none
    withdrawn := false, claimFrom := if s.fget SPN_CFG.ROLE = 0 then none else some (s.wclk + msT 500) } }
  if s.fget SPN_CFG.ROLE = 0 then s
  else ((s.fset SPN_NODE.STATE 0 1).fset SPN_NODE.YIELDS 0 0).fset SPN_NODE.ID 0 (s.fget SPN_CFG.NODE_ID)

/-- The domains of R71 are reset warm, with the cause (R72, R75). -/
def State.warmRun (s : State) (source head : Nat) : State :=
  let s := s.marginStop.pmecEmpty.dropMoves.resetAllDrawers
  let s := s.each s.headsOn fun h s => s.clearHead h
  let s := (s.keepRegs fun id i => warmIds.contains id || unit10Key id i).warmSpan
  let s := { s with
    hold := [], boot := { s.boot with fatal := false, warm := false, fwRestart := false }
    coh := { next := s.coh.next, walk := s.coh.walk.map fun _ => [] }
    chans := smMap s.chans fun _ x => warmChan x
    press := {}, drw := { s.drw with ops := [] }, flt := {}, pmu := {}
    dec := { s.dec with pmec := [], misses := [], decoders := [] }
    sec := { s.sec with sessions := [], spdm := [], dbgUntil := none, bdbg := false, waiting := false }
    pwr := { idleFrom := s.wclk }
    heads := smMap s.heads fun h x => { x with
      presence := if s.headOn h then 1 else 0, d3cold := false, notice := false, draining := [], poisoned := 0, waking := !x.perst } }
  let s := ((s.fset CLK_RSTCAUSE.KIND 0 2).fset CLK_RSTCAUSE.SOURCE 0 source).fset CLK_RSTCAUSE.HEAD 0 head
  s.weirRecompute

/-- Source code of a warm reset by its path. -/
def warmSource : Path → Nat
  | .head _ => 8
  | _ => 9

/-- A warm reset after an L3 fault: no drain; every head is treated as surprise-removed (R73). -/
def State.warmFatal (s : State) (p : Path) : State :=
  let s := s.each (s.headsOn.filter fun h => (s.head h).presence == 2) fun h s => (s.pointerLost (s.localPtr h)).1
  s.warmRun 10 (pathHead p)

/-- A warm reset under way runs as soon as no entry or retirement is in progress and the directory is empty (R73, R74; 10 R271). -/
def State.warmStep (s : State) : State :=
  match s.pwr.warmWait with
  | none => s
  | some p =>
    if s.boot.fatal then s.warmFatal p
    else if s.fget PWR_STATE.CUR ≠ 0 ∨ s.fget PWR_STATE.PHASE = 1 ∨ s.fone INL_RETIRE.BUSY then s
    else
      let s := ({ s with boot := { s.boot with warm := true } }).evictWhere fun _ => true
      if s.quiesced ∧ s.coh.dir.isEmpty then s.warmRun (warmSource p) (pathHead p) else s

end Sys2Proof.Machine
end

