-- ==== Sys2Proof/Machine/Witness.lean ====
section
/-! DEFINITION. The Witness engine (16 R392-R402): windows, the ring in flash, its search at power-on, and the commands that read it. -/

namespace Sys2Proof.Machine

open Sys2Proof

/-- Change the Witness engine. -/
def State.modWit (s : State) (f : Witness → Witness) : State := { s with wit := f s.wit }

/-! ## Coalescing windows (R392-R393) -/

/-- A record that could not be written is counted, and class LOST raised (R393, R404). -/
def State.witMissed (s : State) (set : Nat) : State :=
  let s := s.witLost set
  let l := nextLevel (s.classSt setWIT 5) 1 false
  s.reportRegs setWIT 5 l.1 l.2 {}

/-- Write an engine's own record, or count it as lost. -/
def State.witOwn (s : State) (set : Nat) (r : WitRec) : State :=
  match s.witWrite r with
  | (s, true) => s
  | (s, false) => s.witMissed set

/-- The LOST records of blocks whose reports were lost, as far as there is room (R393). -/
def State.witRoom (s : State) : State :=
  s.each s.wit.lost fun e s =>
    if 128 ≤ s.wit.staging.length then s
    else (s.modWit fun w => { w with lost := smDel w.lost e.1 }).witStage { kind := 2, block := e.1, count := min 0xFFFF e.2 } s.wit.staging

/-- WITNESS_WINDOW_END: a window of 1 ms ends: closed when nothing was counted, else a BURST record, which opens the next. -/
def witnessWindowEnd (set : Fin 31) (cls : Fin 16) (s : State) : State :=
  let key := blockOf set.val * 32 + cls.val
  match smFind? s.wit.windows key with
  | none => s
  | some w =>
    if !s.elapsed w.from_ (msT 1) then s
    else match w.first with
      | none => s.modWit fun x => { x with windows := smDel x.windows key }
      | some r =>
        let s := s.modWit fun x => { x with windows := smSet x.windows key { from_ := s.wclk } }
        s.witOwn set.val { r with kind := 1, count := min 0xFFFF w.count }

/-- WITNESS_WINDOW_END (R392). -/
def execWitnessWindowEnd (set : Fin 31) (cls : Fin 16) (s : State) : Host.Outcome State Fault Refusal :=
  volatile (witnessWindowEnd set cls) s

/-! ## The ring in flash (R396-R399) -/

/-- Sectors of the flash. -/
def witSectors : Nat := 8192
/-- Slots of the flash. -/
def witSlots : Nat := 524288

/-- The slots of a sector. -/
def sectorSlots (n : Nat) : List Nat := (List.range 64).map (n * 64 + ·)

/-- Has the flash anything in a sector? -/
def State.sectorBlank (s : State) (n : Nat) : Bool := !(s.wit.flash.any fun e => e.1 / 64 == n)

/-- The sectors the engine needs erased: that of the write pointer and the two that follow (R396). -/
def State.witNeeds (s : State) : List Nat :=
  let n := s.fget WIT_HEAD.SLOT / 64
  [n % witSectors, (n + 1) % witSectors, (n + 2) % witSectors]

/-- Start the erase of the first sector that needs it, when none is under way. Its records are gone. -/
def State.witErase (s : State) : State :=
  if s.wit.erasing.isSome ∨ !s.fone WIT_STATUS.PRESENT then s
  else match s.witNeeds.find? fun n => !s.wit.erased.contains n && !s.wit.bad.contains n with
    | some n => (s.modWit fun w => { w with erasing := some n, flash := w.flash.filter fun e => e.1 / 64 != n }).emit (.witErase n)
    | none => s

/-- SECTOR_ERASE_COMPLETE: the sector is ready, and the next one needed is erased. -/
def sectorEraseComplete (s : State) : State :=
  match s.wit.erasing with
  | none => s
  | some n => (s.modWit fun w => { w with erasing := none, erased := w.erased ++ [n] }).witErase

/-- SECTOR_ERASE_COMPLETE (R396). -/
def execSectorEraseComplete (s : State) : Host.Outcome State Fault Refusal := volatile sectorEraseComplete s

/-- May a page be programmed: flash present, records staged, the sector of the write pointer erased? -/
def State.witReady (s : State) : Bool :=
  s.fone WIT_STATUS.PRESENT && !s.wit.staging.isEmpty && s.wit.erased.contains (s.fget WIT_HEAD.SLOT / 64)

/-- The write pointer moves to a slot; a sector it has left is no longer erased. -/
def State.witHeadTo (s : State) (slot : Nat) : State :=
  let old := s.fget WIT_HEAD.SLOT / 64
  let s := s.fset WIT_HEAD.SLOT 0 (slot % witSlots)
  if slot % witSlots / 64 = old then s
  else (s.modWit fun w => { w with erased := w.erased.filter (· != old) }).witErase

/-- One page of staged records goes to flash: up to the end of the 256-byte page. -/
def State.witPage (s : State) : State :=
  let slot := s.fget WIT_HEAD.SLOT
  let n := min (4 - slot % 4) s.wit.staging.length
  let s := s.modWit fun w => { w with
    flash := ((w.staging.take n).zipIdx).foldl (fun m e => smSet m (slot + e.2) e.1) w.flash
    staging := w.staging.drop n }
  (((s.emit (.witProgram slot)).witHeadTo (slot + n)).witRoom).count 10 4 {} n

/-- The commit of an input loss has ended (R398). -/
def State.witCommitDone (s : State) : State := if s.wit.staging.isEmpty then s.fset WIT_STATUS.COMMIT 0 0 else s

/-- PAGE_PROGRAM_COMPLETE: a page that fails is retried once; a page that fails again marks its sector bad, and its records wait for
the next erased sector (R399). -/
def pageProgramComplete (ok retryOk : Bool) (s : State) : State :=
  if !s.witReady then s
  else if ok ∨ retryOk then (if ok then s else s.finc WIT_LOST.PROGFAIL).witPage.witCommitDone
  else
    let slot := s.fget WIT_HEAD.SLOT
    let n := slot / 64
    let s := (s.fadd WIT_LOST.PROGFAIL 0 2).modWit fun w => { w with bad := w.bad ++ [n], erased := w.erased.filter (· != n) }
    (s.witHeadTo ((n + 1) * 64)).report setWIT 3 { addr := slot }

/-- PAGE_PROGRAM_COMPLETE (R396, R399). -/
def execPageProgramComplete (ok retryOk : Bool) (s : State) : Host.Outcome State Fault Refusal :=
  volatile (pageProgramComplete ok retryOk) s

/-- Commit the staging SRAM to flash, page by page, into the sectors that are erased (R398; 14 R355 step 9). -/
def State.witCommit (s : State) : State :=
  s.each (List.range 128) fun _ s => if s.witReady then s.witPage else s

/-- INPUT_LOSS: the engine begins to commit the staging SRAM; page programs complete it. -/
def inputLoss (s : State) : State := (s.fset WIT_STATUS.COMMIT 0 1).witCommitDone

/-- INPUT_LOSS (R398). -/
def execInputLoss (s : State) : Host.Outcome State Fault Refusal := volatile inputLoss s

/-! ## The search at power-on (R395) -/

/-- Does a record pass its CRC under the record before it, where that is still held? -/
def witGood (l : SMap WitRec) (r : WitRec) : Bool :=
  let ok (p : Word) : Bool := r.crc == BitVec.ofNat 32 (crc32c (witBytes r) p.toNat)
  if r.seq = 0 then ok 0
  else match l.find? fun e => e.2.seq + 1 == r.seq with
    | some p => ok p.2.crc
    | none => true

/-- The newest of the records of a list. -/
def newestRec (l : List (Nat × WitRec)) : Option (Nat × WitRec) :=
  l.foldl (fun a e => match a with
    | some b => if b.2.seq < e.2.seq then some e else some b
    | none => some e) none

/-- The engine finds the end of its log and writes the power-on MARKER; without the flash it starts anew in the staging SRAM. -/
def State.witSearch (s : State) : State :=
  let here := s.wit.fitted
  let l := if here then s.wit.flash else []
  let good := l.filter fun e => witGood l e.2
  let top := newestRec l
  let best := newestRec good
  let broken := (match top, best with
    | some a, some b => a.2.seq != b.2.seq
    | some _, none => true
    | none, _ => false)
  let s := (s.fbit WIT_STATUS.PRESENT 0 here).fset WIT_STATUS.READY 0 1
  let s := match best with
    | some (slot, r) =>
      let next := (slot + 1) % witSlots
      let s := ((s.fset WIT_SEQ.SEQ 0 (r.seq + 1)).fset WIT_HEAD.SLOT 0 next).modWit fun w => { w with
        lastCrc := r.crc, poweron := r.poweron + 1 }
      let mine := if next % 64 = 0 then [] else [next / 64]
      let s := s.modWit fun w => { w with erased := mine ++ (s.witNeeds.filter fun n => s.sectorBlank n && !mine.contains n) }
      s
    | none => ((s.fset WIT_SEQ.SEQ 0 0).fset WIT_HEAD.SLOT 0 0).modWit fun w => { w with
        lastCrc := 0, poweron := 1, erased := [] }
  let s := s.witErase.witStage { kind := 4, cls := 1, block := 14 } []
  if broken then s.report setWIT 2 { addr := s.fget WIT_HEAD.SLOT } else s

/-! ## Reading the log (R400-R402) -/

/-- Records held, in SEQ order: flash, then staging. -/
def State.witAll (s : State) : List WitRec := sortBy (fun a b => decide (a.seq ≤ b.seq)) ((if s.fone WIT_STATUS.PRESENT then s.wit.flash else []).map (·.2)) ++ s.wit.staging

/-- SEQ of the oldest record held; the next SEQ when none is. -/
def State.witOldest (s : State) : Nat := (s.witAll.head?.map (·.seq)).getD (s.fget WIT_SEQ.SEQ)

/-- The 64 bytes of a record as a number. -/
def witNat (r : WitRec) : Nat := leNat (witBytes r ++ leBytes 4 r.crc.toNat)

/-- WIT_READ's answer. -/
def State.witReadReply (s : State) (p : Path) (first : Word) (count : Nat) : State :=
  if count = 0 ∨ 1023 < count then s.reply p .invalidInput
  else
    let from_ := if first = 0xFFFFFFFF#32 then s.witOldest else max first.toNat s.witOldest
    let l := (s.witAll.filter fun r => decide (from_ ≤ r.seq)).take count
    s.reply p .success ([(l.head?.map (·.seq)).getD from_, l.length] ++ l.map witNat)

/-- WIT_INFO's answer. -/
def State.witInfoReply (s : State) (p : Path) : State :=
  s.reply p .success [s.witOldest, s.fget WIT_SEQ.SEQ, s.wit.staging.length, s.fget WIT_LOST.LOST, s.fget WIT_LOST.PROGFAIL, s.wit.bad.length]

end Sys2Proof.Machine
end

