-- ==== Sys2Proof/Machine/Power.lean ====
section
/-! DEFINITION. Power states: votes, entry, abort and the start of a wake (14 R343-R358; 17 R420-R422). The end of a wake step stands in
Wake.lean. -/

namespace Sys2Proof.Machine

open Sys2Proof

/-- Change the power controller. -/
def State.modPwr (s : State) (f : Power → Power) : State := { s with pwr := f s.pwr }

/-! ## The debug session's end (17 R420, R422) -/

/-- The debug vote becomes abstain. -/
def State.dbgAbstain (s : State) : State := s.modPwr fun x => { x with dbgVote := 15 }

/-- A debug session in PRODUCTION or RETURN ends: BDBG closes, the vote abstains; the keys stay zeroized. -/
def State.dbgEnd (s : State) : State :=
  if s.sec.dbgUntil.isNone then s
  else { s with sec := { s.sec with dbgUntil := none, bdbg := false, waiting := false } }.dbgAbstain

/-! ## Votes (R345-R346) -/

/-- The vote of a head: none, or a state 0-4. -/
def State.headVote (s : State) (h : Nat) : Option Nat :=
  let x := s.head h
  if !s.headOn h || x.presence == 3 then none
  else if x.d3cold then some (if s.fget PWR_STATE.CUR = 4 ∨ s.fone HP_CFG.D3COLD_P4 (h / 4) then 4 else 3)
  else if s.fone HP_LINK.UP h then some (if x.d3hot then 3 else s.fget PWR_CMD.VOTE h)
  else if x.waking then some 0 else none

/-- The sideband's vote. -/
def State.sbVote (s : State) : Option Nat := if s.fget PWR_SBVOTE.VOTE ≤ 4 then some (s.fget PWR_SBVOTE.VOTE) else none

/-- The debug vote, within the range that the lifecycle gives it (17 R421): BLANK and MANUFACTURE P0-P4, DEVELOP P1-P4, else none. -/
def State.debugVote (s : State) : Option Nat :=
  let lc := lifecycle s.nv
  let lo := if lc ≤ 1 then 0 else 1
  if lc ≤ 2 ∧ lo ≤ s.pwr.dbgVote ∧ s.pwr.dbgVote ≤ 4 then some s.pwr.dbgVote else none

/-- Every vote cast. -/
def State.votes (s : State) : List Nat := (List.range 16).filterMap s.headVote ++ s.sbVote.toList ++ s.debugVote.toList

/-- The target: the shallowest state voted; with no vote it stands. -/
def State.target (s : State) : Nat := match s.votes with
  | [] => s.fget PWR_STATE.TARGET
  | v :: l => l.foldl min v

/-! ## Entry (R355-R357) -/

/-- A Sluice move whose PME update has not begun is abandoned; one that has taken a write into its page buffer goes on as a
promotion (06 R149). -/
def State.abandonMove (s : State) (pn : Nat) (m : Move) : State :=
  let toPromo (s : State) : State :=
    let s := s.modMove pn fun m => { m with kind := .promoteOnWrite, peer := none }
    if m.dest.isSome then s else
      match s.drawT0 with
      | some (d, s) => s.modMove pn fun m => { m with dest := some d }
      | none => s
  let back (s : State) : State := match m.peer with
    | some (node, loc) => s.freeStorage pn { s.pme pn with tier := 2, poison := false, node := node, loc := loc }
    | none => s
  match m.kind with
  | .promoteOnWrite => s
  | .demote => (s.dropDemotion pn m).rerunPage pn
  | .readPromote => if m.buffer.isEmpty then
      ((match m.dest with
        | some d => s.t0Freed d
        | none => s).endMove pn).rerunPage pn
    else toPromo s
  | .toT2 => if m.buffer.isEmpty then ((back s).endMove pn).rerunPage pn else toPromo (back s)

/-- Step 1 of R355 for moves. -/
def State.abandonMoves (s : State) : State := s.each s.slc.moves fun e s => s.abandonMove e.1 e.2

/-- May an entry begin: started up, with no retirement, Cut List command or warm reset under way (02 R56; 03 R74; 10 R271)? -/
def State.mayEnter (s : State) : Bool :=
  decide (13 ≤ s.boot.step) && !s.fone INL_RETIRE.BUSY && !s.fone CUT_STATUS.BUSY && s.pwr.warmWait.isNone && !s.boot.warm && !s.pwr.failed

/-- Step 2 of R355. -/
def State.entryAnnounce (s : State) (t : Nat) : State :=
  if t = 4 then s.spanWithdraw else if 2 ≤ t then s.floodSelf true else s

/-- Entry to a state begins: steps 1 and 2 of R355. -/
def State.entryStart (s : State) (t : Nat) : State :=
  let s := (s.fset PWR_STATE.PHASE 0 1).modPwr fun x => { x with goal := t, entryFrom := s.wclk }
  let s := if t = 3 then s.dbgEnd else s
  s.abandonMoves.entryAnnounce t

/-- Operations stopped by an entry go on. -/
def State.opsGo (s : State) : State := { s with drw := { s.drw with ops := smMap s.drw.ops fun _ o => { o with stopped := false } } }

/-- An entry is aborted or abandoned: what it has done is undone, and the device goes on in an excursion (R356, R357). -/
def State.entryUndo (s : State) : State :=
  let t := s.pwr.goal
  let s := ((s.opsGo.fset PWR_STATE.PHASE 0 4).finc PWR_COUNT.ABORTS).count 10 3
  if t = 4 then { s with spn := { s.spn with withdrawn := false } }.floodSelf
  else if 2 ≤ t then s.floodSelf else s

/-- ENTRY_MAX_EXPIRY: operations still running stop at their last whole page (R356). -/
def entryMaxExpiry (s : State) : State :=
  if s.fget PWR_STATE.PHASE ≠ 1 ∨ !s.elapsed s.pwr.entryFrom (usT (s.fmin PWR_CTL.ENTRY_MAX_US 10)) then s
  else { s with drw := { s.drw with ops := smMap s.drw.ops fun _ o => { o with stopped := true } } }

/-- ENTRY_MAX_EXPIRY (R356). -/
def execEntryMaxExpiry (s : State) : Host.Outcome State Fault Refusal := volatile entryMaxExpiry s

/-- ENTRY_ABANDON: an entry not drained at four times ENTRY_MAX is given up. -/
def entryAbandon (s : State) : State :=
  if s.fget PWR_STATE.PHASE ≠ 1 ∨ !s.elapsed s.pwr.entryFrom (usT (4 * s.fmin PWR_CTL.ENTRY_MAX_US 10)) then s
  else s.entryUndo.report setPWR 1 { syn := s.pwr.goal }

/-- ENTRY_ABANDON (R356). -/
def execEntryAbandon (s : State) : Host.Outcome State Fault Refusal := volatile entryAbandon s

/-! ## The commit (R355 steps 3-10) -/

/-- Steps 3 to 8 are done: no transaction, move, snoop or host request of an operation stands, and for P3 the directory is empty. -/
def State.entryDrained (s : State) : Bool :=
  s.quiesced && (s.pwr.goal == 4 || s.drw.ops.all fun o => o.2.tags.isEmpty) && (s.pwr.goal != 3 || s.coh.dir.isEmpty)

/-- Step 5 of R355: for P3, once nothing else stands, every directory entry is evicted. -/
def State.entryEmpty (s : State) : State :=
  if s.fget PWR_STATE.PHASE = 1 ∧ s.pwr.goal = 3 ∧ s.coh.txns.isEmpty ∧ s.slc.moves.isEmpty then s.evictWhere fun _ => true else s

/-- Channels in a state. -/
def State.chansIn (s : State) (st : Nat) : List Nat := (List.range 12).filter fun c => s.fget DMC_STATUS.STATE c == st

/-- Banks of a channel close before power-down or self-refresh. -/
def State.closeBanks (s : State) (c : Nat) : State :=
  s.modChan c fun x => { x with banks := smMap x.banks fun _ b => { b with row := none, streak := 0 } }

/-- Cached PMEs whose COUNT has moved are written back; they stay cached (R355 step 6). -/
def State.pmecClean (s : State) : State := s.each s.dec.pmec fun e s => s.putDpm e.1 e.2.pme

/-- The on-demand units' clocks stop. -/
def State.unitsOff (s : State) : State := s.each (List.range 3) fun u s => s.unitTo u 0

/-- Commit to P1 (Trickle). -/
def State.commitTrickle (s : State) : State :=
  (s.each (s.chansIn 2) fun c s => (s.closeBanks c).fset DMC_STATUS.PPD c 1).unitsOff

/-- What P3 (Basin) loses: the PME, page-header and Press state (R343, R360). -/
def State.basinLoss (s : State) : State :=
  { s.pmecEmpty with press := { s.press with hcache := [], jobs := [] }, pwr := { s.pwr with saved := true, tbStop := s.wclk } }

/-- Commit to P2 (Still) or P3 (Basin): canaries written, self-refresh entered, links in L1 and electrical idle. -/
def State.commitSleep (s : State) (t : Nat) : State :=
  let s := if t = 3 then s.basinLoss else s.pmecClean
  let s := s.each (s.chansIn 2) fun c s =>
    let s := ((s.closeBanks c).modChan c fun x => { x with canaries := true }).fset DMC_STATUS.STATE c 3
    (s.emit (.dramCmd (Fin.ofNat 12 c) false 0 .srEntry)).emit (.dramCmd (Fin.ofNat 12 c) true 0 .srEntry)
  let up := s.headsOn.filter fun h => s.fone HP_LINK.UP h
  let s := (s.modPwr fun x => { x with wasUp := up }).each up fun h s => s.fset HP_LINK.LTSSM h 5
  s.spanSleep.unitsOff

/-- Commit to P4 (Dry): operations squashed without records, keys wiped, the staging SRAM committed, the gate off (R344, R355). -/
def State.commitDry (s : State) : State :=
  let s := s.each ((List.range s.drw.maxDrawers).filter fun d => s.drwBound d) fun d s => s.squashDrawer d 3
  let s := s.wipeKeys.witCommit
  let cold := (List.range 16).filter fun h => (s.head h).d3cold
  let t := { s with ifc := { s.ifc with dry := true } }.gateOff
  let t := t.each [(GLB_HEADS.ENABLED, 0), (GLB_HEADS.MGMT, 0), (PWR_SBVOTE.VOTE, 0), (PWR_STATE.TARGET, 0)] fun f t =>
    t.fset f.1 f.2 (s.fget f.1 f.2)
  (t.each cold fun h t => t.modHead h fun x => { x with d3cold := true, presence := 1 }).fset PWR_STATE.CUR 0 4

/-- ENTRY_COMMIT: with the drain done, the commit point is passed and the entry completes (R355 steps 9 and 10). PHASE 2 stands within
this command only. -/
def entryCommit (s : State) : State :=
  if s.fget PWR_STATE.PHASE ≠ 1 ∨ !s.entryDrained then s
  else
    let t := s.pwr.goal
    let s := { s with drw := { s.drw with ops := smMap s.drw.ops fun _ o => { o with stopped := true } } }
    let s := if t = 1 then s.commitTrickle else if t = 4 then s.commitDry else s.commitSleep t
    (((s.fset PWR_STATE.CUR 0 t).fset PWR_STATE.PHASE 0 0).finc PWR_COUNT.ENTRIES).count 10 2

/-- ENTRY_COMMIT (R355). -/
def execEntryCommit (s : State) : Host.Outcome State Fault Refusal := volatile entryCommit s

/-! ## Wake triggers (R347, R349-R352) -/

/-- A wake begins at step 1 of the state's WAKE records. -/
def State.wakeStart (s : State) : State :=
  (s.fset PWR_STATE.PHASE 0 3).modPwr fun x => { x with wakeStep := 1, stepFrom := s.wclk, rerun := false, wakeNs := 0, goal := s.fget PWR_STATE.CUR }

/-- Bit of `PWR_WAKESRC` of a source; 7 is work that arrives on a Span link in P1 (R347), shown as source 3. -/
def wakeBit : Nat → Option Fld
  | 1 => some PWR_WAKESRC.LINK | 2 => some PWR_WAKESRC.PERST | 3 => some PWR_WAKESRC.SPAN | 4 => some PWR_WAKESRC.SB
  | 5 => some PWR_WAKESRC.VOTE | 6 => some PWR_WAKESRC.DEBUG
  | 7 => some PWR_WAKESRC.SPAN | _ => none

/-- A trigger is recorded in `PWR_WAKESRC` and as the source of the wake. -/
def State.wakeMark (s : State) (src h : Nat) : State :=
  match wakeBit src with
  | none => s
  | some f =>
    let s := ((s.fset f 0 1).fset PWR_STATE.SRC 0 (if src = 7 then 3 else src)).count 10 1
    if src = 1 then s.fputBit PWR_WAKESRC.HEADLINK 0 h true else s

/-- Does a source trigger a wake in the state (R349)? -/
def wakes (cur src : Nat) : Bool :=
  if cur = 4 then false else if cur = 1 then src != 0 && src != 3 else src != 0

/-- A trigger is registered (R347, R349, R354, R357): it starts the wake, joins one, or aborts an entry not yet committed. -/
def State.wakeTrigger (s : State) (src h : Nat) : State :=
  let cur := s.fget PWR_STATE.CUR
  if s.fget PWR_STATE.PHASE = 1 then
    if src = 0 then s else (s.wakeMark src h).entryUndo
  else if s.fget PWR_STATE.PHASE = 3 then
    if wakes cur src then s.wakeMark src h else s
  else if 1 ≤ cur ∧ wakes cur src ∧ !s.pwr.failed then (s.wakeMark src h).wakeStart
  else s

/-- WAKE_TRIGGER. -/
def wakeTrigger (src : Fin 7) (h : Head) (s : State) : State := s.wakeTrigger src.val h.val

/-- WAKE_TRIGGER (R349). -/
def execWakeTrigger (src : Fin 7) (h : Head) (s : State) : Host.Outcome State Fault Refusal := volatile (wakeTrigger src h) s

/-- A trigger that an access has raised is registered at the WCLK step after it. -/
def State.latchTick (s : State) : State :=
  match s.pwr.latched with
  | none => s
  | some (src, h) => (s.modPwr fun x => { x with latched := none }).wakeTrigger src h

/-! ## The vote evaluation (R346, R354, R358) -/

/-- Leave P4 (Dry): the IFC may ramp again, and a cold reset follows as the rails return (R344). -/
def State.leaveDry (s : State) : State := { s with ifc := { s.ifc with dry := false } }

/-- One WCLK step's evaluation of the votes. -/
def State.evalVotes (s : State) : State :=
  let t := s.target
  let cur := s.fget PWR_STATE.CUR
  let phase := s.fget PWR_STATE.PHASE
  let s := s.fset PWR_STATE.TARGET 0 t
  if phase = 3 ∨ phase = 2 then s
  else if phase = 1 then
    if t < s.pwr.goal then
      let s := s.entryUndo
      if t = 0 then (s.fset PWR_STATE.PHASE 0 0).modPwr fun x => { x with goal := 0 } else s.modPwr fun x => { x with goal := t }
    else if s.pwr.goal < t then (if t = 3 then s.dbgEnd else s).entryAnnounce t |>.modPwr fun x => { x with goal := t }
    else s
  else if cur = 4 then (if t < 4 then s.leaveDry else s)
  else if 1 ≤ cur then
    if s.pwr.failed ∨ t = cur then s else if t < cur then s.wakeTrigger 5 0 else s.wakeStart
  else if t = 0 then (s.fset PWR_STATE.PHASE 0 0).modPwr fun x => { x with goal := 0 }
  else if s.pwr.goal < t then (if s.mayEnter then s.entryStart t else s)
  else s.modPwr fun x => { x with goal := t }

/-! ## Votes as written (R345) -/

/-- PWR_CMD_VOTE: a head writes its vote in D0; 3 to 7 are ignored. The Wellhead takes it in every state from P0 to P3 (20 R462). -/
def pwrCmdVote (h : Head) (v : BitVec 3) (s : State) : State :=
  if !s.linkReady h.val ∨ 2 < v.toNat then s else s.fset PWR_CMD.VOTE h.val v.toNat

/-- PWR_CMD_VOTE (R345). -/
def execPwrCmdVote (h : Head) (v : BitVec 3) (s : State) : Host.Outcome State Fault Refusal := volatile (pwrCmdVote h v) s

/-- PWR_SBVOTE_WRITE: the sideband's vote; of other paths ignored, as 5 and 6 are. -/
def pwrSbvoteWrite (p : Path) (v : BitVec 3) (s : State) : State :=
  if p ≠ .sideband ∨ v = 5 ∨ v = 6 then s else s.fset PWR_SBVOTE.VOTE 0 v.toNat

/-- PWR_SBVOTE_WRITE (R345). -/
def execPwrSbvoteWrite (p : Path) (v : BitVec 3) (s : State) : Host.Outcome State Fault Refusal := volatile (pwrSbvoteWrite p v) s

/-- POWER_STATE_WRITE: 0 is D0, 3 is D3hot; D1 and D2 are not supported, and the write leaves PowerState (04 R90). -/
def powerStateWrite (h : Head) (st : Fin 4) (s : State) : State :=
  if st = 1 ∨ st = 2 then s else s.modHead h fun x => { x with d3hot := decide (st = 3) }

/-- POWER_STATE_WRITE (R345). -/
def execPowerStateWrite (h : Head) (st : Fin 4) (s : State) : Host.Outcome State Fault Refusal :=
  volatile (access (.powerStateWrite h st) (.head h) (powerStateWrite h st)) s

/-! ## Re-entry (R347) -/

/-- Is the ring one whose descriptors can be fetched? -/
def State.fetchable (s : State) (d r : Nat) : Bool :=
  let x := s.ring d r
  x.state == 1 && !x.closing && x.sqHead != x.sqTail && !(s.drawer d).resetting

/-- Is the device idle (R347)? A selected BDBG counts as not idle (17 R421). -/
def State.idle (s : State) : Bool :=
  s.coh.txns.isEmpty && s.coh.evicts.isEmpty && s.spn.tags.isEmpty && s.pwr.held.isEmpty && s.drw.ops.isEmpty && !s.sec.bdbg &&
  !(s.drw.drawers.any fun e => (List.range 4).any fun r => s.fetchable e.1 r)

/-- REENTRY_IDLE: an excursion idle for REENTRY_US enters the target state again. -/
def reentryIdle (s : State) : State :=
  let t := s.fget PWR_STATE.TARGET
  if s.fget PWR_STATE.PHASE = 4 ∧ t ≠ 0 ∧ s.idle ∧ s.elapsed s.pwr.idleFrom (usT (s.fmin PWR_CTL.REENTRY_US 1)) ∧ s.mayEnter then s.entryStart t
  else s

/-- REENTRY_IDLE (R347). -/
def execReentryIdle (s : State) : Host.Outcome State Fault Refusal := volatile reentryIdle s

/-! ## The sideband's address match (R350) -/

/-- SIDEBAND_ADDRESS_MATCH: in P2 and P3 the match triggers a wake; under SMBus it is acknowledged and `SB_SCL` is held, under I3C the
header is not acknowledged. In P0, P1 and P4 it is acknowledged. -/
def sidebandAddressMatch (i3c : Bool) (s : State) : State :=
  let cur := s.fget PWR_STATE.CUR
  if cur = 2 ∨ cur = 3 then
    let s := if i3c then s.emit .sbNack else (s.modPwr fun x => { x with sclHeld := true, sclFrom := s.wclk }).emit .sbAck
    s.wakeTrigger 4 0
  else s.emit .sbAck

/-- SIDEBAND_ADDRESS_MATCH (R350). -/
def execSidebandAddressMatch (i3c : Bool) (s : State) : Host.Outcome State Fault Refusal := volatile (sidebandAddressMatch i3c) s

/-- SCL_STRETCH_LIMIT: 2.1 ms after the match the line is released and the rest of the transaction answered with NACK. -/
def sclStretchLimit (s : State) : State :=
  if s.pwr.sclHeld ∧ s.elapsed s.pwr.sclFrom 8400 then (s.modPwr fun x => { x with sclHeld := false }).emit .sbNack else s

/-- SCL_STRETCH_LIMIT (R350). -/
def execSclStretchLimit (s : State) : Host.Outcome State Fault Refusal := volatile sclStretchLimit s

/-- PRIORITY_SCRUB_END: a suspect bank's priority scrub ends (R362). -/
def priorityScrubEnd (ch : Chan) (bank : Nat) (s : State) : State :=
  if !(s.chan ch).suspect.contains bank then s
  else (s.modChan ch fun x => { x with suspect := x.suspect.filter (· != bank) }).fdec PWR_RETN.SUSPECT

/-- PRIORITY_SCRUB_END (R362). -/
def execPriorityScrubEnd (ch : Chan) (bank : Nat) (s : State) : Host.Outcome State Fault Refusal := volatile (priorityScrubEnd ch bank) s

end Sys2Proof.Machine
end

