-- ==== Sys2Proof/Machine/Heads.lean ====
section
/-! DEFINITION. Heads: `PERSTn_N`, link up and down, removal, FLR, completions, MSI-X unmasking, DOE (04 R84-R108; 06 R155-R157). -/

namespace Sys2Proof.Machine

open Sys2Proof

/-! ## Link down (R101-R103) -/

/-- Steps 1 and 2 of R103 for a link that has gone, and the word to the homes (06 R157): the state, and the lines poisoned. -/
def State.linkGone (s : State) (h : Nat) : State × Nat :=
  let r := s.pointerLost (s.localPtr h)
  (((((r.1.tellHomes h).peerSnoopsLost h).forgetTags h).endSessions h).linkFields h, r.2)

/-- A link goes down with notice: presence 1; the head enters D3cold from D3hot (14 R345); its drawers are reset. -/
def State.noticeDown (s : State) (h : Nat) : State :=
  let s := (s.setPresence h 1).linkGone h |>.1
  let s := s.modHead h fun x => { x with d3cold := x.d3hot, notice := false, turnOff := none, memActive := false, waking := false }
  s.resetBound h false

/-- A surprise removal: presence 3, cleanup begins (R103 steps 1 to 4). -/
def State.surprise (s : State) (h : Nat) : State :=
  let s := s.setPresence h 3
  let r := s.linkGone h
  let s := ((((r.1.fset COH_SCAN.ACTIVE 0 1).fset COH_SCAN.NODE 0 s.selfNode).fset COH_SCAN.HEAD 0 h).fset COH_SCAN.POISONED 0 r.2).fset
    HP_SURPRISE.CLEANUP h 1
  let s := (s.finc HP_SURPRISE.COUNT h).modHead h fun x => { x with turnOff := none, memActive := false, waking := false, poisoned := r.2 }
  s.resetBound h true

/-- LINK_DOWN_WITH_NOTICE: DL_Up is lost after the PME_Turn_Off exchange. -/
def linkDownWithNotice (h : Head) (s : State) : State :=
  if s.linkReady h.val ∧ (s.head h).notice then (s.noticeDown h).wakeTrigger 1 h.val else s

/-- LINK_DOWN_WITH_NOTICE (R101). -/
def execLinkDownWithNotice (h : Head) (s : State) : Host.Outcome State Fault Refusal := volatile (linkDownWithNotice h) s

/-- SURPRISE_REMOVAL: DL_Up is lost without the exchange. -/
def surpriseRemoval (h : Head) (s : State) : State :=
  if s.linkReady h.val ∧ !(s.head h).notice then (s.surprise h).wakeTrigger 1 h.val else s

/-- SURPRISE_REMOVAL (R103). -/
def execSurpriseRemoval (h : Head) (s : State) : Host.Outcome State Fault Refusal := volatile (surpriseRemoval h) s

/-- Are the rounds that a scan has started over (06 R156)? -/
def State.scanOver (s : State) : Bool := s.coh.evicts.all fun e => !e.2.poisonIfNoWb

/-- REMOVAL_CLEANUP_COMPLETE: steps 2 to 5 are complete: the record of the removal, with the lines poisoned, and presence 1. -/
def removalCleanupComplete (h : Head) (s : State) : State :=
  let x := s.head h
  if x.presence ≠ 3 ∨ !x.draining.isEmpty ∨ !s.scanOver then s
  else
    let n := s.fget COH_SCAN.POISONED
    let s := s.report setHP 2 { unit := h.val, aux := n } (if n = 0 then 0 else 1)
    let s := (s.setPresence h 1).modHead h fun x => { x with poisoned := 0 }
    (s.fset HP_SURPRISE.CLEANUP h.val 0).fset COH_SCAN.ACTIVE 0 0

/-- REMOVAL_CLEANUP_COMPLETE (R103). -/
def execRemovalCleanupComplete (h : Head) (s : State) : Host.Outcome State Fault Refusal := volatile (removalCleanupComplete h) s

/-! ## PME_Turn_Off (R102) -/

/-- Lines that name a head: by a pointer, or in broadcast mode with the head in the sharing set. -/
def State.linesNaming (s : State) (p : Target) : List Nat :=
  s.coh.dir.filterMap fun e =>
    let ln := dirLine e.1 e.2
    if (if e.2.ovf then s.inSharing p ln else e.2.ptrs.contains (BitVec.ofNat 10 p)) then some ln else none

/-- Snoop what is left of a PME_Turn_Off, as far as trackers allow; with nothing left and nothing outstanding, PME_TO_Ack goes out. -/
def State.turnOffStep (s : State) (h : Nat) : State :=
  let p := s.localPtr h
  match (s.head h).turnOff with
  | none => s
  | some [] =>
    if s.sentTo p = 0 then
      (s.emit (.pmeToAck (Fin.ofNat 16 h))).modHead h fun x => { x with turnOff := none, notice := true }
    else s
  | some l =>
    let now := l.take (min (128 - s.sentTo p) (2048 - s.coh.sent.length))
    let s := s.each (now.filter fun ln => !(s.coh.sent.any fun e => e.1 == p && e.2.1 == ln)) fun ln s => s.snoop ln true p
    s.modHead h fun x => { x with turnOff := some (l.drop now.length) }

/-- PME_TURN_OFF: every line that the directory names the head for is back-invalidated at that head. -/
def pmeTurnOff (h : Head) (s : State) : State :=
  if !s.linkReady h.val ∨ (s.head h).turnOff.isSome then s
  else
    let l := s.linesNaming (s.localPtr h)
    (s.modHead h fun x => { x with turnOff := some l, notice := false }).turnOffStep h

/-- PME_TURN_OFF (R102). -/
def execPmeTurnOff (h : Head) (s : State) : Host.Outcome State Fault Refusal :=
  volatile (access (.pmeTurnOff h) (.head h) (pmeTurnOff h)) s

/-! ## `PERSTn_N` and link up (03 R71-R74, R78; 04 R101, R104; 14 R345) -/

/-- PERST_ASSERT: the link goes, with notice or by surprise; the head's function and drawers are reset, its vote withdrawn. -/
def perstAssert (h : Head) (s : State) : State :=
  if (s.head h).perst then s
  else
    let up := s.linkReady h.val
    let s := if up then (if (s.head h).notice then s.noticeDown h else s.surprise h) else s
    let s := (s.clearHead h).modHead h fun x => { x with perst := true, waking := false }
    (s.resetBound h true).wakeTrigger (if up then 1 else 0) h.val

/-- PERST_ASSERT (03 R71). -/
def execPerstAssert (h : Head) (s : State) : Host.Outcome State Fault Refusal := volatile (perstAssert h) s

/-- PERST_DEASSERT: an enabled head votes P0 from here on, and triggers a wake. -/
def perstDeassert (h : Head) (s : State) : State :=
  if !(s.head h).perst then s
  else
    let s := s.modHead h fun x => { x with perst := false, waking := true, d3cold := false }
    if s.headOn h.val then s.wakeTrigger 2 h.val else s

/-- PERST_DEASSERT (03 R78). -/
def execPerstDeassert (h : Head) (s : State) : Host.Outcome State Fault Refusal := volatile (perstDeassert h) s

/-- Lanes of a head's sub-port (R85). -/
def State.lanes (s : State) (h : Nat) : Nat :=
  match s.fget HP_CFG.BIFUR (h / 4) with
  | 0 => if h % 4 = 0 then 16 else 0
  | 1 => if h % 4 < 2 then 8 else 0
  | 2 => 4
  | _ => 0

/-- May a head train so: released, not in cleanup, after step 10 of 03 R76, within the port's rate, lanes and flit modes (R84-R86)? -/
def State.mayTrain (s : State) (h rate width : Nat) (flit256 : Bool) : Bool :=
  let x := s.head h
  s.headOn h && !x.perst && x.presence == 1 && decide (10 ≤ s.boot.step) && lifecycle s.nv != 5 &&
  decide (rate ≤ s.fget HP_CFG.MAX_RATE (h / 4)) && [1, 2, 4, 8, 16].contains width && decide (width ≤ s.lanes h) &&
  s.fbitAt HP_CFG.FLIT (h / 4) flit256.toNat && (flit256 || decide (2 ≤ rate ∧ rate ≤ 4))

/-- HOST_LINK_UP: presence 2; memory active is reported at once after step 13. -/
def hostLinkUp (h : Head) (rate : Fin 6) (width : Fin 32) (flit256 : Bool) (retimers : Fin 3) (s : State) : State :=
  if !s.mayTrain h rate width flit256 then s
  else
    let s := (((s.fset HP_LINK.UP h 1).fbit HP_LINK.FLIT256 h flit256).fset HP_LINK.RATE h rate).fset HP_LINK.WIDTH h width
    let s := (s.fset HP_LINK.RETIMERS h retimers).fset HP_LINK.LTSSM h 3
    (s.setPresence h 2).modHead h fun x => { x with waking := false, d3cold := false, memActive := decide (13 ≤ s.boot.step) }

/-- HOST_LINK_UP (R104). -/
def execHostLinkUp (h : Head) (rate : Fin 6) (width : Fin 32) (flit256 : Bool) (retimers : Fin 3) (s : State) :
    Host.Outcome State Fault Refusal := volatile (hostLinkUp h rate width flit256 retimers) s

/-- HOST_FLIT_REPLAY: a flit corrected by FEC, or replayed after a CRC failure. -/
def hostFlitReplay (h : Head) (corrected : Bool) (s : State) : State :=
  if !s.linkReady h.val then s
  else if corrected then (s.finc HP_ERRCNT.FEC_CORR h).count 0 3 { head := some h.val } else (s.finc HP_ERRCNT.REPLAY h).count 0 4 { head := some h.val }

/-- HOST_FLIT_REPLAY (R84). -/
def execHostFlitReplay (h : Head) (corrected : Bool) (s : State) : Host.Outcome State Fault Refusal :=
  volatile (hostFlitReplay h corrected) s

/-- HOST_LINK_RECOVERY: a link passes through Recovery and returns to L0; no transaction is affected. -/
def hostLinkRecovery (h : Head) (s : State) : State := if s.linkReady h.val then s.finc HP_LINK.RECOV h else s

/-- HOST_LINK_RECOVERY (R101). -/
def execHostLinkRecovery (h : Head) (s : State) : Host.Outcome State Fault Refusal := volatile (hostLinkRecovery h) s

/-- LINK_L1_ENTRY: a link in L0 enters L1. -/
def linkL1Entry (h : Head) (s : State) : State :=
  if s.linkReady h.val ∧ s.fget HP_LINK.LTSSM h = 3 then s.fset HP_LINK.LTSSM h 5 else s

/-- LINK_L1_ENTRY (R86). -/
def execLinkL1Entry (h : Head) (s : State) : Host.Outcome State Fault Refusal := volatile (linkL1Entry h) s

/-- LINK_L1_EXIT: below P0 the exit is a wake trigger, and in P2 and P3 the link is back in L0 when the wake's LINK step ends. -/
def linkL1Exit (h : Head) (s : State) : State :=
  if !(s.linkReady h.val) ∨ s.fget HP_LINK.LTSSM h ≠ 5 then s
  else (if s.fget PWR_STATE.CUR < 2 then s.fset HP_LINK.LTSSM h 3 else s).wakeTrigger 1 h.val

/-- LINK_L1_EXIT (R86). -/
def execLinkL1Exit (h : Head) (s : State) : Host.Outcome State Fault Refusal := volatile (linkL1Exit h) s

/-- Is `WAKE_N` of a port driven low: a head of it in D3cold with a wake event (PME_En) enabled (R86)? -/
def State.wakeN (s : State) (p : Nat) : Bool :=
  (List.range 4).any fun k => (s.head (4 * p + k)).d3cold && (cfgGet (s.head (4 * p + k)) 0x044).getLsbD 8

/-- Is `CLKREQ_N` of a port released: every trained head of it in L1 with clock power management enabled (R86)? -/
def State.clkReqReleased (s : State) (p : Nat) : Bool :=
  (List.range 4).all fun k => !s.fone HP_LINK.UP (4 * p + k) ||
    (s.fget HP_LINK.LTSSM (4 * p + k) == 5 && (cfgGet (s.head (4 * p + k)) 0x060).getLsbD 8)

/-! ## Completions of device-issued requests (R105, R108) -/

/-- Lower and upper bounds in µs of the completion timeout range that Device Control 2 selects (PRESUMED 13, PCIe). -/
def ctoRange (v : Nat) : Nat × Nat :=
  match v with
  | 1 => (50, 100) | 2 => (1000, 10000) | 5 => (16000, 55000) | 6 => (65000, 210000) | 9 => (260000, 900000)
  | 10 => (1000000, 3500000) | 13 => (4000000, 13000000) | 14 => (17000000, 64000000) | _ => (50, 50000)

/-- The range in force on a head. -/
def State.cto (s : State) (h : Nat) : Nat × Nat := ctoRange ((cfgGet (s.head h) 0x078).toNat % 16)

/-- Set an AER uncorrectable status bit. -/
def State.aer (s : State) (h n : Nat) : State :=
  s.modHead h fun x => cfgPut x 0x104 (cfgGet x 0x104 ||| (1#32 <<< n))

/-- A host request of an operation has ended: by a completion, a failed one (offset 0 of the operand, bit 31 for a timeout, 12 R307),
or late for its generation (12 R313). -/
def State.dmaEnded (s : State) (o tag : Nat) (failed : Option Nat) : State :=
  match smFind? s.drw.ops o with
  | none => s
  | some op =>
    let s := s.modOp o fun x => { x with tags := x.tags.filter (· != tag) }
    if !s.opCurrent op then
      let s := (s.finc DRW_STAT.STALE op.drawer).count 8 5 { drw := some op.drawer }
      if (op.tags.filter (· != tag)).isEmpty ∧ op.outst = 0 then s.dropOp o else s
    else match failed with
      | some d => s.modOp o fun x => { x with status := some 5, detail := d }
      | none => s

/-- COMPLETION_TIMEOUT: a request has stood past the lower bound of its range: reported once, its tag quarantined. -/
def completionTimeout (h : Head) (tag : BitVec 14) (s : State) : State :=
  match smFind? (s.head h).tags tag.toNat with
  | none => s
  | some (o, at_) =>
    if (cfgGet (s.head h) 0x078).getLsbD 4 ∨ !s.elapsed at_ (usT (s.cto h).1) then s
    else (((s.aer h 14).finc HP_CTO.TIMEOUTS h).quarantine h tag.toNat 0).dmaEnded o tag.toNat (some 0x80000000)

/-- COMPLETION_TIMEOUT (R108). -/
def execCompletionTimeout (h : Head) (tag : BitVec 14) (s : State) : Host.Outcome State Fault Refusal :=
  volatile (completionTimeout h tag) s

/-- TAG_QUARANTINE_EXPIRY: four times the upper bound has passed: the tag may be used again. -/
def tagQuarantineExpiry (h : Head) (tag : BitVec 14) (s : State) : State :=
  match smFind? (s.head h).quar tag.toNat with
  | none => s
  | some (at_, _) =>
    if s.elapsed at_ (usT (4 * (s.cto h).2)) then s.modHead h fun x => { x with quar := smDel x.quar tag.toNat } else s

/-- TAG_QUARANTINE_EXPIRY (R108). -/
def execTagQuarantineExpiry (h : Head) (tag : BitVec 14) (s : State) : Host.Outcome State Fault Refusal :=
  volatile (tagQuarantineExpiry h tag) s

/-- HOST_COMPLETION: in time, it ends its request; on a quarantined tag it is discarded and counted; else it is unexpected. -/
def hostCompletion (h : Head) (tag : BitVec 14) (st : CplStatus) (s : State) : State :=
  if !s.linkReady h.val then s
  else
    let t := tag.toNat
    match smFind? (s.head h).tags t with
    | some (o, _) =>
      (s.modHead h fun x => { x with tags := smDel x.tags t }).dmaEnded o t (if st = .success then none else some 0)
    | none => match smFind? (s.head h).quar t with
      | some (_, why) =>
        let s := s.modHead h fun x => { x with quar := smDel x.quar t }
        if why = 0 then (s.finc HP_DROP.LATE_CPL h).count 0 6 { head := some h.val }
        else if why = 1 then (s.finc HP_DROP.BMEDROP h).count 0 6 { head := some h.val }
        else s.finc DRW_STAT.SQUASHED (why - 2)
      | none => s.aer h 16

/-- HOST_COMPLETION (R108). -/
def execHostCompletion (h : Head) (tag : BitVec 14) (st : CplStatus) (s : State) : Host.Outcome State Fault Refusal :=
  volatile (hostCompletion h tag st) s

/-! ## FLR, Bus Master Enable, MSI-X (R94, R105-R107) -/

/-- INITIATE_FLR: the function and its drawers are reset; configuration requests get CRS until a privileged drawer has drained. -/
def initiateFlr (h : Head) (s : State) : State :=
  if (s.head h).perst then s
  else
    let s := (s.clearFunction h).resetBound h false
    let s := s.modHead h fun x => { x with crs := !x.draining.isEmpty }
    if s.inl.retirer = some (.head h) then { s with inl := { s.inl with aborted := true } } else s

/-- INITIATE_FLR (R106). -/
def execInitiateFlr (h : Head) (s : State) : Host.Outcome State Fault Refusal :=
  volatile (access (.initiateFlr h) (.head h) (initiateFlr h)) s

/-- Bus Master Enable of a head is cleared. -/
def bmeClear (h : Head) (s : State) : State :=
  if !busMaster (s.head h) then s
  else (s.modHead h fun x => cfgPut x 0x004 (cfgGet x 0x004 &&& ~~~4#32)).bmeOff h

/-- BME_CLEAR (R105). -/
def execBmeClear (h : Head) (s : State) : Host.Outcome State Fault Refusal := volatile (access (.bmeClear h) (.head h) (bmeClear h)) s

/-- MSIX_UNMASK: a write of a table entry's mask; what waits on it goes. -/
def msixUnmask (h : Head) (v : Fin 2048) (s : State) : State :=
  if !memSpace (s.head h) then s
  else (s.modHead h fun x => { x with msix := smSet x.msix v { msixEntry x v with mask := false } }).sendPending h

/-- MSIX_UNMASK (R94). -/
def execMsixUnmask (h : Head) (v : Fin 2048) (s : State) : Host.Outcome State Fault Refusal :=
  volatile (access (.msixUnmask h v) (.head h) (msixUnmask h v)) s

/-! ## DOE (R97) -/

/-- DOE_ABORT: the instance is reset. -/
def doeAbort (h : Head) (s : State) : State := s.modHead h fun x => { x with doe := [] }

/-- DOE_ABORT (R97). -/
def execDoeAbort (h : Head) (s : State) : Host.Outcome State Fault Refusal := volatile (access (.doeAbort h) (.head h) (doeAbort h)) s

/-- DOE_DISCOVERY: vendor, object type and next index: Discovery, CMA/SPDM, Secured CMA/SPDM of PCI-SIG, Table Access of CXL. -/
def doeDiscovery (h : Head) (index : Byte) (s : State) : State :=
  s.emit (.doe h (match index.toNat with
    | 0 => [0x0001, 0, 1] | 1 => [0x0001, 1, 2] | 2 => [0x0001, 2, 3] | 3 => [0x1E98, 2, 0] | _ => [0xFFFF, 0, 0]))

/-- DOE_DISCOVERY (R97). -/
def execDoeDiscovery (h : Head) (index : Byte) (s : State) : Host.Outcome State Fault Refusal :=
  volatile (access (.doeDiscovery h index) (.head h) (doeDiscovery h index)) s

/-- CXL_TABLE_ACCESS: records of the CDAT; an object above 32 KiB is answered with the DOE error bit. -/
def cxlTableAccess (h : Head) (handle : BitVec 16) (lenBytes : Nat) (s : State) : State :=
  if 32768 < lenBytes then s.emit (.cfgErr h) else s.emit (.doe h (Config.cdat handle.toNat lenBytes))

/-- CXL_TABLE_ACCESS (R97). -/
def execCxlTableAccess (h : Head) (handle : BitVec 16) (lenBytes : Nat) (s : State) : Host.Outcome State Fault Refusal :=
  volatile (access (.cxlTableAccess h handle lenBytes) (.head h) (cxlTableAccess h handle lenBytes)) s

/-! ## The attention button (R100) -/

/-- ATTN_PRESS: a recognised press sets LATCH in every copy; vector 33 rises where ATTN_IE is set and LATCH was clear. -/
def attnPress (s : State) : State :=
  s.each (List.range 17) fun m s =>
    let was := s.fone MS_ATTN.LATCH m
    let s := s.fset MS_ATTN.LATCH m 1
    if !was && decide (m < 16) && s.fone MS_CTL.ATTN_IE m then s.signalHead 33 m else s

/-- ATTN_PRESS (R100). -/
def execAttnPress (s : State) : Host.Outcome State Fault Refusal := volatile attnPress s

end Sys2Proof.Machine
end

