-- ==== Sys2Proof/Machine/Ifc.lean ====
section
/-! DEFINITION. The inrush and fuse controller (15 R366-R379), and the controls of 04 R99 that drive it. -/

namespace Sys2Proof.Machine

open Sys2Proof

/-- Change the fuse controller. -/
def State.modIfc (s : State) (f : Ifc → Ifc) : State := { s with ifc := f s.ifc }

/-- A path that may write the PWR, IFC and WIT windows, which the Wellhead serves at once (15; 20 R458, R462). -/
def State.wellPath (s : State) : Path → Bool
  | .head h => s.linkReady h.val && s.headMgmt h.val
  | .sideband => true
  | .bench => s.benchUp && s.fget PWR_STATE.CUR == 0

/-! ## Trips (R371-R374) -/

/-- State of R369. -/
def State.ifcSt (s : State) : Nat := s.fget IFC_STATUS.STATE

/-- May the FET conduct: states 1, 2 and 3? -/
def State.ifcOn (s : State) : Bool := decide (1 ≤ s.ifcSt ∧ s.ifcSt ≤ 3)

/-- Is the charge phase in force? -/
def State.ifcCharge (s : State) : Bool := s.ifcSt == 1 && !s.fone IFC_STATUS.PHASE

/-- T_FET is at or above its limit. -/
def State.ifcHot (s : State) : Bool := s.ifcOn && decide ((s.fget IFC_TEMP.TFET_MAX : Int) ≤ s.ifc.tfet)

/-- A curve timer has reached its time. -/
def State.ifcCurve (s : State) : Bool :=
  s.ifcOn && !s.ifcCharge && (s.ifc.timers.zipIdx.any fun t => decide (4 * s.fget IFC_BP.TIME_US t.2 ≤ t.1))

/-- The ramp timer has expired in the charge phase. -/
def State.ifcRampOver (s : State) : Bool := s.ifcCharge && decide (msT (s.fget IFC_RAMP.TIMER_MS) ≤ s.ifc.ramp)

/-- VOUT has stood below PG_MV - 500 mV for 20 µs. -/
def State.ifcUnder (s : State) : Bool := decide (2 ≤ s.ifcSt ∧ s.ifcSt ≤ 3 ∧ usT 20 ≤ s.ifc.under)

/-- The highest cause of R372 that holds, besides FAST, which the comparator gives. -/
def State.ifcCause (s : State) : Option Nat :=
  if s.ifcHot then some 2 else if s.ifcCurve then some 3 else if s.ifcRampOver then some 4 else if s.ifcUnder then some 5 else none

/-- What first-error capture holds of an IFC event: the code, I and VOUT as `IFC_MEAS` packs them, and T_FET (R379). -/
def State.ifcCapture (s : State) (code : Nat) : Capture :=
  { syn := code, addr := s.fget IFC_MEAS.I * 65536 + s.fget IFC_MEAS.VOUT, aux := s.fget IFC_TEMP.TFET }

/-- A trip: the cause recorded, the Witness told, the gate off, state 4; one trip under the highest cause (R372, R374). -/
def State.ifcTrip (s : State) (code : Nat) (unit : Nat := 255) : State :=
  if !s.ifcOn then s
  else
    let c := match s.ifcCause with
      | some k => min k code
      | none => code
    let s := ((s.fset IFC_STATUS.CAUSE 0 c).finc IFC_TRIPS.TRIPS).report setIFC 1 { s.ifcCapture c with unit := unit }
    let s := (s.fset IFC_STATUS.PHASE 0 0).ifcTimers0.modIfc fun x => { x with offFrom := none }
    (s.ifcTo 4).railsOff

/-! ## Off and the start of a ramp (R369, R375, R376) -/

/-- In state 0: the ramp starts when `IFC_EN` is high, HOLD clear, P4 not in force and T_FET 20 °C below its limit; it waits with COOLING
set for the last. -/
def State.ifcSettle (s : State) : State :=
  if !s.ifc.armed ∨ s.ifcSt ≠ 0 then s
  else
    let want := s.ifc.en && !s.fone IFC_CTL.HOLD && !s.ifc.dry
    let cool := decide (s.ifc.tfet + 40 ≤ (s.fget IFC_TEMP.TFET_MAX : Int))
    let s := s.fbit IFC_STATUS.COOLING 0 (want && !cool)
    if want && cool then (s.fset IFC_STATUS.PHASE 0 0).ifcTimers0.ifcTo 1 else s

/-- The gate turns off without a trip, in states 1 to 3. -/
def State.ifcOff (s : State) : State := if s.ifcOn then s.gateOff.modIfc fun x => { x with offFrom := none } else s

/-- A rearm carried out: state 0, the fault REARM with its source (0 a toggle, 1 the REARM sequence), and then the first row of R369. -/
def State.ifcRearmed (s : State) (source : Nat) : State :=
  let s := (s.fset IFC_CTL.REARM 0 0).modIfc fun x => { x with rearmFrom := none }
  ((s.ifcTo 0).report setIFC 4 (s.ifcCapture source)).ifcSettle

/-! ## Samples and temperature (R366-R368) -/

/-- T_FET takes a value. -/
def State.ifcTemp (s : State) (t : Int) : State := (s.modIfc fun x => { x with tfet := t }).fset IFC_TEMP.TFET 0 (t % 65536).toNat

/-- Power in the FET, in W. -/
def fetWatts (x : IfcSample) : Rat := ((x.vinMv : Rat) - x.voutMv) * x.ma / 1000000

/-- One step of a stage's rise in kelvin: r in mK/W, c in µJ/K, 250 ns. -/
def stageStep (p dt : Rat) (r c : Nat) : Rat := dt + (p - dt * 1000 / r) / 4 / c

/-- One step of the thermal model. -/
def State.ifcModel (s : State) (x : IfcSample) : State :=
  let rise := s.ifc.rise.zipIdx.map fun e => stageStep (fetWatts x) e.1 (s.fget IFC_MODEL.R_MK_W e.2) (s.fget IFC_MODEL.C_UJ_K e.2)
  (s.modIfc fun y => { y with rise := rise }).ifcTemp (x.refHalfC + Rat.floor (2 * rise.sum))

/-- The registers of a sample. -/
def State.ifcSampled (s : State) (x : IfcSample) : State :=
  let s := (s.fset IFC_MEAS.I 0 (min 0xFFFF (x.ma / 10))).fset IFC_MEAS.VOUT 0 (min 0xFFFF x.voutMv)
  s.modIfc fun y => { y with vin := x.vinMv, ref := x.refHalfC }

/-- Curve timers after a step (R371). -/
def State.ifcTimersStep (s : State) (ma : Nat) : List Nat :=
  s.ifc.timers.zipIdx.map fun t => if s.fget IFC_BP.CURRENT_MA t.2 ≤ ma then t.1 + 1 else t.1 - 1

/-- The charge phase (R369, R370). -/
def State.ifcChargeStep (s : State) (x : IfcSample) : State :=
  if s.fget IFC_PGCFG.PG_MV ≤ x.voutMv then (s.fset IFC_STATUS.PHASE 0 1).ifcTimers0
  else s.modIfc fun y => { y with ramp := y.ramp + 1 }

/-- State 3 is entered, from state 2 or from qualify, whose count is abandoned (R369, R373). -/
def State.ifcFaultTimer (s : State) (fromOn : Bool) : State := (s.modIfc fun y => { y with fromOn := fromOn, qual := 0 }).ifcTo 3

/-- The end of a fault timer without a trip: class FAULT_TIMER, and back to ON or to qualify. -/
def State.ifcTimerOver (s : State) : State :=
  let s := ((s.finc IFC_TRIPS.TIMERS).count 10 5).report setIFC 2 (s.ifcCapture 0)
  if s.ifc.fromOn then s.ifcTo 2 else (s.fset IFC_STATUS.PHASE 0 1).ifcTo 1

/-- A step with the curve armed: qualify, state 2 or state 3. -/
def State.ifcArmedStep (s : State) (x : IfcSample) : State :=
  let low := decide (x.voutMv + 500 < s.fget IFC_PGCFG.PG_MV)
  let st := s.ifcSt
  let l := s.ifcTimersStep x.ma
  let s := s.modIfc fun y => { y with timers := l, under := if low && decide (2 ≤ st) then y.under + 1 else 0 }
  let idle := l.all (· == 0)
  if st = 3 then (if idle then s.ifcTimerOver else s)
  else if !idle then s.ifcFaultTimer (st == 2)
  else if st = 1 then s.modIfc fun y => { y with qual := if s.fget IFC_PGCFG.PG_MV ≤ x.voutMv then y.qual + 1 else 0 }
  else s

/-- IFC_SAMPLE_STEP: one WCLK step: the samples, the trip on a temperature reached before it, T_FET, and the state's step. -/
def ifcSampleStep (x : IfcSample) (s : State) : State :=
  let hot := s.ifcHot
  let s := s.ifcSampled x
  let s := if s.fone IFC_STATUS.MODEL then s.ifcModel x else s
  if !s.ifc.armed then s
  else if hot then s.ifcTrip 2
  else if s.ifcSt = 0 then s.ifcSettle
  else if s.ifcSt = 4 then s
  else if s.ifcCharge then s.ifcChargeStep x
  else s.ifcArmedStep x

/-- IFC_SAMPLE_STEP (R366). -/
def execIfcSampleStep (x : IfcSample) (s : State) : Host.Outcome State Fault Refusal := volatile (ifcSampleStep x) s

/-- The source of T_FET: the remote diode that BALLS group 0 declares, until it has failed. -/
def State.ifcSource (s : State) : State :=
  s.fbit IFC_STATUS.MODEL 0 (smGet s.cut.balls 0 0 != 1 || s.ifc.diodeDead)

/-- The diode is abandoned: the model starts from half of TFET_MAX with its stages sharing the rise equally (R368). -/
def State.diodeLost (s : State) : State :=
  let max := s.fget IFC_TEMP.TFET_MAX
  let share : Rat := ((max : Rat) / 2 - s.ifc.ref) / 2 / 3
  let s := (s.modIfc fun y => { y with diodeDead := true, rise := [share, share, share] }).ifcTemp (max / 2)
  (s.fset IFC_STATUS.MODEL 0 1).report setIFC 3 (s.ifcCapture 0)

/-- DIODE_MEASURE: a reading gives T_FET; three open or short readings in a row end the diode's use. -/
def diodeMeasure (halfC : Option Int) (s : State) : State :=
  if s.fone IFC_STATUS.MODEL then s
  else match halfC with
    | some t => (s.modIfc fun y => { y with diodeBad := 0 }).ifcTemp t
    | none =>
      let s := s.modIfc fun y => { y with diodeBad := y.diodeBad + 1 }
      if 3 ≤ s.ifc.diodeBad then s.diodeLost else s

/-- DIODE_MEASURE (R367). -/
def execDiodeMeasure (halfC : Option Int) (s : State) : Host.Outcome State Fault Refusal := volatile (diodeMeasure halfC) s

/-! ## Qualification and the trips as events -/

/-- PG_QUALIFIED: state 2 and `IFC_PG` high, unless a trip falls in the same step (R373). -/
def pgQualified (s : State) : State :=
  match s.ifcCause with
  | some c => s.ifcTrip c
  | none =>
    if s.ifcSt = 1 ∧ s.fone IFC_STATUS.PHASE ∧ s.ifc.timers.all (· == 0) ∧ usT (s.fmin IFC_PGCFG.PG_QUAL_US 1) ≤ s.ifc.qual then
      (s.fset IFC_STATUS.PHASE 0 0).ifcTo 2
    else s

/-- PG_QUALIFIED (R369). -/
def execPgQualified (s : State) : Host.Outcome State Fault Refusal := volatile pgQualified s

/-- CURVE_TRIP: a curve timer has reached its time. -/
def curveTrip (s : State) : State := if s.ifcCurve then s.ifcTrip 3 else s

/-- CURVE_TRIP (R371). -/
def execCurveTrip (s : State) : Host.Outcome State Fault Refusal := volatile curveTrip s

/-- RAMP_TIMER_EXPIRY: the ramp timer has run out in the charge phase. -/
def rampTimerExpiry (s : State) : State := if s.ifcRampOver then s.ifcTrip 4 else s

/-- RAMP_TIMER_EXPIRY (R370). -/
def execRampTimerExpiry (s : State) : Host.Outcome State Fault Refusal := volatile rampTimerExpiry s

/-- UNDERVOLT_TRIP: VOUT has been low for 20 µs. -/
def undervoltTrip (s : State) : State := if s.ifcUnder then s.ifcTrip 5 else s

/-- UNDERVOLT_TRIP (R372). -/
def execUndervoltTrip (s : State) : Host.Outcome State Fault Refusal := volatile undervoltTrip s

/-- FAST_TRIP: the comparator has seen I above ifast_ma. -/
def fastTrip (s : State) : State := s.ifcTrip 1

/-- FAST_TRIP (R372). -/
def execFastTrip (s : State) : Host.Outcome State Fault Refusal := volatile fastTrip s

/-! ## `IFC_EN`, rearm and HOLD (R369, R373-R376) -/

/-- IFC_EN_RISE: a toggle, low for at least 1 ms, clears HOLD and rearms state 4; the ramp then starts from state 0. -/
def ifcEnRise (s : State) : State :=
  if s.ifc.en then s
  else
    let toggled : Bool := match s.ifc.lowFrom with
      | some t => s.elapsed t (msT 1)
      | none => false
    let s := s.modIfc fun x => { x with en := true, lowFrom := none }
    let s := if toggled then s.fset IFC_CTL.HOLD 0 0 else s
    if toggled ∧ s.ifcSt = 4 then s.ifcRearmed 0 else s.ifcSettle

/-- IFC_EN_RISE (R369). -/
def execIfcEnRise (s : State) : Host.Outcome State Fault Refusal := volatile ifcEnRise s

/-- IFC_EN_FALL: the gate turns off without a trip, unless a trip falls in the same step; the low time counts from here. -/
def ifcEnFall (s : State) : State :=
  if !s.ifc.en then s
  else
    let s := match s.ifcCause with
      | some c => s.ifcTrip c
      | none => s
    (s.modIfc fun x => { x with en := false, lowFrom := some s.wclk }).ifcOff.ifcSettle

/-- IFC_EN_FALL (R369). -/
def execIfcEnFall (s : State) : Host.Outcome State Fault Refusal := volatile ifcEnFall s

/-- The REARM sequence is asked for: in state 4 the gate stays off for a further 1 ms. -/
def State.rearmAsk (s : State) : State :=
  if s.ifcSt = 4 ∧ s.ifc.rearmFrom.isNone then (s.fset IFC_CTL.REARM 0 1).modIfc fun x => { x with rearmFrom := some s.wclk } else s

/-- IFC_REARM: `IFC_CTL.REARM` written by a management head or the sideband; in another state than 4 it has no effect. -/
def ifcRearm (p : Path) (s : State) : State := if s.admin p ∧ s.wellPath p then s.rearmAsk else s

/-- IFC_REARM (R375). -/
def execIfcRearm (p : Path) (s : State) : Host.Outcome State Fault Refusal := volatile (ifcRearm p) s

/-- REARM_HOLD_END: the further 1 ms of a REARM sequence is over. -/
def rearmHoldEnd (s : State) : State :=
  match s.ifc.rearmFrom with
  | some t => if s.ifcSt = 4 ∧ s.elapsed t (msT 1) then s.ifcRearmed 1 else s
  | none => s

/-- REARM_HOLD_END (R375). -/
def execRearmHoldEnd (s : State) : Host.Outcome State Fault Refusal := volatile rearmHoldEnd s

/-- HOLD takes a value: set, the gate turns off without a trip; clear, the ramp may start again. -/
def State.holdSet (s : State) (on : Bool) : State :=
  let s := s.fbit IFC_CTL.HOLD 0 on
  if on then s.ifcOff.ifcSettle else (s.modIfc fun x => { x with offFrom := none }).ifcSettle

/-- IFC_HOLD: `IFC_CTL.HOLD` written by a management path. -/
def ifcHold (p : Path) (on : Bool) (s : State) : State := if s.wellPath p then s.holdSet on else s

/-- IFC_HOLD (R376). -/
def execIfcHold (p : Path) (on : Bool) (s : State) : Host.Outcome State Fault Refusal := volatile (ifcHold p on) s

/-- `MS_POWER.CMD` = 1: HOLD is set, and the gate turns off 1 ms later (04 R99). -/
def State.gateOffAsk (s : State) : State :=
  let s := s.fset IFC_CTL.HOLD 0 1
  if s.ifcOn then (if s.ifc.offFrom.isNone then s.modIfc fun x => { x with offFrom := some s.wclk } else s) else s.ifcSettle

/-- The 1 ms after `MS_POWER.CMD` = 1, as time passes. -/
def State.gateOffTick (s : State) : State :=
  match s.ifc.offFrom with
  | some t => if s.elapsed t (msT 1) then s.ifcOff else s
  | none => s

/-- MS_POWER_GATE_OFF: a management head or the sideband. -/
def msPowerGateOff (p : Path) (s : State) : State := if s.admin p then s.gateOffAsk else s

/-- MS_POWER_GATE_OFF (04 R99). -/
def execMsPowerGateOff (p : Path) (s : State) : Host.Outcome State Fault Refusal :=
  volatile (access (.msPowerGateOff p) p (msPowerGateOff p)) s

/-- MS_POWER_REARM: acts only in state 4, where only the sideband is left to write it; not in P4. -/
def msPowerRearm (p : Path) (s : State) : State :=
  if !s.admin p ∨ !s.wellPath p then s else if s.fget PWR_STATE.CUR = 4 then s.emit (.reply p .unsupported []) else s.rearmAsk

/-- MS_POWER_REARM (04 R99). -/
def execMsPowerRearm (p : Path) (s : State) : Host.Outcome State Fault Refusal := volatile (msPowerRearm p) s

end Sys2Proof.Machine
end

