-- ==== Sys2Proof/Machine/Boot.lean ====
section
/-! DEFINITION. Start-up (03 R76-R80), the resets that begin it (03 R71-R75), the firmware (17 R405-R410; 20 R465), and the main rails
(19 R441). -/

namespace Sys2Proof.Machine

open Sys2Proof

/-- Change the start-up state. -/
def State.modBoot (s : State) (f : Boot → Boot) : State := { s with boot := f s.boot }

/-- Start-up has completed a step. -/
def State.stepTo (s : State) (n : Nat) : State := s.modBoot fun x => { x with step := n }

/-! ## The Wellhead's own start (R76 steps 1-3) -/

/-- Steps 1 to 3: the timestamp runs, the IFC is armed with the fuse curve, the Witness engine finds the end of its log. -/
def State.wellStart (s : State) : State := (((s.stepTo 3).modIfc fun x => { x with armed := true }).witSearch).ifcSettle

/-- V3P3_AUX_GOOD: the Wellhead starts; after an input loss without a reset the engine goes on (16 R398). -/
def v3p3AuxGood (s : State) : State := if s.boot.step = 0 then s.wellStart else s.fset WIT_STATUS.COMMIT 0 0

/-- V3P3_AUX_GOOD (03 R76). -/
def execV3p3AuxGood (s : State) : Host.Outcome State Fault Refusal := volatile v3p3AuxGood s

/-- What Wellhead power-on reset leaves: fuses, flash, the log, the levels on the pins and the model's own counters (R72). -/
def State.wellReset (s : State) : State :=
  let s := s.wipeKeys
  { pending := s.pending, out := s.out, free := s.free, dramLoss := s.dramLoss + 1, nv := s.nv
    inl := s.inl
    heads := smMap s.heads fun _ x => { perst := x.perst, waking := !x.perst }
    ifc := { en := s.ifc.en }
    wit := { flash := s.wit.flash, fitted := s.wit.fitted } }

/-- WELLHEAD_POWER_ON_RESET: an input-loss commit ends first (19 R443); then everything is reset and the Wellhead starts. -/
def wellheadPowerOnReset (s : State) : State :=
  (if s.fone WIT_STATUS.COMMIT then s.witCommit else s).wellReset.wellStart

/-- WELLHEAD_POWER_ON_RESET (03 R71; 16 R395). -/
def execWellheadPowerOnReset (s : State) : Host.Outcome State Fault Refusal := volatile wellheadPowerOnReset s

/-! ## Rails and the core PLL (R76 steps 5-7; 19 R441) -/

/-- `IFC_PG` is high. -/
def State.ifcPg (s : State) : Bool := s.fone IFC_STATUS.PG

/-- Step 6: AVSBus sets the boot voltages, `VDD_SRAM` first (19 R442). -/
def State.bootVolts (s : State) : State := (s.avsSet 1 850).avsSet 0 750 |>.stepTo 6

/-- The rails have come back after a loss: a cold reset with source 3. -/
def State.railsBack (s : State) : State := (s.coldReset 3 0 6).bootVolts

/-- RAILS_GOOD: every board rail is good after `IFC_PG`. -/
def railsGood (s : State) : State :=
  if s.boot.step ≠ 3 ∨ !s.ifcPg then s else if s.boot.railsLost then s.railsBack else s.bootVolts

/-- RAILS_GOOD (03 R76). -/
def execRailsGood (s : State) : Host.Outcome State Fault Refusal := volatile railsGood s

/-- RAIL_NOT_GOOD: a rail is not good at step 5: a trip with cause RAIL. -/
def railNotGood (rail : Fin 5) (s : State) : State := if s.boot.step = 3 ∧ s.ifcSt = 2 then s.ifcTrip 6 rail.val else s

/-- RAIL_NOT_GOOD (03 R79). -/
def execRailNotGood (rail : Fin 5) (s : State) : Host.Outcome State Fault Refusal := volatile (railNotGood rail) s

/-- MAIN_RAIL_LOSS: a main rail below its good threshold for 10 µs while the gate is on. -/
def mainRailLoss (_rail : Fin 5) (s : State) : State := if 6 ≤ s.boot.step ∧ s.ifcPg ∧ !s.ifc.dry then s.railsOff else s

/-- MAIN_RAIL_LOSS (19 R441). -/
def execMainRailLoss (rail : Fin 5) (s : State) : Host.Outcome State Fault Refusal := volatile (mainRailLoss rail) s

/-- MAIN_RAIL_RETURN: every rail is above its threshold again. -/
def mainRailReturn (s : State) : State := if s.boot.railsLost ∧ s.ifcPg then s.railsBack else s

/-- MAIN_RAIL_RETURN (19 R441). -/
def execMainRailReturn (s : State) : Host.Outcome State Fault Refusal := volatile mainRailReturn s

/-- CORE_PLL_LOCK: step 7: CCLK at 1.0 GHz; TB counts from 0. -/
def corePllLock (s : State) : State :=
  if s.boot.step ≠ 6 then s
  else ((s.fset CLK_STATUS.CORE_PLL 0 1).fset CLK_STATUS.REFCLK_OK 0 1).modBoot fun x => { x with step := 7, cclkMhz := 1000 }

/-- CORE_PLL_LOCK (03 R76). -/
def execCorePllLock (s : State) : Host.Outcome State Fault Refusal := volatile corePllLock s

/-- REFCLK_ABSENT: no `REFCLK0` for 10 ms at step 7: a trip with cause REFCLK. -/
def refclkAbsent (s : State) : State := if s.boot.step = 6 ∧ s.ifcSt = 2 then s.ifcTrip 7 else s

/-- REFCLK_ABSENT (03 R79). -/
def execRefclkAbsent (s : State) : Host.Outcome State Fault Refusal := volatile refclkAbsent s

/-! ## Firmware (17 R408-R410) -/

/-- Firmware slot 0 A or 1 B. -/
def fwSlotImg (n : NonVol) (i : Nat) : List Byte := if i = 0 then n.fwA else n.fwB

/-- Is the one section of a firmware image as R410 asks: type 0x0200, with a body header of R38? -/
def fwSections (l : List Sect) : Option CutFail :=
  (failIf (l.any fun s => s.typ != 0x200) 0xB ((l.find? fun s => s.typ != 0x200).map (·.idx) |>.getD 255)).or <|
  (failIf l.isEmpty 0xC).or <|
  firstFail (l.map fun s =>
    failIf (decide (s.len < 8) || leAt s.body 4 2 != s.typ || s.len != 8 + leAt s.body 0 2 * leAt s.body 2 2) 0xD s.idx)

/-- Reserved fields of a firmware image. -/
def fwRanges (b : List Byte) (l : List Sect) : Option CutFail :=
  failIf (decide (255 < leAt b 0x0C 4) || decide (31 < leAt b 0x13 1) || leAt b 0x16 2 != 0 || leAt b 0x28 20 != 0 ||
    l.any fun s => s.rsvd != 0 || leAt s.body 6 2 != 0) 0xE

/-- The checks of a firmware image: those of R44 that its layout has (R410). -/
def checkFirmware (n : NonVol) (b : List Byte) : Option CutFail :=
  (checkHeader .firmware b).or <| (checkSig b).or <| (checkOrigin n .firmware n.fwFused b).or <|
  let l := imgSects b
  (checkTable b l).or <| (checkCrcs l).or <| (fwSections l).or (fwRanges b l)

/-- A firmware slot runs. -/
def State.fwRun (s : State) (i : Nat) : State :=
  (s.modBoot fun x => { x with fwUp := true, fwSlot := i }).fset SEC_LC.FW_IMAGE 0 (leAt (fwSlotImg s.nv i) 0x0C 4)

/-- The ROM tries the firmware slots in an order (R410): FW_SLOT when one fails, FW_NONE when both do. -/
def State.fwLoad (s : State) (order : List Nat) : State :=
  let a := order.headD 0
  let b := 1 - a
  if (checkFirmware s.nv (fwSlotImg s.nv a)).isNone then s.fwRun a
  else if (checkFirmware s.nv (fwSlotImg s.nv b)).isNone then (s.fwRun b).report setSEC 4 { syn := a }
  else (s.modBoot fun x => { x with fwUp := false }).report setSEC 5 { syn := 2 }

/-- The ROM's choice at a cold reset. -/
def State.fwBoot (s : State) : State :=
  s.fwLoad (slotOrder (fun i => (checkHeader .firmware (fwSlotImg s.nv i)).isNone) (fwSlotImg s.nv))

/-- The lifecycle fuses as read at a cold reset: one copy that disagrees is reported (R405). -/
def State.fuseCheck (s : State) : State :=
  let odd (b : BitVec 3) : Bool := b != 0 && b != 7
  let bad := [odd s.nv.fM, odd s.nv.fD, odd s.nv.fP, odd s.nv.fT, odd s.nv.fX]
  s.each (bad.zipIdx.filter (·.1)) fun e s => s.report setSEC 6 { syn := e.2 }

/-- The enrolled owner slots as bits. -/
def enrolledBits (n : NonVol) : Nat := ((List.range 4).map fun i => if ownerIn n (i + 1) then 1 <<< i else 0).sum

/-- Measurement block 5, which a cold reset takes (R412). -/
def State.measureFuses (s : State) : State :=
  { s with sec := { s.sec with raw5 := [lifecycle s.nv, s.nv.cutFused, s.nv.fwFused, enrolledBits s.nv, s.nv.revoked.toNat] } }

/-- The identity certificate is compared with the derived key (R408, R409). -/
def State.identity (s : State) : State := if s.nv.idCert ∧ s.nv.secretOk then s else s.report setSEC 7 {}

/-! ## Boot load (02 R47; 03 R76 steps 8-10; 04 R88) -/

/-- The subsystem IDs of a valid board record (04 R88). -/
def boardIds (r : List Byte) : Option (Nat × Nat) :=
  if r.length = 32 ∧ leAt r 0 4 = 0x4452424B ∧ leAt r 4 2 = 1 ∧ leAt r 6 2 = 32 ∧ leAt r 0x0C 16 = 0 ∧
      leAt r 0x1C 4 = crc32c (r.take 0x1C) then some (leAt r 8 2, leAt r 0xA 2)
  else none

/-- Every head takes the subsystem IDs. -/
def State.boardLoad (s : State) : State :=
  let ids := (boardIds s.nv.board).getD (0x1F6E, 0)
  s.each (List.range 16) fun h s => s.modHead h fun x => { x with subsys := ids }

/-- The Cut List is loaded, or the fallback structure where no firmware runs. -/
def State.cutChoice (s : State) : State := if s.boot.fwUp then cutBoot s else loadFallback s

/-- The modules' rows and heights, as SPD gives them. -/
def State.spdFit (s : State) (fit : List (Nat × Nat)) : State :=
  s.each (fit.take 12).zipIdx fun e s => (s.modChan e.2 fun x => { x with rows := e.1.1 }).fset DMC_CFG.HEIGHT e.2 e.1.2

/-- Has an image been loaded, and not the fallback structure? -/
def State.cutLoaded (s : State) : Bool := s.fget CUT_STATUS.SOURCE != 3

/-- Step 9: the operating voltages, then the PLLs at full rate; in the fallback structure the boot values stand. -/
def State.fullRate (s : State) : State :=
  let mv (rail : Nat) : Nat := (smGet s.cut.oppoint rail (0, 0, 0)).1
  let ports := ((List.range 4).map fun p => if s.fget HP_CFG.HEAD_EN p = 0 then 0 else 1 <<< p).sum
  let s := (s.fset CLK_STATUS.HP_PLL 0 ports).fset CLK_STATUS.REFCLK_OK 0 (ports ||| 1)
  if !s.cutLoaded then s
  else
    let groups := ((List.range 3).map fun g =>
      if (List.range 4).any fun k => s.fget DMC_CFG.SLOTS (4 * g + k) != 0 then 1 <<< g else 0).sum
    let s := ((s.avsSet 1 (mv 1)).avsSet 0 (mv 0)).modBoot fun x => { x with cclkMhz := 2000 }
    ((s.fset CLK_STATUS.PCLK_PLL 0 1).fset CLK_STATUS.MCLK_PLL 0 groups).fset CLK_STATUS.SPN_PLL 0
      (if s.fget SPN_CFG.ROLE = 0 then 0 else s.fget SPN_CFG.PORT_EN)

/-- The Span starts with a new incarnation and its proposed ID (13 R329, R340). -/
def State.spanBoot (s : State) : State :=
  let s := (s.fset SPN_INCARN.INCARN 0 (s.freeVal 32).toNat).freeTaken
  if s.fget SPN_CFG.ROLE = 0 then s
  else
    let s := (s.fset SPN_NODE.STATE 0 1).fset SPN_NODE.ID 0 (s.fget SPN_CFG.NODE_ID)
    { s with spn := { s.spn with claimFrom := some (s.wclk + msT 500) } }

/-- The Witness flash as BALLS declares it (16 R397, R404; 19 R445). -/
def State.witDeclare (s : State) : State :=
  if !s.cutLoaded then s
  else
    let declared := smGet s.cut.balls 1 0 == 1
    let s := s.fbit WIT_STATUS.PRESENT 0 (declared && s.wit.fitted)
    if declared && !s.wit.fitted then s.report setWIT 4 { addr := s.fget WIT_HEAD.SLOT } else s

/-- Step 10: the structure is applied; populated channels train. -/
def State.applyStructure (s : State) : State :=
  let s := s.each ((List.range 12).filter fun c => s.fget DMC_CFG.SLOTS c != 0) fun c s => s.fset DMC_STATUS.STATE c 1
  s.spanBoot.xmode.unitsFresh.ifcSource.witDeclare.stepTo 10

/-- BOOT_LOAD_COMPLETE: steps 8 to 10. -/
def bootLoadComplete (fit : List (Nat × Nat)) (s : State) : State :=
  if s.boot.step ≠ 7 then s
  else (s.fuseCheck.measureFuses.fwBoot.identity.boardLoad.spdFit fit).cutChoice.fullRate.applyStructure

/-- BOOT_LOAD_COMPLETE (02 R47). -/
def execBootLoadComplete (fit : List (Nat × Nat)) (s : State) : Host.Outcome State Fault Refusal := volatile (bootLoadComplete fit) s

/-- METADATA_INIT_COMPLETE: training over and the metadata area initialised: memory active to every head (steps 11-13). -/
def metadataInitComplete (s : State) : State :=
  if s.boot.step ≠ 10 ∨ !(s.chansIn 1).isEmpty then s
  else (s.each s.headsOn fun h s => s.modHead h fun x => { x with memActive := true }).stepTo 13

/-- METADATA_INIT_COMPLETE (03 R76). -/
def execMetadataInitComplete (s : State) : Host.Outcome State Fault Refusal := volatile metadataInitComplete s

/-! ## Warm reset (R71, R73, R74) -/

/-- WARM_RESET: from a management head or the sideband; Busy during a live application; one under way absorbs another. -/
def warmReset (p : Path) (s : State) : State :=
  s.adminCmd p fun s =>
    if s.fone CUT_STATUS.BUSY then s.reply p .busy
    else
      let s := s.reply p .success
      if s.pwr.warmWait.isSome then s else (s.modPwr fun x => { x with warmWait := some p }).warmStep

/-- WARM_RESET (03 R73). -/
def execWarmReset (p : Path) (s : State) : Host.Outcome State Fault Refusal := volatile (access (.warmReset p) p (warmReset p)) s

/-! ## Firmware restart (20 R465) -/

/-- FIRMWARE_WATCHDOG: the firmware has not serviced its watchdog and is restarted. -/
def firmwareWatchdog (s : State) : State :=
  if !s.boot.fwUp ∨ s.boot.fwRestart then s else (s.modBoot fun x => { x with fwRestart := true }).report setBEN 3 {}

/-- FIRMWARE_WATCHDOG (20 R465). -/
def execFirmwareWatchdog (s : State) : Host.Outcome State Fault Refusal := volatile firmwareWatchdog s

/-- FIRMWARE_RESTART_END: the running slot has been reloaded under R410; background commands resume. -/
def firmwareRestartEnd (s : State) : State :=
  if !s.boot.fwRestart then s else (s.modBoot fun x => { x with fwRestart := false }).fwLoad [s.boot.fwSlot]

/-- FIRMWARE_RESTART_END (20 R465). -/
def execFirmwareRestartEnd (s : State) : Host.Outcome State Fault Refusal := volatile firmwareRestartEnd s

end Sys2Proof.Machine
end

