-- ==== Sys2Proof/Machine/CutCmds.lean ====
section
/-! DEFINITION. The Cut List and board commands (02 R49-R57; 04 R88). -/

namespace Sys2Proof.Machine

open Sys2Proof

/-- Path code and head of `CUT_REJECT` (R57). -/
def rejectPath : Path → Nat × Nat
  | .head h => (1, h.val)
  | .sideband => (2, 0)
  | .bench => (3, 0)

/-- A command's image is refused: `CUT_REJECT`, class REJECT and the answer (R44, R57). -/
def State.refuseImage (s : State) (p : Path) (f : CutFail) (slot : Nat) : State :=
  (s.keepNv fun s =>
    let s := s.cutReject (rejectPath p).1 (rejectPath p).2 f
    s.report setCUT 1 { syn := s.rejectWord, unit := slot }).reply p (if f.code = 0x12 then .busy else .invalidInput)

/-- A command refused with a code of R44 without an image. -/
def State.refuseCode (s : State) (p : Path) (code : Nat) : State :=
  (s.keepNv fun s => s.cutReject (rejectPath p).1 (rejectPath p).2 ⟨code, 255, 1023⟩).reply p .invalidInput

/-- A cold reset with the rails up: start-up goes on from step 6 (R50; 03 R71). -/
def State.recut (s : State) (source : Nat) (p : Path) : State := (s.coldReset source (pathHead p) 6).bootVolts

/-- CUT_STREAM: a full image that passes governs from the re-cut that follows until the next cold reset. -/
def cutStream (p : Path) (image : List Byte) (s : State) : State :=
  s.adminCmd p fun s =>
    match checkImage s .stream image with
    | some f => s.refuseImage p f 255
    | none => (({ s with cut := { s.cut with streamed := some image } }).reply p .success).recut 2 p

/-- CUT_STREAM (R49). -/
def execCutStream (p : Path) (image : List Byte) (s : State) : Host.Outcome State Fault Refusal :=
  volatile (access (.cutStream p image) p (cutStream p image)) s

/-- The live chain after an image (17 R412): SHA-384 of the previous value and the image's digest. -/
def chainNext (old : BitVec 384) (image : List Byte) : BitVec 384 :=
  Config.sha384 (leBytes 48 old.toNat ++ leBytes 48 (Config.sha384 image).toNat)

/-- The one commit of a live application (R54). -/
def State.applyLive (s : State) (image : List Byte) : State :=
  let s := loadLive (imgSects image) s
  let s := s.each (List.range s.drw.maxDrawers) fun d s => s.ringsShrink d
  let s := (s.fset CUT_LIVE_TS.TIME 0 s.tb).finc CUT_STATUS.PATCHES
  { s with sec := { s.sec with chain := chainNext s.sec.chain image } }.weirRecompute

/-- CUT_APPLY_LIVE: every live section of the image is applied at one commit, or none. -/
def cutApplyLive (p : Path) (image : List Byte) (s : State) : State :=
  s.adminCmd p fun s =>
    match checkImage s .live image with
    | some f => s.refuseImage p f 255
    | none => (s.applyLive image).reply p .success

/-- CUT_APPLY_LIVE (R53). -/
def execCutApplyLive (p : Path) (image : List Byte) (s : State) : Host.Outcome State Fault Refusal :=
  volatile (access (.cutApplyLive p image) p (cutApplyLive p image)) s

/-- The slot that a write goes to: the one not loaded, or the one named when none was. -/
def writeSlot (source : Nat) (named : Bool) : Bool := if source = 0 then true else if source = 1 then false else named

/-- What a slot holds after a write: the image, or one that fails check 0x02 (R51). -/
def slotAfter (image : List Byte) (ok : Bool) : List Byte := if ok then image else image.take 64

/-- Write a Cut List slot: 0 A, 1 B. -/
def State.putCutSlot (s : State) (b : Bool) (image : List Byte) : State :=
  { s with nv := if b then { s.nv with cutB := image } else { s.nv with cutA := image } }

/-- CUT_WRITE_SLOT: never the slot that was loaded. -/
def cutWriteSlot (p : Path) (image : List Byte) (slotB flashOk : Bool) (s : State) : State :=
  s.adminCmd p fun s =>
    let b := writeSlot (s.fget CUT_STATUS.SOURCE) slotB
    match checkImage s .slot image with
    | some f => s.refuseImage p f b.toNat
    | none =>
      let s := s.putCutSlot b (slotAfter image flashOk)
      if flashOk then s.reply p .success else (s.keepNv fun s => s.report setCUT 4 { unit := b.toNat }).reply p .internalError

/-- CUT_WRITE_SLOT (R51). -/
def execCutWriteSlot (p : Path) (image : List Byte) (slotB flashOk : Bool) (s : State) : Host.Outcome State Fault Refusal :=
  lasting (access (.cutWriteSlot p image slotB flashOk) p (cutWriteSlot p image slotB flashOk)) s

/-- CUT_ADVANCE: the fused counter rises to the loaded image's ROLLBACK, when that image came from flash. -/
def cutAdvance (p : Path) (s : State) : State :=
  s.adminCmd p fun s =>
    if 2 ≤ s.fget CUT_STATUS.SOURCE then s.refuseCode p 7
    else { s with nv := { s.nv with cutFused := max s.nv.cutFused (s.fget CUT_VERSION.IMAGE) } }.reply p .success

/-- CUT_ADVANCE (R52). -/
def execCutAdvance (p : Path) (s : State) : Host.Outcome State Fault Refusal := lasting (access (.cutAdvance p) p (cutAdvance p)) s

/-- CUT_RECUT: a cold reset that reloads by R47. -/
def cutRecut (p : Path) (s : State) : State := s.adminCmd p fun s => (s.reply p .success).recut 1 p

/-- CUT_RECUT (R50). -/
def execCutRecut (p : Path) (s : State) : Host.Outcome State Fault Refusal := volatile (access (.cutRecut p) p (cutRecut p)) s

/-- CUT_READ: the loaded image, without live patches. -/
def cutRead (p : Path) (s : State) : State := s.adminCmd p fun s => s.reply p .success (s.cut.image.map (·.toNat))

/-- CUT_READ (R50). -/
def execCutRead (p : Path) (s : State) : Host.Outcome State Fault Refusal := volatile (access (.cutRead p) p (cutRead p)) s

/-- BOARD_WRITE: a valid record is written in BLANK, MANUFACTURE and DEVELOP. -/
def boardWrite (p : Path) (record : List Byte) (s : State) : State :=
  s.adminCmd p fun s =>
    if 2 < lifecycle s.nv then s.reply p .unsupported
    else if (boardIds record).isNone then s.reply p .invalidInput
    else { s with nv := { s.nv with board := record } }.reply p .success

/-- BOARD_WRITE (04 R88). -/
def execBoardWrite (p : Path) (record : List Byte) (s : State) : Host.Outcome State Fault Refusal :=
  lasting (access (.boardWrite p record) p (boardWrite p record)) s

end Sys2Proof.Machine
end

