-- ==== Sys2Proof/Machine/Dram.lean ====
section
/-! DEFINITION. What keeps the DRAM alive (07 R162, R171-R178, R186-R190): training, thermal readings, calibration, patrol
scrub, alerts, sparing, self-test and repair. -/

namespace Sys2Proof.Machine

open Sys2Proof

/-! ## Channel states (R190) -/

/-- Requests of a failed channel: reads answer poison, writes are gone with their completion given or now given (R190). -/
def State.failRequests (s : State) (c : Nat) : State :=
  let mine := s.coh.txns.filter fun e =>
    (e.2.phase == .credit || e.2.phase == .dmcq || e.2.phase == .issued) && ((e.2.mpa.bind s.placeOf).map (·.chan)) == some c
  let s := s.each mine fun e s =>
    if e.2.kind = .read then
      match e.2.job with
      | some j => (s.modJob j fun k => { k with ready := true, bad := true }).phase e.1 .press
      | none => s.finishRead e.1 0 true
    else if e.2.phase = .credit then s.finishWrite e.1 false
    else s.dropTxn e.1
  let s := s.modChan c fun x => { x with rq := [], wq := [], inflight := [] }
  s.each (List.range 8) fun k s => s.fset WEIR_OUT.NOW (c * 8 + k) 0

/-- The part of a node's grant that its runs do not use, in whole GiB (13 R339). -/
def State.grantIdle (s : State) (node granted : Nat) : Nat :=
  granted - (((s.spn.runs.filter fun e => e.2.1.toNat == node).map (·.2.2)).sum + 4194303) / 4194304

/-- A donor takes back what its runs do not use of one node's grant. -/
def State.withdrawFrom (s : State) (node granted : Nat) : State :=
  let g := s.grantIdle node granted
  if g = 0 then s
  else
    let s := s.sendSpan node 0x36 (spanMsg s 0 0 0 0 g)
    { s with spn := { s.spn with grantsOut := smPut s.spn.grantsOut node 0 (granted - g) } }.fset SPN_GRANT.OUT 0
      (s.fget SPN_GRANT.OUT - g)

/-- The donor pool loses the frames of a failed channel's set: the unallocated part of the grants is withdrawn, in ascending order of
nodes; no allocated run is disturbed (13 R339). -/
def State.donorLoss (s : State) (c : Nat) : State :=
  let gone (p : Pool) : Bool := p.kind == 2 && s.fbitAt DEC_SET.CHANNELS p.set c && decide (0 < p.count)
  if !s.slc.pools.any gone then s
  else
    let s := { s with slc := { s.slc with pools := s.slc.pools.filter fun p => !gone p } }
    (s.each s.spn.grantsOut fun e s => s.withdrawFrom e.1 e.2).floodSelf

/-- A channel enters FAILED (R190), with class TRAIN or CA_FAIL. -/
def State.failChan (s : State) (c code : Nat) : State :=
  let s := (s.fset DMC_STATUS.STATE c 4).report (setDMC c) code { unit := c }
  (s.failRequests c).weirRecompute.donorLoss c

/-- Physical ranks mapped in service, as `DMC_STATUS.INSVC` shows them. -/
def State.insvc (s : State) (c : Nat) : Nat := ((List.range 4).map fun r => if s.rankMapped c r then 1 <<< r else 0).sum

/-- DRAM_TRAINING_COMPLETE (R174, R190): the modules match the Cut List and training passes, or the channel fails. -/
def dramTrainingComplete (ch : Chan) (trained : Bool) (spd : Spd) (s : State) : State :=
  let c := ch.val
  if s.fget DMC_STATUS.STATE c != 1 then s
  else if !trained || !spd.matchesCut then s.failChan c 7
  else
    let s := (((s.fset DMC_STATUS.STATE c 2).fset DMC_STATUS.INSVC c (s.insvc c)).fbit DMC_RH.RFM c spd.rfm).fbit DMC_RH.DRFM c spd.drfm
    (s.fset DMC_STATUS.RETRAIN c 0).modChan c fun x => { x with trained := 2, raaimt := if spd.rfm then spd.raaimt else 0 }

/-- DRAM_TRAINING_COMPLETE. -/
def execDramTrainingComplete (ch : Chan) (trained : Bool) (spd : Spd) (s : State) : Host.Outcome State Fault Refusal :=
  volatile (dramTrainingComplete ch trained spd) s

/-- ALERT_REPLAY (R190): each replay counts once; one that clears the alert raises CA_RETRY; eight that fail take the channel to
FAILED. -/
def alertReplay (ch : Chan) (kind : AlertKind) (replays : Fin 9) (cleared : Bool) (s : State) : State :=
  let c := ch.val
  if s.fget DMC_STATUS.STATE c != 2 then s
  else
    let lost := decide (8 ≤ replays.val)
    let n := if lost then 8 else replays.val + cleared.toNat
    let s := match kind with
      | .caParity => s.fadd DMC_CAERR.CA c n
      | .writeCrc => s.fadd DMC_CAERR.WCRC c n
    if lost then s.failChan c 6
    else if cleared then s.report (setDMC c) 5 { unit := c } else s

/-- ALERT_REPLAY. -/
def execAlertReplay (ch : Chan) (kind : AlertKind) (replays : Fin 9) (cleared : Bool) (s : State) :
    Host.Outcome State Fault Refusal := volatile (alertReplay ch kind replays cleared) s

/-! ## Thermal readings (R172) -/

/-- Report a change of the refresh rate (R172): Weir's capacity, `DMC_STATUS.REF2X`, and a Memory Module event record to every
head; the fault that doubles the rate carries its own record. -/
def State.rateChange (s : State) (c : Nat) (before : Bool) (ownRecord : Bool) : State :=
  let now := s.doubled c
  let s := s.fbit DMC_STATUS.REF2X c now
  if now = before then s
  else
    let s := if ownRecord then s.each s.headsOn fun h s => s.logEvent h 0 { kind := 2, set := setDMC c, cls := 0 } else s
    s.weirRecompute

/-- Signed quarter degrees of a sensor reading. -/
def quarterC (r : BitVec 16) : Int := r.toInt

/-- SPD_THERMAL_READ: the hubs of the slots in use. -/
def spdThermalRead (ch : Chan) (slot0 slot1 : Option (BitVec 16)) (s : State) : State :=
  let c := ch.val
  let slots := s.fget DMC_CFG.SLOTS c
  let before := s.doubled c
  let fails (n : Nat) (bitNo : Nat) (r : Option (BitVec 16)) : Nat :=
    if !slots.testBit bitNo then 0 else if r.isSome then 0 else n + 1
  let f := (s.chan c).sensorFails
  let f' : Nat × Nat := (fails f.1 0 slot0, fails f.2 1 slot1)
  let s := (s.fset DMC_TEMP.SLOT0 c (slot0.getD 0x8000#16).toNat).fset DMC_TEMP.SLOT1 c (slot1.getD 0x8000#16).toNat
  let reads := (if slots.testBit 0 then slot0.toList else []) ++ (if slots.testBit 1 then slot1.toList else [])
  let hotT := s.fget DMC_REFCTL.HOT_T c
  let coolT := if s.fget DMC_REFCTL.COOL_T c < hotT then s.fget DMC_REFCTL.COOL_T c else hotT - 1
  let wasHot := (s.chan c).hot
  let hot := if reads.any fun r => decide ((4 * hotT : Int) < quarterC r) then true
    else if !reads.isEmpty && reads.all fun r => decide (quarterC r < (4 * coolT : Int)) then false
    else wasHot
  let blind := decide (3 ≤ f'.1 ∨ 3 ≤ f'.2)
  let s := s.modChan c fun x => { x with sensorFails := f', hot := hot, blind := blind }
  let s := if f'.1 = 3 ∨ f'.2 = 3 then s.report (setDMC c) 9 { unit := c } else s
  let s := if hot && !wasHot then s.report (setDMC c) 10 { unit := c } else s
  s.rateChange c before (!s.doubled c)

/-- SPD_THERMAL_READ. -/
def execSpdThermalRead (ch : Chan) (slot0 slot1 : Option (BitVec 16)) (s : State) : Host.Outcome State Fault Refusal :=
  volatile (spdThermalRead ch slot0 slot1) s

/-! ## Calibration (R175-R176) -/

/-- A calibration step's stall beyond tRFC: at most 400 ns, the longest kept in MAXSTALL (R175). -/
def State.stall (s : State) (c n : Nat) : State := s.fpeak DMC_CAL.MAXSTALL c (min 40 n)

/-- RECAL clears when the last rank has had both steps (R176). -/
def State.recalDone (s : State) (c : Nat) : State :=
  if (s.chan c).recalDqs.isEmpty ∧ (s.chan c).recalZq.isEmpty then s.fset DMC_CAL.RECAL c 0 else s

/-- DQS_OSC_MEASURE: drift the adjustment cannot absorb marks the channel for retraining. -/
def dqsOscMeasure (ch : Chan) (rank : Fin 16) (absorbed : Bool) (stall10ns : Nat) (s : State) : State :=
  let c := ch.val
  if s.fget DMC_STATUS.STATE c != 2 then s
  else
    let s := (s.stall c stall10ns).modChan c fun x => { x with recalDqs := x.recalDqs.filter (· != rank.val) }
    let s := if absorbed then s else (s.fset DMC_STATUS.RETRAIN c 1).report (setDMC c) 5 { unit := c }
    s.recalDone c

/-- DQS_OSC_MEASURE (07 R175). -/
def execDqsOscMeasure (ch : Chan) (rank : Fin 16) (absorbed : Bool) (stall10ns : Nat) (s : State) :
    Host.Outcome State Fault Refusal := volatile (dqsOscMeasure ch rank absorbed stall10ns) s

/-- ZQ_CALIBRATION. -/
def zqCalibration (ch : Chan) (rank : Fin 16) (stall10ns : Nat) (s : State) : State :=
  let c := ch.val
  if s.fget DMC_STATUS.STATE c != 2 then s
  else
    let s := (s.stall c stall10ns).modChan c fun x => { x with recalZq := x.recalZq.filter (· != rank.val) }
    let s := s.each [false, true] fun sub s => s.emit (.dramCmd ch sub ((sub.toNat * 16 + rank.val) * 32) .zqCal)
    s.recalDone c

/-- ZQ_CALIBRATION (07 R175). -/
def execZqCalibration (ch : Chan) (rank : Fin 16) (stall10ns : Nat) (s : State) : Host.Outcome State Fault Refusal :=
  volatile (zqCalibration ch rank stall10ns) s

/-- Channels that a path's `DMC_CHSEL` selects: one, all under broadcast, or none. -/
def State.chSel (s : State) (p : Path) : List Nat :=
  let n := s.fget DMC_CHSEL.CH (pathNo p)
  if n < 12 then [n] else if n = 0x1F then List.range 12 else []

/-- Logical ranks in service of a channel (R187). -/
def State.rankList (s : State) (c : Nat) : List Nat :=
  List.range (((List.range 4).filter fun i => bits (s.fget DMC_RANKMAP.MAP c) (4 * i) 4 != 15).length * max 1 (s.fget DMC_CFG.HEIGHT c))

/-- Request recalibration of a channel (R176): folded into one that is pending. -/
def State.recal (s : State) (c : Nat) : State :=
  if s.fone DMC_CAL.RECAL c ∨ s.fget DMC_STATUS.STATE c ≠ 2 then s
  else (s.fset DMC_CAL.RECAL c 1).modChan c fun x => { x with recalDqs := s.rankList c, recalZq := s.rankList c }

/-- DMC_CAL_RECAL: the write of `DMC_CAL.RECAL` by a management path. -/
def dmcCalRecal (p : Path) (s : State) : State := if s.mgmt p then s.each (s.chSel p) fun c s => s.recal c else s

/-- DMC_CAL_RECAL (07 R176). -/
def execDmcCalRecal (p : Path) (s : State) : Host.Outcome State Fault Refusal := volatile (access (.dmcCalRecal p) p (dmcCalRecal p)) s

/-! ## Self-test (R177-R178) -/

/-- Pattern codes of R178, and whether the test destroys. -/
def patternKind (n : Nat) : Option Bool :=
  if n = 1 ∨ n = 2 then some false else if n = 0x10 ∨ n = 0x11 then some true else none

/-- A test ends at once with a result. -/
def State.testEnd (s : State) (c res : Nat) : State :=
  ((s.fset DMC_TEST.GO c 0).fset DMC_TEST.DONE c 1).fset DMC_TEST.RESULT c res

/-- May a destructive test run on a physical rank (R178)? -/
def State.testSafe (s : State) (c rank : Nat) : Bool := !s.rankMapped c rank

/-- Start a test of a channel with the rank and pattern its register holds (R177, R178). -/
def State.testGo (s : State) (c : Nat) : State :=
  let rank := s.fget DMC_TEST.RANK c
  let pat := s.fget DMC_TEST.PATTERN c
  match patternKind pat with
  | none => s.testEnd c 3
  | some kills =>
    if !s.rankExists c rank then s.testEnd c 3
    else if (s.chan c).test.isSome ∨ s.fget DMC_SPARE.STATE c = 1 ∨ s.fget DMC_STATUS.STATE c ≠ 2 then s.testEnd c 2
    else if kills && !s.testSafe c rank then s.testEnd c 2
    else ((s.fset DMC_TEST.GO c 1).fset DMC_TESTRES.ERRORS c 0).modChan c fun x => { x with test := some (rank, pat) }

/-- DMC_TEST_GO: the write of `DMC_TEST` with GO, rank and pattern. A test that is running keeps its own. -/
def dmcTestGo (p : Path) (rank : Fin 16) (pattern : Byte) (s : State) : State :=
  if s.mgmt p then
    s.each (s.chSel p) fun c s => ((s.fset DMC_TEST.RANK c rank).fset DMC_TEST.PATTERN c pattern.toNat).testGo c
  else s

/-- DMC_TEST_GO. -/
def execDmcTestGo (p : Path) (rank : Fin 16) (pattern : Byte) (s : State) : Host.Outcome State Fault Refusal :=
  volatile (access (.dmcTestGo p rank pattern) p (dmcTestGo p rank pattern)) s

/-- DMC_SELF_TEST_END: miscompares count, and are logged as corrected errors are (R177, R187). -/
def dmcSelfTestEnd (ch : Chan) (miscompares : Nat) (s : State) : State :=
  let c := ch.val
  if (s.chan c).test.isNone then s
  else
    let s := s.modChan c fun x => { x with test := none }
    let s := (s.testEnd c (if 0 < miscompares then 1 else 0)).fset DMC_TESTRES.ERRORS c (min 0xFFFFFFFF miscompares)
    if 0 < miscompares then (s.fadd DMC_ECC.CE c miscompares).report (setDMC c) 1 { unit := c } else s

/-- DMC_SELF_TEST_END. -/
def execDmcSelfTestEnd (ch : Chan) (miscompares : Nat) (s : State) : Host.Outcome State Fault Refusal :=
  volatile (dmcSelfTestEnd ch miscompares) s

/-! ## Sparing (R189) -/

/-- Start sparing FROM of a channel, or ignore the request (R178, R189). -/
def State.spareGo (s : State) (c : Nat) : State :=
  let from_ := s.fget DMC_SPARE.FROM c
  if s.fget DMC_SPARE.STATE c = 0 ∧ s.fget DMC_CFG.SPARE c ≠ 15 ∧ s.rankMapped c from_ ∧ (s.chan c).test.isNone then
    s.spareStart c from_
  else s

/-- DMC_SPARE_GO: the write of `DMC_SPARE` with FROM and GO by a management path. FROM moves only while no copy runs. -/
def dmcSpareGo (p : Path) (from_ : Fin 16) (s : State) : State :=
  if s.mgmt p then
    s.each (s.chSel p) fun c s =>
      if s.fget DMC_SPARE.STATE c = 1 then s else (s.fset DMC_SPARE.FROM c from_).spareGo c
  else s

/-- DMC_SPARE_GO. -/
def execDmcSpareGo (p : Path) (from_ : Fin 16) (s : State) : Host.Outcome State Fault Refusal := volatile (access (.dmcSpareGo p from_) p (dmcSpareGo p from_)) s

/-- Lines of a logical rank (R123). -/
def State.rankLines (s : State) (c : Nat) : Nat := (s.chan c).rows * 2 ^ (8 + (if s.fone DMC_CFG.X8 c then 4 else 5))

/-- 4 KiB units of a physical rank. -/
def State.rankUnits (s : State) (c : Nat) : Nat := s.rankLines c * max 1 (s.fget DMC_CFG.HEIGHT c) / 64

/-- Where the copy pointer can have got to at RATE: RATE GB/s is 250 bytes a WCLK step. -/
def State.sparePos (s : State) (c : Nat) : Nat :=
  min (s.rankUnits c) ((s.wclk - (s.chan c).spareFrom) * 250 * max 1 (s.fget DMC_SPARE.RATE c) / 4096)

/-- SPARING_COMPLETE: the pointer is at the end; the spare takes the failing rank's place. -/
def sparingComplete (ch : Chan) (s : State) : State :=
  let c := ch.val
  if s.fget DMC_SPARE.STATE c ≠ 1 ∨ s.sparePos c < s.rankUnits c then s
  else
    let from_ := s.fget DMC_SPARE.FROM c
    let spare := s.fget DMC_CFG.SPARE c
    let map := ((List.range 4).map fun i =>
      let r := bits (s.fget DMC_RANKMAP.MAP c) (4 * i) 4
      (if r = from_ then spare else r) <<< (4 * i)).sum
    let s := (s.fset DMC_SPAREPOS.POS c (s.rankUnits c)).fset DMC_RANKMAP.MAP c map
    let s := ((s.fset DMC_SPARE.STATE c 2).fset DMC_SPARE.DONE c 1).modChan c fun x => { x with outRank := some from_ }
    ((s.fset DMC_STATUS.INSVC c (s.insvc c)).report (setDMC c) 8 { unit := c, syn := from_ }).weirRecompute

/-- SPARING_COMPLETE. -/
def execSparingComplete (ch : Chan) (s : State) : Host.Outcome State Fault Refusal := volatile (sparingComplete ch) s

/-! ## Patrol scrub (R186) -/

/-- The scrub moves on by a line; at the end of the last rank a pass is complete. -/
def State.scrubOn (s : State) (c : Nat) : State :=
  let total := s.rankLines c * ((s.rankList c).length + (if s.fget DMC_CFG.SPARE c = 15 then 0 else max 1 (s.fget DMC_CFG.HEIGHT c)))
  let n := (s.chan c).scrubbed + 1
  let s := if total ≤ n then s.finc DMC_SCRUB.PASSES c else s
  let n := if total ≤ n then 0 else n
  (s.fset DMC_SCRUBPOS.POS c (n / 64)).modChan c fun x => { x with scrubbed := n }

/-- PATROL_SCRUB_STEP: one line, of the address map (`mpaLine`) or of a spare rank. A line whose lock is held is skipped. -/
def patrolScrubStep (ch : Chan) (mpaLine : Option Nat) (ecc : Ecc) (rank : Fin 16) (row : Nat) (s : State) : State :=
  let c := ch.val
  if !s.fone DMC_SCRUB.EN c ∨ s.fget DMC_STATUS.STATE c ≠ 2 then s
  else match mpaLine with
    | some m =>
      let direct := (s.regionAt (m * 64)).isSome
      match s.placeOf m with
      | none => s
      | some p =>
        if p.chan ≠ c ∨ (direct ∧ s.lineBusy m) then s
        else
          let s := s.scrubOn c
          match ecc with
          | .clean => s
          | .corrected d => s.corrected c p d.val (m * 64)
          | .uncorrectable r => s.uncorrected c p m r (if direct then some (m * 64) else none) true
    | none =>
      let p : Place := { chan := c, sub := 0, rank := rank.val, bg := 0, bank := 0, row := row, col := 0 }
      let s := s.scrubOn c
      match ecc with
      | .clean => s
      | .corrected d => s.corrected c p d.val p.loc
      | .uncorrectable _ =>
        ((s.finc DMC_ECC.UE c).eccLoc c p 15 true).report (setDMC c) 2 { addr := p.loc, unit := c }

/-- PATROL_SCRUB_STEP. -/
def execPatrolScrubStep (ch : Chan) (mpaLine : Option Nat) (ecc : Ecc) (rank : Fin 16) (row : Nat) (s : State) :
    Host.Outcome State Fault Refusal := volatile (patrolScrubStep ch mpaLine ecc rank row) s

/-! ## Post-package repair (R188) -/

/-- A repair request: `soft` takes effect now, a hard one is queued for the next cold reset; with no resource left nothing
changes. -/
def repair (soft : Bool) (p : Path) (ch : Chan) (sub : Bool) (rank bank row : Nat) (ok : Bool) (s : State) : State :=
  s.adminCmd p fun s =>
  if !ok then s.reply p .resourcesExhausted
  else
    let r := (sub.toNat, rank, bank, row)
    (s.modChan ch fun x => if soft then { x with pprSoft := x.pprSoft ++ [r] } else { x with pprHard := x.pprHard ++ [r] }).reply p
      .success

/-- PPR_SOFT (07 R188). -/
def execPprSoft (p : Path) (ch : Chan) (sub : Bool) (rank bank row : Nat) (ok : Bool) (s : State) :
    Host.Outcome State Fault Refusal := volatile (access (.pprSoft p ch sub rank bank row ok) p (repair true p ch sub rank bank row ok)) s

/-- PPR_HARD (07 R188). -/
def execPprHard (p : Path) (ch : Chan) (sub : Bool) (rank bank row : Nat) (ok : Bool) (s : State) :
    Host.Outcome State Fault Refusal := volatile (access (.pprHard p ch sub rank bank row ok) p (repair false p ch sub rank bank row ok)) s

end Sys2Proof.Machine
end

