-- ==== Sys2Proof/Machine/Drawers.lean ====
section
/-! DEFINITION. Drawers: binding, limits, vectors, rings, doorbells, descriptor fetch and reset (12 R293-R301, R309-R317). -/

namespace Sys2Proof.Machine

open Sys2Proof

/-! ## Who may write (R294, R297) -/

/-- Is the path an admin path: the head D0 is bound to, the sideband, or the Bench (R294)? -/
def State.drwAdmin (s : State) : Path → Bool
  | .head h => s.drwBound 0 && s.drwHead 0 == h.val
  | _ => true

/-- An admin path's write of a DRW register of a drawer that exists. -/
def adminWrite (c : Instr) (p : Path) (d : DrawerId) (f : State → State) : State → State :=
  access c p fun s => if s.drwAdmin p && s.drwExists d.val then f s else s

/-- A write in a drawer's page, which reaches it through BAR2 of its bound head (R297). -/
def pageWrite (c : Instr) (d : DrawerId) (f : State → State) (s : State) : State :=
  if s.drwExists d.val && s.drwBound d.val then
    let h := s.drwHead d.val
    access c (.head (Fin.ofNat 16 h)) (fun s => if memSpace (s.head h) then f s else s) s
  else s

/-! ## Binding (R294, R295) -/

/-- Is every ring of a drawer DISABLED? -/
def State.ringsOff (s : State) (d : Nat) : Bool := (List.range 4).all fun r => (s.ring d r).state == 0

/-- Is the bind one that R294 ignores? -/
def State.bindBad (s : State) (d h pasid : Nat) : Bool :=
  !s.ringsOff d || !s.headOn h || (d == 0 && !s.headMgmt h) ||
  (s.boundTo h).any fun e => e != d && s.fget DRW_BIND.PASID e == pasid

/-- A write was ignored. -/
def State.bindErr (s : State) (d : Nat) : State := s.fset DRW_BIND.ERR d 1

/-- Bind a drawer. -/
def State.bindDrawer (s : State) (d h pasid : Nat) : State :=
  if s.bindBad d h pasid then s.bindErr d
  else ((s.fset DRW_BIND.EN d 1).fset DRW_BIND.HEAD d h).fset DRW_BIND.PASID d pasid

/-- DRW_BIND_WRITE (R294). -/
def execDrwBindWrite (p : Path) (d : DrawerId) (h : Head) (pasid : BitVec 20) (s : State) : Host.Outcome State Fault Refusal :=
  volatile (adminWrite (.drwBindWrite p d h pasid) p d fun s => s.bindDrawer d.val h.val pasid.toNat) s

/-- An admin path ends a binding; D0 is never unbound (R295). -/
def State.unbindWrite (s : State) (d : Nat) : State :=
  if d = 0 ∨ !s.ringsOff d then s.bindErr d else s.fset DRW_BIND.EN d 0

/-- DRW_UNBIND (R295). -/
def execDrwUnbind (p : Path) (d : DrawerId) (s : State) : Host.Outcome State Fault Refusal :=
  volatile (adminWrite (.drwUnbind p d) p d fun s => s.unbindWrite d.val) s

/-! ## Limits (R310, R311) -/

/-- Sum of max_ops over all drawers, with one drawer's replaced. -/
def State.opsSum (s : State) (d ops : Nat) : Nat :=
  ((List.range s.drw.maxDrawers).map fun e => if e = d then ops else s.fget DRW_LIMIT.OPS e).sum

/-- A write of `DRW_LIMIT`: rings above the new limit close. -/
def State.limitWrite (s : State) (d val : Nat) : State :=
  let ops := bits val 16 13
  if 4096 < s.opsSum d ops then s.bindErr d
  else (((s.fset DRW_LIMIT.RINGS d (bits val 29 2)).fset DRW_LIMIT.OPS d ops).fset DRW_LIMIT.SHARE d (bits val 0 11)).ringsShrink d

/-- DRW_LIMIT_WRITE (R310). -/
def execDrwLimitWrite (p : Path) (d : DrawerId) (val : Word) (s : State) : Host.Outcome State Fault Refusal :=
  volatile (adminWrite (.drwLimitWrite p d val) p d fun s => s.limitWrite d.val val.toNat) s

/-! ## Vectors and interrupt entries (R309) -/

/-- A write of `DRW_VEC`: a range that leaves 64-2,047 or overlaps another drawer of the head is ignored. -/
def State.vecWrite (s : State) (d val : Nat) : State :=
  let n := bits val 16 11
  let b := bits val 0 11
  let clash := (s.boundTo (s.drwHead d)).any fun e => e != d && overlaps b n (s.fget DRW_VEC.BASE e) (s.fget DRW_VEC.COUNT e)
  if n ≠ 0 ∧ (b < 64 ∨ 2048 < b + n ∨ clash) then s.bindErr d
  else (s.fset DRW_VEC.COUNT d n).fset DRW_VEC.BASE d b

/-- DRW_VEC_WRITE (R309). -/
def execDrwVecWrite (d : DrawerId) (val : Word) (s : State) : Host.Outcome State Fault Refusal :=
  volatile (pageWrite (.drwVecWrite d val) d fun s => s.vecWrite d.val val.toNat) s

/-- An entry's MASK is written clear: what waits is sent. -/
def State.entryUnmask (s : State) (d e : Nat) : State :=
  (s.modDrawer d fun x => { x with irqs := smMod x.irqs e {} fun y => { y with mask := false } }).entryRetry d e

/-- INTERRUPT_ENTRY_UNMASK (R309). -/
def execInterruptEntryUnmask (d : DrawerId) (e : Fin 64) (s : State) : Host.Outcome State Fault Refusal :=
  volatile (pageWrite (.interruptEntryUnmask d e) d fun s => s.entryUnmask d.val e.val) s

/-! ## Reset (R312-R316) -/

/-- A write of `DRW_RESET.GO`: refused with BUSY when it would bring an operation to the age of R314; a reset already in progress is
joined. -/
def State.resetGo (s : State) (d : Nat) : State :=
  if (s.drawer d).resetting then s.fset DRW_RESET.GO d 1
  else if s.drwPriv d then (s.fset DRW_RESET.GO d 1).resetDrain d
  else if (s.tooOld d ((s.fget DRW_STATE.GEN d + 1) % 65536)).isEmpty then (s.fset DRW_RESET.GO d 1).advanceGen d 0
  else (s.fset DRW_RESET.DONE d 1).fset DRW_RESET.RESULT d 1

/-- DRW_RESET_GO (R312): from the privileged page, or from an admin path. -/
def execDrwResetGo (p : Option Path) (d : DrawerId) (s : State) : Host.Outcome State Fault Refusal :=
  volatile (match p with
    | none => pageWrite (.drwResetGo p d) d fun s => s.resetGo d.val
    | some q => adminWrite (.drwResetGo p d) q d fun s => s.resetGo d.val) s

/-- DRAIN_MAX in force, in µs: values below 100 act as 100, above 50,000 as 50,000. -/
def State.drainMax (s : State) : Nat := min 50000 (s.fmin DRW_GCTL.DRAIN_MAX 100)

/-- DRAIN_MAX_EXPIRY: what is left of a privileged drawer's operations is squashed and the reset completes (R315). -/
def drainMaxExpiry (d : DrawerId) (s : State) : State :=
  let x := s.drawer d.val
  if x.resetting && s.elapsed x.drainFrom (usT s.drainMax) then
    (s.squashDrawer d.val (if (s.drwOps d.val).isEmpty then 2 else 3)).drainEnded d.val
  else s

/-- DRAIN_MAX_EXPIRY (R315). -/
def execDrainMaxExpiry (d : DrawerId) (s : State) : Host.Outcome State Fault Refusal := volatile (drainMaxExpiry d) s

/-- Has a privileged drawer drained: no operation is left; with its head's link gone, no device-memory work (R315)? -/
def State.drained (s : State) (d : Nat) : Bool :=
  (s.drwOps d).all fun e => !s.linkReady (s.drwHead d) && e.2.outst == 0 && e.2.tags.isEmpty

/-- PRIVILEGED_DRAIN_COMPLETE: the generation advances and the reset is complete (R315). -/
def privilegedDrainComplete (d : DrawerId) (s : State) : State :=
  if (s.drawer d.val).resetting && s.drained d.val then
    let s := s.each (s.drwOps d.val) fun e s => s.dropOp e.1
    (s.advanceGen d.val 2).drainEnded d.val
  else s

/-- PRIVILEGED_DRAIN_COMPLETE (R315). -/
def execPrivilegedDrainComplete (d : DrawerId) (s : State) : Host.Outcome State Fault Refusal := volatile (privilegedDrainComplete d) s

/-! ## Rings (R298-R301) -/

/-- n of a ring of 2^n entries. -/
def State.ringLog2 (s : State) (d r : Nat) : Nat := s.fget DRW_RCFG.LOG2 (4 * d + r)

/-- May a ring be enabled (R301): size and number valid, the drawer bound, and PASID Enable set on its head? -/
def State.ringValid (s : State) (d r : Nat) : Bool :=
  let n := s.ringLog2 d r
  decide (6 ≤ n ∧ n ≤ 16) && decide (r ≤ s.fget DRW_LIMIT.RINGS d) && s.drwBound d &&
  (cfgGet (s.head (s.drwHead d)) 0x14C).getLsbD 16

/-- A write of `DRW_RCFG.EN` = 1: the ring starts with its indexes at 0, or stays DISABLED with cause CONFIG. -/
def State.ringEnable (s : State) (d r : Nat) : State :=
  if (s.ring d r).state ≠ 0 ∨ (s.drawer d).resetting then s
  else if s.ringValid d r then (s.modRing d r fun _ => { state := 1 }).fset DRW_RCFG.EN (4 * d + r) 1
  else s.modRing d r fun x => { x with cause := 1 }

/-- DRW_RING_ENABLE (R301). -/
def execDrwRingEnable (d : DrawerId) (r : RingId) (s : State) : Host.Outcome State Fault Refusal :=
  volatile (pageWrite (.drwRingEnable d r) d fun s => s.ringEnable d.val r.val) s

/-- A write of `DRW_RCFG.EN` = 0: fetching stops, and the ring is DISABLED once its last operation has ended. -/
def State.ringDisable (s : State) (d r : Nat) : State := (s.fset DRW_RCFG.EN (4 * d + r) 0).ringClose d r

/-- DRW_RING_DISABLE (R301). -/
def execDrwRingDisable (d : DrawerId) (r : RingId) (s : State) : Host.Outcome State Fault Refusal :=
  volatile (pageWrite (.drwRingDisable d r) d fun s => s.ringDisable d.val r.val) s

/-- Is the path the head that a drawer is bound to, which reaches its page? -/
def State.pageOwner (s : State) (p : Path) (d : Nat) : Bool :=
  match p with
  | .head h => s.drwBound d && s.drwHead d == h.val && memSpace (s.head h.val)
  | _ => false

/-- `DRW_RESET.PAUSE`, in the DRW block or in the privileged page, pauses the rings named with cause ADMIN. -/
def drwPause (p : Path) (d : DrawerId) (rings : BitVec 4) (s : State) : State :=
  if s.drwExists d.val && (s.drwAdmin p || s.pageOwner p d.val) then
    s.each ((List.range 4).filter fun r => rings.getLsbD r) fun r s => s.pauseRing d.val r 4
  else s

/-- DRW_PAUSE (R301). -/
def execDrwPause (p : Path) (d : DrawerId) (rings : BitVec 4) (s : State) : Host.Outcome State Fault Refusal :=
  volatile (access (.drwPause p d rings) p (drwPause p d rings)) s

/-! ## Doorbells (R300) -/

/-- A doorbell that is ignored. -/
def State.doorbellBad (s : State) (d r : Nat) : State := s.drwFault 1 d r

/-- A doorbell's index is taken modulo 2^(n+1). -/
def ringIdx (n v : Nat) : Nat := v % 2 ^ (n + 1)

/-- How far index a is ahead of index b, modulo 2^(n+1). -/
def ringAhead (n a b : Nat) : Nat := (a + 2 ^ (n + 1) - b) % 2 ^ (n + 1)

/-- A write of SQ_TAIL. -/
def State.sqDoorbell (s : State) (d r v : Nat) : State :=
  let x := s.ring d r
  let n := s.ringLog2 d r
  let s := (s.unitStart 1).count 8 4 { drw := some d }
  if x.state = 0 ∨ 2 ^ n < ringAhead n (ringIdx n v) x.sqHead then s.doorbellBad d r
  else s.modRing d r fun x => { x with sqTail := ringIdx n v }

/-- A write of CQ_HEAD: CQ_TAIL may not be left more than 2^n ahead of it. -/
def State.cqDoorbell (s : State) (d r v : Nat) : State :=
  let x := s.ring d r
  let n := s.ringLog2 d r
  let s := (s.unitStart 1).count 8 4 { drw := some d }
  if x.state = 0 ∨ 2 ^ n < ringAhead n x.cqTail (ringIdx n v) then s.doorbellBad d r
  else s.modRing d r fun x => { x with cqHead := ringIdx n v }

/-- DOORBELL_SQ_TAIL (R300). -/
def execDoorbellSqTail (d : DrawerId) (r : RingId) (v : Word) (s : State) : Host.Outcome State Fault Refusal :=
  volatile (pageWrite (.doorbellSqTail d r v) d fun s => s.sqDoorbell d.val r.val v.toNat) s

/-- DOORBELL_CQ_HEAD (R300). -/
def execDoorbellCqHead (d : DrawerId) (r : RingId) (v : Word) (s : State) : Host.Outcome State Fault Refusal :=
  volatile (pageWrite (.doorbellCqHead d r v) d fun s => s.cqDoorbell d.val r.val v.toNat) s

/-! ## Descriptor fetch (R299, R26 step 1) -/

/-- May the drawer engines start work: in P0 with their clock running, no entry under way, the device not fatal (R316; 14 R355)? -/
def State.drwRuns (s : State) : Bool := s.enginesRun && s.unitRuns 1

/-- May a drawer reach its host: link up and Bus Master Enable set (04 R105)? -/
def State.hostReach (s : State) (d : Nat) : Bool := s.linkReady (s.drwHead d) && busMaster (s.head (s.drwHead d))

/-- Operations of a ring fetched and not completed. -/
def State.ringFlight (s : State) (d r : Nat) : Nat :=
  (s.drw.ops.filter fun e => e.2.drawer == d && e.2.ring == r && s.opCurrent e.2).length

/-- Descriptors that one fetch may take from a ring (R299): at most 8, as far as the ring, its completion slots, max_ops and the
device's 4,096 operations allow. -/
def State.fetchRoom (s : State) (d r : Nat) : Nat :=
  let x := s.ring d r
  let n := s.ringLog2 d r
  min 8 (min (ringAhead n x.sqTail x.sqHead) (min (2 ^ n - (s.ringFlight d r + ringAhead n x.cqTail x.cqHead))
    (min (s.fget DRW_LIMIT.OPS d - (s.drwOps d).length) (4096 - s.drw.ops.length))))

/-- A descriptor enters the operation table; one with no operation of R302 ends there with ATTR. -/
def State.takeDesc (s : State) (d r : Nat) (x : Descriptor) : State :=
  let n := s.ringLog2 d r
  let o : Op := {
    drawer := d, ring := r, index := (s.ring d r).sqHead % 2 ^ n, gen := s.fget DRW_STATE.GEN d, desc := x, at_ := s.wclk
    status := if 6 < x.op.toNat then some 1 else none }
  ({ s with drw := { s.drw with ops := smSet s.drw.ops s.drw.next o, next := s.drw.next + 1 } }.modRing d r fun y =>
    { y with sqHead := ringIdx n (y.sqHead + 1) }).count 8 1 { drw := some d }

/-- DESCRIPTOR_FETCH: one read of the ring; its first descriptors, as many as may be taken, become operations. -/
def descriptorFetch (d : DrawerId) (r : RingId) (ds : List Descriptor) (s : State) : State :=
  let l := ds.take (s.fetchRoom d.val r.val)
  if !s.fetchable d.val r.val ∨ !s.drwRuns ∨ !s.hostReach d.val ∨ l.isEmpty then s
  else
    let h := s.drwHead d.val
    let n := s.ringLog2 d.val r.val
    let a := s.fget DRW_SQBASE.ADDR (4 * d.val + r.val) * 4096 + (s.ring d.val r.val).sqHead % 2 ^ n * 64
    let s := s.emit (.dmaRead (Fin.ofNat 16 h) (BitVec.ofNat 20 (s.fget DRW_BIND.PASID d.val)) (BitVec.ofNat 64 a) (64 * l.length) 0)
    s.each l fun x s => s.takeDesc d.val r.val x

/-- DESCRIPTOR_FETCH (R299). -/
def execDescriptorFetch (d : DrawerId) (r : RingId) (ds : List Descriptor) (s : State) : Host.Outcome State Fault Refusal :=
  volatile (descriptorFetch d r ds) s

end Sys2Proof.Machine
end

