-- ==== Sys2Proof/Machine/DrwOps.lean ====
section
/-! DEFINITION. Drawer operations: operands, reads and writes of host and device memory, the seven operations and their completion
(01 R26; 08 R214-R217; 12 R302-R308, R317). -/

namespace Sys2Proof.Machine

open Sys2Proof

/-! ## Starting (R302-R305) -/

/-- Unexecuted or uncompleted operations of the same ring and generation that were fetched before. -/
def State.opsBefore (s : State) (n : Nat) (o : Op) : List (Nat × Op) :=
  s.drw.ops.filter fun e => decide (e.1 < n) && e.2.drawer == o.drawer && e.2.ring == o.ring && s.opCurrent e.2

/-- Does an operation use the ring's open block: COMPRESS or FLUSH? -/
def Op.blocky (o : Op) : Bool := o.desc.op == 3 || o.desc.op == 5

/-- May an operation start (R304, R305): every earlier one of its ring has, no FENCE stands before it; a FENCE, once every
earlier one of the ring, or of the drawer, has completed; COMPRESS and FLUSH one at a time. -/
def State.opMayStart (s : State) (n : Nat) (o : Op) : Bool :=
  let before := s.opsBefore n o
  s.drwRuns && (before.all fun e => (e.2.started || e.2.status.isSome) && e.2.desc.op != 6) &&
  (o.desc.op != 6 || (before.isEmpty && (!o.desc.allRings ||
    s.drw.ops.all fun e => decide (n ≤ e.1) || e.2.drawer != o.drawer || !s.opCurrent e.2))) &&
  (!o.blocky || before.all fun e => !e.2.blocky)

/-- Is an operation one that can go on: not executed, nothing outstanding, not stopped by an entry (14 R356)? -/
def State.opReady (s : State) (n : Nat) (o : Op) : Bool :=
  o.status.isNone && s.opCurrent o && !o.stopped && o.tags.isEmpty && o.outst == 0 &&
  (if o.started then s.fget PWR_STATE.CUR == 0 && s.unitRuns 1 else s.opMayStart n o)

/-- The oldest operation of a ring with an operation code that can go on. -/
def State.opPick (s : State) (d r code : Nat) : Option (Nat × Op) :=
  s.drw.ops.find? fun e => e.2.drawer == d && e.2.ring == r && e.2.desc.op.toNat == code && s.opReady e.1 e.2

/-- Offset of the first field that is not as R302 and R296 require. -/
def State.badField (s : State) (o : Op) : Option Nat :=
  let x := o.desc
  let usesSrc := x.op == 1 || x.op == 3 || x.op == 4
  let usesDst := x.op != 0 && x.op != 6
  let priv := s.drwPriv o.drawer
  let l : List (Bool × Nat) := [
    (o.blocky && s.fget DRW_STAGE.ADDR (4 * o.drawer + o.ring) == 0, 0x00),
    (x.flagsReserved != 0, 0x01), (x.irq && decide (63 < x.irqe.toNat), 0x02), (x.reserved3 != 0, 0x03),
    (x.sattr.reserved != 0 || (usesSrc && x.sattr.dev && x.sattr.dpa && !priv), 0x20),
    (x.dattr.reserved != 0 || (usesDst && x.dattr.dev && x.dattr.dpa && !priv), 0x22),
    (x.reserved24 != 0, 0x24), (x.reserved30 != 0, 0x30)]
  (l.find? (·.1)).map (·.2)

/-- May a drawer name a key ID (R296, R303)? -/
def State.opKeyOk (s : State) (d k : Nat) : Bool :=
  s.drwPriv d || (s.fbitAt DRW_KEYSET.PERMIT (4 * d + k / 32) (k % 32) && s.keyPermitted (s.drwHead d) k)

/-- The first key ID of a descriptor's device operands that the drawer may not name. -/
def State.badKey (s : State) (o : Op) : Option Nat :=
  let x := o.desc
  let src := if (x.op == 1 || x.op == 3 || x.op == 4) && x.sattr.dev then [x.sattr.key.toNat] else []
  let dst := if (x.op != 0 && x.op != 6) && x.dattr.dev then [x.dattr.key.toNat] else []
  (src ++ dst).find? fun k => !s.opKeyOk o.drawer k

/-- An operation has been executed: STATUS, IN, OUT and DETAIL are known. -/
def State.opEnd (s : State) (n status inB outB detail : Nat) : State :=
  s.modOp n fun x => { x with status := some status, inBytes := inB, outBytes := outB, detail := detail, todo := [], plan := none }

/-- An operation that succeeds. -/
def State.opDone (s : State) (n inB outB detail : Nat) : State := s.opEnd n 0 inB outB detail

/-- The start of an operation: its fields are checked, then an empty operand ends it, then its keys are checked; else `go`. -/
def State.opStart (s : State) (n : Nat) (o : Op) (go : State → State) : State :=
  if o.started then go s
  else
    let s := s.modOp n fun x => { x with started := true }
    match s.badField o with
    | some f => s.opEnd n 1 0 0 f
    | none =>
      if o.desc.len = 0 ∧ o.desc.op ≠ 5 then
        s.opDone n 0 0 (if o.desc.op = 3 then (s.ring o.drawer o.ring).openBlock.length else 0)
      else match s.badKey o with
        | some k => s.opEnd n 2 0 0 k
        | none => go s

/-! ## Host memory (R303; 04 R105, R108) -/

/-- The lowest tag of a head that is neither outstanding nor quarantined. -/
def State.freeHostTag (s : State) (h : Nat) : Option Nat :=
  let x := s.head h
  (List.range (min 16384 (x.tags.length + x.quar.length + 1))).find? fun t => !smHas x.tags t && !smHas x.quar t

/-- PASID of a drawer. -/
def State.drwPasid (s : State) (d : Nat) : BitVec 20 := BitVec.ofNat 20 (s.fget DRW_BIND.PASID d)

/-- Ask for an operation's host bytes: a non-posted read under a tag. With no tag free it waits. -/
def State.hostAsk (s : State) (n : Nat) (o : Op) (addr len : Nat) (stays : Bool) : State :=
  let h := s.drwHead o.drawer
  match s.freeHostTag h with
  | none => s
  | some t =>
    let s := s.emit (.dmaRead (Fin.ofNat 16 h) (s.drwPasid o.drawer) (BitVec.ofNat 64 addr) len t)
    let s := s.modOp n fun x => { x with asked := true }
    if stays then (s.modHead h fun x => { x with tags := smSet x.tags t (n, s.wclk) }).modOp n fun x => { x with tags := [t] } else s

/-- Host bytes of an operand of an operation: `some` when they are here; a failed read ends the operation with HOSTDMA (R307). -/
def State.hostBytes (s : State) (n : Nat) (o : Op) (addr len : Nat) (bytes : List Byte) (dma : HostDma) :
    State × Option (List Byte) :=
  if !s.hostReach o.drawer then (s, none)
  else
    match dma with
    | .pending => if o.asked then (s, none) else (s.hostAsk n o addr len true, none)
    | .ok =>
      let b := bytes.take len
      ((if o.asked then s else s.hostAsk n o addr len false), some (b ++ List.replicate (len - b.length) 0))
    | .ur | .ca => (s.opEnd n 5 0 0 0, none)
    | .timeout => (s.opEnd n 5 0 0 0x80000000, none)

/-! ## Device memory (R303; 01 R26; 06 R145-R146) -/

/-- What DEC makes of an address of a device operand: region number, region and DPA. -/
def State.opDec (s : State) (d : Nat) (a : OpAttr) (addr : Nat) : Option (Nat × Region × Nat) :=
  let h := s.drwHead d
  let m := if a.dpa then (s.regionAt addr).map fun r => (r.1, r.2, addr)
    else (s.decode h addr).map fun m => (m.tpl.region, s.region m.tpl.region, s.dpaBase m.idx + m.off)
  m.filter fun r => !r.2.1.dcd || s.inExtent h r.2.2

/-- The DEC fault of an HPA that it does not map (05 R114, R120). -/
def State.opDecFault (s : State) (d : Nat) (a : OpAttr) (addr : Nat) : State :=
  if a.dpa then s else s.decFault (if (s.decode (s.drwHead d) addr).isSome then 3 else 1) addr (s.drwHead d)

/-- How an access of an operation to device memory goes: sent under a line name, waiting for a Span tag, or refused with a STATUS
and DETAIL. -/
inductive Issue where
  | sent (k : Nat) | waits | fails (status detail : Nat)
deriving DecidableEq, Repr

/-- One line access of an operation: a transaction of class C4 through DEC, or a request to a remote home (R303; 01 R26, R27). -/
def State.opAccess (s : State) (n : Nat) (o : Op) (a : OpAttr) (off addr : Nat) (x : Txn) : State × Issue :=
  match s.opDec o.drawer a addr with
  | none => (s.opDecFault o.drawer a addr, .fails 3 off)
  | some (rn, r, dpa) =>
    let x := { x with src := .drawer n, key := a.key, cls := 4 }
    match r.home with
    | some home =>
      let h := s.drwHead o.drawer
      let op := match x.kind with
        | .read => 1 | .write => 2 | .part => 3
      let s' := if op = 3 then s.sendSpan home.toNat 4 { spanMsg s 0 0 0 0 0 with data := x.be.zeroExtend 512 } else s
      let q := s'.sendReq home.toNat op { drw := some n, ln := dpa / 64 } fun tag =>
        spanMsg s' h a.key.toNat tag (dpa / 64) 0 .I x.data false r.shared
      if q.1 then (q.2.modOp n fun y => { y with outst := y.outst + 1 }, .sent (dpa / 64 + 2 ^ 40 * (home.toNat + 1))) else (s, .waits)
    | none =>
      let k := a.key.toNat
      match verdict (s.slot k).state (if x.kind = .read then .read else .write) with
      | .served | .poisoned =>
        let s := if x.kind = .read then s else s.countWrite k
        let s := s.modOp n fun y => { y with outst := y.outst + 1 }
        let t := s.newTxn { s.localTxn r rn x dpa with cls := 4 }
        (t.2.decoded t.1, .sent (dpa / 64))
      | v => (s.keyRefused v k dpa, .fails 2 k)

/-- Lines of 64 bytes that a range touches. -/
def lineCount (addr len : Nat) : Nat := (addr % 64 + len + 63) / 64

/-- Ask for source lines i, i + 1, ..., as many as `fuel` says (a page's worth at a time). -/
def State.opReads (s : State) (n : Nat) (o : Op) (a : OpAttr) (addr : Nat) : Nat → Nat → State
  | 0, _ => s
  | fuel + 1, i =>
    let line := addr / 64 * 64 + 64 * i
    match s.opAccess n o a (line - addr) line { kind := .read } with
    | (s, .sent k) => (s.modOp n fun x => { x with lines := x.lines ++ [k] }).opReads n o a addr fuel (i + 1)
    | (s, .waits) => s
    | (s, .fails st de) => s.opEnd n st 0 0 de

/-- Bytes of a device operand whose lines have all come back; or the offset of the first poisoned line. -/
def Op.deviceBytes (o : Op) (addr len : Nat) : List Byte ⊕ Nat :=
  let ls := o.lines.map fun k => smGet o.got k (0, false)
  match ls.findIdx? (·.2) with
  | some i => .inr (addr / 64 * 64 + 64 * i - addr)
  | none => .inl (sliceBytes (ls.flatMap fun l => bytesOfData l.1) (addr % 64) len)

/-- The source bytes of an operation, when they are here (R303): from the host, or from device memory a page of lines at a time.
A poisoned line ends the operation with POISON. -/
def State.opSource (s : State) (n : Nat) (o : Op) (host : List Byte) (dma : HostDma) : State × Option (List Byte) :=
  let addr := o.desc.src.toNat
  let len := o.desc.len.toNat
  let r := if !o.desc.sattr.dev then s.hostBytes n o addr len host dma
    else
      let total := lineCount addr len
      let have_ := o.lines.length
      if have_ < total then (s.opReads n o o.desc.sattr addr (min 64 (total - have_)) have_, none)
      else match o.deviceBytes addr len with
        | .inl b => (s, some b)
        | .inr off => (s.opEnd n 4 off 0 off, none)
  match r with
  | (s, some b) => (s.userEvent o.drawer 3 len, some b)
  | (s, none) => (s, none)

/-- Line writes of bytes at an address of a device operand; a partial first or last line is a partial write (07 R184). -/
def devWrites (addr : Nat) (b : List Byte) : List DevWrite :=
  (List.range (lineCount addr b.length)).map fun i =>
    let base := addr / 64 * 64 + 64 * i
    let lo := max addr base
    let part := sliceBytes b (lo - addr) (base + 64 - lo)
    { off := lo - addr, addr := base, data := dataOfBytes part <<< (8 * (lo - base))
      be := BitVec.ofNat 64 ((2 ^ part.length - 1) <<< (lo - base)) }

/-- Issue writes of an operation in order, up to `fuel` of them; after a power-state entry has begun, up to the next 4 KiB boundary of
the destination (14 R356). A refusal ends it with what was written before (R307). -/
def State.opWrites (s : State) (n : Nat) (o : Op) : Nat → List DevWrite → State
  | 0, l => s.modOp n fun x => { x with todo := l }
  | _, [] => s.modOp n fun x => { x with todo := [] }
  | fuel + 1, w :: l =>
    if s.fget PWR_STATE.PHASE = 1 ∧ w.addr % 4096 = 0 then s.modOp n fun x => { x with todo := w :: l }
    else
      let kind : TxnKind := if w.be = BitVec.allOnes 64 then .write else .part
      match s.opAccess n o o.desc.dattr w.off w.addr { kind := kind, data := w.data, be := w.be } with
      | (s, .sent _) => s.opWrites n o fuel l
      | (s, .waits) => s.modOp n fun x => { x with todo := w :: l }
      | (s, .fails st de) => s.opEnd n st w.off w.off de

/-- An operation's result is known: bytes to write at its destination, and how it ends once they are written. Host bytes are
posted at once; device lines follow. -/
def State.opPlan (s : State) (n : Nat) (o : Op) (out : List Byte) (status inB detail : Nat) (newOpen : Option (List Byte)) : State :=
  let dst := o.desc.dst.toNat
  let s := s.modOp n fun x => { x with newOpen := newOpen, plan := some (status, inB, out.length, detail) }
  let s := s.userEvent o.drawer 4 out.length
  if out.isEmpty then s
  else if o.desc.dattr.dev then s.opWrites n o 64 (devWrites dst out)
  else s.emit (.dmaWrite (Fin.ofNat 16 (s.drwHead o.drawer)) (s.drwPasid o.drawer) o.desc.dst out)

/-- An operation whose writes have all ended is executed, and its ring's open block moves on (08 R216). -/
def State.opSettle (s : State) (n : Nat) : State :=
  match smFind? s.drw.ops n with
  | none => s
  | some o =>
    match o.plan with
    | none => s
    | some (st, inB, outB, de) =>
      if !o.todo.isEmpty ∨ o.outst ≠ 0 ∨ o.status.isSome then s
      else
        let s := match o.newOpen with
          | some b => s.modRing o.drawer o.ring fun x => { x with openBlock := b }
          | none => s
        s.opEnd n st inB outB de

/-- Go on with an operation: its remaining writes, or `go`, which finds its result. -/
def State.opRun (s : State) (d : DrawerId) (r : RingId) (code : Nat) (go : Nat → Op → State → State) : State :=
  match s.opPick d.val r.val code with
  | none => s
  | some (n, o) =>
    let needsHost := (code != 0 && code != 6) && (!o.desc.dattr.dev || ((code == 1 || code == 3 || code == 4) && !o.desc.sattr.dev) || code == 5)
    if needsHost ∧ !s.hostReach d.val then s
    else
      let s := if o.plan.isSome then s.opWrites n o 64 o.todo else s.opStart n o (go n o)
      s.opSettle n

/-! ## The operations (R304) -/

/-- NOP: nothing. -/
def nop (d : DrawerId) (r : RingId) (s : State) : State := s.opRun d r 0 fun n _ s => s.opDone n 0 0 0

/-- NOP (R304). -/
def execNop (d : DrawerId) (r : RingId) (s : State) : Host.Outcome State Fault Refusal := volatile (nop d r) s

/-- COPY: LEN bytes from SRC to DST, as if through a buffer. -/
def copy (d : DrawerId) (r : RingId) (host : List Byte) (dma : HostDma) (s : State) : State :=
  s.opRun d r 1 fun n o s =>
    match s.opSource n o host dma with
    | (s, some b) => s.opPlan n o b 0 0 0 none
    | (s, none) => s

/-- COPY (R304). -/
def execCopy (d : DrawerId) (r : RingId) (host : List Byte) (dma : HostDma) (s : State) : Host.Outcome State Fault Refusal :=
  volatile (copy d r host dma) s

/-- The bytes of a FILL: byte i is byte (i mod 8) of PATTERN. -/
def fillBytes (pattern : Word64) (len : Nat) : List Byte :=
  (List.range len).map fun i => BitVec.ofNat 8 (pattern.toNat >>> (8 * (i % 8)))

/-- FILL. -/
def fill (d : DrawerId) (r : RingId) (s : State) : State :=
  s.opRun d r 2 fun n o s => s.opPlan n o (fillBytes o.desc.pattern o.desc.len.toNat) 0 0 0 none

/-- FILL (R304). -/
def execFill (d : DrawerId) (r : RingId) (s : State) : Host.Outcome State Fault Refusal := volatile (fill d r) s

/-- Predictors enabled for encoding. -/
def State.predEn (s : State) : Nat := s.fget PRS_CTL.PRED_EN + 128

/-- Pages encoded by a job are counted (08 R208; 18 R437). -/
def State.jobEncoded (s : State) (d : Nat) (pages : List (List Byte)) : State :=
  s.each pages fun p s =>
    let c := encodePage p s.predEn
    let s := (s.encoded c).userEvent d 5 1
    if c.slabs = 16 then s.userEvent d 6 1 else s

/-- An encode or a decode of a job's page has failed every attempt, or no pipe is in service (08 R211, R212). -/
def State.jobLost (s : State) (n : Nat) (o : Op) (page : Nat) (rerun : Bool) : State :=
  let s := if rerun then (s.finc PRS_RERUN.FAILED).report setPRS 3 { addr := o.drawer, aux := page } else s
  s.opEnd n 8 0 0 page

/-- Does DEC map every line of a device destination, and its key slot take writes? The first failure as STATUS and DETAIL. -/
def State.dstBad (s : State) (o : Op) (len : Nat) : Option (Nat × Nat) :=
  if !o.desc.dattr.dev ∨ len = 0 then none
  else (devWrites o.desc.dst.toNat (List.replicate len 0)).findSome? fun w =>
    match s.opDec o.drawer o.desc.dattr w.addr with
    | none => some (3, w.off)
    | some r => if r.2.1.home.isNone && verdict (s.slot o.desc.dattr.key.toNat).state .write != .served then
        some (2, o.desc.dattr.key.toNat) else none

/-- Emit stream blocks: DSTFULL past DMAX; nothing is written of an output that cannot be written whole (R304, R307). -/
def State.opEmit (s : State) (n : Nat) (o : Op) (out rest : List Byte) (detail : Nat) (pages : List (List Byte)) : State :=
  if o.desc.dmax ≠ 0 ∧ o.desc.dmax.toNat < out.length then s.opEnd n 6 0 0 (min 0xFFFFFFFF out.length)
  else match s.dstBad o out.length with
    | some (st, de) => s.opEnd n st 0 0 de
    | none => (s.jobEncoded o.drawer pages).opPlan n o out 0 0 detail (some rest)

/-- COMPRESS: the source joins the open block; every block of 65,536 bytes is written whole. -/
def compress (d : DrawerId) (r : RingId) (host : List Byte) (dma : HostDma) (lost : Option Nat) (s : State) : State :=
  s.opRun d r 3 fun n o s =>
    if !s.canEncode then s.jobLost n o 0 false
    else match s.opSource n o host dma with
      | (s, none) => s
      | (s, some b) =>
        let old := (s.ring d.val r.val).openBlock
        let all := old ++ b
        let k := all.length / 65536
        let out := (List.range k).flatMap fun i => streamBlock (sliceBytes all (65536 * i) 65536) false s.predEn
        let rest := all.drop (65536 * k)
        let first := old.length / 4096
        let pages := (List.range (all.length / 4096 - first)).map fun i => sliceBytes all (4096 * (first + i)) 4096
        match lost with
        | some p => s.jobLost n o p true
        | none => (s.unitStart 0).opEmit n o out rest rest.length pages

/-- COMPRESS (R304). -/
def execCompress (d : DrawerId) (r : RingId) (host : List Byte) (dma : HostDma) (lost : Option Nat) (s : State) :
    Host.Outcome State Fault Refusal := volatile (compress d r host dma lost) s

/-- FLUSH: the open block is ended and written; an empty one writes nothing. -/
def flush (d : DrawerId) (r : RingId) (dma : HostDma) (lost : Bool) (s : State) : State :=
  s.opRun d r 5 fun n o s =>
    let b := (s.ring d.val r.val).openBlock
    if b.isEmpty then s.opDone n 0 0 0
    else if !s.canEncode then s.jobLost n o 0 false
    else match s.hostBytes n o (s.fget DRW_STAGE.ADDR (4 * d.val + r.val) * 4096) b.length [] dma with
      | (s, none) => s
      | (s, some _) =>
        let tail := b.drop (b.length / 4096 * 4096)
        if lost then s.jobLost n o (b.length / 4096) true
        else (s.unitStart 0).opEmit n o (streamBlock b true s.predEn) [] 0 (if tail.isEmpty then [] else [padPage tail])

/-- FLUSH (R304). -/
def execFlush (d : DrawerId) (r : RingId) (dma : HostDma) (lost : Bool) (s : State) : Host.Outcome State Fault Refusal :=
  volatile (flush d r dma lost) s

/-- Decode blocks back to back (08 R217): the output and source bytes of the blocks that passed and fitted, and what ended the job
early as STATUS and DETAIL. `page` counts page records; `need` is the output so far. -/
def jobBlocks (dmax : Nat) (lost : Option Nat) : Nat → Nat → Nat → List Byte → Nat → List Byte → List Byte × Nat × Option (Nat × Nat)
  | 0, _, _, _, used, out => (out, used, none)
  | fuel + 1, i, page, b, used, out =>
    if b.isEmpty then (out, used, none)
    else
      let pages := leAt b 2 1
      let gone := match lost with
        | some p => if page ≤ p ∧ p < page + pages then some p else none
        | none => none
      match gone, decodeBlock b with
      | some p, _ => (out, used, some (8, p))
      | none, none => (out, used, some (7, i))
      | none, some (o, n) =>
        if dmax ≠ 0 ∧ dmax < out.length + o.length then
          (out, used, some (6, min 0xFFFFFFFF (out.length + (decodeBlocks fuel i b).1.length)))
        else jobBlocks dmax lost fuel (i + 1) (page + pages) (b.drop n) (used + n) (out ++ o)

/-- DECOMPRESS. -/
def decompress (d : DrawerId) (r : RingId) (host : List Byte) (dma : HostDma) (lost : Option Nat) (s : State) : State :=
  s.opRun d r 4 fun n o s =>
    if (s.pipes false).isEmpty then s.jobLost n o 0 false
    else match s.opSource n o host dma with
      | (s, none) => s
      | (s, some b) =>
        let (out, used, ending) := jobBlocks o.desc.dmax.toNat lost (b.length + 1) 0 0 b 0 []
        let s := s.unitStart 0
        match ending with
        | none => s.opPlan n o out 0 used 0 none
        | some (st, de) =>
          let s := if st = 7 then (s.finc PRS_FMTERR.STREAM).report setPRS 8 { syn := d.val, aux := de }
            else if st = 8 then (s.finc PRS_RERUN.FAILED).report setPRS 3 { addr := d.val, aux := de } else s
          s.opPlan n o out st used de none

/-- DECOMPRESS (R304). -/
def execDecompress (d : DrawerId) (r : RingId) (host : List Byte) (dma : HostDma) (lost : Option Nat) (s : State) :
    Host.Outcome State Fault Refusal := volatile (decompress d r host dma lost) s

/-- FENCE: nothing but its order. -/
def fence (d : DrawerId) (r : RingId) (s : State) : State := s.opRun d r 6 fun n _ s => s.opDone n 0 0 0

/-- FENCE (R304). -/
def execFence (d : DrawerId) (r : RingId) (s : State) : Host.Outcome State Fault Refusal := volatile (fence d r) s

/-! ## Completion (R306-R308, R317) -/

/-- Address of the record slot of an index. -/
def State.recordAddr (s : State) (d r idx : Nat) : Nat :=
  s.fget DRW_CQBASE.ADDR (4 * d + r) * 4096 + idx % 2 ^ s.ringLog2 d r * 32

/-- PHASE of a record slot: 1 on the first pass, alternating on each wrap (R306). -/
def recordPhase (n idx : Nat) : Nat := if idx / 2 ^ n % 2 = 0 then 1 else 0

/-- The record of an operation. -/
def State.opRecord (s : State) (o : Op) (st : Nat) : State :=
  let x := s.ring o.drawer o.ring
  let n := s.ringLog2 o.drawer o.ring
  s.emit (.record (BitVec.ofNat 8 o.drawer).toFin o.ring o.desc.id o.index st (recordPhase n x.cqTail) o.inBytes o.outBytes o.detail o.gen s.tb)

/-- A completed FILL of device memory advances the fill ranges of other key slots (10 R273). -/
def State.fillCovered (s : State) (o : Op) : State :=
  if o.desc.op ≠ 2 ∨ !o.desc.dattr.dev ∨ o.desc.len = 0 then s
  else
    let a := o.desc.dst.toNat
    match s.opDec o.drawer o.desc.dattr a, s.opDec o.drawer o.desc.dattr (a + o.desc.len.toNat - 1) with
    | some x, some y => if x.2.1.home.isNone then s.coverRanges x.2.2 (y.2.2 + 1) o.desc.dattr.key.toNat else s
    | _, _ => s

/-- Write an operation's record and take it out of the table: CQ_TAIL moves, then the interrupt entry is signalled, a failure may pause the
ring, and a closing ring may end. -/
def State.opComplete (s : State) (n : Nat) (o : Op) (st : Nat) : State :=
  let quiet := o.desc.quiet && st == 0
  let s := if quiet then s else s.opRecord o st
  let s := s.modRing o.drawer o.ring fun x => { x with cqTail := ringIdx (s.ringLog2 o.drawer o.ring) (x.cqTail + 1) }
  let s := (s.userEvent o.drawer 1 1).userEvent o.drawer 8 ((s.wclk - o.at_) * 250)
  let s := s.count 8 2 { drw := some o.drawer }
  let s := if st = 0 then s.fillCovered o else (s.userEvent o.drawer 2 1).count 8 3 { drw := some o.drawer }
  let s := s.dropOp n
  let s := if !quiet && o.desc.irq then s.entrySignal o.drawer (o.desc.irqe.toNat % 64) else s
  let s := if st ≠ 0 ∧ s.fone DRW_RCFG.STOP (4 * o.drawer + o.ring) then s.pauseRing o.drawer o.ring 2 else s
  s.ringEnd o.drawer o.ring

/-- OPERATION_COMPLETE: an executed operation of the drawer's present generation ends with its record; while Bus Master Enable is
clear, or its ring pauses for it, the record is held (R317). -/
def operationComplete (op : Nat) (s : State) : State :=
  match smFind? s.drw.ops op with
  | none => s
  | some o =>
    match o.status with
    | none => s
    | some st =>
      if !s.opCurrent o ∨ o.outst ≠ 0 ∨ !o.tags.isEmpty ∨ s.fget PWR_STATE.CUR ≠ 0 then s
      else
        let x := s.ring o.drawer o.ring
        if !s.hostReach o.drawer ∨ (x.state = 2 ∧ x.cause = 3) then
          if x.held.contains op then s else s.modRing o.drawer o.ring fun x => { x with held := x.held ++ [op] }
        else s.opComplete op o st

/-- OPERATION_COMPLETE (R308). -/
def execOperationComplete (op : Nat) (s : State) : Host.Outcome State Fault Refusal := volatile (operationComplete op) s

/-- `DRW_RSTATE.RESUME`: a PAUSED ring is ACTIVE again; after BME_OFF only with Bus Master Enable set, and the held records are written
first (R301, R317). -/
def State.ringResume (s : State) (d r : Nat) : State :=
  let x := s.ring d r
  if x.state ≠ 2 ∨ (x.cause = 3 ∧ !s.hostReach d) then s
  else
    let s := s.modRing d r fun x => { x with state := 1, cause := 0, held := [] }
    s.each x.held fun n s =>
      match smFind? s.drw.ops n with
      | some o => match o.status with
        | some st => s.opComplete n o st
        | none => s
      | none => s

/-- DRW_RESUME (R317). -/
def execDrwResume (d : DrawerId) (r : RingId) (s : State) : Host.Outcome State Fault Refusal :=
  volatile (pageWrite (.drwResume d r) d fun s => s.ringResume d.val r.val) s

end Sys2Proof.Machine
end

