-- ==== Sys2Proof/Machine/Faults.lean ====
section
/-! DEFINITION. Fault reports, acknowledgement and recovery (16 R382-R390), and the Witness log's commands (16 R400-R402). -/

namespace Sys2Proof.Machine

open Sys2Proof

/-! ## Reports and the fault registers -/

/-- Is a set one of the Wellhead's: PWR, IFC or WIT? -/
def wellSet (set : Nat) : Bool := decide (23 ≤ set ∧ set ≤ 25)

/-- PMU_PAR (18 R438): the counter is zeroed, or the dye record is discarded and counted in MISSED. The report's UNIT names the PMU unit and
its syndrome the counter, 8 for the cycle counter; 9 and above stand for dye record n - 9, the oldest first (assumption 41). -/
def State.pmuParity (s : State) (u n : Nat) : State :=
  if n < 8 then (if u < 12 then s.fset PMU_CTR.COUNT (u * 8 + n) 0 else s)
  else if n = 8 then (if u < 12 then s.fset PMU_CYC.VALUE u 0 else s)
  else if n - 9 < s.pmu.dye.length then
    { s with pmu := { s.pmu with dye := s.pmu.dye.eraseIdx (n - 9) } }.finc PMU_DYESTAT.MISSED
  else s

/-- FAULT_REPORT: a block detects a class; a block of the core only while the core is powered. An uncorrectable error of the Bench's SRAM
also restarts the firmware (20 R465). -/
def faultReport (r : Report) (s : State) : State :=
  let set := r.set.val
  let code := r.cls.val + 1
  if !wellSet set ∧ s.boot.step < 6 then s
  else
    let addr := r.addr.toNat
    let s := s.report set code { syn := r.syndrome.toNat, addr := addr, aux := r.aux.toNat, unit := r.unit.toNat, dpa := some addr } r.base.val
    let s := if set = setPMU ∧ code = 1 then s.pmuParity r.unit.toNat r.syndrome.toNat else s
    if set = setBEN ∧ code = 2 ∧ s.boot.fwUp then { s with boot := { s.boot with fwRestart := true } } else s

/-- FAULT_REPORT (R382). -/
def execFaultReport (r : Report) (s : State) : Host.Outcome State Fault Refusal := volatile (faultReport r) s

/-- A write to a fault register set by a management path: the Wellhead serves its own at once, the core its own in P0. -/
def fltWrite (c : Instr) (p : Path) (set : Nat) (f : State → State) (s : State) : State :=
  if wellSet set then (if s.wellPath p then f s else s) else access c p (fun s => if s.mgmt p then f s else s) s

/-- FLT_ACK: classes acknowledged. -/
def fltAck (set : Fin 31) (bits : BitVec 16) (s : State) : State :=
  s.fset FLT_ACK.UNACK set.val (BitVec.ofNat 16 (s.fget FLT_ACK.UNACK set.val) &&& ~~~bits).toNat

/-- FLT_ACK (R386). -/
def execFltAck (p : Path) (set : Fin 31) (bits : BitVec 16) (s : State) : Host.Outcome State Fault Refusal :=
  volatile (fltWrite (.fltAck p set bits) p set.val (fltAck set bits)) s

/-! ## Recovery (R387, R388) -/

/-- Is the emergency reserve full (09 R244)? -/
def State.reserveFull (s : State) : Bool := decide (512 * s.poolFrames 1 ≤ s.rsvFree)

/-- The condition that a class's chapter names for its recovery: SHORTFALL (11 R290), CAPFAULT (09 R245), TJ_WARN (19 R453), FALLBACK (02
R57); true of every other class. -/
def State.mayRecover (s : State) (set code : Nat) : Bool :=
  if set = setWEIR ∧ code = 1 then s.fget WEIR_SHORT.CH == 0 && s.fget WEIR_SHORT.SPAN == 0
  else if set = setSLC ∧ code = 6 then s.reserveFull
  else if set = setGLB ∧ code = 1 then !s.fone GLB_TJ.WARN
  else if set = setCUT ∧ code = 3 then s.fget CUT_STATUS.SOURCE != 3
  else true

/-- The classes that have such a condition. -/
def condClasses : List (Nat × Nat) := [(setWEIR, 1), (setSLC, 6), (setGLB, 1), (setCUT, 3)]

/-- As time passes, the quiet time of a class whose condition does not hold starts again (R387). -/
def State.quietTick (s : State) : State :=
  s.each condClasses fun e s =>
    if s.fbitAt FLT_STATUS.CLASS e.1 (e.2 - 1) && !s.mayRecover e.1 e.2 then
      { s with flt := { s.flt with quiet := smSet s.flt.quiet (e.1 * 16 + e.2 - 1) s.wclk } }
    else s

/-- Times of a set's recoveries within RECOVERY_WINDOW. -/
def State.recentRecoveries (s : State) (set : Nat) : List Time :=
  (smGet s.flt.hist set []).filter fun t => !s.elapsed t (secT (s.fget FLT_POLICY1.WINDOW_S set))

/-- A class leaves fault state: counted, recorded by the Witness, and held when the window has had RECOVERY_MAX recoveries. -/
def State.recover (s : State) (set code : Nat) : State :=
  let level := get2 (s.fget FLT_LEVEL.LEVEL set) (code - 1)
  let s := s.fset FLT_LEVEL.LEVEL set (set2 (s.fget FLT_LEVEL.LEVEL set) (code - 1) 0)
  let s := ((s.fputBit FLT_STATUS.CLASS set (code - 1) false).fputBit FLT_ACK.UNACK set (code - 1) false).finc FLT_RECOV.RECOVERIES set
  let times := s.recentRecoveries set ++ [s.wclk]
  let s := { s with flt := { quiet := smDel s.flt.quiet (set * 16 + code - 1), hist := smSet s.flt.hist set times } }
  let max := s.fget FLT_POLICY0.RECOVERY_MAX set
  let s := if max ≠ 0 ∧ max ≤ times.length then s.fset FLT_STATUS.HELD set 1 else s
  let s := if set = setSLC ∧ code = 6 then { s with slc := { s.slc with capFault := [] } } else s
  s.witOwn set { kind := 3, level := level, block := blockOf set, cls := code, count := min 0xFFFF times.length
                 unit := if blockOf set = 5 then set - 5 else 255 }

/-- QUIET_TIME_EXPIRY: no report of a class at L0 to L2 for QUIET_TIME, with the set not held. -/
def quietTimeExpiry (set : Fin 31) (cls : Fin 16) (s : State) : State :=
  let n := set.val
  let code := cls.val + 1
  let c := s.classSt n code
  match smFind? s.flt.quiet (n * 16 + cls.val) with
  | some t =>
    if c.inFault ∧ c.level ≠ 3 ∧ !s.fone FLT_STATUS.HELD n ∧ s.mayRecover n code ∧ s.elapsed t (msT (s.fget FLT_POLICY0.QUIET_MS n)) then
      s.recover n code
    else s
  | none => s

/-- QUIET_TIME_EXPIRY (R387). -/
def execQuietTimeExpiry (set : Fin 31) (cls : Fin 16) (s : State) : Host.Outcome State Fault Refusal := volatile (quietTimeExpiry set cls) s

/-- FLT_RECOV_RELEASE: a hold ends, and the recovery history is cleared. -/
def fltRecovRelease (set : Fin 31) (s : State) : State :=
  let s := s.fset FLT_STATUS.HELD set.val 0
  { s with flt := { s.flt with hist := smDel s.flt.hist set.val } }

/-- FLT_RECOV_RELEASE (R388). -/
def execFltRecovRelease (p : Path) (set : Fin 31) (s : State) : Host.Outcome State Fault Refusal :=
  volatile (fltWrite (.fltRecovRelease p set) p set.val (fltRecovRelease set)) s

/-- FLT_FIRST_REARM: the next report is captured. -/
def fltFirstRearm (set : Fin 31) (s : State) : State := s.fset FLT_FIRST.VALID set.val 0

/-- FLT_FIRST_REARM (R390). -/
def execFltFirstRearm (p : Path) (set : Fin 31) (s : State) : Host.Outcome State Fault Refusal :=
  volatile (fltWrite (.fltFirstRearm p set) p set.val (fltFirstRearm set)) s

/-! ## The Witness log's commands (R400-R402) -/

/-- A log read: by the Wellhead's own responder where the Bench is not up, else by the Bench. -/
def witServe (c : Instr) (p : Path) (f : State → State) (s : State) : State :=
  if p = .sideband ∧ !s.benchUp then f s else access c p (fun s => s.adminCmd p f) s

/-- WIT_READ. -/
def witRead (p : Path) (first : Word) (count : Nat) (s : State) : State := s.witReadReply p first count

/-- WIT_READ (R401). -/
def execWitRead (p : Path) (first : Word) (count : Nat) (s : State) : Host.Outcome State Fault Refusal :=
  volatile (witServe (.witRead p first count) p (witRead p first count)) s

/-- WIT_INFO. -/
def witInfo (p : Path) (s : State) : State := s.witInfoReply p

/-- WIT_INFO (R401). -/
def execWitInfo (p : Path) (s : State) : Host.Outcome State Fault Refusal := volatile (witServe (.witInfo p) p (witInfo p)) s

/-- The log is erased and begins with a MARKER of class 2. -/
def State.witErased (s : State) : State :=
  let s := ((s.fset WIT_SEQ.SEQ 0 0).fset WIT_HEAD.SLOT 0 0).modWit fun w => { w with
    flash := [], staging := [], erased := [0, 1, 2], erasing := none, lastCrc := 0, poweron := 0 }
  s.witStage { kind := 4, cls := 2, block := 14 } []

/-- WIT_FORMAT: in BLANK and MANUFACTURE, from the Bench or the sideband. -/
def witFormat (p : Path) (s : State) : State :=
  s.mailbox p fun s =>
    if (p = .sideband ∨ p = .bench) ∧ lifecycle s.nv ≤ 1 then s.witErased.reply p .success else s.reply p .unsupported

/-- WIT_FORMAT (R400). -/
def execWitFormat (p : Path) (s : State) : Host.Outcome State Fault Refusal := volatile (access (.witFormat p) p (witFormat p)) s

end Sys2Proof.Machine
end

