-- ==== Sys2Proof/Machine/PmuCmds.lean ====
section
/-! DEFINITION. The PMU's commands (18 R425, R429, R430, R432, R436): only management paths reach its window. -/

namespace Sys2Proof.Machine

open Sys2Proof

/-- The units that a write of a path reaches: the one its `PMU_UNITSEL` selects, every one under 0x1F, none under other values. -/
def State.pmuWriteUnits (s : State) (p : Path) : List Nat :=
  let u := s.fget PMU_UNITSEL.UNIT (pathNo p)
  if u < 12 then [u] else if u = 31 then List.range 12 else []

/-- The unit that a read of a path reaches: unit 0 under 0x1F. -/
def State.pmuReadUnit (s : State) (p : Path) : Option Nat :=
  let u := s.fget PMU_UNITSEL.UNIT (pathNo p)
  if u < 12 then some u else if u = 31 then some 0 else none

/-- A PMU command of a management path; of another path it has no effect. -/
def State.pmuWrite (s : State) (p : Path) (f : State → State) : State := if s.mgmt p then f s else s

/-- FREEZE of a unit takes a value. -/
def State.pmuFreezeUnit (s : State) (on : Bool) (u : Nat) : State := s.fbit PMU_CTL.FREEZE u on

/-- PMU_FREEZE: every counter of the selected units stops, or counts again. -/
def pmuFreeze (p : Path) (on : Bool) (s : State) : State :=
  s.pmuWrite p fun s => s.each (s.pmuWriteUnits p) fun u s => s.pmuFreezeUnit on u

/-- PMU_FREEZE (R432). -/
def execPmuFreeze (p : Path) (on : Bool) (s : State) : Host.Outcome State Fault Refusal :=
  volatile (access (.pmuFreeze p on) p (pmuFreeze p on)) s

/-- CLEAR of a unit: the cycle counter, every counter and `PMU_OVF` are zero. -/
def State.pmuClearUnit (s : State) (u : Nat) : State :=
  let s := (s.fset PMU_CYC.VALUE u 0).fset PMU_OVF.OVF u 0
  s.each (List.range 8) fun n s => s.fset PMU_CTR.COUNT (u * 8 + n) 0

/-- PMU_CLEAR. -/
def pmuClear (p : Path) (s : State) : State :=
  s.pmuWrite p fun s => s.each (s.pmuWriteUnits p) fun u s => s.pmuClearUnit u

/-- PMU_CLEAR (R425). -/
def execPmuClear (p : Path) (s : State) : Host.Outcome State Fault Refusal := volatile (access (.pmuClear p) p (pmuClear p)) s

/-- PMU_CTR_WRITE: a counter takes the written value. -/
def pmuCtrWrite (p : Path) (n : Fin 8) (val : Word64) (s : State) : State :=
  s.pmuWrite p fun s => s.each (s.pmuWriteUnits p) fun u s => s.fset PMU_CTR.COUNT (u * 8 + n.val) val.toNat

/-- PMU_CTR_WRITE (R429). -/
def execPmuCtrWrite (p : Path) (n : Fin 8) (val : Word64) (s : State) : Host.Outcome State Fault Refusal :=
  volatile (access (.pmuCtrWrite p n val) p (pmuCtrWrite p n val)) s

/-- A read of a unit's cycle counter also copies TB into `PMU_TBSNAP`. -/
def State.pmuSnap (s : State) (u : Nat) : State := s.fset PMU_TBSNAP.VALUE u s.tb

/-- PMU_CYC_READ: the cycle counter of the selected unit; other heads and no unit read 0. -/
def pmuCycRead (p : Path) (s : State) : State :=
  match (if s.mgmt p then s.pmuReadUnit p else none) with
  | some u => (s.pmuSnap u).emit (.regData p (BitVec.ofNat 64 (s.fget PMU_CYC.VALUE u)))
  | none => s.emit (.regData p 0)

/-- PMU_CYC_READ (R430). -/
def execPmuCycRead (p : Path) (s : State) : Host.Outcome State Fault Refusal :=
  volatile (access (.pmuCycRead p) p (pmuCycRead p)) s

/-- COUNTER_OVERFLOW: an event of value 1 arrives at a counter that stands at its end and counts. -/
def counterOverflow (u : Fin 12) (n : Fin 8) (s : State) : State :=
  let i := u.val * 8 + n.val
  if s.fone PMU_EVSEL.EN i ∧ !s.fone PMU_CTL.FREEZE u.val ∧ s.fget PMU_CTR.COUNT i = 2 ^ 48 - 1 then s.ctrAdd u.val 8 n.val 1 else s

/-- COUNTER_OVERFLOW (R429). -/
def execCounterOverflow (u : Fin 12) (n : Fin 8) (s : State) : Host.Outcome State Fault Refusal := volatile (counterOverflow u n) s

/-- The oldest dye record is removed (R436). -/
def State.dyePop (s : State) : State := { s with pmu := { s.pmu with dye := s.pmu.dye.drop 1 } }

/-- DYE_POP. -/
def dyePop (p : Path) (s : State) : State := s.pmuWrite p fun s => s.dyePop

/-- DYE_POP (R436). -/
def execDyePop (p : Path) (s : State) : Host.Outcome State Fault Refusal := volatile (access (.dyePop p) p (dyePop p)) s

/-- The LFSR is reloaded; a seed of 0 acts as 1. -/
def State.dyeSeed (s : State) (seed : Nat) : State :=
  let s := s.fset PMU_DYESEED.SEED 0 seed
  let x := BitVec.ofNat 32 seed
  { s with pmu := { s.pmu with lfsr := if x = 0 then 1 else x } }

/-- DYE_SEED_WRITE. -/
def dyeSeedWrite (p : Path) (seed : Word) (s : State) : State := s.pmuWrite p fun s => s.dyeSeed seed.toNat

/-- DYE_SEED_WRITE (R436). -/
def execDyeSeedWrite (p : Path) (seed : Word) (s : State) : Host.Outcome State Fault Refusal :=
  volatile (access (.dyeSeedWrite p seed) p (dyeSeedWrite p seed)) s

end Sys2Proof.Machine
end

