-- ==== Sys2Proof/Machine/Retire.lean ====
section
/-! DEFINITION. Key retirement (10 R270-R273) and the key walk (06 R158). -/

namespace Sys2Proof.Machine

open Sys2Proof

/-- Change Inlay. -/
def State.modInl (s : State) (f : Inlay → Inlay) : State := { s with inl := f s.inl }

/-- The retirement in progress stands at a step, in a Bench that runs. -/
def State.retireAt (s : State) (step : Nat) : Bool :=
  s.fone INL_RETIRE.BUSY && s.fget INL_RETIRE.STEP == step && !s.boot.fwRestart

/-- No retirement is in progress. -/
def State.retireOver (s : State) : State :=
  ((s.fset INL_RETIRE.BUSY 0 0).fset INL_RETIRE.STEP 0 0).modInl fun x => { x with retirer := none, aborted := false }

/-- A retirement passes to its next step, or ends at the boundary when its head's FLR aborts it (04 R106). -/
def State.retireNext (s : State) (step : Nat) : State := if s.inl.aborted then s.retireOver else s.fset INL_RETIRE.STEP 0 step

/-- Step 5 of R270: the slot is RETIRED, its event is raised, and the issuing path hears of it. -/
def State.retireDone (s : State) (k : Nat) : State :=
  let who := s.inl.retirer
  let s := ((s.slotTo k 4).inlEvent 2).retireOver
  match who with
  | some (.head h) => s.signalHead 31 h.val
  | some p => s.reply p .success
  | none => s

/-- Fill ranges as bytes of DPA (R270, R273); one of no length is covered. -/
def fillRanges (l : List FillRange) : List (Nat × Nat) :=
  (l.map fun r => (r.base.toNat, r.base.toNat + r.len * mib2)).filter fun r => decide (r.1 < r.2)

/-- KEY_RETIRE: step 1: the slot is RETIRING. -/
def keyRetire (p : Path) (kid : KeyId) (ranges : List FillRange) (s : State) : State :=
  s.mailbox p fun s =>
    let k := kid.toNat
    let st := (s.slot k).state
    if !s.keyOwner p k then s.reply p .unsupported
    else if k = 0 ∨ 4 < ranges.length then s.reply p .invalidInput
    else if s.fone INL_RETIRE.BUSY then s.reply p .busy
    else if st = 0 ∨ st = 4 then s.reply p .invalidSecurityState
    else
      let rs := fillRanges ranges
      let s := s.modSlot k fun x => { x with state := 3, ranges := rs, hadRanges := !rs.isEmpty }
      let s := ((s.fset INL_RETIRE.BUSY 0 1).fset INL_RETIRE.STEP 0 1).fset INL_RETIRE.KEY 0 k
      (s.modInl fun x => { x with retirer := some p, aborted := false }).reply p .background

/-- KEY_RETIRE (R270). -/
def execKeyRetire (p : Path) (k : KeyId) (ranges : List FillRange) (s : State) : Host.Outcome State Fault Refusal :=
  volatile (access (.keyRetire p k ranges) p (keyRetire p k ranges)) s

/-- The entries under a key. -/
def State.entriesUnder (s : State) (k : Nat) : SMap DirEntry := s.coh.dir.filter fun e => e.2.key.toNat == k

/-- Does a walked line still stand in the directory under the key, or in an eviction? -/
def State.walkWaits (s : State) (k ln : Nat) : Bool :=
  smHas s.coh.evicts ln || match s.dirFind ln with
    | some (_, e) => e.key.toNat == k
    | none => false

/-- The walk takes every entry whose lock is free; the others wait their turn. -/
def State.walkTick (s : State) : State :=
  match s.coh.walk with
  | none => s
  | some l =>
    let k := s.fget COH_KWALK.KEY
    s.each (s.entriesUnder k) fun e s => if l.contains (dirLine e.1 e.2) then s.agentEvict e.1 e.2 else s

/-- COH_KWALK_GO: the Bench starts a walk; in a retirement under the key it is step 2. -/
def cohKwalkGo (p : Path) (kid : KeyId) (s : State) : State :=
  let k := kid.toNat
  if p ≠ .bench ∨ s.coh.walk.isSome then s
  else
    let s := if s.retireAt 1 ∧ s.fget INL_RETIRE.KEY = k then s.retireNext 2 else s
    let l := (s.entriesUnder k).map fun e => dirLine e.1 e.2
    let s := ((s.fset COH_KWALK.KEY 0 k).fset COH_KWALK.GO 0 1).fset COH_KWALK.LINES 0 (min (2 ^ 20 - 1) l.length)
    { s with coh := { s.coh with walk := some l } }.walkTick

/-- COH_KWALK_GO (06 R158). -/
def execCohKwalkGo (p : Path) (k : KeyId) (s : State) : Host.Outcome State Fault Refusal :=
  volatile (access (.cohKwalkGo p k) p (cohKwalkGo p k)) s

/-- KEY_WALK_DONE: the scan has ended and every snoop it sent is answered; step 3 of a retirement follows. -/
def keyWalkDone (s : State) : State :=
  match s.coh.walk with
  | none => s
  | some l =>
    if l.any (s.walkWaits (s.fget COH_KWALK.KEY)) then s
    else
      let s := ({ s with coh := { s.coh with walk := none } }.fset COH_KWALK.GO 0 0).fset COH_KWALK.DONE 0 1
      if s.retireAt 2 then s.retireNext 3 else s

/-- KEY_WALK_DONE (06 R158). -/
def execKeyWalkDone (s : State) : Host.Outcome State Fault Refusal := volatile keyWalkDone s

/-- Does a line under a key stand in a queue, a return path, Inlay, the Press or a move? -/
def State.inFlightUnder (s : State) (k : Nat) : Bool :=
  (s.coh.txns.any fun e => e.2.key.toNat == k) || s.slc.moves.any fun e => e.2.key.toNat == k

/-- RETIRE_DRAIN_COMPLETE: step 3 has ended. -/
def retireDrainComplete (s : State) : State :=
  if s.retireAt 3 ∧ !s.inFlightUnder (s.fget INL_RETIRE.KEY) then s.retireNext 4 else s

/-- RETIRE_DRAIN_COMPLETE (R270). -/
def execRetireDrainComplete (s : State) : Host.Outcome State Fault Refusal := volatile retireDrainComplete s

/-- ZEROIZE_VERIFIED: both copies of the slot read back as zero. -/
def zeroizeVerified (s : State) : State := if s.retireAt 4 then s.retireDone (s.fget INL_RETIRE.KEY) else s

/-- ZEROIZE_VERIFIED (R270). -/
def execZeroizeVerified (s : State) : Host.Outcome State Fault Refusal := volatile zeroizeVerified s

end Sys2Proof.Machine
end

