-- ==== Sys2Proof/Machine/Security.lean ====
section
/-! DEFINITION. Tokens, debug sessions, lifecycle, owner keys and firmware slots (17 R405-R422). -/

namespace Sys2Proof.Machine

open Sys2Proof

/-- Change the security state. -/
def State.modSec (s : State) (f : Sec → Sec) : State := { s with sec := f s.sec }

/-! ## Nonce (R413, R417) -/

/-- A fresh nonce is drawn; it replaces the one outstanding. -/
def State.drawNonce (s : State) : State := (s.modSec fun x => { x with nonce := some (s.freeVal 256, s.wclk) }).freeTaken

/-- The nonce as a number, 0 without one. -/
def State.nonceNat (s : State) : Nat := match s.sec.nonce with
  | some n => n.1.toNat
  | none => 0

/-- SEC_NONCE: the nonce and the serial number. -/
def secNonce (p : Path) (s : State) : State :=
  s.adminCmd p fun s =>
    let s := s.drawNonce
    s.reply p .success [s.nonceNat, s.nv.serial.toNat]

/-- SEC_NONCE (R413). -/
def execSecNonce (p : Path) (s : State) : Host.Outcome State Fault Refusal := volatile (access (.secNonce p) p (secNonce p)) s

/-- NONCE_EXPIRY: 600 s have passed since the nonce was drawn. -/
def nonceExpiry (s : State) : State :=
  match s.sec.nonce with
  | some (_, t) => if s.elapsed t (secT 600) then s.modSec fun x => { x with nonce := none } else s
  | none => s

/-- NONCE_EXPIRY (R417). -/
def execNonceExpiry (s : State) : Host.Outcome State Fault Refusal := volatile nonceExpiry s

/-! ## Token checks (R414-R417) -/

/-- Big-endian bytes. -/
def beBytes (n v : Nat) : List Byte := (leBytes n v).reverse

/-- Bytes 0x00-0xCF of a token, which its signature covers. -/
def tokenBytes (t : Token) : List Byte :=
  leBytes 4 t.magic.toNat ++ leBytes 1 t.kind.toNat ++ leBytes 1 t.arg.toNat ++ leBytes 2 t.signer.toNat ++
  leBytes 8 t.serial.toNat ++ leBytes 32 t.nonce.toNat ++ leBytes 2 t.duration.toNat ++ leBytes 14 t.reserved.toNat ++
  leBytes 48 t.digest.toNat ++ beBytes 96 t.pubkey.toNat

/-- Result 1: MAGIC, KIND, ARG, DURATION or a reserved field. -/
def tokenFormBad (kind : Nat) (t : Token) : Bool :=
  let arg := t.arg.toNat
  let dur := t.duration.toNat
  t.magic != 0x4B4F544B || t.kind.toNat != kind || t.reserved != 0 ||
  (if kind = 1 then arg != 0 || dur == 0 || decide (1440 < dur) else dur != 0) ||
  (if kind = 2 then arg == 0 || decide (5 < arg) else if 3 ≤ kind then arg == 0 || decide (4 < arg) else false)

/-- The transitions of R406 that need a token. -/
def lcMoves (from_ to_ : Nat) : Bool :=
  match from_ with
  | 1 => to_ == 2 || to_ == 3
  | 2 | 3 => to_ == 4 || to_ == 5
  | 4 => to_ == 5
  | _ => false

/-- Is some owner slot enrolled and unrevoked? -/
def ownerLive (n : NonVol) : Bool := (List.range 4).any fun i => ownerGood n (i + 1)

/-- The authority for a kind in the present state: an owner slot (true), the vendor key (false), or none given (R406, R416, R419). -/
def tokenOwner (n : NonVol) (kind arg : Nat) : Option Bool :=
  let lc := lifecycle n
  match kind with
  | 1 => if lc = 3 then some (ownerLive n) else if lc = 4 then some false else none
  | 2 => if !lcMoves lc arg then none else if lc = 3 then some (ownerLive n) else some false
  | 3 => if lc = 3 then some true else none
  | _ => some true

/-- Result 4: SIGNER is not the authority; OWNER_REVOKE is signed by another slot than the one it revokes. -/
def tokenSignerBad (n : NonVol) (kind : Nat) (t : Token) : Bool :=
  let sg := t.signer.toNat
  match tokenOwner n kind t.arg.toNat with
  | none => false
  | some true => sg == 0 || decide (4 < sg) || (kind == 4 && sg == t.arg.toNat)
  | some false => sg != 0

/-- Result 5: the owner slot is empty or revoked, or PUBKEY is not its key. -/
def tokenSlotBad (n : NonVol) (t : Token) : Bool :=
  let sg := t.signer.toNat
  sg != 0 && (!ownerGood n sg || smGet n.owners (sg - 1) 0 != Config.sha384 (beBytes 96 t.pubkey.toNat))

/-- Result 6: the signature. -/
def tokenSigBad (t : Token) : Bool :=
  let key := if t.signer = 0 then Config.vendorKey else t.pubkey
  (t.signer == 0 && t.pubkey != 0) || !Config.ecdsaOk key (Config.sha384 (tokenBytes t)) t.sig

/-- Result 7: the state does not accept the kind, or R416 refuses the command. -/
def tokenStateBad (n : NonVol) (kind : Nat) (t : Token) : Bool :=
  let arg := t.arg.toNat
  (tokenOwner n kind arg).isNone ||
  (kind == 3 && ownerIn n arg) ||
  (kind == 4 && !(List.range 4).any fun i => i + 1 != arg && ownerGood n (i + 1))

/-- The result of a token check (R415). -/
def State.tokenResult (s : State) (kind : Nat) (t : Token) : Nat :=
  if s.fone SEC_TOKEN.LOCKOUT then 8
  else if tokenFormBad kind t then 1
  else if t.serial ≠ s.nv.serial then 2
  else if (s.sec.nonce.map (·.1)) ≠ some t.nonce then 3
  else if tokenSignerBad s.nv kind t then 4
  else if tokenSlotBad s.nv t then 5
  else if tokenSigBad t then 6
  else if tokenStateBad s.nv kind t then 7 else 0

/-- A failed token is counted; the eighth locks the device out (R417, R423). -/
def State.tokenFailed (s : State) (kind r : Nat) : State :=
  let s := s.finc SEC_TOKEN.FAILS
  if r = 8 then s
  else
    let s := s.report setSEC 1 { syn := kind + 256 * r }
    if 8 ≤ s.fget SEC_TOKEN.FAILS then (s.fset SEC_TOKEN.LOCKOUT 0 1).report setSEC 2 { syn := kind + 256 * r } else s

/-- A token check with its record in `SEC_TOKEN`; a check that compares the nonce uses it up. -/
def State.tokenCheck (s : State) (kind : Nat) (t : Token) : Nat × State :=
  let r := s.tokenResult kind t
  let s := s.fset SEC_TOKEN.RESULT 0 r
  let s := if r = 8 then s else s.fset SEC_TOKEN.KIND 0 t.kind.toNat
  let s := if r = 1 ∨ r = 2 ∨ r = 8 then s else s.modSec fun x => { x with nonce := none }
  (r, s.keepNv fun s => if r = 0 then s else s.tokenFailed t.kind.toNat r)

/-- The mailbox's return code for a result (R415). -/
def tokenRc (r : Nat) : Rc :=
  if r = 0 then .success else if r = 4 ∨ r = 7 then .invalidSecurityState else if r = 8 then .busy else .invalidInput

/-! ## Debug unlock (R419, R420) -/

/-- Every slot that is not FREE is zeroized and becomes RETIRED; lines awaiting encryption are stored poisoned, reads under way return
poison, and a retirement in progress ends (R419; 10 R271). -/
def State.zeroizeAll (s : State) : State :=
  let slots := smMap s.inl.slots fun _ x => if x.state = 0 then x else { x with state := 4 }
  let awaits (x : Txn) : Bool := x.kind != .read && (s.slot x.key.toNat).mode == 1 && !x.cipher
  let txns := smMap s.coh.txns fun _ x =>
    if x.kind = .read then { x with retired := true } else if awaits x then { x with poison := true, cipher := true } else x
  let fell := s.inl.slots.any fun e => e.2.state != 0 && e.2.state != 4
  let s := { s with inl := { s.inl with slots := slots }, coh := { s.coh with txns := txns } }
  let s := if fell then s.inlEvent 2 else s
  if s.fone INL_RETIRE.BUSY then { s with coh := { s.coh with walk := none } }.retireDone (s.fget INL_RETIRE.KEY) else s

/-- The syndrome of DEBUG_UNLOCK: SIGNER, DURATION and the first 8 bytes of the nonce. -/
def unlockSyn (t : Token) : Nat := t.signer.toNat + t.duration.toNat * 2 ^ 16 + t.nonce.toNat % 2 ^ 64 * 2 ^ 32

/-- An accepted token opens Bench debug; during a session it replaces DURATION only. -/
def State.debugUnlock (s : State) (t : Token) : State :=
  let until_ := s.wclk + secT (60 * t.duration.toNat)
  if s.sec.dbgUntil.isSome then s.modSec fun x => { x with dbgUntil := some until_ }
  else
    let key0 := (s.slot 0).state == 1
    let s := s.zeroizeAll
    let s := (s.fset SEC_DBG.STICKY 0 1).fset SEC_DBG.SIGNER 0 t.signer.toNat
    let s := (s.modSec fun x => { x with dbgUntil := some until_ }).report setSEC 3 { syn := unlockSyn t }
    if key0 then s.key0Leaves else s

/-- A token shifted in or sent is checked as DBG_UNLOCK. -/
def State.unlockToken (s : State) (t : Token) : Nat × State :=
  let c := s.tokenCheck 1 t
  (c.1, if c.1 = 0 then c.2.debugUnlock t else c.2)

/-- DBG_UNLOCK. -/
def dbgUnlock (p : Path) (t : Token) (s : State) : State :=
  s.adminCmd p fun s =>
    let c := s.unlockToken t
    c.2.reply p (tokenRc c.1)

/-- DBG_UNLOCK (R419). -/
def execDbgUnlock (p : Path) (t : Token) (s : State) : Host.Outcome State Fault Refusal :=
  volatile (access (.dbgUnlock p t) p (dbgUnlock p t)) s

/-- DBG_LOCK: the session ends. -/
def dbgLock (p : Path) (s : State) : State := s.adminCmd p fun s => s.dbgEnd.reply p .success

/-- DBG_LOCK (R420). -/
def execDbgLock (p : Path) (s : State) : Host.Outcome State Fault Refusal := volatile (access (.dbgLock p) p (dbgLock p)) s

/-- SEC_DBG_LOCK: a management path writes 1 to `SEC_DBG.LOCK`. -/
def secDbgLock (p : Path) (s : State) : State := if s.mgmt p then s.dbgEnd else s

/-- SEC_DBG_LOCK (R420). -/
def execSecDbgLock (p : Path) (s : State) : Host.Outcome State Fault Refusal := volatile (access (.secDbgLock p) p (secDbgLock p)) s

/-- DEBUG_DURATION_END: DURATION is over, counted in WCLK in every power state. -/
def debugDurationEnd (s : State) : State :=
  match s.sec.dbgUntil with
  | some t => if t ≤ s.wclk then s.dbgEnd else s
  | none => s

/-- DEBUG_DURATION_END (R420). -/
def execDebugDurationEnd (s : State) : Host.Outcome State Fault Refusal := volatile debugDurationEnd s

/-! ## Lifecycle and owner keys (R405-R407, R416) -/

/-- The Witness engine records a transition, an enrolment or a revocation: a MARKER record of block SEC (assumption 38). -/
def State.witSec (s : State) (what arg : Nat) : State :=
  s.witOwn setSEC { kind := 4, block := 15, cls := 0, syndrome := BitVec.ofNat 96 (what + 256 * arg) }

/-- Blow the fuse of a transition in all three copies; DECOMMISSIONED also blows the device secret (R406). -/
def lcBlow (n : NonVol) (to_ : Nat) : NonVol :=
  match to_ with
  | 1 => { n with fM := 7 }
  | 2 => { n with fD := 7 }
  | 3 => { n with fP := 7 }
  | 4 => { n with fT := 7 }
  | _ => { n with fX := 7, secretOk := false }

/-- A transition: the fuse, the Witness, and a cold reset as CUT_RECUT makes it. -/
def State.lcGo (s : State) (p : Path) (to_ : Nat) : State :=
  let s := { s with nv := lcBlow s.nv to_ }
  s.keepNv fun s => ((s.witSec 2 to_).reply p .success).recut 1 p

/-- LC_TRANSITION: with no token, BLANK to MANUFACTURE from the Bench or the sideband. -/
def lcTransition (p : Path) (t : Option Token) (s : State) : State :=
  match t with
  | none =>
    s.mailbox p fun s =>
      if p ≠ .sideband ∧ p ≠ .bench then s.reply p .unsupported
      else if lifecycle s.nv = 0 then s.lcGo p 1 else s.reply p .invalidInput
  | some t =>
    s.adminCmd p fun s =>
      let c := s.tokenCheck 2 t
      if c.1 = 0 then c.2.lcGo p t.arg.toNat else c.2.reply p (tokenRc c.1)

/-- LC_TRANSITION (R406). -/
def execLcTransition (p : Path) (t : Option Token) (s : State) : Host.Outcome State Fault Refusal :=
  lasting (access (.lcTransition p t) p (lcTransition p t)) s

/-- An owner key digest is enrolled in a slot (1-4). -/
def State.enrol (s : State) (slot : Nat) (digest : BitVec 384) : State :=
  { s with nv := { s.nv with owners := smSet s.nv.owners (slot - 1) digest } }.keepNv fun s => s.witSec 3 slot

/-- OWNER_ENROLL: without a token in MANUFACTURE and DEVELOP, with one in PRODUCTION, whose ARG and DIGEST then say what is enrolled. -/
def ownerEnroll (p : Path) (slot : Fin 4) (digest : BitVec 384) (t : Option Token) (s : State) : State :=
  s.adminCmd p fun s =>
    match t with
    | some t =>
      let c := s.tokenCheck 3 t
      (if c.1 = 0 then c.2.enrol t.arg.toNat t.digest else c.2).reply p (tokenRc c.1)
    | none =>
      let lc := lifecycle s.nv
      if lc = 3 then s.reply p .invalidInput
      else if lc ≠ 1 ∧ lc ≠ 2 then s.reply p .invalidSecurityState
      else if ownerIn s.nv (slot.val + 1) then s.reply p .invalidInput
      else (s.enrol (slot.val + 1) digest).reply p .success

/-- OWNER_ENROLL (R416). -/
def execOwnerEnroll (p : Path) (slot : Fin 4) (digest : BitVec 384) (t : Option Token) (s : State) :
    Host.Outcome State Fault Refusal := lasting (access (.ownerEnroll p slot digest t) p (ownerEnroll p slot digest t)) s

/-- A slot (1-4) is revoked. -/
def State.revoke (s : State) (slot : Nat) : State :=
  { s with nv := { s.nv with revoked := s.nv.revoked ||| (1#4 <<< (slot - 1)) } }.keepNv fun s => s.witSec 4 slot

/-- OWNER_REVOKE. -/
def ownerRevoke (p : Path) (t : Token) (s : State) : State :=
  s.adminCmd p fun s =>
    let c := s.tokenCheck 4 t
    (if c.1 = 0 then c.2.revoke t.arg.toNat else c.2).reply p (tokenRc c.1)

/-- OWNER_REVOKE (R416). -/
def execOwnerRevoke (p : Path) (t : Token) (s : State) : Host.Outcome State Fault Refusal :=
  lasting (access (.ownerRevoke p t) p (ownerRevoke p t)) s

/-! ## Firmware slots (R410) -/

/-- FW_ADVANCE: the fused counter rises to the running firmware's ROLLBACK. -/
def fwAdvance (p : Path) (s : State) : State :=
  s.adminCmd p fun s =>
    if !s.boot.fwUp then s.reply p .invalidInput
    else { s with nv := { s.nv with fwFused := max s.nv.fwFused (s.fget SEC_LC.FW_IMAGE) } }.reply p .success

/-- FW_ADVANCE (R410). -/
def execFwAdvance (p : Path) (s : State) : Host.Outcome State Fault Refusal := lasting (access (.fwAdvance p) p (fwAdvance p)) s

/-- FW_WRITE_SLOT: a good image goes into the slot that does not run, or, where none runs, into the slot named. -/
def fwWriteSlot (p : Path) (image : List Byte) (slotB flashOk : Bool) (s : State) : State :=
  s.adminCmd p fun s =>
    if (checkFirmware s.nv image).isSome then s.reply p .invalidInput
    else
      let b := if s.boot.fwUp then s.boot.fwSlot == 0 else slotB
      let img := slotAfter image flashOk
      let s := { s with nv := if b then { s.nv with fwB := img } else { s.nv with fwA := img } }
      s.reply p (if flashOk then .success else .internalError)

/-- FW_WRITE_SLOT (R410). -/
def execFwWriteSlot (p : Path) (image : List Byte) (slotB flashOk : Bool) (s : State) : Host.Outcome State Fault Refusal :=
  lasting (access (.fwWriteSlot p image slotB flashOk) p (fwWriteSlot p image slotB flashOk)) s

/-! ## The debug vote (R422) -/

/-- A value within the range that the lifecycle gives, or abstain. -/
def voteIn (lc v : Nat) : Nat := if (lc ≤ 1 ∧ v ≤ 4) ∨ (lc = 2 ∧ 1 ≤ v ∧ v ≤ 4) then v else 15

/-- The debug vote takes a value; below P1 a change triggers a wake (R421). -/
def State.debugVoteSet (s : State) (v : Nat) : State :=
  let v := voteIn (lifecycle s.nv) v
  let s' := s.modPwr fun x => { x with dbgVote := v }
  if v ≠ s.pwr.dbgVote ∧ 2 ≤ s.fget PWR_STATE.CUR ∧ s.fget PWR_STATE.CUR ≤ 3 then s'.latch 6 0 else s'

/-- SEC_DBGVOTE_WRITE: from the Bench's path only. -/
def secDbgvoteWrite (p : Path) (v : BitVec 4) (s : State) : State := if p = .bench then s.debugVoteSet v.toNat else s

/-- SEC_DBGVOTE_WRITE (R422). -/
def execSecDbgvoteWrite (p : Path) (v : BitVec 4) (s : State) : Host.Outcome State Fault Refusal :=
  volatile (access (.secDbgvoteWrite p v) p (secDbgvoteWrite p v)) s

end Sys2Proof.Machine
end

