-- ==== Sys2Proof/Machine/Spdm.lean ====
section
/-! DEFINITION. The SPDM responder (17 R411-R412) and the IDE key management that runs over it (04 R95-R96). Request, response and
error codes are DMTF SPDM 1.2's (assumption 40). -/

namespace Sys2Proof.Machine

open Sys2Proof

/-- Is the lifecycle open: BLANK, MANUFACTURE or DEVELOP? -/
def State.lcOpen (s : State) : Bool := decide (lifecycle s.nv ≤ 2)

/-- Measurement block 6 (R412). -/
def State.block6 (s : State) : Nat :=
  (s.lcOpen || s.sec.dbgUntil.isSome).toNat + 2 * s.fget SEC_DBG.STICKY + 4 * s.fget SEC_DBG.SIGNER + 32 * s.lcOpen.toNat

/-- What the responder measures: blocks 2 to 6 (R412), and whether the identity certificate stands (R409). -/
def State.measured (s : State) : List Nat :=
  let fw := fwSlotImg s.nv s.boot.fwSlot
  [if s.boot.fwUp then (Config.sha384 (fw.take (sigOff fw))).toNat else 0, s.fget SEC_LC.FW_IMAGE, s.cut.digest.toNat,
   s.sec.chain.toNat] ++ s.sec.raw5 ++ [s.block6, (s.nv.idCert && s.nv.secretOk).toNat]

/-- Error codes of SPDM 1.2 that the responder uses. -/
def errInvalidRequest : Nat := 0x01
def errInvalidSession : Nat := 0x02
def errBusy : Nat := 0x03
def errUnexpected : Nat := 0x04
def errDecrypt : Nat := 0x06
def errUnsupported : Nat := 0x07
def errVersion : Nat := 0x41

/-- A good answer to a request code. -/
def State.spdmAnswer (s : State) (p : Path) (code : Nat) (body : List Byte) : State :=
  s.emit (.spdm p (code % 128) (Config.spdmBody code body s.measured))

/-- An ERROR answer. -/
def State.spdmFail (s : State) (p : Path) (err : Nat) : State := s.emit (.spdmError p err)

/-- The responder runs on each head's DOE instance and over the sideband; it is busy while the firmware restarts, and in DECOMMISSIONED
answers GET_VERSION alone (R407, R411). -/
def State.spdmServe (s : State) (p : Path) (version : Bool) (go : State → State) : State :=
  let s := s.count 11 3
  if p = .bench then s
  else if s.boot.fwRestart then s.spdmFail p errBusy
  else if lifecycle s.nv = 5 ∧ !version then s.spdmFail p errUnsupported
  else go s.active

/-- How far a path's connection has come: 1 version, 2 capabilities, 3 algorithms. -/
def State.spdmStage (s : State) (p : Path) : Nat := smGet s.sec.spdm (pathNo p) 0

/-- Set it. -/
def State.spdmTo (s : State) (p : Path) (n : Nat) : State := s.modSec fun x => { x with spdm := smSet x.spdm (pathNo p) n }

/-- A request of version 1.2 that needs a stage. -/
def State.spdmAt (s : State) (p : Path) (r : SpdmReq) (stage : Nat) (go : State → State) : State :=
  s.spdmServe p false fun s =>
    if r.version ≠ 0x12 then s.spdmFail p errVersion
    else if s.spdmStage p < stage then s.spdmFail p errUnexpected
    else go s

/-- GET_VERSION: the connection begins anew; 1.2 alone is reported. -/
def getVersion (p : Path) (r : SpdmReq) (s : State) : State :=
  s.spdmServe p true fun s => if r.version ≠ 0x10 then s.spdmFail p errVersion else (s.spdmTo p 1).spdmAnswer p 0x84 r.body

/-- GET_VERSION (R411). -/
def execGetVersion (p : Path) (r : SpdmReq) (s : State) : Host.Outcome State Fault Refusal :=
  volatile (access (.getVersion p r) p (getVersion p r)) s

/-- GET_CAPABILITIES. -/
def getCapabilities (p : Path) (r : SpdmReq) (s : State) : State :=
  s.spdmAt p r 1 fun s => (s.spdmTo p (max 2 (s.spdmStage p))).spdmAnswer p 0xE1 r.body

/-- GET_CAPABILITIES (R411). -/
def execGetCapabilities (p : Path) (r : SpdmReq) (s : State) : Host.Outcome State Fault Refusal :=
  volatile (access (.getCapabilities p r) p (getCapabilities p r)) s

/-- NEGOTIATE_ALGORITHMS. -/
def negotiateAlgorithms (p : Path) (r : SpdmReq) (s : State) : State :=
  s.spdmAt p r 2 fun s => (s.spdmTo p 3).spdmAnswer p 0xE3 r.body

/-- NEGOTIATE_ALGORITHMS (R411). -/
def execNegotiateAlgorithms (p : Path) (r : SpdmReq) (s : State) : Host.Outcome State Fault Refusal :=
  volatile (access (.negotiateAlgorithms p r) p (negotiateAlgorithms p r)) s

/-- GET_DIGESTS. -/
def getDigests (p : Path) (r : SpdmReq) (s : State) : State := s.spdmAt p r 3 fun s => s.spdmAnswer p 0x81 r.body

/-- GET_DIGESTS (R411). -/
def execGetDigests (p : Path) (r : SpdmReq) (s : State) : Host.Outcome State Fault Refusal :=
  volatile (access (.getDigests p r) p (getDigests p r)) s

/-- A request for certificate slot 0; slots 1 to 7 are not provided (R409). -/
def State.slotZero (s : State) (p : Path) (slot : Byte) (go : State → State) : State :=
  if slot = 0 then go s else s.spdmFail p errInvalidRequest

/-- GET_CERTIFICATE. -/
def getCertificate (p : Path) (r : SpdmReq) (s : State) : State :=
  s.spdmAt p r 3 fun s => s.slotZero p r.param1 fun s => s.spdmAnswer p 0x82 r.body

/-- GET_CERTIFICATE (R409). -/
def execGetCertificate (p : Path) (r : SpdmReq) (s : State) : Host.Outcome State Fault Refusal :=
  volatile (access (.getCertificate p r) p (getCertificate p r)) s

/-- CHALLENGE. -/
def challenge (p : Path) (r : SpdmReq) (s : State) : State :=
  s.spdmAt p r 3 fun s => s.slotZero p r.param1 fun s => s.spdmAnswer p 0x83 r.body

/-- CHALLENGE (R411). -/
def execChallenge (p : Path) (r : SpdmReq) (s : State) : Host.Outcome State Fault Refusal :=
  volatile (access (.challenge p r) p (challenge p r)) s

/-- GET_MEASUREMENTS. -/
def getMeasurements (p : Path) (r : SpdmReq) (s : State) : State := s.spdmAt p r 3 fun s => s.spdmAnswer p 0xE0 r.body

/-- GET_MEASUREMENTS (R412). -/
def execGetMeasurements (p : Path) (r : SpdmReq) (s : State) : Host.Outcome State Fault Refusal :=
  volatile (access (.getMeasurements p r) p (getMeasurements p r)) s

/-! ## Sessions -/

/-- Sessions of a path. -/
def State.sessionsOf (s : State) (p : Path) : List Session := s.sec.sessions.filter fun x => x.path == pathNo p

/-- KEY_EXCHANGE: a session begins; a fifth of the path is answered Busy. -/
def keyExchange (p : Path) (r : SpdmReq) (s : State) : State :=
  s.spdmAt p r 3 fun s => s.slotZero p r.param2 fun s =>
    if 4 ≤ (s.sessionsOf p).length then s.spdmFail p errBusy
    else
      let s := (s.modSec fun x => { x with sessions := x.sessions ++ [{ path := pathNo p, id := s.freeVal 32 }] }).freeTaken
      s.spdmAnswer p 0xE4 r.body

/-- KEY_EXCHANGE (R411). -/
def execKeyExchange (p : Path) (r : SpdmReq) (s : State) : Host.Outcome State Fault Refusal :=
  volatile (access (.keyExchange p r) p (keyExchange p r)) s

/-- Drop a session. -/
def State.dropSession (s : State) (p : Path) (sid : Word) : State :=
  s.modSec fun x => { x with sessions := x.sessions.filter fun y => !(y.path == pathNo p && y.id == sid) }

/-- Change a session. -/
def State.modSession (s : State) (p : Path) (sid : Word) (f : Session → Session) : State :=
  s.modSec fun x => { x with sessions := x.sessions.map fun y => if y.path == pathNo p && y.id == sid then f y else y }

/-- FINISH: the session's handshake ends; one whose transcript fails is dropped. -/
def finish (p : Path) (sid : Word) (r : SpdmReq) (s : State) : State :=
  s.spdmAt p r 3 fun s =>
    if !(s.sessionsOf p).any fun x => x.id == sid && !x.live then s.spdmFail p errInvalidSession
    else if Config.spdmOk 0xE5 sid r.body then (s.modSession p sid fun x => { x with live := true }).spdmAnswer p 0xE5 r.body
    else (s.dropSession p sid).spdmFail p errDecrypt

/-- FINISH (R411). -/
def execFinish (p : Path) (sid : Word) (r : SpdmReq) (s : State) : Host.Outcome State Fault Refusal :=
  volatile (access (.finish p sid r) p (finish p sid r)) s

/-- A request within a live session. -/
def State.inSession (s : State) (p : Path) (sid : Word) (go : State → State) : State :=
  s.spdmServe p false fun s => if s.sessionLive p sid then go s else s.spdmFail p errInvalidSession

/-- HEARTBEAT. -/
def heartbeat (p : Path) (sid : Word) (s : State) : State := s.inSession p sid fun s => s.spdmAnswer p 0xE8 []

/-- HEARTBEAT (R411). -/
def execHeartbeat (p : Path) (sid : Word) (s : State) : Host.Outcome State Fault Refusal :=
  volatile (access (.heartbeat p sid) p (heartbeat p sid)) s

/-- KEY_UPDATE. -/
def keyUpdate (p : Path) (sid : Word) (r : SpdmReq) (s : State) : State :=
  s.inSession p sid fun s => (s.modSession p sid fun x => { x with updates := x.updates + 1 }).spdmAnswer p 0xE9 r.body

/-- KEY_UPDATE (R411). -/
def execKeyUpdate (p : Path) (sid : Word) (r : SpdmReq) (s : State) : Host.Outcome State Fault Refusal :=
  volatile (access (.keyUpdate p sid r) p (keyUpdate p sid r)) s

/-- END_SESSION. -/
def endSession (p : Path) (sid : Word) (s : State) : State := s.inSession p sid fun s => (s.spdmAnswer p 0xEC []).dropSession p sid

/-- END_SESSION (R411). -/
def execEndSession (p : Path) (sid : Word) (s : State) : Host.Outcome State Fault Refusal :=
  volatile (access (.endSession p sid) p (endSession p sid)) s

/-- IDE keys of a head: programmed for a stream, or the stream started under them; a stream that starts leaves the insecure state
(04 R95, R96). -/
def State.ideManage (s : State) (h : Nat) (memStream start : Bool) : State :=
  let keys := (s.head h).ideKeys
  if !start then s.modHead h fun x => { x with ideKeys := if memStream then (x.ideKeys.1, true) else (true, x.ideKeys.2) }
  else if memStream then (if keys.2 then (s.fset HP_IDE.MEM_ACTIVE h 1).fset HP_IDE.INSECURE h 0 else s)
  else if keys.1 then s.fset HP_IDE.IO_ACTIVE h 1 else s

/-- VENDOR_DEFINED_REQUEST: IDE key management in a session of the head's own DOE instance. -/
def vendorDefinedRequest (p : Path) (sid : Word) (memStream start : Bool) (s : State) : State :=
  s.inSession p sid fun s =>
    match p with
    | .head h => (s.ideManage h.val memStream start).spdmAnswer p 0xFE []
    | _ => s.spdmFail p errUnsupported

/-- VENDOR_DEFINED_REQUEST (04 R95). -/
def execVendorDefinedRequest (p : Path) (sid : Word) (memStream start : Bool) (s : State) : Host.Outcome State Fault Refusal :=
  volatile (access (.vendorDefinedRequest p sid memStream start) p (vendorDefinedRequest p sid memStream start)) s

end Sys2Proof.Machine
end

