-- ==== Sys2Proof/Machine/RegRead.lean ====
section
/-! DEFINITION. The register map as it is read (20 R456-R464; the register tables of 02-18): which register stands at an offset, which instance
a path's selects name, what each field reads as, and register reads. -/

namespace Sys2Proof.Machine

open Sys2Proof

/-! ## Places in the map (R457, R458, R463; 12 R297; 04 R93) -/

/-- A register that an offset of the map names: its window, index in its array, half of a 64-bit register, and the instances when the offset
itself names them. -/
structure Site where
  win : Nat
  reg : Reg
  n : Nat := 0
  high : Bool := false
  fixed : Option (List Nat) := none
deriving DecidableEq, Repr

/-- The array index and half that an offset in a register's window names. -/
def regPlace (r : Reg) (o : Nat) : Option (Nat × Bool) :=
  if o < r.off then none
  else
    let st := if r.count = 1 then 8 else r.stride
    let m := (o - r.off) % st
    if r.count ≤ (o - r.off) / st then none
    else if m = 0 then some ((o - r.off) / st, false)
    else if m = 4 ∧ r.wide then some ((o - r.off) / st, true) else none

/-- The register at an offset of a window. -/
def regIn (win o : Nat) (fixed : Option (List Nat) := none) : Option Site :=
  (regsOfWin win).findSome? fun r => (regPlace r o).map fun x => { win := win, reg := r, n := x.1, high := x.2, fixed := fixed }

/-- Fault set of a block window; none of the DMC window, whose channel the path selects. -/
def winSet (w : Nat) : Nat :=
  if w ≤ 4 then w else match w with
    | 6 => setPRS | 7 => setSLC | 8 => setINL | 9 => setWEIR | 10 => setDRW | 11 => setSPN | 12 => setPWR | 13 => setIFC | 14 => setWIT
    | 15 => setSEC | 16 => setPMU | 17 => setCLK | _ => setTST

/-- Where BAR2 and BAR4 stand in the model's numbering of a head's space, BAR0 being below (assumption 42). -/
def bar2 : Nat := 0x04000000
def bar4 : Nat := 0x04400000

/-- The register at an offset of a drawer page. -/
def pageSite (d o : Nat) : Option Site :=
  if o = 8 then some { win := 10, reg := regDRW_RESET, fixed := some [d] }
  else if o < 0x10 then regIn 22 o (some [d])
  else if 0x100 ≤ o ∧ o < 0x200 then regIn 23 ((o - 0x100) % 64) (some [4 * d + (o - 0x100) / 64])
  else none

/-- The register at an offset of the map, for a path. -/
def State.siteAt (s : State) (p : Path) (off : Nat) : Option Site :=
  let w := off / 65536
  let o := off % 65536
  if bar4 ≤ off then none
  else if bar2 ≤ off then pageSite ((off - bar2) / 0x4000) ((off - bar2) % 0x4000)
  else if 19 ≤ w then none
  else if 0xFF00 ≤ o then regIn 21 o (some (if w = 5 then (s.chSel p).map (5 + ·) else [winSet w]))
  else if w = 18 then none
  else if w = 0 ∧ 0xFE00 ≤ o then regIn 21 (o + 0x100) (some [setBEN])
  else if w = 0 ∧ 0x100 ≤ o ∧ o < 0x128 then regIn 20 (o - 0x100) (some [16])
  else regIn w o

/-- The path's own head; 0 for the sideband and the Bench. -/
def ownHead : Path → Nat
  | .head h => h.val
  | _ => 0

/-- The head that `DEC_DSEL` names for a path. -/
def State.decHead (s : State) (p : Path) : Nat := if s.mgmt p then s.fget DEC_DSEL.HEAD (pathNo p) else ownHead p

/-- The instances that a path's access reaches by its selects; under broadcast every one, instance 0 first (R463). -/
def State.scopeInsts (s : State) (p : Path) (sc : Scope) : List Nat :=
  let n := pathNo p
  let clCh := s.fget WEIR_CLSEL.CH n
  match sc with
  | .dev => [0]
  | .path => [n]
  | .ms => if n < 17 then [n] else []
  | .port => [s.fget HP_PORTSEL.PORT n]
  | .head => [if s.mgmt p then s.fget HP_PORTSEL.PORT n * 4 + s.fget HP_PORTSEL.SUB n else ownHead p]
  | .decoder => [s.decHead p * 32 + s.fget DEC_DSEL.DEC n]
  | .dhead => [s.decHead p]
  | .dset => if s.fget DEC_DSEL.SET n < 12 then [s.fget DEC_DSEL.SET n] else []
  | .chan => s.chSel p
  | .key => [s.fget INL_KEYSEL.KEY n]
  | .block => [s.fget SLC_GBSEL.BLOCK n]
  | .chcls =>
    if clCh < 12 then [clCh * 8 + s.fget WEIR_CLSEL.CLASS n]
    else if clCh = 31 then (List.range 12).map fun c => c * 8 + s.fget WEIR_CLSEL.CLASS n else []
  | .wchan => if clCh < 12 then [clCh] else if clCh = 31 then List.range 12 else []
  | .drawer => if s.drwExists (s.fget DRW_SEL.DRAWER n) then [s.fget DRW_SEL.DRAWER n] else []
  | .ring => []
  | .sport => [s.fget SPN_PORTSEL.PORT n]
  | .wstep => [s.fget PWR_WSEL.STATE n * 16 + s.fget PWR_WSEL.STEP n]
  | .pstate => [s.fget PWR_WSEL.STATE n]
  | .self => match p with
    | .head h => [h.val]
    | _ => []
  | .unit => s.pmuWriteUnits p
  | .fset => []

/-- The instances that an access reaches. -/
def State.siteInsts (s : State) (p : Path) (x : Site) : List Nat := x.fixed.getD (s.scopeInsts p x.reg.scope)

/-! ## Fields that report what other state holds -/

/-- Bits of a list of flags, the first in bit 0. -/
def flagBits (l : List Bool) : Nat := (l.zipIdx.map fun e => if e.1 then 1 <<< e.2 else 0).sum

/-- Presence codes, two bits a head (04 R98). -/
def State.presenceCodes (s : State) : Nat := ((List.range 16).map fun h => (s.head h).presence % 4 <<< (2 * h)).sum

/-- Nodes of a Span register of 32 nodes. -/
def nodeBits (n : Nat) (f : Nat → Bool) : Nat := flagBits ((List.range 32).map fun i => f (32 * n + i))

/-- Is a node reachable: it has a route, or lost it less than LOSS_MS ago (13 R340; assumption 43)? -/
def State.nodeReach (s : State) (n : Nat) : Bool := smHas s.spn.routes n || smHas s.spn.lostAt n

/-- Slots of a state (10 R262). -/
def State.slotsIn (s : State) (st : Nat) : Nat := (s.inl.slots.filter fun e => e.2.state == st).length

/-- A vote as `PWR_VOTES` shows it. -/
def voteCode (v : Option Nat) : Nat := v.getD 15

/-- State of a drawer as `DRW_STATE` shows it. -/
def State.drwStateCode (s : State) (d : Nat) : Nat := if (s.drawer d).resetting then 2 else if s.drwBound d then 1 else 0

/-- The 64 bytes of a dye record (18 R435). -/
def dyeBytes (r : DyeRec) : List Byte :=
  leBytes 8 r.tb0 ++ r.delta.flatMap (leBytes 4 ·) ++ leBytes 1 r.src ++ leBytes 1 r.attr ++ leBytes 1 r.ch ++ leBytes 1 r.load ++
  leBytes 8 r.dpa ++ leBytes 4 r.seq ++ leBytes 1 r.node ++ leBytes 1 r.aborted.toNat ++ leBytes 10 0

/-- The Witness record that a path has selected, as 64 bytes; all ones when it is not retained. -/
def State.witSelected (s : State) (p : Path) : Nat :=
  match s.witAll.find? fun r => r.seq == s.fget WIT_RSEL.SEQ (pathNo p) with
  | some r => witNat r
  | none => 2 ^ 512 - 1

/-- Report fields of the windows CUT, HP and the Module Service DVSEC. -/
def State.reportHost (s : State) (p : Path) (win off i : Nat) : List (Fld × Nat) :=
  match win, off with
  | 1, 0x04 => [(CUT_VERSION.FUSED, s.nv.cutFused)]
  | 20, 0x0C => [(MS_CAP.HEAD, i % 16), (MS_CAP.MGMT, (s.mgmt p).toNat)]
  | 20, 0x10 => [(MS_PRESENCE.CODE, s.presenceCodes)]
  | 20, 0x18 => [(MS_POWER.PG, s.fget IFC_STATUS.PG), (MS_POWER.FLT, (s.ifcSt == 4).toNat), (MS_POWER.STATE, s.ifcSt)]
  | 20, 0x1C => [(MS_ATTN.LEVEL, (s.freeVal 1).toNat)]
  | 2, 0x10 => [(HP_PRESENCE.CODE, s.presenceCodes)]
  | 2, 0x10C => [(HP_CTO.QUAR, min 2047 (s.head i).quar.length)]
  | 2, 0x110 => [(HP_IDE.REQUIRED, (s.fbitAt HP_CFG.IDE_REQ (i / 4) (i % 4)).toNat)]
  | _, _ => []

/-- Report fields of the windows DEC, COH, DMC and PRS. -/
def State.reportPath (s : State) (win off n i : Nat) : List (Fld × Nat) :=
  match win, off with
  | 3, 0x40 => [(DEC_PMEC.MISSES, s.dec.misses.length), (DEC_PMEC.PINNED, (s.dec.pmec.filter fun e => e.2.pinned).length)]
  | 3, 0x44 => [(DEC_EXT.USED, s.dec.extents.length)]
  | 4, 0x04 => [(COH_TTUSE0.USED, s.ttUsed 3)]
  | 4, 0x08 => [(COH_TTUSE1.C1, min 512 (s.ttUsed 1)), (COH_TTUSE1.C2, min 512 s.ttUsed2)]
  | 4, 0x0C => [(COH_DIR0.VALID, s.coh.dir.length)]
  | 4, 0x10 => [(COH_DIR1.BCAST, (s.coh.dir.filter fun e => e.2.ovf).length)]
  | 4, 0x14 => [(COH_RETRY.SETS, s.coh.retry.length)]
  | 4, 0x1C => [(COH_SNPTO.TABLE, s.coh.timeouts.length)]
  | 5, 0x3C => if s.fget DMC_SPARE.STATE i = 1 then [(DMC_SPAREPOS.POS, s.sparePos i)] else []
  | 5, 0x4C => [(DMC_QOCC.WQ, (s.chan i).wq.length), (DMC_QOCC.RQ, (s.chan i).rq.length)]
  | 6, 0x04 => [(PRS_STATUS.DBUSY, if s.press.jobs.any fun e => e.2.ready then (s.freeVal 6).toNat else 0),
                (PRS_STATUS.EBUSY, if s.slc.moves.any fun e => e.2.kind == .demote && e.2.result.isNone then (s.freeVal 4).toNat else 0)]
  | 6, 0x10 => [(PRS_HCACHE.VALID, s.press.hcache.length)]
  | 16, 0x108 => [(PMU_DYESTAT.FILL, s.pmu.dye.length)]
  | 16, 0x140 => [(PMU_DYEREC.DATA, match s.pmu.dye.head? with
      | some r => leAt (dyeBytes r) (4 * n) 4
      | none => 0)]
  | _, _ => []

/-- Report fields of the windows SLC, INL and DRW and of the drawer pages. -/
def State.reportStore (s : State) (win off i : Nat) : List (Fld × Nat) :=
  match win, off with
  | 7, 0x28 => [(SLC_T0FREE.FREE, s.f0)]
  | 7, 0x2C => [(SLC_SLABFREE.FREE, s.fs / 16)]
  | 7, 0x30 => [(SLC_RSVFREE.FREE, s.rsvFree)]
  | 7, 0x34 => [(SLC_LEDGER.EXPOSED, (s.exposed + 2 ^ 30 - 1) / 2 ^ 30), (SLC_LEDGER.BACKING, s.backing / 2 ^ 30)]
  | 7, 0x38 => [(SLC_T2.PAGES, s.t2Pages)]
  | 7, 0x3C => [(SLC_STALL.QUEUED, s.slc.stallQ.length)]
  | 7, 0x4C => [(SLC_CAPFLT.REGIONS, s.slc.capFault.length)]
  | 7, 0x58 => [(SLC_GBSUM.SUM, (s.rec1 i).sum.toNat)]
  | 7, 0x5C => [(SLC_GBSAT.STALE, (s.rec1 i).stale.toNat), (SLC_GBSAT.SAT, (s.rec1 i).sat)]
  | 8, 0x04 => [(INL_SUMMARY.ACTIVE, s.slotsIn 1), (INL_SUMMARY.EXHAUSTED, s.slotsIn 2), (INL_SUMMARY.RETIRING, s.slotsIn 3),
                (INL_SUMMARY.RETIRED, s.slotsIn 4)]
  | 8, 0x08 =>
    let x := s.slot i
    [(INL_SLOT.STATE, x.state), (INL_SLOT.MODE, x.mode), (INL_SLOT.ADVISED, x.advised.toNat), (INL_SLOT.SIGFIX, x.sigfix.toNat),
     (INL_SLOT.OWNER, x.owner), (INL_SLOT.KTAG, (ktagOf (BitVec.ofNat 7 i)).toNat), (INL_SLOT.RANGES_LEFT, x.ranges.length)]
  | 8, 0x10 => [(INL_WCNT.COUNT, (s.slot i).count)]
  | 10, 0x04 => [(DRW_GCTL.OPS, s.drw.ops.length)]
  | 10, 0x2C => [(DRW_STATE.STATE, s.drwStateCode i), (DRW_STATE.INFLIGHT, (s.drwOps i).length)]
  | 23, 0x1C => [(DRW_RSTATE.STATE, (s.ring (i / 4) (i % 4)).state), (DRW_RSTATE.CAUSE, (s.ring (i / 4) (i % 4)).cause)]
  | _, _ => []

/-- Highest level in force of a fault set. -/
def State.setLevel (s : State) (set : Nat) : Nat :=
  ((List.range 16).map fun c => get2 (s.fget FLT_LEVEL.LEVEL set) c).foldl max 0

/-- Report fields of the windows SPN, PWR, WIT and SEC, of GLB and of the fault sets. -/
def State.reportRest (s : State) (p : Path) (win off n i : Nat) : List (Fld × Nat) :=
  match win, off with
  | 0, 0x08 => [(GLB_PATH.MGMT, (s.mgmt p).toNat), (GLB_PATH.PATH, pathNo p)]
  | 11, 0x20 => [(SPN_REACH.NODES, nodeBits n s.nodeReach)]
  | 11, 0x28 => [(SPN_ASLEEP.NODES, nodeBits n (nodeAsleep s.nodesHeld))]
  | 11, 0x30 => [(SPN_FWD.USED, s.spn.fwd.length)]
  | 12, 0x0C => [(PWR_VOTES.VOTE, ((List.range 8).map fun k => voteCode (s.headVote (8 * n + k)) <<< (4 * k)).sum)]
  | 12, 0x14 => [(PWR_VOTES2.DEBUG, voteCode s.debugVote), (PWR_VOTES2.SB, voteCode s.sbVote)]
  | 21, 0xFF00 => [(FLT_STATUS.ACTIVE, (s.fget FLT_STATUS.CLASS i != 0).toNat), (FLT_STATUS.FATAL, (s.setLevel i == 3).toNat),
                   (FLT_STATUS.LEVEL, s.setLevel i)]
  | 14, 0x00 => [(WIT_STATUS.ERASING, s.wit.erasing.isSome.toNat), (WIT_STATUS.FATAL, s.boot.fatal.toNat),
                 (WIT_STATUS.STAGED, s.wit.staging.length)]
  | 14, 0x0C => [(WIT_OLDEST.SEQ, s.witOldest)]
  | 14, 0x40 => [(WIT_RDATA.DATA, s.witSelected p >>> (32 * n))]
  | 15, 0x00 => [(SEC_LC.STATE, lifecycle s.nv), (SEC_LC.FUSES, flagBits ([s.nv.fM, s.nv.fD, s.nv.fP, s.nv.fT, s.nv.fX].map maj3)),
                 (SEC_LC.FW_FUSED, s.nv.fwFused)]
  | 15, 0x04 => [(SEC_OWNER.REVOKED, s.nv.revoked.toNat), (SEC_OWNER.ENROLLED, flagBits ((List.range 4).map fun k => ownerIn s.nv (k + 1)))]
  | 15, 0x08 => [(SEC_DBG.UNLOCKED, s.sec.dbgUntil.isSome.toNat), (SEC_DBG.OPEN, s.lcOpen.toNat),
                 (SEC_DBG.REMAIN, ((s.sec.dbgUntil.getD s.wclk - s.wclk) + secT 60 - 1) / secT 60)]
  | 15, 0x0C => [(SEC_DBGVOTE.VOTE, voteCode s.debugVote)]
  | 15, 0x14 => [(SEC_NONCE.VALID, s.sec.nonce.isSome.toNat), (SEC_NONCE.AGE_S, match s.sec.nonce with
      | some (_, t) => min 600 ((s.wclk - t) / secT 1)
      | none => 0)]
  | 15, 0x18 => [(SEC_SERIAL.SERIAL, s.nv.serial.toNat)]
  | _, _ => []

/-- The fields of a register instance that report other state: `n` is the register's index in its array, `i` its instance. -/
def State.reports (s : State) (p : Path) (win off n i : Nat) : List (Fld × Nat) :=
  s.reportHost p win off i ++ s.reportPath win off n i ++ s.reportStore win off i ++ s.reportRest p win off n i

/-- What a field reads as: write-only fields read 0. -/
def fieldRead (s : State) (l : List (Fld × Nat)) (f : Fld) (i : Nat) : Nat :=
  if f.ty = .wo then 0
  else match l.find? fun e => e.1.id == f.id with
    | some e => e.2 % 2 ^ f.width
    | none => s.fget f i

/-- The value of a register instance. -/
def State.regValue (s : State) (p : Path) (x : Site) (i : Nat) : Nat :=
  let l := s.reports p x.win x.reg.off x.n i
  (x.reg.flds.map fun f => fieldRead s l f (i * x.reg.count + x.n) <<< f.lo).sum

/-! ## Who may read (R458, R459) -/

/-- May a path read a register instance? -/
def State.mayRead (s : State) (p : Path) (off : Nat) (x : Site) (i : Nat) : Bool :=
  let w := off / 65536
  match p with
  | .head h =>
    if bar2 ≤ off then s.drwBound ((off - bar2) / 0x4000) && s.drwHead ((off - bar2) / 0x4000) == h.val
    else if x.win = 20 then false
    else if s.headMgmt h.val then true
    else if w = 16 ∨ w = 18 then false
    else if x.win = 10 ∧ 8 ≤ x.reg.off then s.drwBound i && s.drwHead i == h.val
    else if x.win = 8 ∧ x.reg.scope = .key then s.keyPermitted h.val i
    else true
  | _ => decide (off < bar2)

/-- The value that a path reads at a register; no instance selected, or none it may read, reads 0. -/
def State.siteValue (s : State) (p : Path) (off : Nat) (x : Site) : Nat :=
  match s.siteInsts p x with
  | i :: _ => if s.mayRead p off x i then s.regValue p x i else 0
  | [] => 0

/-! ## What stands in the BARs beside the registers -/

/-- 32 bits of a drawer's user counter at a byte offset of the four. -/
def State.userWord (s : State) (d o : Nat) : Nat := smGet (s.drawer d).userCtr (o / 8) 0 >>> (if o % 8 = 4 then 32 else 0)

/-- 32 bits of an interrupt entry (12 R309). -/
def irqWord (e : IrqEntry) (o : Nat) : Nat :=
  match o with
  | 0 => e.addr.toNat
  | 4 => e.addr.toNat >>> 32
  | 8 => e.data.toNat
  | _ => e.mask.toNat + 2 * e.pend.toNat + 4 * e.vec.toNat

/-- 32 bits of a drawer page at an offset that no register of the tables holds (12 R297, R309; the user page). -/
def State.pageWord (s : State) (d o : Nat) : Nat :=
  if 0x10 ≤ o ∧ o < 0x30 then s.userWord d (o - 0x10)
  else if 0x1000 ≤ o ∧ o < 0x1040 then
    let x := s.ring d ((o - 0x1000) / 16)
    (match o % 16 with
     | 0 => x.state <<< 28 + x.cause <<< 24
     | 4 => x.sqHead
     | 8 => x.cqTail
     | _ => 0)
  else if o = 0x1040 then s.fget DRW_STATE.GEN d
  else if 0x1080 ≤ o ∧ o < 0x10A0 then (if s.fone DRW_CTL.UPERF d then s.userWord d (o - 0x1080) else 0)
  else if 0x2000 ≤ o ∧ o < 0x2020 then (if o % 8 = 0 then (s.ring d ((o - 0x2000) / 8)).sqTail else (s.ring d ((o - 0x2000) / 8)).cqHead)
  else if 0x3000 ≤ o ∧ o < 0x3400 then irqWord (smGet (s.drawer d).irqs ((o - 0x3000) / 16) {}) (o % 16)
  else 0

/-- 32 bits of the MSI-X table and the PBA (04 R90, R93, R94). -/
def msixWord (x : HeadSt) (o : Nat) : Nat :=
  if o < 0x8000 then
    let e := msixEntry x (o / 16)
    (match o % 16 with
     | 0 => e.addr.toNat
     | 4 => e.addr.toNat >>> 32
     | 8 => e.data.toNat
     | _ => e.mask.toNat)
  else if o < 0x8100 then x.pba.toNat >>> (8 * (o - 0x8000))
  else 0

/-- 32 bits of a head's BAR2 or BAR4 that no register of the tables holds. -/
def State.barWord (s : State) (p : Path) (off : Nat) : Nat :=
  match p with
  | .head h =>
    if bar4 ≤ off then msixWord (s.head h.val) (off - bar4)
    else if bar2 ≤ off then
      let d := (off - bar2) / 0x4000
      if s.drwBound d && s.drwHead d == h.val then s.pageWord d ((off - bar2) % 0x4000) else 0
    else 0
  | _ => 0

/-! ## Reads (R460; 18 R430) -/

/-- What a read does besides answering: a read of `PMU_CYC` copies TB; a pin's level and a busy pipe are free values. -/
def State.readEffect (s : State) (p : Path) (off : Nat) (x : Site) : State :=
  match s.siteInsts p x with
  | i :: _ =>
    if !s.mayRead p off x i then s
    else if x.win = 16 ∧ x.reg.off = 8 then s.pmuSnap i
    else if (x.win = 20 ∧ x.reg.off = 0x1C) ∨ (x.win = 6 ∧ x.reg.off = 4) then s.freeTaken else s
  | [] => s

/-- An aligned 32-bit read: the low half of a 64-bit register captures the whole in the path's holding register, and the high half comes
from there. -/
def State.read32 (s : State) (p : Path) (off : Nat) : State × Nat :=
  match s.siteAt p off with
  | none => (s, s.barWord p off % 2 ^ 32)
  | some x =>
    if x.high then (s, (smGet s.hold (pathNo p) 0).toNat >>> 32)
    else
      let v := s.siteValue p off x
      let s := s.readEffect p off x
      if x.reg.wide then ({ s with hold := smSet s.hold (pathNo p) (BitVec.ofNat 64 v) }, v % 2 ^ 32) else (s, v % 2 ^ 32)

/-- An aligned 64-bit read: a 64-bit register whole, else two 32-bit accesses in ascending order. -/
def State.read64 (s : State) (p : Path) (off : Nat) : State × Nat :=
  let two :=
    let a := s.read32 p off
    let b := a.1.read32 p (off + 4)
    (b.1, a.2 + b.2 * 2 ^ 32)
  match s.siteAt p off with
  | some x => if x.reg.wide then (s.readEffect p off x, s.siteValue p off x % 2 ^ 64) else two
  | none => two

/-- A read answered with its data. -/
def State.readOf (s : State) (p : Path) (off : Nat) (wide : Bool) : State :=
  let r := if wide then s.read64 p off else s.read32 p off
  r.1.emit (.regData p (BitVec.ofNat 64 r.2))

/-! ## How an access is served (R456, R462; 14 R347; 16 R402) -/

/-- Is an offset in a window that the Wellhead serves: PWR, IFC or WIT? -/
def wellOff (off : Nat) : Bool := decide (12 ≤ off / 65536 ∧ off / 65536 ≤ 14)

/-- Is an offset the start of an aligned access of the width? -/
def alignedOff (off : Nat) (wide : Bool) : Bool := if wide then off % 8 == 0 else off % 4 == 0

/-- Registers that the Wellhead's own responder reads and writes for the sideband while the Bench is not up (16 R402). -/
def responderReads (off : Nat) : Bool := [0x000C0000, 0x000D0000, 0x000D0008, 0x000D000C].contains off
def responderWrites (off : Nat) : Bool := [0x000C0008, 0x000D0004].contains off

/-- A register access of a path: its window's side serves it, once the device is awake or at once from the Wellhead. `only` says what the
Wellhead's own responder serves the sideband while the Bench is not up. -/
def regAccess (c : Instr) (p : Path) (off : Nat) (only : Nat → Bool) (f : State → State) (s : State) : State :=
  let go (s : State) : State := f (s.count 11 4)
  match p with
  | .head h =>
    if !memSpace (s.head h.val) then s
    else if wellOff off then (if s.linkReady h.val then go s else s)
    else access c p (fun s => go s.active) s
  | .sideband =>
    if !s.benchUp then (if only off then f s else s.emit (.reply p .unsupported []))
    else if s.fget PWR_STATE.CUR = 4 then (if only off then f s else s.emit (.reply p .unsupported []))
    else if wellOff off then go s else access c p (fun s => go s.active) s
  | .bench => access c p go s

/-- Is a path a head with its link up and Memory Space Enable clear (04 R89)? -/
def State.barClosed (s : State) : Path → Bool
  | .head h => s.linkReady h.val && !memSpace (s.head h.val)
  | _ => false

/-- LOW_HALF_READ: an aligned 32-bit read on a path; with Memory Space Enable clear a head's read completes with Unsupported Request (04 R89). -/
def lowHalfRead (p : Path) (off : Nat) (s : State) : State :=
  let s := match p with
    | .head h => if s.barClosed p then s.emit (.barUr h) else s
    | _ => s
  if alignedOff off false then regAccess (.lowHalfRead p off) p off responderReads (fun s => s.readOf p off false) s else s

/-- LOW_HALF_READ (R460). -/
def execLowHalfRead (p : Path) (off : Nat) (s : State) : Host.Outcome State Fault Refusal := volatile (lowHalfRead p off) s

/-- REG_READ: the sideband's read of 4 or 8 bytes, an MCTP message to the Bench. -/
def regRead (off : Nat) (wide : Bool) (s : State) : State :=
  if 0x00130000 ≤ off ∨ !alignedOff off wide then
    access (.regRead off wide) .sideband (fun s => s.mailbox .sideband fun s => s.reply .sideband .invalidInput) s
  else regAccess (.regRead off wide) .sideband off responderReads (fun s => (s.count 11 2).readOf .sideband off wide) s

/-- REG_READ (R456). -/
def execRegRead (off : Nat) (wide : Bool) (s : State) : Host.Outcome State Fault Refusal := volatile (regRead off wide) s

end Sys2Proof.Machine
end

