-- ==== Sys2Proof/Machine/RegWrite.lean ====
section
/-! DEFINITION. The register map as it is written (20 R456-R464; the register tables of 02-18): who may write what, the effect of a write on each
register, and the commands that write registers. -/

namespace Sys2Proof.Machine

open Sys2Proof

/-! ## What a write does to plain fields (00 R9; R460) -/

/-- A write's effect on one field instance by its type: RW and RWS take the value, W1C clears the bits written as 1, and the rest stand. -/
def State.putField (s : State) (f : Fld) (i v : Nat) : State :=
  let b := bits v f.lo f.width
  match f.ty with
  | .rw | .rws => s.fset f i b
  | .w1c => s.fset f i (s.fget f i &&& (2 ^ f.width - 1 - b))
  | _ => s

/-- A write's effect on the listed fields. -/
def State.putList (s : State) (l : List Fld) (i v : Nat) : State := s.each l fun f s => s.putField f i v

/-- A write's effect on a register of plain fields. -/
def State.putFields (s : State) (x : Site) (i v : Nat) : State := s.putList x.reg.flds (i * x.reg.count + x.n) v

/-- A write's effect on a register but for some of its fields. -/
def State.putBut (s : State) (x : Site) (not : List Fld) (i v : Nat) : State :=
  s.putList (x.reg.flds.filter fun f => !(not.any fun g => g.id == f.id)) (i * x.reg.count + x.n) v

/-! ## Registers whose writes do more -/

/-- MS_POWER: CMD of a management path, and the path's own CHG (04 R98, R99). -/
def State.writeMsPower (s : State) (p : Path) (x : Site) (i v : Nat) : State :=
  let s := s.putFields x i v
  let cmd := bits v 28 4
  if !s.admin p then s else if cmd = 1 then s.gateOffAsk else if cmd = 2 then s.rearmAsk else s

/-- MS_IND: by management paths; a write of 3 to ATTN_LED leaves it. -/
def State.writeMsInd (s : State) (p : Path) (x : Site) (i v : Nat) : State :=
  if !s.admin p then s else if bits v 0 2 = 3 then s.putBut x [MS_IND.ATTN_LED] i v else s.putFields x i v

/-- `DEC_DPABASE`: of an uncommitted remote-home decoder. -/
def State.writeDpaBase (s : State) (x : Site) (i v : Nat) : State :=
  let remote := match smFind? s.dec.templates i with
    | some t => match smFind? s.dec.regions t.region with
      | some r => r.home.isSome
      | none => false
    | none => false
  if remote && !(s.decoder i).committed then s.putFields x i v else s

/-- `COH_KWALK`, of the Bench. -/
def State.writeKwalk (s : State) (p : Path) (x : Site) (i v : Nat) : State :=
  if p ≠ .bench then s
  else
    let s := if s.coh.walk.isSome then s.putBut x [COH_KWALK.KEY] i v else s.putFields x i v
    if v.testBit 31 then cohKwalkGo p (BitVec.ofNat 7 (bits v 20 7)) s else s

/-- `DMC_REFCTL`: MODE 2 and 3 leave MODE; a change of rate follows FORCE2X. -/
def State.writeRefctl (s : State) (x : Site) (i v : Nat) : State :=
  let before := s.doubled i
  (if 2 ≤ bits v 0 2 then s.putBut x [DMC_REFCTL.MODE] i v else s.putFields x i v).rateChange i before true

/-- `DMC_SPARE`: FROM moves only while no copy runs; GO. -/
def State.writeSpare (s : State) (x : Site) (i v : Nat) : State :=
  let s := if s.fget DMC_SPARE.STATE i = 1 then s.putBut x [DMC_SPARE.FROM] i v else s.putFields x i v
  if v.testBit 31 then s.spareGo i else s

/-- `PRS_CTL`: a write that would leave a pipe kind with no pipe enabled is ignored. -/
def State.writePrsCtl (s : State) (x : Site) (i v : Nat) : State :=
  if bits v 0 6 = 0 ∨ bits v 8 4 = 0 then s else s.putFields x i v

/-- `WEIR_BRIM`: a write that leaves the thresholds not strictly increasing is ignored. -/
def State.writeBrim (s : State) (x : Site) (i v : Nat) : State :=
  if bits v 0 8 < bits v 8 8 ∧ bits v 8 8 < bits v 16 8 then s.putFields x i v else s

/-- `DRW_BIND`: EN set binds, EN clear ends a binding (12 R294, R295). -/
def State.writeBind (s : State) (d v : Nat) : State :=
  let s := if v.testBit 29 then s.fset DRW_BIND.ERR d 0 else s
  let keep (s : State) : State := (s.fset DRW_BIND.HEAD d (bits v 24 4)).fset DRW_BIND.PASID d (bits v 0 20)
  if v.testBit 31 then s.bindDrawer d (bits v 24 4) (bits v 0 20)
  else
    let s := if s.drwBound d then s.unbindWrite d else s
    if s.drwBound d then s else keep s

/-- `DRW_RESET`: DONE cleared, the rings of PAUSE paused, GO (12 R301, R312). -/
def State.writeDrwReset (s : State) (d v : Nat) : State :=
  let s := if v.testBit 30 then s.fset DRW_RESET.DONE d 0 else s
  let s := s.each ((List.range 4).filter fun r => v.testBit r) fun r s => s.pauseRing d r 4
  if v.testBit 31 then s.resetGo d else s

/-- `DRW_RCFG` of ring i: LOG2 only while DISABLED; EN starts or closes the ring (12 R301). -/
def State.writeRcfg (s : State) (x : Site) (i v : Nat) : State :=
  let off := (s.ring (i / 4) (i % 4)).state == 0
  let was := s.fone DRW_RCFG.EN i
  let s := s.putBut x (if off then [DRW_RCFG.EN] else [DRW_RCFG.EN, DRW_RCFG.LOG2]) i v
  if v.testBit 31 && !was then s.ringEnable (i / 4) (i % 4)
  else if !v.testBit 31 && was then s.ringDisable (i / 4) (i % 4) else s

/-- `SPN_PCTL` of a port: HOLD, RETRY, WIDEN. -/
def State.writePctl (s : State) (p : Path) (i v : Nat) : State :=
  let port := Fin.ofNat 4 i
  let s := spnPctlHold p port (v.testBit 29) s
  let s := if v.testBit 31 then spnPctlRetry p port s else s
  if v.testBit 30 then spnPctlWiden p port s else s

/-- `IFC_CTL`: HOLD as it changes, then REARM (15 R375, R376). -/
def State.writeIfcCtl (s : State) (p : Path) (v : Nat) : State :=
  let s := if v.testBit 30 != s.fone IFC_CTL.HOLD then s.holdSet (v.testBit 30) else s
  if v.testBit 31 && s.admin p then s.rearmAsk else s

/-- `PMU_CTL` of a unit. -/
def State.writePmuCtl (s : State) (u v : Nat) : State :=
  let s := (s.pmuFreezeUnit (v.testBit 31) u).fbit PMU_CTL.FRZ_OVF u (v.testBit 30)
  if v.testBit 29 then s.pmuClearUnit u else s

/-- `FLT_RECOV.RELEASE` of a set (16 R388). -/
def State.writeRecov (s : State) (set v : Nat) : State := if v.testBit 31 then fltRecovRelease (Fin.ofNat 31 set) s else s

/-- A register of the windows below 8 and of the Module Service DVSEC takes a write. -/
def State.writeLow (s : State) (p : Path) (x : Site) (i v : Nat) : State :=
  match x.win, x.reg.off with
  | 1, 0x0C => if bits v 0 8 = 0xFF then s.fset CUT_REJECT.CODE 0 0 else s
  | 3, 0x10 => s.writeDpaBase x i v
  | 3, 0x14 => s.writeDpaBase x i v
  | 3, 0x40 => if v.testBit 31 then decPmecFlush p s else s
  | 4, 0x24 => s.writeKwalk p x i v
  | 5, 0x0C => if bits v 8 6 < bits v 16 6 then s.putFields x i v else s
  | 5, 0x14 => s.writeRefctl x i v
  | 5, 0x1C => if v.testBit 31 then (s.putFields x i v).recal i else s.putFields x i v
  | 5, 0x38 => s.writeSpare x i v
  | 5, 0x44 => if v.testBit 31 then (s.putFields x i v).testGo i else s.putFields x i v
  | 6, 0x00 => s.writePrsCtl x i v
  | 6, 0x08 => prsUnfence p (BitVec.ofNat 4 (bits v 16 4)) (BitVec.ofNat 6 (bits v 0 6)) (s.putFields x i v)
  | 6, 0x10 => if v.testBit 31 then prsHcacheFlush p s else s
  | 20, 0x18 => s.writeMsPower p x i v
  | 20, 0x20 => s.writeMsInd p x i v
  | _, _ => s.putFields x i v

/-- A register of the windows from 8 on, of the fault sets and of the drawer pages takes a write. -/
def State.writeHigh (s : State) (p : Path) (x : Site) (i v : Nat) : State :=
  match x.win, x.reg.off with
  | 8, 0x30 => s.inlIe v
  | 9, 0x2C => s.writeBrim x i v
  | 10, 0x08 => s.writeBind i v
  | 10, 0x0C => s.limitWrite i v
  | 10, 0x24 => s.writeDrwReset i v
  | 11, 0x104 => s.writePctl p i v
  | 12, 0x04 => if bits v 0 3 < 3 then s.putFields x i v else s
  | 12, 0x08 => pwrSbvoteWrite p (BitVec.ofNat 3 v) s
  | 13, 0x04 => s.writeIfcCtl p v
  | 15, 0x08 => if v.testBit 28 then s.dbgEnd else s
  | 15, 0x0C => secDbgvoteWrite p (BitVec.ofNat 4 v) s
  | 16, 0x04 => s.writePmuCtl i v
  | 16, 0x104 => s.dyeSeed v
  | 16, 0x108 => if v.testBit 31 then (s.putFields x i v).dyePop else s.putFields x i v
  | 17, 0x34 => if p ≠ .bench then s else if v.testBit 31 then (s.putFields x i v).marginStart else s.putFields x i v
  | 21, 0xFF40 => s.writeRecov i v
  | 22, 0x04 => s.vecWrite i v
  | 23, 0x00 => if (s.ring (i / 4) (i % 4)).state = 0 then s.putFields x i v else s
  | 23, 0x08 => if (s.ring (i / 4) (i % 4)).state = 0 then s.putFields x i v else s
  | 23, 0x10 => if (s.ring (i / 4) (i % 4)).state = 0 then s.putFields x i v else s
  | 23, 0x18 => s.writeRcfg x i v
  | 23, 0x1C => if v.testBit 31 then s.ringResume (i / 4) (i % 4) else s
  | _, _ => s.putFields x i v

/-- A register instance takes a write. -/
def State.writeInst (s : State) (p : Path) (x : Site) (i v : Nat) : State :=
  if x.win < 8 ∨ x.win = 20 then s.writeLow p x i v else s.writeHigh p x i v

/-! ## Who may write (R458, R459) -/

/-- May a path write a register instance? Registers of a single path refuse the others in their own effect. -/
def State.mayWrite (s : State) (p : Path) (off : Nat) (x : Site) (i : Nat) : Bool :=
  if bar2 ≤ off then s.mayRead p off x i
  else if x.win = 20 then p == .sideband
  else if x.reg.scope = .path then s.mgmt p || decide (x.win ≠ 16)
  else if x.reg.scope = .self then true
  else if x.win = 10 ∧ 8 ≤ x.reg.off then s.drwAdmin p
  else if s.mgmt p then true
  else decide (x.win = 2) && x.reg.scope == .head && i == ownHead p

/-- A write at a register: every instance that the path selects and may write takes it. -/
def State.siteWrite (s : State) (p : Path) (off : Nat) (x : Site) (v : Nat) : State :=
  s.each (s.siteInsts p x) fun i s => if s.mayWrite p off x i then s.writeInst p x i v else s

/-! ## The drawer pages and the MSI-X table -/

/-- A 64-bit value with one half replaced. -/
def withHalf (a : Word64) (hi : Bool) (v : Nat) : Word64 :=
  BitVec.ofNat 64 (if hi then a.toNat % 2 ^ 32 + v % 2 ^ 32 * 2 ^ 32 else a.toNat / 2 ^ 32 * 2 ^ 32 + v % 2 ^ 32)

/-- A 32-bit write to an interrupt entry (12 R309). -/
def State.writeIrq (s : State) (d n o v : Nat) : State :=
  let put (f : IrqEntry → IrqEntry) : State := s.modDrawer d fun x => { x with irqs := smMod x.irqs n {} f }
  match o with
  | 0 => put fun e => { e with addr := withHalf e.addr false v }
  | 4 => put fun e => { e with addr := withHalf e.addr true v }
  | 8 => put fun e => { e with data := BitVec.ofNat 32 v }
  | _ =>
    let s := put fun e => { e with mask := v.testBit 0, vec := v.testBit 2 }
    if v.testBit 0 then s else s.entryUnmask d n

/-- A 32-bit write to a drawer page where no register of the tables stands: doorbells and interrupt entries. -/
def State.writePage32 (s : State) (d o v : Nat) : State :=
  if 0x2000 ≤ o ∧ o < 0x2020 then
    (if o % 8 = 0 then s.sqDoorbell d ((o - 0x2000) / 8) v else s.cqDoorbell d ((o - 0x2000) / 8) v)
  else if 0x3000 ≤ o ∧ o < 0x3400 then s.writeIrq d ((o - 0x3000) / 16) (o % 16) v
  else s

/-- A 32-bit write to a head's MSI-X table (04 R90, R94). -/
def State.writeMsix (s : State) (h o v : Nat) : State :=
  if 0x8000 ≤ o then s
  else
    let n := o / 16
    let put (f : Msix → Msix) : State := s.modHead h fun x => { x with msix := smMod x.msix n {} f }
    match o % 16 with
    | 0 => put fun e => { e with addr := withHalf e.addr false v }
    | 4 => put fun e => { e with addr := withHalf e.addr true v }
    | 8 => put fun e => { e with data := BitVec.ofNat 32 v }
    | _ => (put fun e => { e with mask := v.testBit 0 }).sendPending h

/-- A 32-bit write beside the registers of the tables. -/
def State.writeBar32 (s : State) (p : Path) (off v : Nat) : State :=
  match p with
  | .head h =>
    if bar4 ≤ off then (if off < bar4 + 0x10000 then s.writeMsix h.val (off - bar4) v else s)
    else if bar2 ≤ off then
      let d := (off - bar2) / 0x4000
      if s.drwBound d && s.drwHead d == h.val then s.writePage32 d ((off - bar2) % 0x4000) v else s
    else s
  | _ => s

/-- A drawer's user counter that a 64-bit write at an offset names (18 R437). -/
def userCtrAt (off : Nat) : Option (Nat × Nat) :=
  if bar2 ≤ off ∧ off < bar4 then
    let o := (off - bar2) % 0x4000
    if 0x10 ≤ o ∧ o < 0x30 then some ((off - bar2) / 0x4000, (o - 0x10) / 8) else none
  else none

/-! ## Writes (R460) -/

/-- An aligned 32-bit write with every byte enable set; half of a 64-bit register is not written so. -/
def State.write32 (s : State) (p : Path) (off v : Nat) : State :=
  match s.siteAt p off with
  | some x => if x.reg.wide then s else s.siteWrite p off x v
  | none => s.writeBar32 p off v

/-- An aligned 64-bit write with every byte enable set: a 64-bit register whole, else two 32-bit accesses in ascending order. -/
def State.write64 (s : State) (p : Path) (off v : Nat) : State :=
  let two := (s.write32 p off (v % 2 ^ 32)).write32 p (off + 4) (v / 2 ^ 32 % 2 ^ 32)
  match s.siteAt p off with
  | some x => if x.reg.wide then s.siteWrite p off x v else two
  | none =>
    match p, userCtrAt off with
    | .head h, some (d, n) =>
      if s.drwBound d && s.drwHead d == h.val then s.modDrawer d fun x => { x with userCtr := smSet x.userCtr n v } else s
    | _, _ => two

/-- A write of a width. -/
def State.writeOf (s : State) (p : Path) (off : Nat) (wide : Bool) (v : Nat) : State :=
  if wide then s.write64 p off v else s.write32 p off (v % 2 ^ 32)

/-- What the Wellhead writes for the sideband while the Bench is not up: outside P4 (Dry) also its copy of MS_POWER (04 R99). -/
def State.responderTakes (s : State) (off : Nat) : Bool := responderWrites off || (off == 0x118 && s.fget PWR_STATE.CUR != 4)

/-- REGISTER_WRITE: a write that is not aligned with every byte enable set is ignored. -/
def registerWrite (p : Path) (off : Nat) (wide full : Bool) (val : Word64) (s : State) : State :=
  if full && alignedOff off wide then
    regAccess (.registerWrite p off wide full val) p off s.responderTakes (fun s => s.writeOf p off wide val.toNat) s
  else s

/-- REGISTER_WRITE (R460). -/
def execRegisterWrite (p : Path) (off : Nat) (wide full : Bool) (val : Word64) (s : State) : Host.Outcome State Fault Refusal :=
  volatile (registerWrite p off wide full val) s

/-- REG_WRITE: the sideband's write of 4 or 8 bytes, answered with success. -/
def regWrite (off : Nat) (wide : Bool) (val : Word64) (s : State) : State :=
  if 0x00130000 ≤ off ∨ !alignedOff off wide then
    access (.regWrite off wide val) .sideband (fun s => s.mailbox .sideband fun s => s.reply .sideband .invalidInput) s
  else regAccess (.regWrite off wide val) .sideband off s.responderTakes
    (fun s => ((s.count 11 2).writeOf .sideband off wide val.toNat).reply .sideband .success) s

/-- REG_WRITE (R456). -/
def execRegWrite (off : Nat) (wide : Bool) (val : Word64) (s : State) : Host.Outcome State Fault Refusal :=
  volatile (regWrite off wide val) s

/-! ## Configuration writes (04 R87, R90, R97, R98) -/

/-- Bits of a dword that byte enables select. -/
def dwordMask (be : BitVec 4) : Word :=
  BitVec.ofNat 32 ((List.range 4).map fun k => if be.getLsbD k then 0xFF <<< (8 * k) else 0).sum

/-- A configuration dword after a write: the writable bits take the value, the write-1-to-clear bits clear. -/
def cfgAfter (old : Word) (off : Nat) (val mask : Word) : Word :=
  let m := cfgRw off &&& mask
  ((old &&& ~~~m) ||| (val &&& m)) &&& ~~~(cfgW1c off &&& mask &&& val)

/-- A dword of a head's configuration space is written, with no further effect. -/
def State.cfgStore (s : State) (h off : Nat) (val mask : Word) : State :=
  s.modHead h fun x => cfgPut x off (cfgAfter (cfgGet x off) off val mask)

/-- Command register: Bus Master Enable cleared stops the drawers' requests, set releases what waited on it (R94, R105). -/
def State.cfgCommand (s : State) (h : Nat) (val mask : Word) : State :=
  let was := busMaster (s.head h)
  let s := s.cfgStore h 0x004 val mask
  let now := busMaster (s.head h)
  if was && !now then s.bmeOff h else if !was && now then s.headUnheld h else s

/-- Power management: PowerState 0 and 3 are taken; the rest of the dword as written. -/
def State.cfgPower (s : State) (h : Nat) (val mask : Word) : State :=
  let st := val.toNat % 4
  let s := s.cfgStore h 0x044 (val &&& ~~~3#32) (mask &&& ~~~3#32)
  if mask.getLsbD 0 && (st = 0 || st = 3) then s.modHead h fun x => { x with d3hot := decide (st = 3) } else s

/-- DOE control: Abort resets the instance; Go hands the object over, and an object above 32 KiB is answered with the error bit (R97). -/
def State.cfgDoe (s : State) (h : Nat) (val mask : Word) : State :=
  let v := val &&& mask
  if v.getLsbD 0 then s.modHead h fun x => { x with doe := [] }
  else
    let s := s.cfgStore h 0x238 val mask
    if v.getLsbD 31 then
      let big := decide (32768 < (s.head h).doe.length)
      let s := s.modHead h fun x => { x with doe := [] }
      if big then s.emit (.cfgErr (Fin.ofNat 16 h)) else s
    else s

/-- The Module Service DVSEC: its registers, at the head's own copy (R98). -/
def State.cfgService (s : State) (h off : Nat) (val mask : Word) : State :=
  match regIn 20 (off - 0x330) with
  | some x => if mask = 0xFFFFFFFF#32 then s.writeInst (.head (Fin.ofNat 16 h)) x (if x.reg.scope = .ms then h else 0) val.toNat else s
  | none => s

/-- A configuration write takes effect. -/
def State.cfgWrite (s : State) (h off : Nat) (val mask : Word) : State :=
  match off with
  | 0x004 => s.cfgCommand h val mask
  | 0x044 => s.cfgPower h val mask
  | 0x058 =>
    let s := s.cfgStore h off val mask
    if (val &&& mask).getLsbD 15 then initiateFlr (Fin.ofNat 16 h) s else s
  | 0x090 =>
    let was := msixFnMask (s.head h) || !msixOn (s.head h)
    let s := s.cfgStore h off val mask
    if was && !msixFnMask (s.head h) && msixOn (s.head h) then s.headUnheld h else s
  | 0x238 => s.cfgDoe h val mask
  | 0x240 => s.modHead h fun x => { x with doe := x.doe ++ leBytes 4 val.toNat }
  | _ => if 0x33C ≤ off ∧ off < 0x358 then s.cfgService h off val mask else s.cfgStore h off val mask

/-- CONFIG_WRITE: until an FLR completes it is answered with Configuration Request Retry Status (R106). -/
def configWrite (h : Head) (off : BitVec 12) (val : Word) (be : BitVec 4) (s : State) : State :=
  if off.toNat % 4 ≠ 0 then s
  else if (s.head h.val).crs then s.emit (.cfgErr h)
  else s.cfgWrite h.val off.toNat val (dwordMask be)

/-- CONFIG_WRITE (R87, R90). -/
def execConfigWrite (h : Head) (off : BitVec 12) (val : Word) (be : BitVec 4) (s : State) : Host.Outcome State Fault Refusal :=
  volatile (access (.configWrite h off val be) (.head h) (configWrite h off val be)) s

end Sys2Proof.Machine
end

