-- ==== Sys2Proof/Machine/SpanHome.lean ====
section
/-! DEFINITION. Span requests and snoops that other nodes send here (05 R119; 13 R323-R324, R338-R339; 01 R27): this node as the
home of a line, as the node of a snooped head, and as a donor. -/

namespace Sys2Proof.Machine

open Sys2Proof

/-! ## Arrival (13 R330, R343; 14 R347, R358) -/

/-- Message class of an opcode (13 R324). -/
def opClass (op : Nat) : Nat := if op < 0x20 then 3 else if op < 0x28 then 1 else if op < 0x30 then 2 else 0

/-- Does a port carry MSG flits: its link ADMITTED, this node a member with an ID (13 R329, R330)? -/
def State.spanOpen (s : State) (p : Nat) : Bool :=
  s.linkSt p == 4 && s.fget SPN_CFG.ROLE != 0 && s.fget SPN_NODE.STATE != 3

/-- Forget a byte-enable mask that no WRP has followed (13 R323). -/
def State.maskGone (s : State) (p : Nat) : State := s.modLink p fun l => { l with mask := none }

/-- A Span message arrives. In P1 (Trickle) it waits and wakes the device (14 R347, R358); a mask serves only the next message. -/
def spanIn (op : Nat) (m : SpanMsg) (f : SpanMsg → State → State) (s : State) : State :=
  if !s.spanOpen m.port.val then s
  else if s.asleep then { s with pwr := { s.pwr with held := s.pwr.held ++ [Held.span op m] } }.latch 7 0
  else
    let s := s.active.count 9 2 { cls := some (opClass op) }
    f m (if op = 3 then s else s.maskGone m.port.val)

/-- A NACK to a request's source (13 R324). -/
def State.sendNack (s : State) (dest tag cause : Nat) : State :=
  (s.sendSpan dest 0x38 (spanMsg s 0 0 tag 0 cause)).count 9 5

/-! ## The home (05 R119; 06 R137-R143) -/

/-- Pointer of the head a message comes from (06 R133). -/
def peerPtr (m : SpanMsg) : Target := m.src.toNat * 16 + m.head.val

/-- The transaction a message asks for. -/
def peerTxn (m : SpanMsg) (kind : TxnKind) (be : ByteEn) (mc : Nat) : Txn :=
  { src := .peer m.src m.head m.tag, kind := kind, ln := m.ln.toNat, key := m.key, mv := m.mv, data := m.data, be := be
    shared := m.shared, poison := m.poison && kind != .read, urg := m.urgency.val, port := m.port.val, mc := mc, cls := 5 }

/-- Does the home accept a request of a head of another node for a line of a region (R119)? -/
def State.peerMay (s : State) (m : SpanMsg) (r : Region) : Bool :=
  r.sharingNodes.getLsbD m.src.toNat && (m.shared == r.shared) && (r.shared || r.peerHead == some m.head) &&
  s.fbitAt DEC_PEERKEY.PERMIT (m.key.toNat / 32) (m.key.toNat % 32)

/-- A refused peer request: poison to its sender, class PEERDENY (R119). -/
def State.peerRefuse (s : State) (x : Txn) (m : SpanMsg) : State :=
  let s := (s.count 1 4).report setDEC 4 { addr := m.ln.toNat * 64, syn := peerPtr m }
  if x.kind = .read then s.answerRead x 0 true else s.answerWrite x true

/-- A request of a head of another node meets DEC (R119): refused, or the transaction of its region, in class C5. -/
def State.peerDec (s : State) (m : SpanMsg) (x : Txn) (go : Txn → State → State) : State :=
  let s := s.count 1 1
  match s.regionAt (m.ln.toNat * 64) with
  | none => s.peerRefuse x m
  | some (n, r) =>
    if !s.peerMay m r then s.peerRefuse x m
    else if s.boot.fatal then s.turnAway x
    else go { s.localTxn r n x (m.ln.toNat * 64) with cls := 5 } s

/-- The transaction enters COH; a dye candidate where `PMU_DYECTL.SPAN` is set (18 R433). -/
def enterPeer (x : Txn) (s : State) : State :=
  let r := if s.fone PMU_DYECTL.SPAN then s.dye x else (x, s)
  let n := r.2.newTxn r.1
  n.2.decoded n.1

/-- A read or write of a head of another node: the key slot of the home admits it as a local request (R119; 10 R263). -/
def State.peerReq (s : State) (m : SpanMsg) (x : Txn) (a : Access) : State :=
  s.peerDec m x fun y s => s.keyAdmit y a (m.ln.toNat * 64) (enterPeer y)

/-- RD. -/
def spanRd (m : SpanMsg) (s : State) : State := s.peerReq m (peerTxn m .read 0 3) .read

/-- RD (13 R338). -/
def execRd (m : SpanMsg) (s : State) : Host.Outcome State Fault Refusal := volatile (spanIn 1 m spanRd) s

/-- WR. -/
def spanWr (m : SpanMsg) (s : State) : State := s.peerReq m (peerTxn m .write (BitVec.allOnes 64) 3) .write

/-- WR (13 R338). -/
def execWr (m : SpanMsg) (s : State) : Host.Outcome State Fault Refusal := volatile (spanIn 2 m spanWr) s

/-- WRP: under the mask of the BEMASK before it in its flit; with none it is dropped and answered by NACK (13 R323). -/
def spanWrp (m : SpanMsg) (s : State) : State :=
  match (s.link m.port.val).mask with
  | none => s.sendNack m.src.toNat m.tag.toNat 3
  | some be => (s.maskGone m.port.val).peerReq m (peerTxn m .part be 3) .write

/-- WRP (13 R323, R338). -/
def execWrp (m : SpanMsg) (s : State) : Host.Outcome State Fault Refusal := volatile (spanIn 3 m spanWrp) s

/-- A byte-enable mask waits for its WRP. -/
def State.bemaskAt (s : State) (p : Nat) (mask : ByteEn) : State := s.modLink p fun l => { l with mask := some mask }

/-- BEMASK. -/
def bemask (port : Port) (mask : ByteEn) (s : State) : State :=
  if !s.spanOpen port.val then s
  else if s.asleep then { s with pwr := { s.pwr with held := s.pwr.held ++ [Held.mask port mask] } }.latch 7 0
  else s.bemaskAt port.val mask

/-- BEMASK (13 R323). -/
def execBemask (port : Port) (mask : ByteEn) (s : State) : Host.Outcome State Fault Refusal := volatile (bemask port mask) s

/-- CLNEVCT: the pointer goes; the key slot's state does not matter (10 R263). -/
def spanClnevct (m : SpanMsg) (s : State) : State :=
  s.peerDec m (peerTxn m .write 0 3) fun x s => s.cleanEvict x (peerPtr m)

/-- CLNEVCT (13 R338). -/
def execClnevct (m : SpanMsg) (s : State) : Host.Outcome State Fault Refusal := volatile (spanIn 5 m spanClnevct) s

/-- BICONFLICT: acknowledged at once, whatever the conflicting request waits on (06 R143). -/
def spanConflict (m : SpanMsg) (s : State) : State :=
  s.sendSpan m.src.toNat 0x33 (spanMsg s m.head.val 0 m.tag.toNat m.ln.toNat 0)

/-- SPAN_BICONFLICT (13 R324). -/
def execSpanBiconflict (m : SpanMsg) (s : State) : Host.Outcome State Fault Refusal := volatile (spanIn 6 m spanConflict) s

/-- WB: a writeback by a head of another node (06 R141); it waits on its link while no entry is free (06 R138). -/
def spanWb (m : SpanMsg) (s : State) : State :=
  if !s.ttRoom1 then s
  else s.peerDec m (peerTxn m .write (BitVec.allOnes 64) 1) fun x s =>
    s.keyAdmit x .writeback (m.ln.toNat * 64) fun s => s.acceptWb x (peerPtr m)

/-- WB (13 R338). -/
def execWb (m : SpanMsg) (s : State) : Host.Outcome State Fault Refusal := volatile (spanIn 0x20 m spanWb) s

/-! ## Snoops of heads of this node (13 R338; 06 R136) -/

/-- Has a head a committed decoder to a shared-coherent region of a home? -/
def State.reachesHome (s : State) (h home : Nat) : Bool :=
  (List.range 32).any fun n =>
    match smFind? s.dec.templates (h * 32 + n) with
    | none => false
    | some t => (s.decoder (h * 32 + n)).committed && (s.region t.region).shared &&
      ((s.region t.region).home.map (·.toNat)) == some home

/-- Heads that a home's snoop concerns: HEAD, or with ARG bit 0 every head that reaches the home; none whose presence code is 1 or 3. -/
def State.snoopedHeads (s : State) (m : SpanMsg) : List Nat :=
  (if m.arg.getLsbD 0 then s.headsOn.filter fun h => s.reachesHome h m.src.toNat else [m.head.val]).filter fun h => !s.headGone h

/-- A home's snoop: delivered to each head concerned; answered once every response is in. -/
def State.peerSnoop (s : State) (m : SpanMsg) (inv : Bool) : State :=
  let l := s.snoopedHeads m
  let k := s.spn.snoopNext
  let q : PeerSnoop := { home := m.src.toNat, tag := m.tag.toNat, head := m.head.val, ln := m.ln.toNat, heads := l }
  let s := { s with spn := { s.spn with snoops := smSet s.spn.snoops k q, snoopNext := k + 1 } }
  let s := s.each l fun h s => (s.emit (.bisnp (Fin.ofNat 16 h) m.ln.toNat inv)).count 0 5 { head := some h }
  s.peerSnoopDone k

/-- BISNP_INV. -/
def spanSnpInv (m : SpanMsg) (s : State) : State := s.peerSnoop m true

/-- BISNP_INV (13 R338). -/
def execBisnpInv (m : SpanMsg) (s : State) : Host.Outcome State Fault Refusal := volatile (spanIn 0x28 m spanSnpInv) s

/-- BISNP_DATA. -/
def spanSnpData (m : SpanMsg) (s : State) : State := s.peerSnoop m false

/-- BISNP_DATA (13 R338). -/
def execBisnpData (m : SpanMsg) (s : State) : Host.Outcome State Fault Refusal := volatile (spanIn 0x29 m spanSnpData) s

/-- BIRSP: a node's combined response to a snoop of a pointer or of the broadcast set (06 R136, R142). -/
def spanBirsp (m : SpanMsg) (s : State) : State :=
  let p := peerPtr m
  let ln := m.ln.toNat
  let stands (q : Target) : Bool := (s.coh.sent.any fun e => e.1 == q && e.2.1 == ln) || s.coh.timeouts.contains (q, ln)
  s.birspAt (if stands p then p else 1024 + m.src.toNat) ln m.mv

/-- BIRSP (13 R338). -/
def execBirsp (m : SpanMsg) (s : State) : Host.Outcome State Fault Refusal := volatile (spanIn 0x32 m spanBirsp) s

/-- HEAD_GONE: the home loses the pair (06 R157). -/
def spanHeadGone (m : SpanMsg) (s : State) : State := s.remoteLoss (peerPtr m)

/-- HEAD_GONE (13 R324). -/
def execHeadGone (m : SpanMsg) (s : State) : Host.Outcome State Fault Refusal := volatile (spanIn 0x37 m spanHeadGone) s

/-! ## The donor (13 R339; 10 R260) -/

/-- Does a node hold the run in which an MPA line lies? -/
def State.holdsLine (s : State) (node ln : Nat) : Bool :=
  s.spn.runs.any fun e => e.2.1.toNat == node && decide (e.1 * 4 ≤ ln ∧ ln < (e.1 + e.2.2) * 4)

/-- The transaction of a line of a donor run: key ID 0, SLAB, class C5. -/
def slabTxn (m : SpanMsg) (kind : TxnKind) : Txn :=
  { src := .peer m.src m.head m.tag, kind := kind, ln := m.ln.toNat, key := 0, mv := .I, data := m.data
    be := BitVec.allOnes 64, slab := true, urg := m.urgency.val, port := m.port.val, cls := 5, poison := m.poison && kind != .read }

/-- SLAB_RD or SLAB_WR on a line of a run that the sender holds; any other is answered with poison. -/
def State.slabReq (s : State) (m : SpanMsg) (kind : TxnKind) : State :=
  let x := slabTxn m kind
  if !s.holdsLine m.src.toNat m.ln.toNat then (if kind = .read then s.answerRead x 0 true else s.answerWrite x true)
  else if s.boot.fatal then s.turnAway x
  else
    let s := if kind = .read then s else s.countWrite 0
    let n := s.newTxn x
    n.2.enterCoh n.1

/-- SLAB_RD. -/
def spanSlabRd (m : SpanMsg) (s : State) : State := s.slabReq m .read

/-- SLAB_RD (13 R339). -/
def execSlabRd (m : SpanMsg) (s : State) : Host.Outcome State Fault Refusal := volatile (spanIn 0x10 m spanSlabRd) s

/-- SLAB_WR. -/
def spanSlabWr (m : SpanMsg) (s : State) : State := s.slabReq m .write

/-- SLAB_WR (13 R339). -/
def execSlabWr (m : SpanMsg) (s : State) : Host.Outcome State Fault Refusal := volatile (spanIn 0x11 m spanSlabWr) s

/-- Slabs of the runs that a node holds here. -/
def State.slabsHeldFor (s : State) (node : Nat) : Nat :=
  ((s.spn.runs.filter fun e => e.2.1.toNat == node).map (·.2.2)).sum

/-- Slabs that a node's grant allows. -/
def State.slabsGrantedTo (s : State) (node : Nat) : Nat := smGet s.spn.grantsOut node 0 * 4194304

/-- Answer ALLOC: 0 granted with the run's first slab line, 1 no room, 2 no grant. -/
def State.allocAnswer (s : State) (m : SpanMsg) (slab res : Nat) : State :=
  s.sendSpan m.src.toNat 0x34 (spanMsg s 0 0 m.tag.toNat (slab * 4) res)

/-- ALLOC: a run of ARG slabs from frames of the donor pool, charged against the sender's grant. -/
def spanAlloc (m : SpanMsg) (s : State) : State :=
  let k := m.arg.toNat
  if k < 1 ∨ 16 < k then s.sendNack m.src.toNat m.tag.toNat 3
  else if s.slabsGrantedTo m.src.toNat < s.slabsHeldFor m.src.toNat + k then s.allocAnswer m 0 2
  else match takeRun (s.frameCands 2 s.slc.donor) k s.slc.donor with
    | none => s.allocAnswer m 0 1
    | some (slab, fr) =>
      ({ s with slc := { s.slc with donor := fr }, spn := { s.spn with runs := smSet s.spn.runs slab (m.src, k) } }).allocAnswer m slab 0

/-- ALLOC (13 R339). -/
def execAlloc (m : SpanMsg) (s : State) : Host.Outcome State Fault Refusal := volatile (spanIn 0x12 m spanAlloc) s

/-- FREE: the run returns to the donor pool. -/
def spanFree (m : SpanMsg) (s : State) : State :=
  let slab := m.ln.toNat / 4
  let s := match smFind? s.spn.runs slab with
    | some (n, _) =>
      if n = m.src then
        { s with slc := { s.slc with donor := giveRun s.slc.donor slab }, spn := { s.spn with runs := smDel s.spn.runs slab } }
      else s
    | none => s
  s.sendSpan m.src.toNat 0x31 (spanMsg s 0 0 m.tag.toNat m.ln.toNat 0)

/-- FREE (13 R339). -/
def execFree (m : SpanMsg) (s : State) : Host.Outcome State Fault Refusal := volatile (spanIn 0x13 m spanFree) s

/-- GRANT_REQ: whole GiB up to what is free; a change of the free capacity is flooded (R332). -/
def spanGrantReq (m : SpanMsg) (s : State) : State :=
  let g := min m.arg.toNat s.freeGib
  let s := s.sendSpan m.src.toNat 0x35 (spanMsg s 0 0 m.tag.toNat 0 g)
  if g = 0 then s
  else (({ s with spn := { s.spn with grantsOut := smMod s.spn.grantsOut m.src.toNat 0 (· + g) } }).fset SPN_GRANT.OUT 0
    (s.fget SPN_GRANT.OUT + g)).floodSelf

/-- GRANT_REQ (13 R339). -/
def execGrantReq (m : SpanMsg) (s : State) : Host.Outcome State Fault Refusal := volatile (spanIn 0x14 m spanGrantReq) s

/-- WITHDRAW: a donor takes back ARG GiB of grant that no run uses. -/
def spanWithdraw (m : SpanMsg) (s : State) : State :=
  let n := m.src.toNat
  let g := min m.arg.toNat (smGet s.slc.grants n 0)
  let left := smGet s.slc.grants n 0 - g
  let grants := if left = 0 then smDel s.slc.grants n else smSet s.slc.grants n left
  { s with slc := { s.slc with grants := grants } }.fset SPN_GRANT.IN 0 (s.fget SPN_GRANT.IN - g)

/-- WITHDRAW (13 R339). -/
def execWithdraw (m : SpanMsg) (s : State) : Host.Outcome State Fault Refusal := volatile (spanIn 0x36 m spanWithdraw) s

end Sys2Proof.Machine
end

