-- ==== Sys2Proof/Machine/SpanBack.lean ====
section
/-! DEFINITION. What comes back to this node on the Span: responses and their time limits (13 R324, R336, R338-R340), the wake pattern
(13 R341), and flits for other nodes (13 R334-R335). -/

namespace Sys2Proof.Machine

open Sys2Proof

/-! ## TAGs (R336) -/

/-- Forget a TAG. -/
def State.tagFree (s : State) (dest tag : Nat) : State :=
  { s with spn := { s.spn with tags := smDel s.spn.tags (dest * 4096 + tag) } }

/-- A response for a TAG that stands for nothing is discarded and counted. -/
def State.lateAnswer (s : State) : State := s.finc SPN_FWD.LATE

/-- A response meets the request it answers, whose TAG is free again; without one it is late (R336). -/
def State.answered (s : State) (m : SpanMsg) (f : SpanReq → State → State) : State :=
  match smFind? s.spn.tags (m.src.toNat * 4096 + m.tag.toNat) with
  | none => s.lateAnswer
  | some r => if r.failed then s.lateAnswer else f r (s.tagFree m.src.toNat m.tag.toNat)

/-! ## Reads and writes of this node's heads and drawers (R338) -/

/-- Lines of a remote home as an operation knows them. -/
def remoteKey (home ln : Nat) : Nat := ln + 2 ^ 40 * (home + 1)

/-- A read of a remote home ends. -/
def State.homeRead (s : State) (home : Nat) (r : SpanReq) (d : Data) (poison : Bool) (devload : Nat) : State :=
  match r.drw, r.head with
  | some o, _ => s.opBack o (remoteKey home r.ln) (some (d, poison))
  | none, some h => if s.linkReady h.val then (s.emit (.drs h r.ln d poison devload)).count 0 2 { head := some h.val } else s
  | none, none => s

/-- A write, writeback or clean eviction notice to a remote home ends. -/
def State.homeWrite (s : State) (r : SpanReq) (poison : Bool) (devload : Nat) : State :=
  match r.drw, r.head with
  | some o, _ => s.opBack o 0 none
  | none, some h => if s.linkReady h.val then (s.emit (.ndr h r.ln poison devload)).count 0 2 { head := some h.val } else s
  | none, none => s

/-- Snoops of a home for a line whose last writeback is complete are answered (R338). -/
def State.snoopsFreed (s : State) (home ln : Nat) : State :=
  s.each ((s.spn.snoops.filter fun e => e.2.home == home && e.2.ln == ln).map (·.1)) fun k s => s.peerSnoopDone k

/-! ## Lines of runs on donors (R339; 08 R205; 09 R240) -/

/-- The lines that a decode job asked for are in: it is ready, or its header names the lines of its segment, which are asked for now. -/
def State.jobArrived (s : State) (n : Nat) (j : DecJob) : State :=
  if !j.want.isEmpty then s
  else if j.bad ∨ j.raw then s.modJob n fun j => { j with ready := true }
  else
    let h := match s.hcacheGet j.loc j.node.toNat with
      | some h => h
      | none => (bytesOfData (s.runLine j.loc j.page j.key (some j.got) 0).1).take 32
    let more := if headerOk h j.slabs then (segLines h j.seg).filter fun i => !smHas j.got i else []
    if more.isEmpty then s.modJob n fun j => { j with ready := true }
    else (s.modJob n fun j => { j with want := more }).askSlabs j.node.toNat j.loc j.page more

/-- A line of a run, or none when it came poisoned or not at all, reaches the decode job that asked for it. -/
def State.jobLine (s : State) (n i : Nat) (line : Option Data) : State :=
  let s := s.modJob n fun j => { j with
    want := j.want.filter (· != i), bad := j.bad || line.isNone
    got := match line with
      | some d => smSet j.got i d
      | none => j.got }
  match smFind? s.press.jobs n with
  | some j => s.jobArrived n j
  | none => s

/-- A line of a run reaches whatever asked for it. -/
def State.slabLine (s : State) (node : Nat) (r : SpanReq) (line : Option Data) : State :=
  let mine := s.press.jobs.filter fun e =>
    e.2.page == r.page && e.2.node.toNat == node && decide (e.2.loc * 4 ≤ r.ln) && e.2.want.contains (r.ln - e.2.loc * 4)
  let s := s.each mine fun e s => s.jobLine e.1 (r.ln - e.2.loc * 4) line
  let p := s.pme r.page
  if p.tier ≠ 2 ∨ p.node.toNat ≠ node ∨ r.ln < p.loc * 4 then s
  else s.modMove r.page fun m =>
    if m.kind = .toT2 ∨ m.peer.isSome then m
    else { m with
      want := m.want.filter (· != r.ln - p.loc * 4)
      got := match line with
        | some d => if m.want.contains (r.ln - p.loc * 4) then smSet m.got (r.ln - p.loc * 4) d else m.got
        | none => m.got }

/-- A run whose lines were on their way to a peer goes back, and the move ends or goes on without it. -/
def State.runLost (s : State) (pn : Nat) : State :=
  match smFind? s.slc.moves pn with
  | none => s
  | some m =>
    match m.peer with
    | none => s
    | some (node, loc) =>
      let s := s.freeStorage pn { s.pme pn with tier := 2, poison := false, node := node, loc := loc }
      let s := s.modMove pn fun m => { m with peer := none, want := [] }
      if m.kind = .toT2 ∧ m.buffer.isEmpty then (s.endMove pn).rerunPage pn
      else
        let s := s.modMove pn fun m => { m with kind := .promoteOnWrite }
        match s.drawT0 with
        | some (d, s) => (s.modMove pn fun m => { m with dest := some d, spill := false }).each m.writers fun t s => s.phase t .promoting
        | none => s.reserveOrFault pn m

/-- The peer holds a line of a run that a move sent it. -/
def State.slabSent (s : State) (node : Nat) (r : SpanReq) : State :=
  s.modMove r.page fun m => match m.peer with
    | some (k, loc) => if k.toNat = node ∧ loc * 4 ≤ r.ln then { m with want := m.want.filter (· != r.ln - loc * 4) } else m
    | none => m

/-- Does a page's move still want the run it asked for? -/
def State.runWanted (s : State) (pn : Nat) : Bool :=
  match smFind? s.slc.moves pn with
  | none => false
  | some m => m.peer.isNone && (m.kind == .toT2 || m.spill)

/-- Return a run that no move wants any more. -/
def State.runBack (s : State) (node slab k pn : Nat) : State :=
  (s.sendReq node 0x13 { ln := slab * 4, page := pn } fun tag => spanMsg s 0 0 tag (slab * 4) k).2

/-- A donor has granted a run: its lines go out, unless the page no longer wants it or can no longer be encoded. -/
def State.runGiven (s : State) (node slab : Nat) (r : SpanReq) : State :=
  if !s.runWanted r.page then s.runBack node slab r.ln r.page
  else match smFind? s.slc.moves r.page with
    | none => s
    | some m =>
      if m.kind = .toT2 ∨ (s.spillPage r.page m).1.isSome then s.runGranted r.page node slab
      else (s.runBack node slab r.ln r.page).reserveOrFault r.page m

/-! ## Requests that fail (R324 NACK, R336) -/

/-- A request of this node fails: a read gives poison, a write is reported failed, a move does without the donor. -/
def State.reqFailed (s : State) (dest : Nat) (r : SpanReq) : State :=
  match r.op with
  | 1 => s.homeRead dest r 0 true 0
  | 2 | 3 => s.homeWrite r true 0
  | 5 => s.homeWrite r false 0
  | 0x20 => (s.homeWrite r true 0).snoopsFreed dest r.ln
  | 0x10 => s.slabLine dest r none
  | 0x11 => s.runLost r.page
  | 0x12 => if s.runWanted r.page then s.runRefused r.page else s
  | _ => s

/-- NACK: the request is refused. -/
def spanNack (m : SpanMsg) (s : State) : State := s.answered m fun r s => s.reqFailed m.src.toNat r

/-- NACK (13 R324). -/
def execNack (m : SpanMsg) (s : State) : Host.Outcome State Fault Refusal := volatile (spanIn 0x38 m spanNack) s

/-- E2E_TIMEOUT: a request unanswered for E2E_US fails; its TAG rests. -/
def e2eTimeout (dest : NodeId) (tag : BitVec 12) (s : State) : State :=
  let k := dest.toNat * 4096 + tag.toNat
  match smFind? s.spn.tags k with
  | none => s
  | some r =>
    if r.failed ∨ !s.elapsed r.since (usT (s.fmin SPN_CTL.E2E_US 1000)) then s
    else
      let s := { s with spn := { s.spn with tags := smSet s.spn.tags k { r with failed := true, since := s.wclk } } }
      let port := (smFind? s.spn.routes dest.toNat).getD 255
      ((s.reqFailed dest.toNat r).spnFault 8 port dest.toNat (r.ln * 64)).count 9 6

/-- E2E_TIMEOUT (13 R336). -/
def execE2eTimeout (dest : NodeId) (tag : BitVec 12) (s : State) : Host.Outcome State Fault Refusal := volatile (e2eTimeout dest tag) s

/-- SPAN_TAG_RELEASE: 4 × E2E_US after the failure the TAG may be used again. -/
def spanTagRelease (dest : NodeId) (tag : BitVec 12) (s : State) : State :=
  match smFind? s.spn.tags (dest.toNat * 4096 + tag.toNat) with
  | none => s
  | some r =>
    if r.failed && s.elapsed r.since (usT (4 * s.fmin SPN_CTL.E2E_US 1000)) then s.tagFree dest.toNat tag.toNat else s

/-- SPAN_TAG_RELEASE (13 R336). -/
def execSpanTagRelease (dest : NodeId) (tag : BitVec 12) (s : State) : Host.Outcome State Fault Refusal :=
  volatile (spanTagRelease dest tag) s

/-! ## Responses (R324) -/

/-- RSP_DATA: data of a remote home, or a line of a run. -/
def spanData (m : SpanMsg) (s : State) : State :=
  s.answered m fun r s =>
    if r.op = 0x10 then s.slabLine m.src.toNat r (if m.poison then none else some m.data)
    else s.homeRead m.src.toNat r m.data m.poison m.devload.val

/-- RSP_DATA (13 R338). -/
def execRspData (m : SpanMsg) (s : State) : Host.Outcome State Fault Refusal := volatile (spanIn 0x30 m spanData) s

/-- CMP: a write, writeback, clean eviction notice, slab write or FREE is complete. -/
def spanCmp (m : SpanMsg) (s : State) : State :=
  s.answered m fun r s => match r.op with
    | 0x11 => if m.poison then s.runLost r.page else s.slabSent m.src.toNat r
    | 0x20 => (s.homeWrite r m.poison m.devload.val).snoopsFreed m.src.toNat r.ln
    | 0x13 => s
    | _ => s.homeWrite r m.poison m.devload.val

/-- CMP (13 R324). -/
def execCmp (m : SpanMsg) (s : State) : Host.Outcome State Fault Refusal := volatile (spanIn 0x31 m spanCmp) s

/-- BICONFLICTACK: to the head that sent the notice (06 R143). -/
def spanConflictAck (m : SpanMsg) (s : State) : State :=
  s.answered m fun r s => match r.head with
    | some h => if s.linkReady h.val then s.emit (.biConflictAck h r.ln) else s
    | none => s

/-- BICONFLICTACK (13 R324). -/
def execBiconflictack (m : SpanMsg) (s : State) : Host.Outcome State Fault Refusal := volatile (spanIn 0x33 m spanConflictAck) s

/-- ALLOC_RSP: 0 a run, 1 no room, 2 no grant. -/
def spanAllocRsp (m : SpanMsg) (s : State) : State :=
  s.answered m fun r s =>
    if m.arg = 0 then s.runGiven m.src.toNat (m.ln.toNat / 4) r
    else if s.runWanted r.page then s.runRefused r.page else s

/-- ALLOC_RSP (13 R339). -/
def execAllocRsp (m : SpanMsg) (s : State) : Host.Outcome State Fault Refusal := volatile (spanIn 0x34 m spanAllocRsp) s

/-- GRANT_RSP: the donor's capacity joins the ledger (09 R241). -/
def spanGrantRsp (m : SpanMsg) (s : State) : State :=
  s.answered m fun _ s =>
    if m.arg = 0 then s
    else { s with slc := { s.slc with grants := smMod s.slc.grants m.src.toNat 0 (· + m.arg.toNat) } }.fset SPN_GRANT.IN 0
      (s.fget SPN_GRANT.IN + m.arg.toNat)

/-- GRANT_RSP (13 R339). -/
def execGrantRsp (m : SpanMsg) (s : State) : Host.Outcome State Fault Refusal := volatile (spanIn 0x35 m spanGrantRsp) s

/-! ## Unreachable nodes (R340) -/

/-- Is a wake of a sleeping node pending: something waits for it (R341)? -/
def State.wakePending (s : State) (n : Nat) : Bool :=
  nodeAsleep s.nodesHeld n &&
  ((s.spn.fwd.any fun e => e.2.wake && e.2.dest.toNat == n) || s.spn.tags.any fun e => e.1 / 4096 == n && !e.2.failed)

/-- NODE_UNREACHABLE: no route for LOSS_MS without interruption: R157 for the node's 16 heads. -/
def nodeUnreachable (n : NodeId) (s : State) : State :=
  let k := n.toNat
  match smFind? s.spn.lostAt k with
  | none => s
  | some t =>
    if !s.elapsed t (msT (s.fmin SPN_CTL.LOSS_MS 10)) ∨ s.wakePending k ∨ s.spn.unreach.contains k then s
    else
      let s := { s with spn := { s.spn with unreach := s.spn.unreach ++ [k], lostAt := smDel s.spn.lostAt k } }.spnFault 9 255 k 0
      s.each (List.range 16) fun h s => s.remoteLoss (k * 16 + h)

/-- NODE_UNREACHABLE (13 R340). -/
def execNodeUnreachable (n : NodeId) (s : State) : Host.Outcome State Fault Refusal := volatile (nodeUnreachable n) s

/-! ## Forwarding (R334-R335, R341) -/

/-- A flit is dropped: counted, its class-3 requests answered by NACK in their destination's name, class DROP. -/
def State.fwdDrop (s : State) (e : FwdEntry) (cause : Nat) : State :=
  let s := (s.finc SPN_FWD.DROPS).spnFault 7 255 e.dest.toNat 0
  if e.mc ≠ 3 then s
  else s.each e.tags fun tag s =>
    (s.sendSpan e.src.toNat 0x38 { spanMsg s 0 0 tag.toNat 0 cause with src := e.dest }).count 9 5

/-- Fill of the forwarding entries as a level of BRIM (11 R283). -/
def State.fwdLevel (s : State) : Nat :=
  urgLevel (s.fget WEIR_BRIM.L1) (s.fget WEIR_BRIM.L2) (s.fget WEIR_BRIM.L3) (s.fget WEIR_BRIM.HYST) 0 (100 * s.spn.fwd.length / 1024)

/-- A flit leaves on its next-hop port. -/
def State.fwdSend (s : State) (p : Nat) (e : FwdEntry) : State :=
  ((s.emit (.forwarded p e.dest e.hop (max e.urg s.fwdLevel))).pushFlit p 1).count 9 3 { cls := some e.mc }

/-- A held flit whose wait for a wake is over without an admitted link waits for a route from now on. -/
def State.fwdAwake (s : State) (k : Nat) (e : FwdEntry) : State :=
  if e.wake then { s with spn := { s.spn with fwd := smSet s.spn.fwd k { e with wake := false, since := s.wclk } } } else s

/-- Entries whose next hop is ADMITTED leave, in order of arrival. -/
def State.fwdRelease (s : State) : State :=
  s.each s.spn.fwd fun e s =>
    match smFind? s.spn.routes e.2.dest.toNat with
    | some p =>
      if s.linkSt p = 4 then { s with spn := { s.spn with fwd := smDel s.spn.fwd e.1 } }.fwdSend p e.2
      else if s.linkSt p = 5 then s else s.fwdAwake e.1 e.2
    | none => s.fwdAwake e.1 e.2

/-- A flit takes a forwarding entry and waits in it; toward a sleeping node the wake pattern goes out (R341). -/
def State.fwdHold (s : State) (e : FwdEntry) : State :=
  let s := { s with spn := { s.spn with fwd := smSet s.spn.fwd s.spn.next e, next := s.spn.next + 1 } }
  match smFind? s.spn.routes e.dest.toNat with
  | some p => if s.linkSt p = 5 then s.emit (.wakeOut (Fin.ofNat 4 p)) else s
  | none => s

/-- A flit for another node goes on: dropped at the hop limit, sent, or held. -/
def State.forward (s : State) (e : FwdEntry) : State :=
  let s := (s.count 9 2 { cls := some e.mc }).fwdRelease
  if s.fget SPN_CFG.MAX_HOPS ≤ e.hop then s.fwdDrop e 1
  else match smFind? s.spn.routes e.dest.toNat with
    | some p =>
      if s.linkSt p = 4 then s.fwdSend p e
      else s.fwdHold { e with since := s.wclk, wake := s.linkSt p == 5 }
    | none => s.fwdHold { e with since := s.wclk }

/-- SPAN_FORWARD: a flit whose destination is another node. In P1 it waits and wakes the device. -/
def spanForward (port : Port) (src dest : NodeId) (mc : Fin 4) (hop : Fin 6) (urg : Fin 4) (tags : List (BitVec 12)) (s : State) :
    State :=
  if !s.spanOpen port.val ∨ dest.toNat = s.fget SPN_NODE.ID ∨ 1024 ≤ s.spn.fwd.length then s
  else if s.asleep then
    { s with pwr := { s.pwr with held := s.pwr.held ++ [Held.fwd port src dest mc hop urg tags] } }.latch 7 0
  else s.active.forward { src := src, dest := dest, mc := mc, hop := hop.val + 1, urg := urg, tags := tags }

/-- SPAN_FORWARD (13 R335). -/
def execSpanForward (port : Port) (src dest : NodeId) (mc : Fin 4) (hop : Fin 6) (urg : Fin 4) (tags : List (BitVec 12)) (s : State) :
    Host.Outcome State Fault Refusal := volatile (spanForward port src dest mc hop urg tags) s

/-- FORWARD_WAIT_EXPIRY: 1 ms in its entry: dropped with cause 2, unless it waits for a wake. -/
def forwardWaitExpiry (entry : Nat) (s : State) : State :=
  match smFind? s.spn.fwd entry with
  | none => s
  | some e =>
    if e.wake ∨ !s.elapsed e.since (msT 1) then s
    else { s with spn := { s.spn with fwd := smDel s.spn.fwd entry } }.fwdDrop e 2

/-- FORWARD_WAIT_EXPIRY (13 R335). -/
def execForwardWaitExpiry (entry : Nat) (s : State) : Host.Outcome State Fault Refusal := volatile (forwardWaitExpiry entry) s

/-! ## The wake pattern (R341) -/

/-- WAKE_PATTERN: seen on a lane of a port; the Wellhead takes it as a wake trigger (14 R349). -/
def wakePattern (port : Port) (s : State) : State :=
  if s.fget SPN_CFG.ROLE = 0 ∨ s.linkSt port.val = 0 then s else s.wakeTrigger 3 0

/-- WAKE_PATTERN (13 R341). -/
def execWakePattern (port : Port) (s : State) : Host.Outcome State Fault Refusal := volatile (wakePattern port) s

/-- Does something wait to go out on a port: a held flit, or a request of this node? -/
def State.portWaits (s : State) (p : Nat) : Bool :=
  let via (n : Nat) : Bool := smFind? s.spn.routes n == some p
  (s.spn.fwd.any fun e => via e.2.dest.toNat) || s.spn.tags.any fun e => via (e.1 / 4096) && !e.2.failed

/-- WAKE_PATTERN_REPEAT: every 100 µs until the link leaves electrical idle. -/
def wakePatternRepeat (port : Port) (s : State) : State :=
  if s.linkSt port.val = 5 ∧ s.portWaits port.val then s.emit (.wakeOut port) else s

/-- WAKE_PATTERN_REPEAT (13 R341). -/
def execWakePatternRepeat (port : Port) (s : State) : Host.Outcome State Fault Refusal := volatile (wakePatternRepeat port) s

end Sys2Proof.Machine
end

