-- ==== Sys2Proof/Machine/Tap.lean ====
section
/-! DEFINITION. The TAP (17 R418-R422). -/

namespace Sys2Proof.Machine

open Sys2Proof

/-- What an instruction loaded into the TAP meets: served, refused (it acts as BYPASS), waiting for P1 or P0, or waking the device. -/
inductive TapGate where
  | serve | refuse | wait | wake
deriving DecidableEq, Repr

/-- Instruction codes of R418. -/
def tapExtest : Nat := 0x00
def tapSample : Nat := 0x01
def tapIdcode : Nat := 0x02
def tapClamp : Nat := 0x03
def tapHighz : Nat := 0x04
def tapToken : Nat := 0x10
def tapDbgvote : Nat := 0x11
def tapNonce : Nat := 0x12
def tapBdbg : Nat := 0x20
def tapBypass : Nat := 0xFF

/-- Does the instruction take control of the pins? -/
def tapPins (code : Nat) : Bool := code == tapExtest || code == tapClamp || code == tapHighz

/-- No host link is up, no Span link is trained and every channel is OFF (R418). -/
def State.pinsFree (s : State) : Bool :=
  ((List.range 16).all fun h => !s.fone HP_LINK.UP h) && ((List.range 4).all fun p => s.fget SPN_PSTATE.LINK p == 0) &&
  (List.range 12).all fun c => s.fget DMC_STATUS.STATE c == 0

/-- Are the rails up that the boundary cells and the core need? -/
def State.coreUp (s : State) : Bool := decide (6 ≤ s.boot.step)

/-- The table of R421. -/
def State.tapGate (s : State) (code : Nat) : TapGate :=
  let lc := lifecycle s.nv
  let cur := s.fget PWR_STATE.CUR
  let pub := code ≤ 4 || code == tapBypass
  let tok := code == tapToken || code == tapNonce
  if code = tapBypass then .serve
  else if lc = 5 then .refuse
  else if code = tapIdcode then .serve
  else if !s.coreUp then .refuse
  else if tapPins code ∧ !s.pinsFree then .refuse
  else if pub then .serve
  else if !s.benchUp then .refuse
  else if lc ≤ 2 then (if code = tapBdbg ∧ 2 ≤ cur then .wake else .serve)
  else if tok then (if cur ≤ 1 then .serve else if cur = 2 then (if s.sec.dbgUntil.isSome ∨ code = tapNonce then .serve else .wait) else .wait)
  else if code = tapBdbg ∧ s.sec.dbgUntil.isSome then (if cur ≤ 1 then .serve else .wait)
  else .refuse

/-- The instruction register's capture value (R418). -/
def State.irCapture (s : State) : Nat :=
  1 + 4 * (s.sec.refused || s.sec.waiting).toNat + 8 * s.sec.dbgUntil.isSome.toNat + 16 * s.lcOpen.toNat

/-- An instruction is in force. -/
def State.tapTake (s : State) (code : Nat) : State := s.modSec fun x => { x with
  ir := BitVec.ofNat 8 code, refused := false, waiting := false, bdbg := x.bdbg && code == tapBdbg }

/-- Load an instruction: the status is captured, and the gate of R421 settles what it does. -/
def State.tapLoad (s : State) (c : Instr) (code : Nat) (go : State → State) : State :=
  let s := s.emit (.tdo 8 s.irCapture)
  match s.tapGate code with
  | .serve => go (s.tapTake code)
  | .refuse => s.modSec fun x => { x with ir := 0xFF, refused := true, waiting := false, bdbg := false }
  | .wait => { s with pwr := { s.pwr with held := s.pwr.held ++ [Held.cmd c] } }.modSec fun x => { x with waiting := true, bdbg := false }
  | .wake => ({ s with pwr := { s.pwr with held := s.pwr.held ++ [Held.cmd c] } }.latch 6 0)

/-- The boundary-scan register as captured: the levels on the pins are the board's (assumption 4). -/
def State.scanPins (s : State) : State := (s.emit (.tdo 0 (s.freeVal 64).toNat)).freeTaken

/-- The bypass register. -/
def State.bypassBit (s : State) : State := s.emit (.tdo 1 0)

/-- EXTEST. -/
def extest (s : State) : State := s.tapLoad .extest tapExtest State.scanPins
/-- EXTEST (R418). -/
def execExtest (s : State) : Host.Outcome State Fault Refusal := volatile extest s

/-- SAMPLE/PRELOAD. -/
def samplePreload (s : State) : State := s.tapLoad .samplePreload tapSample State.scanPins
/-- SAMPLE_PRELOAD (R418). -/
def execSamplePreload (s : State) : Host.Outcome State Fault Refusal := volatile samplePreload s

/-- IDCODE. -/
def idcode (s : State) : State := s.tapLoad .idcode tapIdcode fun s => s.emit (.tdo 32 0x1961656B)
/-- IDCODE (R418). -/
def execIdcode (s : State) : Host.Outcome State Fault Refusal := volatile idcode s

/-- CLAMP. -/
def clamp (s : State) : State := s.tapLoad .clamp tapClamp State.bypassBit
/-- CLAMP (R418). -/
def execClamp (s : State) : Host.Outcome State Fault Refusal := volatile clamp s

/-- HIGHZ. -/
def highz (s : State) : State := s.tapLoad .highz tapHighz State.bypassBit
/-- HIGHZ (R418). -/
def execHighz (s : State) : Host.Outcome State Fault Refusal := volatile highz s

/-- TOKEN: the token shifted in is checked as DBG_UNLOCK. -/
def token (t : Token) (s : State) : State := s.tapLoad (.token t) tapToken fun s => (s.unlockToken t).2
/-- TOKEN (R418). -/
def execToken (t : Token) (s : State) : Host.Outcome State Fault Refusal := volatile (token t) s

/-- DBGVOTE: the debug vote. -/
def dbgvote (v : BitVec 4) (s : State) : State := s.tapLoad (.dbgvote v) tapDbgvote fun s => s.debugVoteSet v.toNat
/-- DBGVOTE (R422). -/
def execDbgvote (v : BitVec 4) (s : State) : Host.Outcome State Fault Refusal := volatile (dbgvote v) s

/-- NONCE: SEC_NONCE is issued; the nonce and the serial number are captured. -/
def nonce (s : State) : State := s.tapLoad .nonce tapNonce fun s =>
  let s := s.drawNonce
  s.emit (.tdo 320 (s.nonceNat + s.nv.serial.toNat * 2 ^ 256))
/-- NONCE (R418). -/
def execNonce (s : State) : Host.Outcome State Fault Refusal := volatile nonce s

/-- BDBG: the Bench debug access port is selected; the device is then not idle. -/
def bdbg (s : State) : State := s.tapLoad .bdbg tapBdbg fun s => (s.modSec fun x => { x with bdbg := true }).active
/-- BDBG (R421). -/
def execBdbg (s : State) : Host.Outcome State Fault Refusal := volatile bdbg s

/-- A private instruction: its data register is not described; what it captures is free (assumption 4). -/
def tapPrivate (code : Fin 16) (s : State) : State := s.tapLoad (.tapPrivate code) (0x30 + code.val) State.scanPins
/-- TAP_PRIVATE (R418). -/
def execTapPrivate (code : Fin 16) (s : State) : Host.Outcome State Fault Refusal := volatile (tapPrivate code) s

/-- BYPASS. -/
def bypass (s : State) : State := s.tapLoad .bypass tapBypass State.bypassBit
/-- BYPASS (R418). -/
def execBypass (s : State) : Host.Outcome State Fault Refusal := volatile bypass s

/-- An instruction that stalled for a wake is served after it, if the gate still lets it (R421). -/
def State.tapHeldGo (s : State) (code : Nat) (go : State → State) : State :=
  match s.tapGate code with
  | .serve => go (s.tapTake code)
  | _ => s.modSec fun x => { x with ir := 0xFF, refused := true, waiting := false, bdbg := false }

/-- Is a held command one of the TAP's? -/
def tapHeld : Held → Bool
  | .cmd (.token _) => true
  | .cmd .nonce => true
  | .cmd .bdbg => true
  | _ => false

/-- TAP_RESET: the reset instruction is selected, BDBG and stalled accesses are gone, the debug vote abstains. -/
def tapReset (s : State) : State :=
  let s := s.modSec fun x => { x with ir := 0x02, refused := false, waiting := false, bdbg := false }
  { s with pwr := { s.pwr with held := s.pwr.held.filter fun c => !tapHeld c } }.dbgAbstain

/-- TAP_RESET (R422). -/
def execTapReset (s : State) : Host.Outcome State Fault Refusal := volatile tapReset s

end Sys2Proof.Machine
end

