-- ==== Sys2Proof/Machine/Wake.lean ====
section
/-! DEFINITION. The end of a wake step, and the service of what waited for the wake (14 R348, R351-R354, R358, R361-R363). -/

namespace Sys2Proof.Machine

open Sys2Proof

/-! ## Held work (R358) -/

/-- A command that waited is served on its path, if a head's link has not gone meanwhile. -/
def State.viaPath (s : State) (p : Path) (f : State → State) : State :=
  match p with
  | .head h => if s.linkReady h.val then f s else s
  | _ => f s

/-- A command of a path, or of the TAP, that waited for the wake is served. -/
def State.serveCmd (s : State) (c : Instr) : State :=
  match c with
  | .warmReset p => s.viaPath p (warmReset p)
  | .marginGo p => s.viaPath p (marginGo p)
  | .cutStream p image => s.viaPath p (cutStream p image)
  | .cutApplyLive p image => s.viaPath p (cutApplyLive p image)
  | .cutWriteSlot p image slotB flashOk => s.viaPath p (cutWriteSlot p image slotB flashOk)
  | .cutAdvance p => s.viaPath p (cutAdvance p)
  | .cutRecut p => s.viaPath p (cutRecut p)
  | .cutRead p => s.viaPath p (cutRead p)
  | .boardWrite p record => s.viaPath p (boardWrite p record)
  | .dmcCalRecal p => s.viaPath p (dmcCalRecal p)
  | .dmcTestGo p rank pattern => s.viaPath p (dmcTestGo p rank pattern)
  | .dmcSpareGo p from_ => s.viaPath p (dmcSpareGo p from_)
  | .pprSoft p ch sub rank bank row ok => s.viaPath p (repair true p ch sub rank bank row ok)
  | .pprHard p ch sub rank bank row ok => s.viaPath p (repair false p ch sub rank bank row ok)
  | .drwPause p d rings => s.viaPath p (drwPause p d rings)
  | .witFormat p => s.viaPath p (witFormat p)
  | .hdmCommit h n base size ways gran lock => s.viaPath (.head h) (hdmCommit h n base size ways gran lock)
  | .hdmUncommit h n => s.viaPath (.head h) (hdmUncommit h n)
  | .addDcResponse h start len drawer => s.viaPath (.head h) (addDcResponse h start len drawer)
  | .releaseDcResponse h start => s.viaPath (.head h) (releaseDcResponse h start)
  | .pmeTurnOff h => s.viaPath (.head h) (pmeTurnOff h)
  | .initiateFlr h => s.viaPath (.head h) (initiateFlr h)
  | .bmeClear h => s.viaPath (.head h) (bmeClear h)
  | .msixUnmask h v => s.viaPath (.head h) (msixUnmask h v)
  | .doeAbort h => s.viaPath (.head h) (doeAbort h)
  | .doeDiscovery h index => s.viaPath (.head h) (doeDiscovery h index)
  | .cxlTableAccess h handle lenBytes => s.viaPath (.head h) (cxlTableAccess h handle lenBytes)
  | .msPowerGateOff p => s.viaPath p (msPowerGateOff p)
  | .xtsUnfence p e d => s.viaPath p (xtsUnfence p e d)
  | .inlIeWrite p val => s.viaPath p (inlIeWrite p val)
  | .keyLoad p w => s.viaPath p (keyLoad p w)
  | .keyFree p k => s.viaPath p (keyFree p k)
  | .keyQuery p k => s.viaPath p (keyQuery p k)
  | .pmuFreeze p on => s.viaPath p (pmuFreeze p on)
  | .pmuClear p => s.viaPath p (pmuClear p)
  | .pmuCtrWrite p n val => s.viaPath p (pmuCtrWrite p n val)
  | .pmuCycRead p => s.viaPath p (pmuCycRead p)
  | .dyePop p => s.viaPath p (Sys2Proof.Machine.dyePop p)
  | .dyeSeedWrite p seed => s.viaPath p (dyeSeedWrite p seed)
  | .powerStateWrite h st => s.viaPath (.head h) (powerStateWrite h st)
  | .prsUnfence p e d => s.viaPath p (prsUnfence p e d)
  | .prsHcacheFlush p => s.viaPath p (prsHcacheFlush p)
  | .decPmecFlush p => s.viaPath p (decPmecFlush p)
  | .configWrite h off val be => s.viaPath (.head h) (configWrite h off val be)
  | .memRead h hpa mv ideOk => s.viaPath (.head h) (memRead h hpa mv ideOk)
  | .memWrite h hpa mv data ideOk => s.viaPath (.head h) (memWrite h hpa mv data ideOk)
  | .partialWrite h hpa mv data be ideOk => s.viaPath (.head h) (partialWrite h hpa mv data be ideOk)
  | .memWriteback h hpa mv data => s.viaPath (.head h) (memWriteback h hpa mv data)
  | .memClnEvct h hpa => s.viaPath (.head h) (memClnEvct h hpa)
  | .keyRetire p k ranges => s.viaPath p (keyRetire p k ranges)
  | .cohKwalkGo p k => s.viaPath p (cohKwalkGo p k)
  | .secNonce p => s.viaPath p (secNonce p)
  | .dbgUnlock p t => s.viaPath p (dbgUnlock p t)
  | .dbgLock p => s.viaPath p (dbgLock p)
  | .secDbgLock p => s.viaPath p (secDbgLock p)
  | .lcTransition p t => s.viaPath p (lcTransition p t)
  | .ownerEnroll p slot digest t => s.viaPath p (ownerEnroll p slot digest t)
  | .ownerRevoke p t => s.viaPath p (ownerRevoke p t)
  | .fwAdvance p => s.viaPath p (fwAdvance p)
  | .fwWriteSlot p image slotB flashOk => s.viaPath p (fwWriteSlot p image slotB flashOk)
  | .secDbgvoteWrite p v => s.viaPath p (secDbgvoteWrite p v)
  | .spnPctlRetry p port => s.viaPath p (spnPctlRetry p port)
  | .spnPctlWiden p port => s.viaPath p (spnPctlWiden p port)
  | .spnPctlHold p port on => s.viaPath p (spnPctlHold p port on)
  | .getVersion p r => s.viaPath p (getVersion p r)
  | .getCapabilities p r => s.viaPath p (getCapabilities p r)
  | .negotiateAlgorithms p r => s.viaPath p (negotiateAlgorithms p r)
  | .getDigests p r => s.viaPath p (getDigests p r)
  | .getCertificate p r => s.viaPath p (getCertificate p r)
  | .challenge p r => s.viaPath p (challenge p r)
  | .getMeasurements p r => s.viaPath p (getMeasurements p r)
  | .keyExchange p r => s.viaPath p (keyExchange p r)
  | .finish p sid r => s.viaPath p (finish p sid r)
  | .heartbeat p sid => s.viaPath p (heartbeat p sid)
  | .keyUpdate p sid r => s.viaPath p (keyUpdate p sid r)
  | .endSession p sid => s.viaPath p (endSession p sid)
  | .vendorDefinedRequest p sid memStream start => s.viaPath p (vendorDefinedRequest p sid memStream start)
  | .drwBindWrite p d h pasid => adminWrite (.drwBindWrite p d h pasid) p d (fun s => s.bindDrawer d.val h.val pasid.toNat) s
  | .drwUnbind p d => adminWrite (.drwUnbind p d) p d (fun s => s.unbindWrite d.val) s
  | .drwLimitWrite p d val => adminWrite (.drwLimitWrite p d val) p d (fun s => s.limitWrite d.val val.toNat) s
  | .drwVecWrite d val => pageWrite (.drwVecWrite d val) d (fun s => s.vecWrite d.val val.toNat) s
  | .interruptEntryUnmask d e => pageWrite (.interruptEntryUnmask d e) d (fun s => s.entryUnmask d.val e.val) s
  | .drwResetGo (some q) d => adminWrite (.drwResetGo (some q) d) q d (fun s => s.resetGo d.val) s
  | .drwResetGo none d => pageWrite (.drwResetGo none d) d (fun s => s.resetGo d.val) s
  | .drwRingEnable d r => pageWrite (.drwRingEnable d r) d (fun s => s.ringEnable d.val r.val) s
  | .drwRingDisable d r => pageWrite (.drwRingDisable d r) d (fun s => s.ringDisable d.val r.val) s
  | .doorbellSqTail d r v => pageWrite (.doorbellSqTail d r v) d (fun s => s.sqDoorbell d.val r.val v.toNat) s
  | .doorbellCqHead d r v => pageWrite (.doorbellCqHead d r v) d (fun s => s.cqDoorbell d.val r.val v.toNat) s
  | .drwResume d r => pageWrite (.drwResume d r) d (fun s => s.ringResume d.val r.val) s
  | .fltAck p set bits => fltWrite (.fltAck p set bits) p set.val (fltAck set bits) s
  | .fltRecovRelease p set => fltWrite (.fltRecovRelease p set) p set.val (fltRecovRelease set) s
  | .fltFirstRearm p set => fltWrite (.fltFirstRearm p set) p set.val (fltFirstRearm set) s
  | .witRead p first count => witServe (.witRead p first count) p (witRead p first count) s
  | .witInfo p => witServe (.witInfo p) p (witInfo p) s
  | .lowHalfRead p off => lowHalfRead p off s
  | .registerWrite p off wide full val => registerWrite p off wide full val s
  | .regRead off wide => regRead off wide s
  | .regWrite off wide val => regWrite off wide val s
  | .token t => s.tapHeldGo tapToken fun s => (s.unlockToken t).2
  | .nonce => s.tapHeldGo tapNonce State.drawNonce
  | .bdbg => s.tapHeldGo tapBdbg fun s => s.modSec fun x => { x with bdbg := true }
  | _ => s

/-- The handler of a Span opcode (13 R324). -/
def spanHandler (op : Nat) (m : SpanMsg) (s : State) : State :=
  match op with
  | 0x01 => spanRd m s | 0x02 => spanWr m s | 0x03 => spanWrp m s | 0x05 => spanClnevct m s | 0x06 => spanConflict m s
  | 0x10 => spanSlabRd m s | 0x11 => spanSlabWr m s | 0x12 => spanAlloc m s | 0x13 => spanFree m s | 0x14 => spanGrantReq m s
  | 0x20 => spanWb m s | 0x28 => spanSnpInv m s | 0x29 => spanSnpData m s
  | 0x30 => spanData m s | 0x31 => spanCmp m s | 0x32 => spanBirsp m s | 0x33 => spanConflictAck m s | 0x34 => spanAllocRsp m s
  | 0x35 => spanGrantRsp m s | 0x36 => spanWithdraw m s | 0x37 => spanHeadGone m s | 0x38 => spanNack m s
  | _ => s

/-- What waited is served. -/
def State.serve (s : State) : Held → State
  | .cmd c => s.serveCmd c
  | .span op m => spanIn op m (spanHandler op) s
  | .mask port be => bemask port be s
  | .fwd port src dest mc hop urg tags =>
    if s.spanOpen port.val then s.active.forward { src := src, dest := dest, mc := mc, hop := hop + 1, urg := urg, tags := tags } else s

/-- Has a held command a path to the fuses or the flash images? -/
def lastingCmd : Held → Bool
  | .cmd (.cutWriteSlot ..) => true
  | .cmd (.cutAdvance ..) => true
  | .cmd (.boardWrite ..) => true
  | .cmd (.lcTransition ..) => true
  | .cmd (.ownerEnroll ..) => true
  | .cmd (.ownerRevoke ..) => true
  | .cmd (.fwAdvance ..) => true
  | .cmd (.fwWriteSlot ..) => true
  | _ => false

/-- Everything that waited is served in order of arrival. -/
def State.serveAll (s : State) : State :=
  let l := s.pwr.held
  (s.modPwr fun x => { x with held := [] }).each l fun h s => if lastingCmd h then s.serve h else s.keepNv fun s => s.serve h

/-! ## Retention signatures (R363; 10 R275; 06 R159) -/

/-- A slot's copies: one bad copy is rewritten from the other; with both bad the slot is RETIRED, and for key ID 0 the device is lost. -/
def State.slotSig (s : State) (k : Nat) (both : Bool) : State :=
  let x := s.slot k
  if x.state = 0 ∨ 127 < k then s
  else if !both then (s.modSlot k fun x => { x with sigfix := true }).report setINL 7 { syn := k }
  else
    let s := (s.slotTo k 4).inlEvent 2
    if k ≠ 0 then s.report setINL 8 { syn := k }
    else
      let asleep := (List.range 4).filter fun p => s.linkSt p == 5
      let s := if x.state = 1 then (s.each asleep fun p s => s.fset SPN_PSTATE.LINK p 1).key0Leaves else s
      s.report setINL 9 { syn := 0 }

/-- A directory way of a set whose signature fails: an entry whose tag passes is treated as uncorrectable, one without is lost. -/
def State.dirSig (s : State) (k : Nat) (both : Bool) : State :=
  match smFind? s.coh.dir k with
  | none => s
  | some e =>
    let ln := dirLine k e
    if both then s.cohFault 3 ln
    else
      let e := { e with ovf := true, m := true, ptrs := [] }
      ((s.dirPut k e).evict k e none).cohFault 2 ln

/-- A cache whose array fails is invalidated: 0 the PME cache, 1 the page-header cache, 2 the summary cache, whose records stand in DRAM. -/
def State.cacheSig (s : State) (a : Nat) : State :=
  let s := match a with
    | 0 => { s with dec := { s.dec with pmec := s.dec.pmec.filter fun e => e.2.pinned } }
    | 1 => { s with press := { s.press with hcache := [] } }
    | _ => s
  s.report setPWR 4 { syn := s.fget PWR_STATE.CUR + 256 * a }

/-- A channel's training values: one bad copy is rewritten from the other; with both bad the channel fails. -/
def State.trainSig (s : State) (c : Nat) (both : Bool) : State :=
  if both then (s.modChan c fun x => { x with trained := 0 }).failChan c 7 else s.modChan c fun x => { x with trained := 2 }

/-- A failed signature of a retained array: 0 key slots by key ID, 1 the directory by entry, 2 the caches, 3 the drawer operation table by
entry, 4 the training values by channel. -/
def State.badSig (s : State) (a k : Nat) (both : Bool) : State :=
  let s := s.finc PWR_RETN.SIG_FAIL
  match a with
  | 0 => s.slotSig k both
  | 1 => s.dirSig k both
  | 2 => s.cacheSig k
  | 3 => if smHas s.drw.ops k then s.opEnd k 10 0 0 0 else s
  | 4 => if k < 12 ∧ s.fget DMC_STATUS.STATE k = 3 then s.trainSig k both else s
  | _ => s

/-- The Bench state's digest fails (array 5): the Bench reboots, which the step's end has waited for. -/
def State.benchSig (s : State) : State := (s.finc PWR_RETN.SIG_FAIL).report setPWR 5 { syn := s.fget PWR_STATE.CUR }

/-! ## Canaries (R361, R362) -/

/-- A canary that differs: its bank is suspect until its priority scrub ends. -/
def State.canaryBad (s : State) (c b : Nat) : State :=
  let s := (s.finc PWR_RETN.CANARY_FAIL).report (setDMC c) 11 { unit := c, addr := b * 131072 }
  if (s.chan c).suspect.contains b then s
  else (s.modChan c fun x => { x with suspect := x.suspect ++ [b] }).finc PWR_RETN.SUSPECT

/-- Both copies of a canary's save area fail (array 6, by the MPA line of the canary): the line is written with POISON and reported. -/
def State.canaryLost (s : State) (mpa : Nat) : State :=
  match s.placeOf mpa with
  | none => s
  | some p =>
    if p.row ≠ 0 ∨ p.col ≠ 0 ∨ !(s.chan p.chan).canaries then s
    else (s.finc PWR_RETN.SIG_FAIL).uncorrected p.chan p mpa false (if (s.regionAt (mpa * 64)).isSome then some (mpa * 64) else none) true

/-- The channels leave self-refresh and the canary lines are restored. -/
def State.leaveSr (s : State) (badBanks : List (Chan × Nat)) (lost : List Nat) : State :=
  let cs := s.chansIn 3
  let s := s.each cs fun c s =>
    (((s.fset DMC_STATUS.STATE c 2).emit (.dramCmd (Fin.ofNat 12 c) false 0 .srExit)).emit (.dramCmd (Fin.ofNat 12 c) true 0 .srExit))
  let s := s.each lost fun m s => s.canaryLost m
  let s := s.each (badBanks.filter fun e => cs.contains e.1.val) fun e s => s.canaryBad e.1.val e.2
  s.each cs fun c s => s.modChan c fun x => { x with canaries := false }

/-! ## The steps (R351) -/

/-- The work of a step whose check has passed. -/
def State.wakeWork (s : State) (action : Nat) (badBanks : List (Chan × Nat)) (badSigs : List (Fin 8 × Nat × Bool)) : State :=
  match action with
  | 5 => s.each badSigs fun e s => s.badSig e.1.val e.2.1 e.2.2
  | 6 => s.each (s.chansIn 2) fun c s => s.fset DMC_STATUS.PPD c 0
  | 7 => s.leaveSr badBanks ((badSigs.filter fun e => e.1 == 6).map (·.2.1))
  | 8 =>
    let s := if badSigs.any fun e => e.1 == 5 then s.benchSig else s
    let s := s.modPwr fun x => { x with saved := false }
    { s with tb := (s.tb + (s.wclk - s.pwr.tbStop) * 250) % 2 ^ 64 }
  | 9 =>
    let s := s.each (s.pwr.wasUp.filter fun h => s.fone HP_LINK.UP h) fun h s => s.fset HP_LINK.LTSSM h 3
    let hellos := (List.range 4).filter fun p => s.linkSt p == 1
    let s := s.each ((List.range 4).filter fun p => s.linkSt p == 5) fun p s => s.fset SPN_PSTATE.LINK p 4
    s.each hellos fun p s => s.toHello p
  | _ => s

/-- Time of a step in ns: its delay rounded up to the timing clock's period, or what has passed where a Bench reboot extends it. -/
def State.stepNs (s : State) (delay : Nat) (extended : Bool) : Nat :=
  let period := if s.fget PWR_STATE.CUR = 3 then 250 else 10
  max ((delay + period - 1) / period * period) (if extended then (s.wclk - s.pwr.stepFrom) * 250 else 0)

/-- The wake ends: P0, and the epochs that fell meanwhile. -/
def State.wakeDone (s : State) : State :=
  let from_ := s.fget PWR_STATE.CUR
  let s := ((s.fset PWR_LASTWAKE.FROM 0 from_).fset PWR_LASTWAKE.NS 0 (min (2 ^ 29 - 1) s.pwr.wakeNs)).fset PWR_STATE.CUR 0 0
  let s := (s.fset PWR_STATE.PHASE 0 (if s.fget PWR_STATE.TARGET = 0 then 0 else 4)).modPwr fun x => { x with
    wakeStep := 0, rerun := false, sclHeld := false, idleFrom := s.wclk, wasUp := [] }
  let missed := s.slc.missedEpochs
  let s := { s with slc := { s.slc with missedEpochs := 0 } }
  let s := (s.each (List.range missed) fun _ s => s.epochStep).unitsFresh.opsGo
  let s := if 2 ≤ from_ then s.floodSelf else s
  s.modSec fun x => { x with waiting := false }

/-- The wake step in progress, as an index of `PWR_WSTEP`. -/
def State.wakeIdx (s : State) : Nat := s.fget PWR_STATE.CUR * 16 + s.pwr.wakeStep

/-- With its delay over, a step's condition is checked; a failure reruns it once (R354), and the last step ends the wake. -/
def State.wakeCheck (s : State) (ok : Bool) (badBanks : List (Chan × Nat)) (badSigs : List (Fin 8 × Nat × Bool)) : State :=
  let i := s.wakeIdx
  let ns := if s.pwr.rerun then s.fget PWR_WMAX.NS i else s.fget PWR_WSTEP.DELAY_NS i
  if s.fget PWR_STATE.PHASE ≠ 3 ∨ s.pwr.failed ∨ !s.elapsed s.pwr.stepFrom ((ns + 249) / 250) then s
  else
    let action := s.fget PWR_WSTEP.ACTION i
    let took := s.stepNs ns (action == 8 && badSigs.any fun e => e.1 == 5)
    let s := s.modPwr fun x => { x with wakeNs := x.wakeNs + took, stepFrom := s.wclk }
    if !ok then
      if s.pwr.rerun then (s.modPwr fun x => { x with failed := true }).report setPWR 3 { syn := i }
      else (s.modPwr fun x => { x with rerun := true }).report setPWR 2 { syn := i }
    else
      let s := (s.wakeWork action badBanks badSigs).modPwr fun x => { x with rerun := false, wakeStep := x.wakeStep + 1 }
      if s.fone PWR_WSTEP.VALID (i + 1) ∧ s.pwr.wakeStep ≤ 15 then s else s.wakeDone

/-- WAKE_STEP_END: after the last step, what waited is served. -/
def wakeStepEnd (ok : Bool) (badBanks : List (Chan × Nat)) (badSigs : List (Fin 8 × Nat × Bool)) (s : State) : State :=
  let t := s.keepNv fun s => s.wakeCheck ok badBanks badSigs
  if s.fget PWR_STATE.PHASE = 3 ∧ t.fget PWR_STATE.PHASE ≠ 3 then t.serveAll else t

/-- WAKE_STEP_END (R351). -/
def execWakeStepEnd (ok : Bool) (badBanks : List (Chan × Nat)) (badSigs : List (Fin 8 × Nat × Bool)) (s : State) :
    Host.Outcome State Fault Refusal := lasting (wakeStepEnd ok badBanks badSigs) s

end Sys2Proof.Machine
end

