-- ==== Sys2Proof/Machine/Dispatch.lean ====
section
/-! DEFINITION. The dispatch: one arm for each command. -/

namespace Sys2Proof.Machine

open Sys2Proof

def exec (i : Instr) (s : State) : Host.Outcome State Fault Refusal :=
  match i with
  | .v3p3AuxGood => Sys2Proof.Machine.execV3p3AuxGood s
  | .wellheadPowerOnReset => Sys2Proof.Machine.execWellheadPowerOnReset s
  | .railsGood => Sys2Proof.Machine.execRailsGood s
  | .corePllLock => Sys2Proof.Machine.execCorePllLock s
  | .refclkAbsent => Sys2Proof.Machine.execRefclkAbsent s
  | .bootLoadComplete fit => Sys2Proof.Machine.execBootLoadComplete fit s
  | .dramTrainingComplete ch trained spd => Sys2Proof.Machine.execDramTrainingComplete ch trained spd s
  | .metadataInitComplete => Sys2Proof.Machine.execMetadataInitComplete s
  | .warmReset p => Sys2Proof.Machine.execWarmReset p s
  | .perstAssert h => Sys2Proof.Machine.execPerstAssert h s
  | .perstDeassert h => Sys2Proof.Machine.execPerstDeassert h s
  | .hostLinkUp h rate width flit256 retimers => Sys2Proof.Machine.execHostLinkUp h rate width flit256 retimers s
  | .linkDownWithNotice h => Sys2Proof.Machine.execLinkDownWithNotice h s
  | .surpriseRemoval h => Sys2Proof.Machine.execSurpriseRemoval h s
  | .removalCleanupComplete h => Sys2Proof.Machine.execRemovalCleanupComplete h s
  | .pmeTurnOff h => Sys2Proof.Machine.execPmeTurnOff h s
  | .memRead h hpa mv ideOk => Sys2Proof.Machine.execMemRead h hpa mv ideOk s
  | .memWrite h hpa mv data ideOk => Sys2Proof.Machine.execMemWrite h hpa mv data ideOk s
  | .partialWrite h hpa mv data be ideOk => Sys2Proof.Machine.execPartialWrite h hpa mv data be ideOk s
  | .memWriteback h hpa mv data => Sys2Proof.Machine.execMemWriteback h hpa mv data s
  | .memClnEvct h hpa => Sys2Proof.Machine.execMemClnEvct h hpa s
  | .m2sBirsp h ln left => Sys2Proof.Machine.execM2sBirsp h ln left s
  | .biconflict h ln => Sys2Proof.Machine.execBiconflict h ln s
  | .lineLockGrant ln err => Sys2Proof.Machine.execLineLockGrant ln err s
  | .evictionComplete ln => Sys2Proof.Machine.execEvictionComplete ln s
  | .wayFreed set => Sys2Proof.Machine.execWayFreed set s
  | .snoopTimeout node h ln => Sys2Proof.Machine.execSnoopTimeout node h ln s
  | .weirGrant ch => Sys2Proof.Machine.execWeirGrant ch s
  | .dmcCommandIssue ch sub blocked => Sys2Proof.Machine.execDmcCommandIssue ch sub blocked s
  | .dramReadReturn ch ecc => Sys2Proof.Machine.execDramReadReturn ch ecc s
  | .pmeFetchReturn page primaryOk mirrorOk => Sys2Proof.Machine.execPmeFetchReturn page primaryOk mirrorOk s
  | .xtsDecryptComplete txn e ok => Sys2Proof.Machine.execXtsDecryptComplete txn e ok s
  | .xtsEncryptComplete ch e ok => Sys2Proof.Machine.execXtsEncryptComplete ch e ok s
  | .pressDecodeComplete job p ok => Sys2Proof.Machine.execPressDecodeComplete job p ok s
  | .pressEncodeComplete page p ok => Sys2Proof.Machine.execPressEncodeComplete page p ok s
  | .promotionComplete page lost => Sys2Proof.Machine.execPromotionComplete page lost s
  | .epochEnd => Sys2Proof.Machine.execEpochEnd s
  | .stampVisit blk ok => Sys2Proof.Machine.execStampVisit blk ok s
  | .readPromotionStart => Sys2Proof.Machine.execReadPromotionStart s
  | .demotionStart => Sys2Proof.Machine.execDemotionStart s
  | .demotionComplete page => Sys2Proof.Machine.execDemotionComplete page s
  | .t2MoveStart => Sys2Proof.Machine.execT2MoveStart s
  | .t2MoveComplete page => Sys2Proof.Machine.execT2MoveComplete page s
  | .stallExpiry => Sys2Proof.Machine.execStallExpiry s
  | .dcdReleaseRequest => Sys2Proof.Machine.execDcdReleaseRequest s
  | .t2DonorLostScan node => Sys2Proof.Machine.execT2DonorLostScan node s
  | .hdmCommit h n base size ways granLog2 lockOnCommit => Sys2Proof.Machine.execHdmCommit h n base size ways granLog2 lockOnCommit s
  | .hdmUncommit h n => Sys2Proof.Machine.execHdmUncommit h n s
  | .addDcResponse h start len drawer => Sys2Proof.Machine.execAddDcResponse h start len drawer s
  | .releaseDcResponse h start => Sys2Proof.Machine.execReleaseDcResponse h start s
  | .pprSoft p ch sub rank bank row ok => Sys2Proof.Machine.execPprSoft p ch sub rank bank row ok s
  | .pprHard p ch sub rank bank row ok => Sys2Proof.Machine.execPprHard p ch sub rank bank row ok s
  | .refreshDue ch rank => Sys2Proof.Machine.execRefreshDue ch rank s
  | .spdThermalRead ch slot0 slot1 => Sys2Proof.Machine.execSpdThermalRead ch slot0 slot1 s
  | .dqsOscMeasure ch rank absorbed stall10ns => Sys2Proof.Machine.execDqsOscMeasure ch rank absorbed stall10ns s
  | .zqCalibration ch rank stall10ns => Sys2Proof.Machine.execZqCalibration ch rank stall10ns s
  | .autoPageIdle ch bank => Sys2Proof.Machine.execAutoPageIdle ch bank s
  | .patrolScrubStep ch mpaLine ecc rank row => Sys2Proof.Machine.execPatrolScrubStep ch mpaLine ecc rank row s
  | .alertReplay ch kind replays cleared => Sys2Proof.Machine.execAlertReplay ch kind replays cleared s
  | .sparingComplete ch => Sys2Proof.Machine.execSparingComplete ch s
  | .dmcSelfTestEnd ch miscompares => Sys2Proof.Machine.execDmcSelfTestEnd ch miscompares s
  | .creditParityError ch => Sys2Proof.Machine.execCreditParityError ch s
  | .creditResync ch => Sys2Proof.Machine.execCreditResync ch s
  | .weirWindowEnd cls ch => Sys2Proof.Machine.execWeirWindowEnd cls ch s
  | .completionTimeout h tag => Sys2Proof.Machine.execCompletionTimeout h tag s
  | .tagQuarantineExpiry h tag => Sys2Proof.Machine.execTagQuarantineExpiry h tag s
  | .hostCompletion h tag st => Sys2Proof.Machine.execHostCompletion h tag st s
  | .initiateFlr h => Sys2Proof.Machine.execInitiateFlr h s
  | .bmeClear h => Sys2Proof.Machine.execBmeClear h s
  | .configWrite h off val be => Sys2Proof.Machine.execConfigWrite h off val be s
  | .powerStateWrite h st => Sys2Proof.Machine.execPowerStateWrite h st s
  | .msixUnmask h v => Sys2Proof.Machine.execMsixUnmask h v s
  | .doeAbort h => Sys2Proof.Machine.execDoeAbort h s
  | .getVersion p r => Sys2Proof.Machine.execGetVersion p r s
  | .getCapabilities p r => Sys2Proof.Machine.execGetCapabilities p r s
  | .negotiateAlgorithms p r => Sys2Proof.Machine.execNegotiateAlgorithms p r s
  | .getDigests p r => Sys2Proof.Machine.execGetDigests p r s
  | .getCertificate p r => Sys2Proof.Machine.execGetCertificate p r s
  | .challenge p r => Sys2Proof.Machine.execChallenge p r s
  | .getMeasurements p r => Sys2Proof.Machine.execGetMeasurements p r s
  | .keyExchange p r => Sys2Proof.Machine.execKeyExchange p r s
  | .finish p sid r => Sys2Proof.Machine.execFinish p sid r s
  | .heartbeat p sid => Sys2Proof.Machine.execHeartbeat p sid s
  | .keyUpdate p sid r => Sys2Proof.Machine.execKeyUpdate p sid r s
  | .endSession p sid => Sys2Proof.Machine.execEndSession p sid s
  | .vendorDefinedRequest p sid memStream start => Sys2Proof.Machine.execVendorDefinedRequest p sid memStream start s
  | .cutStream p image => Sys2Proof.Machine.execCutStream p image s
  | .cutApplyLive p image => Sys2Proof.Machine.execCutApplyLive p image s
  | .cutWriteSlot p image slotB flashOk => Sys2Proof.Machine.execCutWriteSlot p image slotB flashOk s
  | .cutAdvance p => Sys2Proof.Machine.execCutAdvance p s
  | .cutRecut p => Sys2Proof.Machine.execCutRecut p s
  | .cutRead p => Sys2Proof.Machine.execCutRead p s
  | .boardWrite p record => Sys2Proof.Machine.execBoardWrite p record s
  | .keyLoad p w => Sys2Proof.Machine.execKeyLoad p w s
  | .keyRetire p k ranges => Sys2Proof.Machine.execKeyRetire p k ranges s
  | .keyWalkDone => Sys2Proof.Machine.execKeyWalkDone s
  | .retireDrainComplete => Sys2Proof.Machine.execRetireDrainComplete s
  | .zeroizeVerified => Sys2Proof.Machine.execZeroizeVerified s
  | .keyFree p k => Sys2Proof.Machine.execKeyFree p k s
  | .keyQuery p k => Sys2Proof.Machine.execKeyQuery p k s
  | .secNonce p => Sys2Proof.Machine.execSecNonce p s
  | .nonceExpiry => Sys2Proof.Machine.execNonceExpiry s
  | .dbgUnlock p t => Sys2Proof.Machine.execDbgUnlock p t s
  | .dbgLock p => Sys2Proof.Machine.execDbgLock p s
  | .secDbgLock p => Sys2Proof.Machine.execSecDbgLock p s
  | .debugDurationEnd => Sys2Proof.Machine.execDebugDurationEnd s
  | .lcTransition p t => Sys2Proof.Machine.execLcTransition p t s
  | .ownerEnroll p slot digest t => Sys2Proof.Machine.execOwnerEnroll p slot digest t s
  | .ownerRevoke p t => Sys2Proof.Machine.execOwnerRevoke p t s
  | .fwAdvance p => Sys2Proof.Machine.execFwAdvance p s
  | .fwWriteSlot p image slotB flashOk => Sys2Proof.Machine.execFwWriteSlot p image slotB flashOk s
  | .secDbgvoteWrite p v => Sys2Proof.Machine.execSecDbgvoteWrite p v s
  | .tapReset => Sys2Proof.Machine.execTapReset s
  | .extest => Sys2Proof.Machine.execExtest s
  | .samplePreload => Sys2Proof.Machine.execSamplePreload s
  | .idcode => Sys2Proof.Machine.execIdcode s
  | .clamp => Sys2Proof.Machine.execClamp s
  | .highz => Sys2Proof.Machine.execHighz s
  | .token t => Sys2Proof.Machine.execToken t s
  | .dbgvote v => Sys2Proof.Machine.execDbgvote v s
  | .nonce => Sys2Proof.Machine.execNonce s
  | .bdbg => Sys2Proof.Machine.execBdbg s
  | .tapPrivate code => Sys2Proof.Machine.execTapPrivate code s
  | .bypass => Sys2Proof.Machine.execBypass s
  | .witRead p first count => Sys2Proof.Machine.execWitRead p first count s
  | .witInfo p => Sys2Proof.Machine.execWitInfo p s
  | .witFormat p => Sys2Proof.Machine.execWitFormat p s
  | .regRead off wide => Sys2Proof.Machine.execRegRead off wide s
  | .regWrite off wide val => Sys2Proof.Machine.execRegWrite off wide val s
  | .registerWrite p off wide full val => Sys2Proof.Machine.execRegisterWrite p off wide full val s
  | .lowHalfRead p off => Sys2Proof.Machine.execLowHalfRead p off s
  | .faultReport r => Sys2Proof.Machine.execFaultReport r s
  | .fltAck p set bits => Sys2Proof.Machine.execFltAck p set bits s
  | .quietTimeExpiry set cls => Sys2Proof.Machine.execQuietTimeExpiry set cls s
  | .fltRecovRelease p set => Sys2Proof.Machine.execFltRecovRelease p set s
  | .fltFirstRearm p set => Sys2Proof.Machine.execFltFirstRearm p set s
  | .witnessWindowEnd set cls => Sys2Proof.Machine.execWitnessWindowEnd set cls s
  | .sectorEraseComplete => Sys2Proof.Machine.execSectorEraseComplete s
  | .pageProgramComplete ok retryOk => Sys2Proof.Machine.execPageProgramComplete ok retryOk s
  | .inputLoss => Sys2Proof.Machine.execInputLoss s
  | .pwrCmdVote h v => Sys2Proof.Machine.execPwrCmdVote h v s
  | .pwrSbvoteWrite p v => Sys2Proof.Machine.execPwrSbvoteWrite p v s
  | .entryCommit => Sys2Proof.Machine.execEntryCommit s
  | .entryMaxExpiry => Sys2Proof.Machine.execEntryMaxExpiry s
  | .entryAbandon => Sys2Proof.Machine.execEntryAbandon s
  | .wakeTrigger src h => Sys2Proof.Machine.execWakeTrigger src h s
  | .wakeStepEnd ok badBanks badSigs => Sys2Proof.Machine.execWakeStepEnd ok badBanks badSigs s
  | .priorityScrubEnd ch bank => Sys2Proof.Machine.execPriorityScrubEnd ch bank s
  | .reentryIdle => Sys2Proof.Machine.execReentryIdle s
  | .sidebandAddressMatch i3c => Sys2Proof.Machine.execSidebandAddressMatch i3c s
  | .sclStretchLimit => Sys2Proof.Machine.execSclStretchLimit s
  | .unitClockStable u => Sys2Proof.Machine.execUnitClockStable u s
  | .unitIdleStop u trigger => Sys2Proof.Machine.execUnitIdleStop u trigger s
  | .pllLockLoss pll => Sys2Proof.Machine.execPllLockLoss pll s
  | .pllRelock pll => Sys2Proof.Machine.execPllRelock pll s
  | .elasticHoldEnd pll => Sys2Proof.Machine.execElasticHoldEnd pll s
  | .crossingStuck item seen => Sys2Proof.Machine.execCrossingStuck item seen s
  | .eventCrossingOverrun item => Sys2Proof.Machine.execEventCrossingOverrun item s
  | .avsTimeout rail => Sys2Proof.Machine.execAvsTimeout rail s
  | .marginGo p => Sys2Proof.Machine.execMarginGo p s
  | .marginEnd => Sys2Proof.Machine.execMarginEnd s
  | .railOutOfWindow rail mv => Sys2Proof.Machine.execRailOutOfWindow rail mv s
  | .mainRailLoss rail => Sys2Proof.Machine.execMainRailLoss rail s
  | .mainRailReturn => Sys2Proof.Machine.execMainRailReturn s
  | .tjWarn sensor degC => Sys2Proof.Machine.execTjWarn sensor degC s
  | .thermtrip sensor degC => Sys2Proof.Machine.execThermtrip sensor degC s
  | .firmwareWatchdog => Sys2Proof.Machine.execFirmwareWatchdog s
  | .firmwareRestartEnd => Sys2Proof.Machine.execFirmwareRestartEnd s
  | .attnPress => Sys2Proof.Machine.execAttnPress s
  | .msPowerGateOff p => Sys2Proof.Machine.execMsPowerGateOff p s
  | .msPowerRearm p => Sys2Proof.Machine.execMsPowerRearm p s
  | .ifcSampleStep x => Sys2Proof.Machine.execIfcSampleStep x s
  | .pgQualified => Sys2Proof.Machine.execPgQualified s
  | .curveTrip => Sys2Proof.Machine.execCurveTrip s
  | .rampTimerExpiry => Sys2Proof.Machine.execRampTimerExpiry s
  | .undervoltTrip => Sys2Proof.Machine.execUndervoltTrip s
  | .fastTrip => Sys2Proof.Machine.execFastTrip s
  | .diodeMeasure halfC => Sys2Proof.Machine.execDiodeMeasure halfC s
  | .ifcEnRise => Sys2Proof.Machine.execIfcEnRise s
  | .ifcEnFall => Sys2Proof.Machine.execIfcEnFall s
  | .ifcRearm p => Sys2Proof.Machine.execIfcRearm p s
  | .rearmHoldEnd => Sys2Proof.Machine.execRearmHoldEnd s
  | .ifcHold p on => Sys2Proof.Machine.execIfcHold p on s
  | .drwBindWrite p d h pasid => Sys2Proof.Machine.execDrwBindWrite p d h pasid s
  | .drwUnbind p d => Sys2Proof.Machine.execDrwUnbind p d s
  | .drwLimitWrite p d val => Sys2Proof.Machine.execDrwLimitWrite p d val s
  | .drwVecWrite d val => Sys2Proof.Machine.execDrwVecWrite d val s
  | .drwResetGo p d => Sys2Proof.Machine.execDrwResetGo p d s
  | .drainMaxExpiry d => Sys2Proof.Machine.execDrainMaxExpiry d s
  | .privilegedDrainComplete d => Sys2Proof.Machine.execPrivilegedDrainComplete d s
  | .drwPause p d rings => Sys2Proof.Machine.execDrwPause p d rings s
  | .drwRingEnable d r => Sys2Proof.Machine.execDrwRingEnable d r s
  | .drwRingDisable d r => Sys2Proof.Machine.execDrwRingDisable d r s
  | .drwResume d r => Sys2Proof.Machine.execDrwResume d r s
  | .doorbellSqTail d r v => Sys2Proof.Machine.execDoorbellSqTail d r v s
  | .doorbellCqHead d r v => Sys2Proof.Machine.execDoorbellCqHead d r v s
  | .descriptorFetch d r ds => Sys2Proof.Machine.execDescriptorFetch d r ds s
  | .nop d r => Sys2Proof.Machine.execNop d r s
  | .copy d r hostSrc dma => Sys2Proof.Machine.execCopy d r hostSrc dma s
  | .fill d r => Sys2Proof.Machine.execFill d r s
  | .compress d r hostSrc dma lost => Sys2Proof.Machine.execCompress d r hostSrc dma lost s
  | .decompress d r hostSrc dma lost => Sys2Proof.Machine.execDecompress d r hostSrc dma lost s
  | .flush d r dma lost => Sys2Proof.Machine.execFlush d r dma lost s
  | .fence d r => Sys2Proof.Machine.execFence d r s
  | .operationComplete op => Sys2Proof.Machine.execOperationComplete op s
  | .spnPctlRetry p port => Sys2Proof.Machine.execSpnPctlRetry p port s
  | .spnPctlWiden p port => Sys2Proof.Machine.execSpnPctlWiden p port s
  | .spnPctlHold p port on => Sys2Proof.Machine.execSpnPctlHold p port on s
  | .cohKwalkGo p k => Sys2Proof.Machine.execCohKwalkGo p k s
  | .dmcCalRecal p => Sys2Proof.Machine.execDmcCalRecal p s
  | .dmcTestGo p rank pattern => Sys2Proof.Machine.execDmcTestGo p rank pattern s
  | .dmcSpareGo p from_ => Sys2Proof.Machine.execDmcSpareGo p from_ s
  | .prsUnfence p e d => Sys2Proof.Machine.execPrsUnfence p e d s
  | .xtsUnfence p e d => Sys2Proof.Machine.execXtsUnfence p e d s
  | .decPmecFlush p => Sys2Proof.Machine.execDecPmecFlush p s
  | .prsHcacheFlush p => Sys2Proof.Machine.execPrsHcacheFlush p s
  | .inlIeWrite p val => Sys2Proof.Machine.execInlIeWrite p val s
  | .pmuFreeze p on => Sys2Proof.Machine.execPmuFreeze p on s
  | .pmuClear p => Sys2Proof.Machine.execPmuClear p s
  | .pmuCtrWrite p n val => Sys2Proof.Machine.execPmuCtrWrite p n val s
  | .pmuCycRead p => Sys2Proof.Machine.execPmuCycRead p s
  | .counterOverflow u n => Sys2Proof.Machine.execCounterOverflow u n s
  | .dyePop p => Sys2Proof.Machine.execDyePop p s
  | .dyeSeedWrite p seed => Sys2Proof.Machine.execDyeSeedWrite p seed s
  | .railNotGood rail => Sys2Proof.Machine.execRailNotGood rail s
  | .spanTagRelease dest tag => Sys2Proof.Machine.execSpanTagRelease dest tag s
  | .doeDiscovery h index => Sys2Proof.Machine.execDoeDiscovery h index s
  | .cxlTableAccess h handle lenBytes => Sys2Proof.Machine.execCxlTableAccess h handle lenBytes s
  | .interruptEntryUnmask d e => Sys2Proof.Machine.execInterruptEntryUnmask d e s
  | .hostFlitReplay h corrected => Sys2Proof.Machine.execHostFlitReplay h corrected s
  | .hostLinkRecovery h => Sys2Proof.Machine.execHostLinkRecovery h s
  | .linkL1Entry h => Sys2Proof.Machine.execLinkL1Entry h s
  | .linkL1Exit h => Sys2Proof.Machine.execLinkL1Exit h s
  | .tjWarnClear => Sys2Proof.Machine.execTjWarnClear s
  | .spanLinkTrained port rate64 => Sys2Proof.Machine.execSpanLinkTrained port rate64 s
  | .hello port b => Sys2Proof.Machine.execHello port b s
  | .helloPeriodic port => Sys2Proof.Machine.execHelloPeriodic port s
  | .helloTimeout port => Sys2Proof.Machine.execHelloTimeout port s
  | .authComplete port ok db => Sys2Proof.Machine.execAuthComplete port ok db s
  | .authTimeout port => Sys2Proof.Machine.execAuthTimeout port s
  | .spdmFlit port len idx last body => Sys2Proof.Machine.execSpdmFlit port len idx last body s
  | .claimIntervalEnd => Sys2Proof.Machine.execClaimIntervalEnd s
  | .yieldBackoffEnd => Sys2Proof.Machine.execYieldBackoffEnd s
  | .lsa port b => Sys2Proof.Machine.execLsa port b s
  | .lsaPeriodic => Sys2Proof.Machine.execLsaPeriodic s
  | .lsaAgeOut serial => Sys2Proof.Machine.execLsaAgeOut serial s
  | .routeCompute => Sys2Proof.Machine.execRouteCompute s
  | .flitCrcFail port => Sys2Proof.Machine.execFlitCrcFail port s
  | .nak port seq => Sys2Proof.Machine.execNak port seq s
  | .retrainTimeout port => Sys2Proof.Machine.execRetrainTimeout port s
  | .laneFailed port lane => Sys2Proof.Machine.execLaneFailed port lane s
  | .narrow port keep => Sys2Proof.Machine.execNarrow port keep s
  | .spanForward port src dest mc hop urg tags => Sys2Proof.Machine.execSpanForward port src dest mc hop urg tags s
  | .forwardWaitExpiry entry => Sys2Proof.Machine.execForwardWaitExpiry entry s
  | .e2eTimeout dest tag => Sys2Proof.Machine.execE2eTimeout dest tag s
  | .nodeUnreachable n => Sys2Proof.Machine.execNodeUnreachable n s
  | .wakePattern port => Sys2Proof.Machine.execWakePattern port s
  | .wakePatternRepeat port => Sys2Proof.Machine.execWakePatternRepeat port s
  | .rd m => Sys2Proof.Machine.execRd m s
  | .wr m => Sys2Proof.Machine.execWr m s
  | .wrp m => Sys2Proof.Machine.execWrp m s
  | .bemask port mask => Sys2Proof.Machine.execBemask port mask s
  | .clnevct m => Sys2Proof.Machine.execClnevct m s
  | .spanBiconflict m => Sys2Proof.Machine.execSpanBiconflict m s
  | .slabRd m => Sys2Proof.Machine.execSlabRd m s
  | .slabWr m => Sys2Proof.Machine.execSlabWr m s
  | .alloc m => Sys2Proof.Machine.execAlloc m s
  | .free m => Sys2Proof.Machine.execFree m s
  | .grantReq m => Sys2Proof.Machine.execGrantReq m s
  | .wb m => Sys2Proof.Machine.execWb m s
  | .bisnpInv m => Sys2Proof.Machine.execBisnpInv m s
  | .bisnpData m => Sys2Proof.Machine.execBisnpData m s
  | .rspData m => Sys2Proof.Machine.execRspData m s
  | .cmp m => Sys2Proof.Machine.execCmp m s
  | .birsp m => Sys2Proof.Machine.execBirsp m s
  | .biconflictack m => Sys2Proof.Machine.execBiconflictack m s
  | .allocRsp m => Sys2Proof.Machine.execAllocRsp m s
  | .grantRsp m => Sys2Proof.Machine.execGrantRsp m s
  | .withdraw m => Sys2Proof.Machine.execWithdraw m s
  | .headGone m => Sys2Proof.Machine.execHeadGone m s
  | .nack m => Sys2Proof.Machine.execNack m s

end Sys2Proof.Machine
end

