-- ==== Sys2Proof/Machine/Tick.lean ====
section
/-! DEFINITION. The passing of time when no command waits (assumption 2): one WCLK step of 250 ns. What the spec makes happen by itself,
with no command of the table, happens here. -/

namespace Sys2Proof.Machine

open Sys2Proof

/-! ## Cycles of the counters' units (18 R424-R427) -/

/-- Cycles of a unit's clock in one WCLK step: CCLK and BCLK from the core PLL, PCLK while it runs (03 R58). -/
def State.unitCycles (s : State) (u : Nat) : Nat :=
  let cur := s.fget PWR_STATE.CUR
  let cclk := if cur = 0 ∧ 7 ≤ s.boot.step then s.boot.cclkMhz / 4 else 0
  if u = 10 then 1
  else if u = 11 then (if cur ≤ 1 ∧ 7 ≤ s.boot.step then (if s.fone CLK_STATUS.PCLK_PLL then 200 else 100) else 0)
  else if u = 4 ∨ u = 6 then (if cur = 0 ∧ s.fone CLK_STATUS.PCLK_PLL ∧ s.unitRuns 0 then 600 else 0)
  else cclk

/-- What a unit's occupancy event adds in a cycle. -/
def State.unitOcc (s : State) (u : Nat) : Nat :=
  if u = 2 then s.ttUsed 3 else if u = 7 then ((List.range 12).map s.outTotal).sum else 0

/-- Does an eligible transaction wait for a grant? -/
def State.grantWaits (s : State) : Bool := (List.range 12).any fun c => (s.waiting c).any fun e => s.eligible c e.1 e.2

/-- The counters' units see their cycles. -/
def State.cycleTick (s : State) : State :=
  let s := if s.grantWaits then s.count 7 4 {} (s.unitCycles 7) else s
  s.each (List.range 12) fun u s => s.pmuCycles u (s.unitCycles u) (s.unitOcc u)

/-! ## Work that goes on by itself -/

/-- A unit with work is not idle (01 R31). -/
def State.unitTick (s : State) : State :=
  s.each ((List.range 3).filter s.unitBusy) fun u s =>
    { s with boot := { s.boot with unitIdle := smSet s.boot.unitIdle u s.wclk } }

/-- Requests that waited on a move that is gone look their page up again (09 R233). -/
def State.promoTick (s : State) : State :=
  let waits := (s.coh.txns.filter fun e => e.2.phase == .promoting && !smHas s.slc.moves (e.2.ln / 64)).map (·.1)
  s.each waits fun t s => s.toMemory t

/-- Moves, turn-offs, walks, releases and forwarding entries take up what has become free. -/
def State.workTick (s : State) : State :=
  let s := s.urgRefresh.unitTick.promoTick
  let s := s.each (s.slc.moves.map (·.1)) fun pn s => s.lateSnoops pn
  let s := s.each ((List.range 16).filter fun h => (s.head h).turnOff.isSome) fun h s => s.turnOffStep h
  s.walkTick.releaseDone.fwdRelease

/-- The power controller's WCLK step: a latched trigger, the votes, an entry's directory, a warm reset that waits for a wake (14 R346, R355,
R358; 03 R74). -/
def State.powerTick (s : State) : State :=
  let s := s.latchTick.evalVotes.entryEmpty
  let s := if s.pwr.warmWait.isSome && s.asleep && s.fget PWR_STATE.PHASE == 0 && !s.pwr.failed then s.wakeStart else s
  let s := s.warmStep
  if s.idle then s else s.active

/-- One WCLK step: the Wellhead timestamp advances (16 R394) and TB counts 250 ns where it runs (03 R60); then what goes on by itself. -/
def State.tick (s : State) : State :=
  let s := { s with wclk := s.wclk + 1, tb := if s.tbRuns then (s.tb + 250) % 2 ^ 64 else s.tb }
  (s.cycleTick.workTick.powerTick).gateOffTick.quietTick

/-- The step of a block with no command waiting. -/
def idleTick (s : State) : State := { s.clearOut.tick with nv := s.nv, pending := s.pending }

end Sys2Proof.Machine
end

