-- ==== Sys2Proof/Safety.lean ====
section
/-! DEFINITION. What the statements say of the block in terms of its state: when a path's access acts at once, which registers an
operation leaves alone, what a fault report leaves alone, the order in which the fuses may change, and the canonical form of the stores. -/

namespace Sys2Proof.Machine

open Sys2Proof

/-! ## Accesses of the paths (14 R349, R358; 16 R402; 20 R456) -/

/-- Does an access on a path act at once: of a head enabled with its link up or of the sideband once the Bench is up, with the device not
in P1 to P3; of the Bench itself in P0? -/
def State.admits (s : State) : Path → Bool
  | .head h => s.linkReady h.val && !s.asleep
  | .sideband => s.benchUp && !s.asleep
  | .bench => s.benchUp && s.fget PWR_STATE.CUR == 0

/-- Wake source and head that an access raises: 1 and the head, or 4 for the sideband (14 R349); the Bench raises none. -/
def pathWake : Path → Option (Nat × Nat)
  | .head h => some (1, h.val)
  | .sideband => some (4, 0)
  | .bench => none

/-- The state on which an admitted access acts: outputs of the last command gone, and during an entry its wake trigger raised (14 R357). -/
def State.onAccess (s : State) (p : Path) : State :=
  match pathWake p with
  | some w => if s.fget PWR_STATE.PHASE = 1 then s.clearOut.latch w.1 w.2 else s.clearOut
  | none => s.clearOut

/-- The state on which the Bench serves a path's mailbox or MCTP command: the access registered, the device not idle, the command counted
(unit 11: 0x02 for the sideband, else 0x01; 18 R427). -/
def State.onMailbox (s : State) (p : Path) : State := (s.onAccess p).active.count 11 (if p = .sideband then 2 else 1)

/-- Do the management commands of a path act at once: admitted, a management head or the sideband, the firmware not restarting (02 R50; 20 R465)? -/
def State.adminReady (s : State) (p : Path) : Bool := s.admits p && s.admin p && !s.boot.fwRestart

/-- The path of a command that only management heads and the sideband may send (02 R50; 04 R88; 17 R413, R416). -/
def adminPath : Instr → Option Path
  | .warmReset p | .cutStream p _ | .cutApplyLive p _ | .cutWriteSlot p _ _ _ | .cutAdvance p | .cutRecut p | .cutRead p | .boardWrite p _
  | .secNonce p | .dbgUnlock p _ | .dbgLock p | .ownerEnroll p _ _ _ | .ownerRevoke p _ | .fwAdvance p | .fwWriteSlot p _ _ _
  | .pprSoft p _ _ _ _ _ _ | .pprHard p _ _ _ _ _ _ => some p
  | _ => none

/-- The state on which the SPDM responder serves a path's message: the access registered, the message counted (unit 11: 0x03), the device
not idle (17 R411; 18 R427). -/
def State.onSpdm (s : State) (p : Path) : State := ((s.onAccess p).count 11 3).active

/-- Does the SPDM responder serve a path: a head's DOE instance or the sideband, admitted, the firmware not restarting (17 R411)? -/
def State.spdmReady (s : State) (p : Path) : Bool := s.admits p && decide (p ≠ .bench) && !s.boot.fwRestart

/-- The state on which a path's register access takes effect, in a window that the core serves: the access registered, the device not idle, the
access counted (unit 11: 0x04; 18 R427). -/
def State.onRegister (s : State) (p : Path) : State := (s.onAccess p).active.count 11 4

/-- Are CXL.mem requests of a head served: admitted in P0, IDE in force where the port asks for it, Mem_Enable set, the device not fatal
(04 R89, R95; 16 R385)? -/
def State.memServed (s : State) (h : Head) : Bool :=
  s.admits (.head h) && s.fget PWR_STATE.CUR == 0 && !s.ideRefused h && memEnable (s.head h) && !s.boot.fatal

/-- Key ID and DPA of a head's request that matched a decoder (05 R112, R116). -/
def State.keyOf (s : State) (m : Match) (hpa : Nat) : Nat := hostKey (s.fget DEC_DEFKEY.KEY m.idx) m.tpl.kw hpa
def State.dpaOf (s : State) (m : Match) : Nat := s.dpaBase m.idx + m.off

/-- A request that DEC passes on: its head is served, a decoder matches, and the head's key mask permits the key ID (05 R114, R117). -/
abbrev State.decodes (s : State) (h : Head) (hpa : Nat) (m : Match) : Prop :=
  s.memServed h = true ∧ s.decode h hpa = some m ∧ s.keyPermitted h (s.keyOf m hpa) = true

/-- The same, to an untiered local region without dynamic capacity, under an ACTIVE key slot. -/
abbrev State.hitsDirect (s : State) (h : Head) (hpa : Nat) (m : Match) : Prop :=
  s.decodes h hpa m ∧ (s.region m.tpl.region).home = none ∧ (s.region m.tpl.region).dcd = false ∧ (s.region m.tpl.region).tiered = false ∧
  (s.slot (s.keyOf m hpa % 128)).state = 1

/-- Is an MPA line on a channel that has not failed (05 R121; 07 R190)? -/
def State.onChannel (s : State) (mpa : Nat) : Bool := (s.placeOf mpa).any fun p => !s.chanFailed p.chan

/-- What one command slot of a subchannel may choose from (07 R165). -/
def State.slate (s : State) (c : Nat) (sub : Bool) : Slate :=
  { reads := s.items (s.chan c).rq sub, writes := s.items (s.chan c).wq sub, all := s.items (s.chan c).rq sub ++ s.items (s.chan c).wq sub }

/-- Does an admin path's write of a DRW register of a drawer act at once (12 R294)? -/
def State.drwOpen (s : State) (p : Path) (d : Nat) : Bool := s.admits p && s.drwAdmin p && s.drwExists d

/-- The head through which a drawer's page is reached (12 R297). -/
def State.pagePath (s : State) (d : Nat) : Path := .head (Fin.ofNat 16 (s.drwHead d))

/-- Does a write in a drawer's page act at once: the drawer bound, its head admitted with Memory Space Enable set (12 R297)? -/
def State.pageOpen (s : State) (d : Nat) : Bool :=
  s.drwExists d && s.drwBound d && s.admits (s.pagePath d) && memSpace (s.head (s.drwHead d))

/-- The next operation of a ring with an operation code, not started yet, its fields as R302 requires (12 R302, R304). -/
abbrev State.freshOp (s : State) (d r code n : Nat) (o : Op) : Prop :=
  s.opPick d r code = some (n, o) ∧ smFind? s.drw.ops n = some o ∧ o.started = false ∧ o.asked = false ∧ o.plan = none ∧ o.todo = [] ∧
  s.badField o = none

/-- The same, with host operands of some length, its head reachable (04 R105). -/
abbrev State.hostOp (s : State) (d r code n : Nat) (o : Op) : Prop :=
  s.freshOp d r code n o ∧ o.desc.sattr.dev = false ∧ o.desc.dattr.dev = false ∧ o.desc.len ≠ 0 ∧ s.hostReach d = true

/-- The bytes that an operation's host-memory read of some length brings (12 R307). -/
def hostRead (b : List Byte) (len : Nat) : List Byte := b.take len ++ List.replicate (len - (b.take len).length) 0

/-- Does a Span message that arrives on its port act at once: its link ADMITTED, this node a member with an ID, the device not asleep
(13 R329, R330; 14 R347)? -/
def State.spanReady (s : State) (m : SpanMsg) : Bool := s.spanOpen m.port.val && !s.asleep

/-- Does the home accept a peer's request for an untiered line under an ACTIVE key, undyed, the device not fatal (05 R119; 10 R263;
18 R433)? -/
abbrev State.peerHits (s : State) (m : SpanMsg) (r : Region) : Prop :=
  s.spanReady m = true ∧ (s.regionAt (m.ln.toNat * 64)).map (·.2) = some r ∧ s.peerMay m r = true ∧ s.boot.fatal = false ∧
  s.fone PMU_DYECTL.SPAN = false ∧ r.tiered = false ∧ (s.slot m.key.toNat).state = 1

/-- The request of this node that a Span response answers, its TAG not resting (13 R336). -/
abbrev State.awaits (s : State) (m : SpanMsg) (r : SpanReq) : Prop :=
  s.spanReady m = true ∧ smFind? s.spn.tags (m.src.toNat * 4096 + m.tag.toNat) = some r ∧ r.failed = false

/-- The same, a request that a head with its link up has made. -/
abbrev State.headAwaits (s : State) (m : SpanMsg) (r : SpanReq) (h : Head) : Prop :=
  s.awaits m r ∧ r.drw = none ∧ r.head = some h ∧ s.linkReady h.val = true

/-- The code of a TAP instruction (17 R418). -/
def tapCode : Instr → Option Nat
  | .extest => some 0x00
  | .samplePreload => some 0x01
  | .idcode => some 0x02
  | .clamp => some 0x03
  | .highz => some 0x04
  | .token _ => some 0x10
  | .dbgvote _ => some 0x11
  | .nonce => some 0x12
  | .bdbg => some 0x20
  | .tapPrivate c => some (0x30 + c.val)
  | .bypass => some 0xFF
  | _ => none

/-! ## Frames -/

/-- Every register field outside a list of fields reads the same at every instance. -/
def RegsSame (l : List Fld) (s t : State) : Prop := ∀ (f : Fld) (i : Nat), f.id < 1024 → f.id ∉ l.map (·.id) → t.fget f i = s.fget f i

/-- The one instance of a register field may change, and no other register field. -/
def RegsBut (f : Fld) (i : Nat) (s t : State) : Prop :=
  ∀ (g : Fld) (j : Nat), g.id < 1024 → (g.id ≠ f.id ∨ j ≠ i) → t.fget g j = s.fget g j

/-- Register fields that a fault report writes: the fault sets and the Witness engine's counts (16 R387-R393). -/
def faultFlds : List Fld :=
  [FLT_FIRST.VALID, FLT_FIRST.ESC, FLT_FIRST.LEVEL, FLT_FIRST.UNIT, FLT_FIRST.CLASS, FLT_SYN.SYN, FLT_ADDR.VALUE, FLT_AUX.VALUE,
    FLT_TIME.VALUE, FLT_COUNT.COUNT, FLT_OVF.SAT, FLT_OVF.LOST, FLT_LEVEL.LEVEL, FLT_STATUS.CLASS, FLT_ACK.UNACK, WIT_SEQ.SEQ,
    WIT_LOST.LOST]

/-- Register fields that a counted event writes (18 R425-R429). -/
def pmuFlds : List Fld := [PMU_CTR.COUNT, PMU_OVF.OVF, PMU_CTL.FREEZE]

/-- Register fields that a change of the capacity writes (11 R289-R290). -/
def weirFlds : List Fld :=
  [WEIR_CAP.D, WEIR_CAP.EFFSUM, WEIR_CAP.REF2X, WEIR_CAP.SHORT, WEIR_CAP.SPARE, WEIR_CAP.SUMMIN, WEIR_EFF.EFFMAX, WEIR_EFF.EFFMIN,
    WEIR_EFF.REDUCED, WEIR_SHORT.CH, WEIR_SHORT.EVENTS, WEIR_SHORT.SPAN, WEIR_SPAN.SPANCAP, WEIR_SPAN.SUMC5]

/-- What a fault report can change, and nothing else (16 R382-R393): outputs, fault registers, the heads' interrupts and logs, the fault
and Witness engines, and, at L3, device-fatal handling and this node's announcement. -/
def FaultFrame (s t : State) : Prop :=
  t = { s with out := t.out, regs := t.regs, heads := t.heads, flt := t.flt, wit := t.wit
               boot := { s.boot with fatal := t.boot.fatal }
               spn := { s.spn with withdrawn := t.spn.withdrawn, ageSeq := t.spn.ageSeq, links := t.spn.links } }

/-! ## The fuses and flash (17 R405, R410, R416; 02 R52) -/

/-- Every bit set in one vector is set in the other. -/
def bitsGrow {w : Nat} (a b : BitVec w) : Prop := a &&& b = a

/-- The order in which the non-volatile fuses may change: a fuse copy once blown stays blown, an owner slot once enrolled keeps its digest
(`OWNER_REVOKE` does not erase it, 17 R416), a revoked slot stays revoked, the rollback counters never decrease, the device secret once
erased stays erased, and the serial number stands. -/
structure FusesGrow (a b : NonVol) : Prop where
  fM : bitsGrow a.fM b.fM
  fD : bitsGrow a.fD b.fD
  fP : bitsGrow a.fP b.fP
  fT : bitsGrow a.fT b.fT
  fX : bitsGrow a.fX b.fX
  owners : ∀ k d, smFind? a.owners k = some d → smFind? b.owners k = some d
  revoked : bitsGrow a.revoked b.revoked
  cutFused : a.cutFused ≤ b.cutFused
  fwFused : a.fwFused ≤ b.fwFused
  secretOk : b.secretOk = true → a.secretOk = true
  serial : b.serial = a.serial

/-- The commands that may change fuses or flash images: those of 02 R51-R52, 04 R88 and 17 R406, R410, R416, and the end of a wake
step, which serves commands that waited (14 R358). -/
def changesFuses : Instr → Bool
  | .cutWriteSlot .. | .cutAdvance .. | .boardWrite .. | .lcTransition .. | .ownerEnroll .. | .ownerRevoke .. | .fwAdvance ..
  | .fwWriteSlot .. | .wakeStepEnd .. => true
  | _ => false

/-! ## Canonical stores -/

/-- Stored DRAM lines and register values stand in canonical form: keys strictly rising. -/
def State.storesWf (s : State) : Bool := smWf s.dram && smWf s.regs

end Sys2Proof.Machine
end

