-- ==== Sys2Proof/Certificates/Slice0/Obligations.lean ====
section
/-! DEFINITION. Statements about the block. A statement names the rules it follows; `assumption n` is an entry of the assumption log. -/

section

open Sys2Proof Sys2Proof.Machine

/-! ## The whole machine -/

/-- The step of a block with commands waiting is the front command's effect on the state with the queue's rest; the queue is first in, first out. -/
def Obligations.StepRunsFrontCommand : Prop :=
  (∀ (c : Instr) (rest : List Instr) (s : State), step { s with pending := c :: rest } = exec c { s with pending := rest }) ∧
  (∀ (c : Instr) (rest : List Instr) (s : State), s.pending = c :: rest → ∃ t, step s = .next t ∧ t.pending = rest)

/-- With no command waiting a step answers a next state, the tick of time (assumption 2): the queue stays empty, fuses and flash stand. -/
def Obligations.EmptyQueueTicks : Prop :=
  ∀ s : State, s.pending = [] → ∃ t, step s = .next t ∧ t = idleTick s ∧ t.pending = [] ∧ t.nv = s.nv

/-- Every one of the 281 commands answers a next state in every state, and none touches the queue behind it. Fuses and flash images change only by the
commands that 02 R51-R52, 04 R88 and 17 R406, R410, R416 name, and by the wake step that serves such a command late: under every other command they stand. -/
def Obligations.EveryCommandAnswers : Prop :=
  (∀ (c : Instr) (s : State), ∃ t, exec c s = .next t ∧ t.pending = s.pending) ∧
  (∀ (c : Instr) (s : State), changesFuses c = false → ∃ t, exec c s = .next t ∧ t.nv = s.nv)

/-- An invariant of every step: what the fuses of a device once held, they hold on. Blown fuses stay blown, enrolled owner keys and revocations
stay, the rollback counters never decrease, an erased device secret stays erased. -/
def Obligations.FusesOnlyGrow : Prop :=
  ∀ (n : NonVol) (s t : State), FusesGrow n s.nv → step s = .next t → FusesGrow n t.nv

/-- The lifecycle never moves back: BLANK, MANUFACTURE, DEVELOP, PRODUCTION, RETURN, DECOMMISSIONED (codes 0-5) never decreases over a step, so a
DECOMMISSIONED device stays so. -/
def Obligations.LifecycleNeverMovesBack : Prop :=
  ∀ s t : State, step s = .next t → lifecycle s.nv ≤ lifecycle t.nv

/-- Reset: nothing waits, no fuse is blown (assumption 9) and the lifecycle is BLANK; the memory and registers list nothing and stand in canonical
form, no head is enabled, no start-up step is done, key ID 0 alone is ACTIVE in mode MIX. -/
def Obligations.ResetState : Prop :=
  State.reset.pending = [] ∧ FusesGrow State.reset.nv State.reset.nv ∧ lifecycle State.reset.nv = 0 ∧ State.reset.dram = [] ∧
  State.reset.regs = [] ∧ State.reset.storesWf = true ∧ State.reset.headsOn = [] ∧ State.reset.boot.step = 0 ∧
  (State.reset.slot 0).state = 1 ∧ (State.reset.slot 0).mode = 0 ∧ (∀ k, k ≠ 0 → (State.reset.slot k).state = 0)


/-- The stores read back. A register field reads the value written, cut to its width, and every other field and instance reads as before (20 R457);
a DRAM line reads as stored, and every other line as before (07 R179). A write keeps the canonical form of its store. -/
def Obligations.StoresReadBack : Prop :=
  (∀ (s : State) (f : Fld) (i v : Nat), f.id < 1024 → (s.fset f i v).fget f i = v % 2 ^ f.width ∧ RegsBut f i s (s.fset f i v) ∧
    (s.fset f i v) = { s with regs := (s.fset f i v).regs } ∧ (smWf s.regs = true → smWf (s.fset f i v).regs = true)) ∧
  (∀ (s : State) (m : Nat) (l : Line), (s.putLine m l).rawLine m = l ∧ (∀ n, n ≠ m → (s.putLine m l).rawLine n = s.rawLine n) ∧
    (s.putLine m l) = { s with dram := (s.putLine m l).dram } ∧ (smWf s.dram = true → smWf (s.putLine m l).dram = true))


/-! ## Start-up and resets (03 R71-R80; 19 R441; 20 R465) -/

/-- Start-up in the order of 03 R76: 3.3 V auxiliary power arms the IFC and completes step 3; with `IFC_PG` high and the rails good AVSBus sets
`VDD_SRAM` to 850 mV and then `VDD_CORE` to 750 mV (step 6); the core PLL's lock gives CCLK at 1.0 GHz (step 7); the boot load ends at step 10, training
and the metadata area at step 13, when every enabled head indicates memory active. -/
def Obligations.StartUpSteps : Prop :=
  (∀ s : State, s.boot.step = 0 → ∃ t, exec .v3p3AuxGood s = .next t ∧ t.boot.step = 3 ∧ t.ifc.armed = true ∧ t.wit.staging ≠ [] ∧
    t = { s with
      out := t.out, regs := t.regs, boot := t.boot, heads := t.heads, ifc := t.ifc, wit := t.wit, flt := t.flt
      spn := { s.spn with withdrawn := t.spn.withdrawn, ageSeq := t.spn.ageSeq, links := t.spn.links }
        } ∧ RegsSame ([IFC_STATUS.COOLING, IFC_STATUS.PG, IFC_STATUS.PHASE, IFC_STATUS.STATE, MS_POWER.CHG, WIT_HEAD.SLOT, WIT_STATUS.COMMIT, WIT_STATUS.PRESENT, WIT_STATUS.READY] ++ faultFlds) s t) ∧
  (∀ s : State, s.boot.step ≠ 0 → exec .v3p3AuxGood s = .next (s.clearOut.fset WIT_STATUS.COMMIT 0 0)) ∧
  (∀ s : State, s.boot.step = 3 → s.ifcPg = true → s.boot.railsLost = false → ∃ t, exec .railsGood s = .next t ∧ t.boot = { s.boot with step := 6 } ∧
    t.out = [.avsCmd 1 850, .avsCmd 0 750] ∧ t.fget CLK_AVS.SRAM_MV = 850 ∧ t.fget CLK_AVS.CORE_MV = 750 ∧
    t = { s with out := t.out, regs := t.regs, boot := t.boot } ∧ RegsSame [CLK_AVS.SRAM_MV, CLK_AVS.CORE_MV] s t) ∧
  (∀ s : State, s.boot.step = 6 → ∃ t, exec .corePllLock s = .next t ∧ t.boot = { s.boot with step := 7, cclkMhz := 1000 } ∧
    t.fget CLK_STATUS.CORE_PLL = 1 ∧ t.fget CLK_STATUS.REFCLK_OK = 1 ∧ t = { s with out := t.out, regs := t.regs, boot := t.boot } ∧ RegsSame
      ([CLK_STATUS.CORE_PLL, CLK_STATUS.REFCLK_OK]) s t) ∧
  (∀ (fit : List (Nat × Nat)) (s : State), s.boot.step = 7 → ∃ t, exec (.bootLoadComplete fit) s = .next t ∧ t.boot.step = 10 ∧ t.nv = s.nv ∧
    t = { s with
      out := t.out, free := t.free, regs := t.regs, boot := t.boot, cut := t.cut, heads := t.heads, dec := t.dec, chans := t.chans
      slc := t.slc, drw := t.drw, spn := t.spn, wit := t.wit, flt := t.flt, sec := t.sec }) ∧
  (∀ s : State, s.boot.step = 10 → s.chansIn 1 = [] → ∃ t, exec .metadataInitComplete s = .next t ∧ t.boot = { s.boot with step := 13 } ∧
    (∀ h ∈ s.headsOn, t.head h = { s.head h with memActive := true }) ∧ (∀ h, h ∉ s.headsOn → t.head h = s.head h) ∧ t =
      { s with out := t.out, boot := t.boot, heads := t.heads })

/-- Start-up fails (03 R79): a rail that is not good at step 5 trips the IFC with cause RAIL (6), and no `REFCLK0` for 10 ms at step 7 with cause REFCLK
(7), where no higher cause of 15 R372 holds. The gate goes off: the core is lost, and the IFC stands in state 4. -/
def Obligations.StartUpFailures : Prop :=
  (∀ (rail : Fin 5) (s : State), s.boot.step = 3 → s.ifcSt = 2 → s.ifcCause = none → s.boot.railsLost = false → ∃ t, exec (.railNotGood rail) s = .next t ∧
    t.fget IFC_STATUS.CAUSE = 6 ∧ t.ifcSt = 4 ∧ t.ifcPg = false ∧ t.boot.railsLost = true ∧ t.boot.step = 3 ∧ t.dram = [] ∧ t.nv = s.nv ∧ t.wclk = s.wclk) ∧
  (∀ s : State, s.boot.step = 6 → s.ifcSt = 2 → s.ifcCause = none → s.boot.railsLost = false → ∃ t, exec .refclkAbsent s = .next t ∧
    t.fget IFC_STATUS.CAUSE = 7 ∧ t.ifcSt = 4 ∧ t.ifcPg = false ∧ t.boot.railsLost = true ∧ t.boot.step = 3 ∧ t.dram = [] ∧ t.nv = s.nv ∧ t.wclk = s.wclk)

/-- Wellhead power-on reset returns everything but fuses, flash and the levels on the pins to reset, and starts the Wellhead again: start-up step 3 is
done, the timestamp restarts, DRAM contents, directory, drawers, Span, key slots and power state are as after reset (03 R71, R72). -/
def Obligations.WellheadPowerOnReset : Prop :=
  ∀ s : State, ∃ t, exec .wellheadPowerOnReset s = .next t ∧ t.boot.step = 3 ∧ t.ifc.armed = true ∧ t.ifc.en = s.ifc.en ∧ t.nv = s.nv ∧ t.wclk = 0 ∧
    t.tb = 0 ∧ t.dram = [] ∧ t.dec = {} ∧ t.coh = {} ∧ t.chans = [] ∧ t.press = {} ∧ t.slc = {} ∧ t.drw = {} ∧ t.pwr = {} ∧ t.sec = {} ∧ t.pmu = {} ∧
    t.cut = {} ∧ t.hold = [] ∧ t.thermtrip = false ∧ t.spn.db = [] ∧ t.spn.tags = [] ∧ t.spn.runs = [] ∧
    (∀ k, k ≠ 0 → (t.slot k).state = 0) ∧ RegsSame ([IFC_STATUS.COOLING, IFC_STATUS.PG, IFC_STATUS.PHASE, IFC_STATUS.STATE, MS_POWER.CHG,
      WIT_HEAD.SLOT, WIT_STATUS.PRESENT, WIT_STATUS.READY] ++ faultFlds) State.reset t

/-- A main rail lost while the gate is on takes the core with it; when every rail has returned, a cold reset follows with kind 1 and source 3 in
`CLK_RSTCAUSE`, BOOTS counted and start-up at step 6 (19 R441; 03 R71, R72, R75). A CUT_RECUT is a cold reset with source 1, and its answer is given. -/
def Obligations.ColdResets : Prop :=
  (∀ (rail : Fin 5) (s : State), 6 ≤ s.boot.step → s.ifcPg = true → s.ifc.dry = false → s.boot.railsLost = false → ∃ t,
    exec (.mainRailLoss rail) s = .next t ∧ t.boot = { ({} : Boot) with step := 3, railsLost := true } ∧ t.dram = [] ∧ t.coh = {} ∧ t.dec = {} ∧ t.drw = {} ∧
    t.chans = [] ∧ t.slc = {} ∧ t.press = {} ∧ t.spn = {} ∧ t.pwr = {} ∧ t.tb = 0 ∧ t.wclk = s.wclk ∧ t.nv = s.nv ∧ t.ifc = s.ifc ∧ t.wit = s.wit) ∧
  (∀ s : State, s.boot.railsLost = true → s.ifcPg = true → ∃ t, exec .mainRailReturn s = .next t ∧ t.boot = { ({} : Boot) with step := 6 } ∧
    t.fget CLK_RSTCAUSE.KIND = 1 ∧ t.fget CLK_RSTCAUSE.SOURCE = 3 ∧ t.fget CLK_RSTCAUSE.BOOTS = min (2 ^ CLK_RSTCAUSE.BOOTS.width - 1) (s.fget
      CLK_RSTCAUSE.BOOTS + 1) ∧
    t.fget CLK_AVS.SRAM_MV = 850 ∧ t.fget CLK_AVS.CORE_MV = 750 ∧
    t.dram = [] ∧ t.coh = {} ∧ t.dec = {} ∧ t.drw = {} ∧ t.chans = [] ∧ t.slc = {} ∧ t.wclk = s.wclk ∧ t.nv = s.nv ∧ t.ifc = s.ifc ∧ t.wit = s.wit) ∧
  (∀ s : State, s.boot.step = 3 → s.boot.railsLost = true → s.ifcPg = true → exec .railsGood s = exec .mainRailReturn s) ∧
  (∀ (p : Path) (s : State), s.admits p = true → s.admin p = true → s.boot.fwRestart = false → ∃ t, exec (.cutRecut p) s = .next t ∧
    t.boot = { ({} : Boot) with step := 6 } ∧ t.fget CLK_RSTCAUSE.KIND = 1 ∧ t.fget CLK_RSTCAUSE.SOURCE = 1 ∧ t.fget CLK_RSTCAUSE.HEAD = pathHead p ∧
    .reply p .success [] ∈ t.out ∧ t.dram = [] ∧ t.coh = {} ∧ t.wclk = s.wclk ∧ t.nv = s.nv ∧ t.ifc = s.ifc ∧ t.wit = s.wit)

/-- A warm reset of an idle device in P0 whose directory is empty answers success and runs at once: directory, transaction table, queues and fault state
(unless a Weir shortfall bit changes with it, which is a new report, 11 R290) are emptied, `CLK_RSTCAUSE` holds kind 2 and the source, and DRAM contents, the loaded Cut List and the fuse controller stand (03 R72, R73, R75). The
firmware's watchdog restarts the firmware, which is reported as BEN class 3, and the end of the restart lets it serve again where its slot passes (20 R465; 17 R410). -/
def Obligations.WarmResetAndFirmwareRestart : Prop :=
  (∀ (p : Path) (s : State), s.admits p = true → s.admin p = true → s.boot.fwRestart = false → s.fone CUT_STATUS.BUSY = false → s.pwr.warmWait = none →
    s.boot.fatal = false → s.fget PWR_STATE.CUR = 0 → s.fget PWR_STATE.PHASE ≠ 1 → s.fone INL_RETIRE.BUSY = false → s.coh.dir = [] → s.coh.txns = [] →
    s.coh.evicts = [] → s.coh.sent = [] → s.slc.moves = [] → ∃ t, exec (.warmReset p) s = .next t ∧ .reply p .success [] ∈ t.out ∧
    t.coh.dir = [] ∧ t.coh.txns = [] ∧ t.coh.locks = [] ∧ t.coh.timeouts = [] ∧ t.pwr = { ({} : Power) with idleFrom := s.wclk } ∧ t.press = {} ∧ t.pmu = {} ∧
      t.dram = s.dram ∧
    (t.fget WEIR_SHORT.CH = s.fget WEIR_SHORT.CH → t.fget WEIR_SHORT.SPAN = s.fget WEIR_SHORT.SPAN → t.flt = {}) ∧ (∀ c, (t.chan c).rq = [] ∧ (t.chan c).wq =
      []) ∧
    t.fget CLK_RSTCAUSE.KIND = 2 ∧ t.fget CLK_RSTCAUSE.SOURCE = warmSource p ∧ t.fget CLK_RSTCAUSE.HEAD = pathHead p ∧
    t.nv = s.nv ∧ t.cut = s.cut ∧ t.ifc = s.ifc ∧ t.wclk = s.wclk ∧ t.tb = s.tb) ∧
  (∀ s : State, s.boot.fwUp = true → s.boot.fwRestart = false → ∃ t, exec .firmwareWatchdog s = .next t ∧ t.boot =
    { s.boot with fwRestart := true, fatal := t.boot.fatal } ∧
    t = { s with
      out := t.out, regs := t.regs, boot := t.boot, heads := t.heads, wit := t.wit, flt := t.flt
      spn := { s.spn with withdrawn := t.spn.withdrawn, ageSeq := t.spn.ageSeq, links := t.spn.links } } ∧ RegsSame (faultFlds) s t) ∧
  (∀ s : State, s.boot.fwRestart = true → (checkFirmware s.nv (fwSlotImg s.nv s.boot.fwSlot)).isNone → ∃ t, exec .firmwareRestartEnd s = .next t ∧
    t.boot = { s.boot with fwRestart := false, fwUp := true } ∧ t = { s with out := [], boot := t.boot, regs := t.regs } ∧ RegsSame [SEC_LC.FW_IMAGE] s t)

/-! ## Clocks, supplies and temperature (01 R31-R33; 03 R65-R83; 19 R441-R454) -/

/-- The on-demand clocks (01 R31, R32): a starting clock that is stable runs; an unpinned unit that is idle for its idle time stops, and a start trigger in
the same cycle wins. A PLL that loses lock forces its crossings ELASTIC; when it has relocked, class PLL_LOSS of CLK is raised, and 1 ms after relock the
crossings return to the mode the Cut List gives them (03 R65, R83). -/
def Obligations.ClocksAndRelock : Prop :=
  (∀ (u : Fin 3) (s : State), smGet s.boot.units u.val 0 = 1 → ∃ t, exec (.unitClockStable u) s = .next t ∧ smGet t.boot.units u.val 0 = 2 ∧
    (∀ v, v ≠ u.val → smGet t.boot.units v 0 = smGet s.boot.units v 0) ∧
    t = { s with out := [], boot := { s.boot with units := t.boot.units, unitIdle := t.boot.unitIdle } }) ∧
  (∀ (u : Fin 3) (s : State), s.fget CLK_UNIT.PIN u.val = 0 → s.unitRuns u.val = true → s.unitBusy u.val = false →
    s.elapsed (smGet s.boot.unitIdle u.val 0) ((s.fget CLK_UNIT.IDLE_NS u.val + 249) / 250) = true →
    ∃ t, exec (.unitIdleStop u false) s = .next t ∧ smGet t.boot.units u.val 0 = 0 ∧ (∀ v, v ≠ u.val → smGet t.boot.units v 0 = smGet s.boot.units v 0) ∧
    t = { s with out := [], boot := { s.boot with units := t.boot.units, unitIdle := t.boot.unitIdle } }) ∧
  (∀ (u : Fin 3) (s : State), s.fget CLK_UNIT.PIN u.val = 0 → s.unitRuns u.val = true → s.unitBusy u.val = false →
    s.elapsed (smGet s.boot.unitIdle u.val 0) ((s.fget CLK_UNIT.IDLE_NS u.val + 249) / 250) = true →
    exec (.unitIdleStop u true) s = .next (s.clearOut.unitStart u.val)) ∧
  (∀ (u : Fin 3) (trigger : Bool) (s : State), s.fget CLK_UNIT.PIN u.val = 1 → exec (.unitIdleStop u trigger) s = .next s.clearOut) ∧
  (∀ (pll : Fin 5) (s : State), s.pllLocked pll.val = true → ∃ t, exec (.pllLockLoss pll) s = .next t ∧ t.pllLocked pll.val = false ∧
    t.boot = { s.boot with relock := smSet s.boot.relock pll.val none } ∧ (∀ i ∈ pllItems pll.val, t.elastic i = true) ∧
    t.fget CLK_STATUS.FORCE_ELASTIC = 1 ∧ t = { s with out := t.out, regs := t.regs, boot := t.boot } ∧ RegsSame ([CLK_STATUS.CORE_PLL,
      CLK_STATUS.FORCE_ELASTIC, CLK_STATUS.MCLK_PLL, CLK_STATUS.PCLK_PLL, CLK_XMODE.ELASTIC]) s t) ∧
  (∀ (pll : Fin 5) (s : State), smFind? s.boot.relock pll.val = some none → ∃ t, exec (.pllRelock pll) s = .next t ∧ t.pllLocked pll.val = true ∧
    t.boot.relock = smSet s.boot.relock pll.val (some s.wclk) ∧ (t.classSt setCLK 5).inFault = true ∧ t = { s with
      out := t.out, regs := t.regs, boot := t.boot, heads := t.heads, wit := t.wit, flt := t.flt
      spn := { s.spn with withdrawn := t.spn.withdrawn, ageSeq := t.spn.ageSeq, links := t.spn.links }
        } ∧ RegsSame ([CLK_STATUS.CORE_PLL, CLK_STATUS.FORCE_ELASTIC, CLK_STATUS.MCLK_PLL, CLK_STATUS.PCLK_PLL, CLK_XMODE.ELASTIC] ++ faultFlds) s t) ∧
  (∀ (pll : Fin 5) (s : State) (at_ : Time), smFind? s.boot.relock pll.val = some (some at_) → at_ + 4000 ≤ s.wclk → ∃ t,
    exec (.elasticHoldEnd pll) s = .next t ∧ t.boot = { s.boot with relock := smDel s.boot.relock pll.val } ∧ t =
      { s with out := t.out, regs := t.regs, boot := t.boot } ∧ RegsSame ([CLK_STATUS.FORCE_ELASTIC, CLK_XMODE.ELASTIC]) s t)

/-- A crossing that reports a stuck value, or an event crossing that drops events, sets its bit and raises class 2 or 1 of CLK; an AVSBus timeout leaves the
acknowledged voltage and raises class 3; a rail outside its window raises class 4 (03 R67, R70, R81, R83; 19 R441). -/
def Obligations.ClockFaults : Prop :=
  (∀ (i : Fin 15) (v : Word) (s : State), ∃ t, exec (.crossingStuck i v) s = .next t ∧ t.fbitAt CLK_XSTUCK.STUCK 0 i.val = true ∧
    (t.classSt setCLK 2).inFault = true ∧ t = { s with
      out := t.out, regs := t.regs, heads := t.heads, wit := t.wit, flt := t.flt, boot := { s.boot with fatal := t.boot.fatal }
      spn := { s.spn with withdrawn := t.spn.withdrawn, ageSeq := t.spn.ageSeq, links := t.spn.links }
        } ∧ RegsSame ([CLK_XSTUCK.COUNT, CLK_XSTUCK.STUCK] ++ faultFlds) s t) ∧
  (∀ (i : Fin 15) (s : State), ∃ t, exec (.eventCrossingOverrun i) s = .next t ∧ t.fbitAt CLK_XOVRN.OVRN 0 i.val = true ∧
    (t.classSt setCLK 1).inFault = true ∧ t = { s with
      out := t.out, regs := t.regs, heads := t.heads, wit := t.wit, flt := t.flt, boot := { s.boot with fatal := t.boot.fatal }
      spn := { s.spn with withdrawn := t.spn.withdrawn, ageSeq := t.spn.ageSeq, links := t.spn.links } } ∧ RegsSame ([CLK_XOVRN.OVRN] ++ faultFlds) s t) ∧
  (∀ (rail : Fin 2) (s : State), ∃ t, exec (.avsTimeout rail) s = .next t ∧ t.fget CLK_AVS.ERR = 1 ∧ t.fget CLK_AVS.BUSY = 0 ∧
    (t.classSt setCLK 3).inFault = true ∧ t = { s with
      out := t.out, regs := t.regs, heads := t.heads, wit := t.wit, flt := t.flt, boot := { s.boot with fatal := t.boot.fatal }
      spn := { s.spn with withdrawn := t.spn.withdrawn, ageSeq := t.spn.ageSeq, links := t.spn.links }
        } ∧ RegsSame ([CLK_AVS.BUSY, CLK_AVS.ERR] ++ faultFlds) s t) ∧
  (∀ (rail : Fin 5) (mv : Nat) (s : State), s.boot.railsLost = false → 5 ≤ s.boot.step → s.railInWindow rail.val mv = false → ∃ t,
    exec (.railOutOfWindow rail mv) s = .next t ∧ (t.classSt setCLK 4).inFault = true ∧ t = { s with
      out := t.out, regs := t.regs, heads := t.heads, wit := t.wit, flt := t.flt, boot := { s.boot with fatal := t.boot.fatal }
      spn := { s.spn with withdrawn := t.spn.withdrawn, ageSeq := t.spn.ageSeq, links := t.spn.links } } ∧ RegsSame (faultFlds) s t)

/-- The Bench starts a margin test in MANUFACTURE and DEVELOP only: CCLK goes down by the step, every crossing is ELASTIC, a voltage asked for is set unless the
fuses' minimum for the new frequency (a free value, assumption 4) is higher, and the end restores CCLK and
the voltage (03 R82). Junction temperature: at 100 °C GLB class 1 is raised and WARN set, below 95 °C at every sensor WARN clears (the hottest reading is then left open: a
free value below 95), and at 120 °C GLB class 2 is raised and `THERMTRIP_N` driven low where BALLS sets it (19 R453, R454). -/
def Obligations.MarginAndTemperature : Prop :=
  (∀ s : State, s.admits .bench = true → s.fget CLK_STATUS.MARGIN = 0 → (lifecycle s.nv = 1 ∨ lifecycle s.nv = 2) → ∃ t,
    exec (.marginGo .bench) s = .next t ∧ t.boot = { s.boot with cclkMhz := 2000 - 25 * s.fget CLK_MARGIN.FSTEP, savedMv := s.fget CLK_AVS.CORE_MV } ∧
    t.fget CLK_STATUS.MARGIN = 1 ∧ t.fget CLK_MARGIN.GO = 1 ∧ t.fget CLK_MARGIN.DONE = 0 ∧ (∀ i, t.elastic i = true) ∧
    (s.fget CLK_MARGIN.MV = 0 → t.out = [] ∧ t.fget CLK_AVS.CORE_MV = s.fget CLK_AVS.CORE_MV) ∧
    (0 < s.fget CLK_MARGIN.MV → s.fget CLK_MARGIN.MV < Config.minMv 0 (2000 - 25 * s.fget CLK_MARGIN.FSTEP) → t.out = [] ∧ t.fget CLK_AVS.HELD = 1 ∧ t.fget
      CLK_AVS.CORE_MV = s.fget CLK_AVS.CORE_MV) ∧
    (0 < s.fget CLK_MARGIN.MV → Config.minMv 0 (2000 - 25 * s.fget CLK_MARGIN.FSTEP) ≤ s.fget CLK_MARGIN.MV → t.out = [.avsCmd 0 (s.fget CLK_MARGIN.MV)] ∧
      t.fget CLK_AVS.CORE_MV = s.fget CLK_MARGIN.MV % 2 ^ CLK_AVS.CORE_MV.width) ∧
    t = { s with out := t.out, regs := t.regs, boot := t.boot } ∧ RegsSame [CLK_AVS.CORE_MV, CLK_AVS.HELD, CLK_MARGIN.GO, CLK_MARGIN.DONE, CLK_STATUS.MARGIN,
      CLK_STATUS.FORCE_ELASTIC, CLK_XMODE.ELASTIC] s t) ∧
  (∀ s : State, s.admits .bench = true → lifecycle s.nv ≠ 1 → lifecycle s.nv ≠ 2 → exec (.marginGo .bench) s = .next s.clearOut) ∧
  (∀ s : State, s.fget CLK_STATUS.MARGIN = 1 → ∃ t, exec .marginEnd s = .next t ∧ t.boot = { s.boot with cclkMhz := 2000 } ∧
    t.fget CLK_STATUS.MARGIN = 0 ∧ t.fget CLK_MARGIN.GO = 0 ∧ t.fget CLK_MARGIN.DONE = 1 ∧ t.fget CLK_AVS.HELD = 0 ∧
    (s.boot.savedMv < 4096 → t.fget CLK_AVS.CORE_MV = s.boot.savedMv) ∧ t = { s with out := t.out, regs := t.regs, boot := t.boot } ∧
    RegsSame [CLK_AVS.CORE_MV, CLK_AVS.HELD, CLK_MARGIN.GO, CLK_MARGIN.DONE, CLK_STATUS.MARGIN, CLK_STATUS.FORCE_ELASTIC, CLK_XMODE.ELASTIC] s t) ∧
  (∀ (n : Fin 9) (d : Nat) (s : State), 100 ≤ d → s.sensorOn n.val = true → ∃ t, exec (.tjWarn n d) s = .next t ∧ t.fget GLB_TJ.NOW = min 255 d ∧
    t.fget GLB_TJ.SENSOR = n.val ∧ t.fget GLB_TJ.WARN = 1 ∧ (t.classSt setGLB 1).inFault = true ∧ t = { s with
      out := t.out, regs := t.regs, heads := t.heads, wit := t.wit, flt := t.flt, boot := { s.boot with fatal := t.boot.fatal }
      spn := { s.spn with withdrawn := t.spn.withdrawn, ageSeq := t.spn.ageSeq, links := t.spn.links }
        } ∧ RegsSame ([GLB_TJ.NOW, GLB_TJ.PEAK, GLB_TJ.SENSOR, GLB_TJ.WARN] ++ faultFlds) s t) ∧
  (∀ s : State, ∃ t, exec .tjWarnClear s = .next t ∧ t.fget GLB_TJ.WARN = 0 ∧ t.fget GLB_TJ.NOW < 95 ∧ t =
    { s with out := t.out, free := t.free, regs := t.regs, flt := t.flt } ∧ RegsSame ([GLB_TJ.NOW, GLB_TJ.WARN]) s t) ∧
  (∀ (n : Fin 9) (d : Nat) (s : State), 120 ≤ d → s.sensorOn n.val = true → ∃ t, exec (.thermtrip n d) s = .next t ∧ t.fget GLB_TJ.NOW = min 255 d ∧
    t.fget GLB_TJ.WARN = 1 ∧ (t.classSt setGLB 2).inFault = true ∧ t.thermtrip = (s.thermtrip || smGet s.cut.balls 2 1 == 1) ∧
    t = { s with
      out := t.out, regs := t.regs, heads := t.heads, wit := t.wit, flt := t.flt, thermtrip := t.thermtrip
      boot := { s.boot with fatal := t.boot.fatal }
      spn := { s.spn with withdrawn := t.spn.withdrawn, ageSeq := t.spn.ageSeq, links := t.spn.links }
        } ∧ RegsSame ([GLB_TJ.NOW, GLB_TJ.PEAK, GLB_TJ.SENSOR, GLB_TJ.WARN] ++ faultFlds) s t) ∧
  (∀ (n : Fin 9) (d : Nat) (s : State), d < 100 → exec (.tjWarn n d) s = .next s.clearOut) ∧
  (∀ (n : Fin 9) (d : Nat) (s : State), d < 120 → exec (.thermtrip n d) s = .next s.clearOut)

/-! ## Accesses of the paths (14 R349, R358; 16 R402; 20 R456) -/

/-- Accesses of a path that do not reach the Bench, shown on commands of every kind that a path carries: from a head whose link is not up an access does
nothing; while the device is in P1 to P3 it waits and raises its wake trigger; on the sideband it is answered Unsupported while the Bench is not up. -/
def Obligations.AccessesThatDoNotReachTheBench : Prop :=
  (∀ (c : Instr) (p : Path) (s : State), c ∈ [.cutRead p, .secNonce p, .cutRecut p, .warmReset p, .keyQuery p 0, .fwAdvance p, .dbgLock p, .cutAdvance p,
      .pmuClear p, .inlIeWrite p 0, .dyePop p] → p = .sideband → s.benchUp = false → exec c s = .next { s with out := [.reply .sideband .unsupported []] }) ∧
  (∀ (c : Instr) (h : Head) (s : State), c ∈ [.cutRead (.head h), .witInfo (.head h), .secNonce (.head h), .cutRecut (.head h), .warmReset (.head h),
      .keyQuery (.head h) 0, .fwAdvance (.head h), .dbgLock (.head h), .cutAdvance (.head h), .pmuClear (.head h), .inlIeWrite (.head h) 0, .dyePop (.head h)] →
    s.linkReady h.val = false → exec c s = .next { s with out := [] }) ∧
  (∀ (c : Instr) (h : Head) (s : State), c ∈ [.cutRead (.head h), .witInfo (.head h), .secNonce (.head h), .cutRecut (.head h), .warmReset (.head h),
      .keyQuery (.head h) 0, .fwAdvance (.head h), .dbgLock (.head h), .cutAdvance (.head h), .pmuClear (.head h), .inlIeWrite (.head h) 0, .dyePop (.head h)] →
    s.linkReady h.val = true → s.asleep = true →
    exec c s = .next { s with out := [], pwr := { s.pwr with held := s.pwr.held ++ [.cmd c], latched := some (1, h.val) } })

/-! ## Heads (04) -/

/-- `PERSTn_N` released outside a wake or entry: the head is out of reset and votes P0; asserted on a head whose link is down: its
vote is withdrawn and its decoders are at reset (03 R71, R78; 14 R345; 20 R466). -/
def Obligations.Perst : Prop :=
  (∀ (h : Head) (s : State), (s.head h).perst = true → s.fget PWR_STATE.CUR = 0 → s.fget PWR_STATE.PHASE ≠ 1 → s.fget PWR_STATE.PHASE ≠ 3 → ∃ t,
    exec (.perstDeassert h) s = .next t ∧ t.head h = { s.head h with perst := false, waking := true, d3cold := false } ∧
    (∀ k, k ≠ h.val → t.head k = s.head k) ∧ t = { s with out := [], heads := t.heads }) ∧
  (∀ (h : Head) (s : State), (s.head h).perst = false → exec (.perstDeassert h) s = .next s.clearOut) ∧
  (∀ (h : Head) (s : State), (s.head h).perst = false → s.linkReady h.val = false → ∃ t, exec (.perstAssert h) s = .next t ∧ (t.head h).perst = true ∧
    (t.head h).waking = false ∧ t.fget PWR_CMD.VOTE h = 0 ∧ (∀ n, n < 32 → t.decoder (h.val * 32 + n) = {}) ∧ t.nv = s.nv ∧ t.dram = s.dram ∧
    t.ifc = s.ifc ∧ t.inl = s.inl ∧ t.slc = s.slc) ∧
  (∀ (h : Head) (s : State), (s.head h).perst = true → exec (.perstAssert h) s = .next s.clearOut)

/-- A head's link (04 R84-R86, R101, R104): up, with presence 2 and the link's rate, width and flit mode; through Recovery; into L1 and out of it in P0; with
flits corrected or replayed counted. -/
def Obligations.HostLinks : Prop :=
  (∀ (h : Head) (r : Fin 6) (w : Fin 32) (f : Bool) (n : Fin 3) (s : State), s.mayTrain h r w f = true → ∃ t, exec (.hostLinkUp h r w f n) s = .next t ∧
    (t.head h).presence = 2 ∧ (t.head h).waking = false ∧ (t.head h).memActive = decide (13 ≤ s.boot.step) ∧ t.fget HP_LINK.UP h = 1 ∧
    t.fget HP_LINK.RATE h = r.val ∧ t.fget HP_LINK.WIDTH h = w.val ∧ t.fget HP_LINK.FLIT256 h = f.toNat ∧ t.fget HP_LINK.LTSSM h = 3 ∧
    t = { s with out := t.out, regs := t.regs, heads := t.heads } ∧ RegsSame ([HP_LINK.FLIT256, HP_LINK.LTSSM, HP_LINK.RATE, HP_LINK.RETIMERS, HP_LINK.UP,
      HP_LINK.WIDTH, MS_PRESCHG.CHG]) s t) ∧
  (∀ (h : Head) (s : State), s.linkReady h.val = true → exec (.hostLinkRecovery h) s = .next (s.clearOut.finc HP_LINK.RECOV h)) ∧
  (∀ (h : Head) (s : State), s.linkReady h.val = true → s.fget HP_LINK.LTSSM h = 3 → exec (.linkL1Entry h) s = .next (s.clearOut.fset HP_LINK.LTSSM h 5)) ∧
  (∀ (h : Head) (s : State), s.linkReady h.val = true → s.fget HP_LINK.LTSSM h = 5 → s.fget PWR_STATE.CUR = 0 → s.fget PWR_STATE.PHASE ≠ 1 →
    s.fget PWR_STATE.PHASE ≠ 3 → exec (.linkL1Exit h) s = .next (s.clearOut.fset HP_LINK.LTSSM h 3)) ∧
  (∀ (h : Head) (s : State), s.linkReady h.val = true → ∃ t, exec (.hostFlitReplay h true) s = .next t ∧
    t.fget HP_ERRCNT.FEC_CORR h = min (2 ^ HP_ERRCNT.FEC_CORR.width - 1) (s.fget HP_ERRCNT.FEC_CORR h + 1) ∧
    t = { s with out := t.out, regs := t.regs, heads := t.heads } ∧ RegsSame ([HP_ERRCNT.FEC_CORR] ++ pmuFlds) s t) ∧
  (∀ (h : Head) (s : State), s.linkReady h.val = true → ∃ t, exec (.hostFlitReplay h false) s = .next t ∧
    t.fget HP_ERRCNT.REPLAY h = min (2 ^ HP_ERRCNT.REPLAY.width - 1) (s.fget HP_ERRCNT.REPLAY h + 1) ∧
    t = { s with out := t.out, regs := t.regs, heads := t.heads } ∧ RegsSame ([HP_ERRCNT.REPLAY] ++ pmuFlds) s t)

/-- A link that goes down after the PME_Turn_Off exchange leaves with notice: presence 1 and link registers at reset, with no memory active; one that goes without
it is a surprise removal: presence 3, cleanup begun and counted; cleanup complete, the removal is reported as HP class 2 and the presence becomes 1 (04 R101, R103).
The presence is stated of a device with no line, request, snoop or template of the head in progress. PME_Turn_Off of a head that no directory entry names and that
has no snoop outstanding is answered with PME_TO_Ack at once and leaves the notice; otherwise the lines wait for their back-invalidation (04 R102). -/
def Obligations.LinkLossAndTurnOff : Prop :=
  (∀ (h : Head) (s : State), s.linkReady h.val = true → (s.head h).notice = true → ∃ t, exec (.linkDownWithNotice h) s = .next t ∧
    t.fget HP_LINK.UP h = 0 ∧ t.fget HP_LINK.LTSSM h = 0 ∧ (t.head h).notice = false ∧ (t.head h).memActive = false ∧ (t.head h).turnOff = none ∧
    (s.coh = {} → s.dec.templates = [] → s.spn.snoops = [] → (s.head h).tags = [] → (t.head h).presence = 1)) ∧
  (∀ (h : Head) (s : State), s.linkReady h.val = true → (s.head h).notice = false → ∃ t, exec (.surpriseRemoval h) s = .next t ∧
    t.fget HP_LINK.UP h = 0 ∧ t.fget HP_LINK.LTSSM h = 0 ∧ (t.head h).memActive = false ∧ (t.head h).turnOff = none ∧ t.fget HP_SURPRISE.CLEANUP h = 1 ∧
    t.fget COH_SCAN.ACTIVE = 1 ∧ t.fget COH_SCAN.HEAD = h.val ∧
    t.fget HP_SURPRISE.COUNT h = min (2 ^ HP_SURPRISE.COUNT.width - 1) (s.fget HP_SURPRISE.COUNT h + 1) ∧
    (s.coh = {} → s.dec.templates = [] → s.spn.snoops = [] → (s.head h).tags = [] → (t.head h).presence = 3)) ∧
  (∀ (h : Head) (s : State), (s.head h).presence = 3 → (s.head h).draining = [] → s.scanOver = true → ∃ t, exec (.removalCleanupComplete h) s = .next t ∧
    (t.head h).presence = 1 ∧ (t.head h).poisoned = 0 ∧ t.fget HP_SURPRISE.CLEANUP h = 0 ∧ t.fget COH_SCAN.ACTIVE = 0 ∧ (t.classSt setHP 2).inFault = true ∧
    t = { s with
      out := t.out, regs := t.regs, heads := t.heads, wit := t.wit, flt := t.flt, boot := { s.boot with fatal := t.boot.fatal }
      spn := { s.spn with withdrawn := t.spn.withdrawn, ageSeq := t.spn.ageSeq, links := t.spn.links }
        } ∧ RegsSame ([COH_SCAN.ACTIVE, HP_SURPRISE.CLEANUP, MS_PRESCHG.CHG] ++ faultFlds) s t) ∧
  (∀ (h : Head) (s : State), s.admits (.head h) = true → (s.head h).turnOff = none → s.linesNaming (s.localPtr h) = [] → s.sentTo (s.localPtr h) = 0 → ∃ t,
    exec (.pmeTurnOff h) s = .next t ∧ t.out = [.pmeToAck h] ∧ t.head h = { s.head h with turnOff := none, notice := true } ∧
    (∀ k, k ≠ h.val → t.head k = s.head k) ∧ t = { s.onAccess (.head h) with out := t.out, heads := t.heads }) ∧
  (∀ (h : Head) (s : State), s.admits (.head h) = true → (s.head h).turnOff = none → s.linesNaming (s.localPtr h) ≠ [] → ∃ t,
    exec (.pmeTurnOff h) s = .next t ∧ (t.head h).turnOff.isSome = true ∧ (t.head h).notice = false ∧ t.nv = s.nv ∧ t.dram = s.dram)

/-- A device-issued request that stands past the lower bound of its completion-timeout range is reported in AER (Completion Timeout), counted, and its tag
quarantined; the tag is free again four times the upper bound later; a completion in time frees it, a late one is discarded and counted, one that nothing asked for
sets AER's Unexpected Completion (04 R108). -/
def Obligations.HostCompletions : Prop :=
  (∀ (h : Head) (tag : BitVec 14) (o : Nat) (at_ : Time) (s : State), smFind? (s.head h).tags tag.toNat = some (o, at_) →
    (cfgGet (s.head h) 0x078).getLsbD 4 = false → s.elapsed at_ (usT (s.cto h).1) = true → ∃ t, exec (.completionTimeout h tag) s = .next t ∧
    smFind? (t.head h).quar tag.toNat = some (s.wclk, 0) ∧ smFind? (t.head h).tags tag.toNat = none ∧ (cfgGet (t.head h) 0x104).getLsbD 14 = true ∧
    t.fget HP_CTO.TIMEOUTS h = min (2 ^ HP_CTO.TIMEOUTS.width - 1) (s.fget HP_CTO.TIMEOUTS h + 1) ∧ t =
      { s with out := t.out, regs := t.regs, heads := t.heads, drw := t.drw } ∧ RegsSame ([DRW_STAT.STALE, HP_CTO.TIMEOUTS] ++ pmuFlds) s t) ∧
  (∀ (h : Head) (tag : BitVec 14) (at_ : Time) (why : Nat) (s : State), smFind? (s.head h).quar tag.toNat = some (at_, why) →
    s.elapsed at_ (usT (4 * (s.cto h).2)) = true → ∃ t, exec (.tagQuarantineExpiry h tag) s = .next t ∧
    t.head h = { s.head h with quar := smDel (s.head h).quar tag.toNat } ∧ (∀ k, k ≠ h.val → t.head k = s.head k) ∧ t = { s with out := [], heads := t.heads })
      ∧
  (∀ (h : Head) (tag : BitVec 14) (st : CplStatus) (o : Nat) (at_ : Time) (s : State), s.linkReady h.val = true →
    smFind? (s.head h).tags tag.toNat = some (o, at_) → ∃ t, exec (.hostCompletion h tag st) s = .next t ∧ smFind? (t.head h).tags tag.toNat = none ∧
    t = { s with out := t.out, regs := t.regs, heads := t.heads, drw := t.drw } ∧ RegsSame ([DRW_STAT.SQUASHED, DRW_STAT.STALE, HP_DROP.BMEDROP,
      HP_DROP.LATE_CPL] ++ pmuFlds) s t) ∧
  (∀ (h : Head) (tag : BitVec 14) (st : CplStatus) (at_ : Time) (s : State), s.linkReady h.val = true → smFind? (s.head h).tags tag.toNat = none →
    smFind? (s.head h).quar tag.toNat = some (at_, 0) → ∃ t, exec (.hostCompletion h tag st) s = .next t ∧ smFind? (t.head h).quar tag.toNat = none ∧
    t.fget HP_DROP.LATE_CPL h = min (2 ^ HP_DROP.LATE_CPL.width - 1) (s.fget HP_DROP.LATE_CPL h + 1) ∧ t.drw = s.drw) ∧
  (∀ (h : Head) (tag : BitVec 14) (st : CplStatus) (s : State), s.linkReady h.val = true → smFind? (s.head h).tags tag.toNat = none →
    smFind? (s.head h).quar tag.toNat = none → exec (.hostCompletion h tag st) s = .next (s.clearOut.aer h 16))

/-- Function-level reset leaves Mem_Enable, event logs, decoders and the vote, and clears D3hot, the MSI-X table and the DOE instance (04 R106; 20 R466); Bus Master
Enable cleared is clear (04 R105). -/
def Obligations.FunctionResetAndBusMaster : Prop :=
  (∀ (h : Head) (s : State), s.admits (.head h) = true → (s.head h).perst = false → ∃ t, exec (.initiateFlr h) s = .next t ∧ (t.head h).d3hot = false ∧
    (t.head h).msix = [] ∧ (t.head h).doe = [] ∧ (t.head h).logs = (s.head h).logs ∧ memEnable (t.head h) = memEnable (s.head h) ∧ busMaster (t.head h) = false
      ∧ t.dec = s.dec ∧
    t.fget PWR_CMD.VOTE h = s.fget PWR_CMD.VOTE h ∧ t.nv = s.nv ∧ t.dram = s.dram) ∧
  (∀ (h : Head) (s : State), s.admits (.head h) = true → busMaster (s.head h) = true → ∃ t, exec (.bmeClear h) s = .next t ∧ busMaster (t.head h) = false ∧
    t.nv = s.nv ∧ t.dram = s.dram ∧ t.dec = s.dec ∧ t.coh = s.coh)

/-- Configuration space (04 R87, R90, R106): a write while an FLR completes is answered with Configuration Request Retry Status and does nothing; the identity dword
does not change; an ordinary dword takes the bits that are writable; PowerState 0 and 3 are taken, 1 and 2 ignored. -/
def Obligations.ConfigurationWrites : Prop :=
  (∀ (h : Head) (off : BitVec 12) (val : Word) (be : BitVec 4) (s : State), s.admits (.head h) = true → off.toNat % 4 = 0 → (s.head h).crs = true →
    exec (.configWrite h off val be) s = .next { s.onAccess (.head h) with out := [.cfgErr h] }) ∧
  (∀ (h : Head) (val : Word) (be : BitVec 4) (s : State), s.admits (.head h) = true → (s.head h).crs = false → ∃ t,
    exec (.configWrite h 0x000 val be) s = .next t ∧ cfgGet (t.head h) 0x000 = cfgGet (s.head h) 0x000 ∧ t = { s.onAccess (.head h) with heads := t.heads }) ∧
  (∀ (h : Head) (off : BitVec 12) (val : Word) (be : BitVec 4) (s : State), s.admits (.head h) = true → (s.head h).crs = false → off.toNat % 4 = 0 →
    off.toNat ∉ [0x004, 0x044, 0x058, 0x090, 0x238, 0x240] → (off.toNat < 0x33C ∨ 0x358 ≤ off.toNat) → ∃ t, exec (.configWrite h off val be) s = .next t ∧
    cfgGet (t.head h) off.toNat = cfgAfter (cfgGet (s.head h) off.toNat) off.toNat val (dwordMask be) ∧
    (∀ n, n ≠ off.toNat → cfgGet (t.head h) n = cfgGet (s.head h) n) ∧ (∀ k, k ≠ h.val → t.head k = s.head k) ∧ t =
      { s.onAccess (.head h) with heads := t.heads }) ∧
  (∀ (h : Head) (st : Fin 4) (s : State), s.admits (.head h) = true → (st = 0 ∨ st = 3) → ∃ t, exec (.powerStateWrite h st) s = .next t ∧
    t.head h = { s.head h with d3hot := decide (st = 3) } ∧ (∀ k, k ≠ h.val → t.head k = s.head k) ∧ t = { s.onAccess (.head h) with heads := t.heads }) ∧
  (∀ (h : Head) (st : Fin 4) (s : State), s.admits (.head h) = true → (st = 1 ∨ st = 2) → exec (.powerStateWrite h st) s = .next (s.onAccess (.head h)))

/-- An MSI-X vector that is unmasked has its mask clear (04 R94); the DOE instance answers Discovery and Table Access and is reset by Abort, an object above 32 KiB gets
the error bit (04 R97); a press of the attention button sets LATCH in every copy (04 R100). -/
def Obligations.MsixDoeAttention : Prop :=
  (∀ (h : Head) (v : Fin 2048) (s : State), s.admits (.head h) = true → memSpace (s.head h) = true → ∃ t, exec (.msixUnmask h v) s = .next t ∧
    (msixEntry (t.head h) v).mask = false ∧ t = { s.onAccess (.head h) with out := t.out, heads := t.heads }) ∧
  (∀ (h : Head) (s : State), s.admits (.head h) = true → ∃ t, exec (.doeAbort h) s = .next t ∧ t.head h = { s.head h with doe := [] } ∧
    (∀ k, k ≠ h.val → t.head k = s.head k) ∧ t = { s.onAccess (.head h) with heads := t.heads }) ∧
  (∀ (h : Head) (s : State), s.admits (.head h) = true → exec (.doeDiscovery h 0) s = .next { s.onAccess (.head h) with out := [.doe h [1, 0, 1]] } ∧
    exec (.doeDiscovery h 1) s = .next { s.onAccess (.head h) with out := [.doe h [1, 1, 2]] } ∧
    exec (.doeDiscovery h 2) s = .next { s.onAccess (.head h) with out := [.doe h [1, 2, 3]] } ∧
    exec (.doeDiscovery h 3) s = .next { s.onAccess (.head h) with out := [.doe h [0x1E98, 2, 0]] }) ∧
  (∀ (h : Head) (n : BitVec 16) (len : Nat) (s : State), s.admits (.head h) = true → len ≤ 32768 →
    exec (.cxlTableAccess h n len) s = .next { s.onAccess (.head h) with out := [.doe h (Config.cdat n.toNat len)] }) ∧
  (∀ (h : Head) (n : BitVec 16) (len : Nat) (s : State), s.admits (.head h) = true → 32768 < len →
    exec (.cxlTableAccess h n len) s = .next { s.onAccess (.head h) with out := [.cfgErr h] }) ∧
  (∀ s : State, ∃ t, exec .attnPress s = .next t ∧ (∀ m, m < 17 → t.fget MS_ATTN.LATCH m = 1) ∧ t = { s with out := t.out, regs := t.regs, heads := t.heads } ∧
    RegsSame ([MS_ATTN.LATCH]) s t)

/-! ## The inrush and fuse controller (15; 04 R99) -/

/-- A sample reaches `IFC_MEAS`; with `VOUT` at the power-good level the charge phase gives way to qualify; qualified, the controller is ON (state 2) with `IFC_PG` high; in
ON a step counts the curve timers, and the state stays 2 while all are zero, else it is 3 (15 R366, R369-R371). -/
def Obligations.FuseControllerRamp : Prop :=
  (∀ (x : IfcSample) (s : State), s.ifc.armed = false → s.fget IFC_STATUS.MODEL = 0 → ∃ t, exec (.ifcSampleStep x) s = .next t ∧
    t.fget IFC_MEAS.I = min 0xFFFF (x.ma / 10) ∧ t.fget IFC_MEAS.VOUT = min 0xFFFF x.voutMv ∧
    t = { s with out := [], regs := t.regs, ifc := { s.ifc with vin := x.vinMv, ref := x.refHalfC } } ∧ RegsSame [IFC_MEAS.I, IFC_MEAS.VOUT] s t) ∧
  (∀ (x : IfcSample) (s : State), s.ifc.armed = true → s.ifcHot = false → s.ifcSt = 1 → s.fget IFC_STATUS.PHASE = 0 → s.fget IFC_STATUS.MODEL = 0 →
    s.fget IFC_PGCFG.PG_MV ≤ x.voutMv → ∃ t, exec (.ifcSampleStep x) s = .next t ∧ t.fget IFC_STATUS.PHASE = 1 ∧ t.ifcSt = 1 ∧
    t.ifc = { s.ifc with vin := x.vinMv, ref := x.refHalfC, timers := [0, 0, 0, 0, 0, 0, 0, 0], qual := 0, ramp := 0, under := 0, fromOn := false } ∧
    t = { s with out := [], regs := t.regs, ifc := t.ifc } ∧ RegsSame [IFC_MEAS.I, IFC_MEAS.VOUT, IFC_STATUS.PHASE] s t) ∧
  (∀ s : State, s.ifcCause = none → s.ifcSt = 1 → s.fget IFC_STATUS.PHASE = 1 → s.ifc.timers.all (· == 0) = true →
    4 * max 1 (s.fget IFC_PGCFG.PG_QUAL_US) ≤ s.ifc.qual → ∃ t, exec .pgQualified s = .next t ∧ t.ifcSt = 2 ∧ t.ifcPg = true ∧ t.fget IFC_STATUS.PHASE = 0 ∧
    (∀ m, m < 17 → t.fget MS_POWER.CHG m = 1) ∧ t = { s with out := t.out, regs := t.regs, heads := t.heads } ∧
    RegsSame [IFC_STATUS.STATE, IFC_STATUS.PG, IFC_STATUS.PHASE, MS_POWER.CHG] s t) ∧
  (∀ (x : IfcSample) (s : State), s.ifc.armed = true → s.ifcHot = false → s.ifcSt = 2 → s.ifcPg = true → s.fget IFC_STATUS.MODEL = 0 → ∃ t, exec
    (.ifcSampleStep x) s = .next t ∧
    t.ifc.timers = s.ifcTimersStep x.ma ∧ t.ifcPg = true ∧ t.ifcSt = (if (s.ifcTimersStep x.ma).all (· == 0) then 2 else 3) ∧ t.dram = s.dram ∧ t.nv = s.nv)

/-- A trip (15 R370-R374): each cause that holds while the FET may conduct leaves state 4 with its cause, the highest of those that hold, `IFC_PG` low and the main rails gone,
with the trip counted and reported as IFC class 1; a trip on temperature takes the sample step after T_FET reached its limit, with cause 2 (15 R366). -/
def Obligations.FuseControllerTrips : Prop :=
  (∀ (c : Instr) (n : Nat) (s : State), (c, n) ∈ [(Instr.curveTrip, 3), (.rampTimerExpiry, 4), (.undervoltTrip, 5), (.fastTrip, 1), (.pgQualified, 9)] →
    s.ifcOn = true → s.boot.railsLost = false → (n = 3 → s.ifcCurve = true) → (n = 4 → s.ifcRampOver = true) → (n = 5 → s.ifcUnder = true) →
    (n = 9 → s.ifcCause ≠ none) → ∃ t, exec c s = .next t ∧ t.fget IFC_STATUS.CAUSE = (if n = 1 then 1 else s.ifcCause.getD n) ∧ t.ifcSt = 4 ∧ t.ifcPg = false ∧
    t.fget IFC_STATUS.PHASE = 0 ∧ t.fget IFC_TRIPS.TRIPS = min (2 ^ IFC_TRIPS.TRIPS.width - 1) (s.fget IFC_TRIPS.TRIPS + 1) ∧
    t.ifc.timers = [0, 0, 0, 0, 0, 0, 0, 0] ∧ t.boot.railsLost = true ∧ t.boot.step = 3 ∧ t.dram = [] ∧ t.coh = {} ∧ t.wclk = s.wclk ∧ t.nv = s.nv) ∧
  (∀ (x : IfcSample) (s : State), s.ifc.armed = true → s.ifcHot = true → s.fget IFC_STATUS.MODEL = 0 → s.boot.railsLost = false → ∃ t,
    exec (.ifcSampleStep x) s = .next t ∧ t.fget IFC_STATUS.CAUSE = 2 ∧ t.ifcSt = 4 ∧ t.ifcPg = false ∧ t.boot.railsLost = true ∧ t.nv = s.nv)

/-- The remote diode gives T_FET; the third open or short reading in a row abandons it: the model takes over from half of `TFET_MAX`, and IFC class 3 is raised
(15 R367, R368). -/
def Obligations.FetTemperature : Prop :=
  (∀ (v : Int) (s : State), s.fget IFC_STATUS.MODEL = 0 → ∃ t, exec (.diodeMeasure (some v)) s = .next t ∧ t.fget IFC_TEMP.TFET = (v % 65536).toNat ∧
    t = { s with out := [], regs := t.regs, ifc := { s.ifc with tfet := v, diodeBad := 0 } } ∧ RegsSame [IFC_TEMP.TFET] s t) ∧
  (∀ s : State, s.fget IFC_STATUS.MODEL = 0 → s.ifc.diodeBad < 2 →
    exec (.diodeMeasure none) s = .next { s with out := [], ifc := { s.ifc with diodeBad := s.ifc.diodeBad + 1 } }) ∧
  (∀ s : State, s.fget IFC_STATUS.MODEL = 0 → 2 ≤ s.ifc.diodeBad → ∃ t, exec (.diodeMeasure none) s = .next t ∧ t.fget IFC_STATUS.MODEL = 1 ∧ t.ifc.diodeDead =
    true ∧
    t.ifc.tfet = (s.fget IFC_TEMP.TFET_MAX / 2 : Nat) ∧ (t.classSt setIFC 3).inFault = true ∧ t = { s with
      out := t.out, regs := t.regs, heads := t.heads, ifc := t.ifc, wit := t.wit, flt := t.flt, boot := { s.boot with fatal := t.boot.fatal }
      spn := { s.spn with withdrawn := t.spn.withdrawn, ageSeq := t.spn.ageSeq, links := t.spn.links }
        } ∧ RegsSame ([IFC_STATUS.MODEL, IFC_TEMP.TFET] ++ faultFlds) s t)

/-- `IFC_EN`, HOLD and rearm (15 R369, R374-R376; 04 R99): `IFC_EN` low turns the gate off with no trip; high it starts the ramp when nothing holds it; low for 1 ms it also
clears HOLD and rearms state 4; the REARM sequence rearms 1 ms after it is asked for; a rearm raises IFC class 4. -/
def Obligations.FuseControllerEnableAndRearm : Prop :=
  (∀ s : State, s.ifc.en = true → s.ifcCause = none → s.ifcOn = true → s.boot.railsLost = false → ∃ t, exec .ifcEnFall s = .next t ∧ t.ifc.en = false ∧
    t.ifc.lowFrom = some s.wclk ∧ t.ifcSt = 0 ∧ t.ifcPg = false ∧ t.boot.railsLost = true ∧ t.fget IFC_STATUS.CAUSE = s.fget IFC_STATUS.CAUSE ∧ t.dram = [] ∧
      t.nv = s.nv) ∧
  (∀ s : State, s.ifc.en = false → s.ifc.lowFrom = none → s.ifc.armed = true → s.ifcSt = 0 → s.fget IFC_CTL.HOLD = 0 → s.ifc.dry = false →
    s.ifc.tfet + 40 ≤ (s.fget IFC_TEMP.TFET_MAX : Int) → ∃ t, exec .ifcEnRise s = .next t ∧ t.ifc.en = true ∧ t.ifcSt = 1 ∧ t.fget IFC_STATUS.PHASE = 0 ∧
    t.fget IFC_STATUS.COOLING = 0 ∧ t = { s with out := t.out, regs := t.regs, heads := t.heads, ifc := t.ifc } ∧
    RegsSame [IFC_STATUS.COOLING, IFC_STATUS.PHASE, IFC_STATUS.STATE, IFC_STATUS.PG, MS_POWER.CHG] s t) ∧
  (∀ (at_ : Time) (s : State), s.ifc.en = false → s.ifc.lowFrom = some at_ → at_ + 4000 ≤ s.wclk → s.ifcSt = 4 → ∃ t, exec .ifcEnRise s = .next t ∧
    t.fget IFC_CTL.HOLD = 0 ∧ t.ifcSt ≤ 1 ∧ (t.classSt setIFC 4).inFault = true ∧ t = { s with
      out := t.out, regs := t.regs, heads := t.heads, ifc := t.ifc, wit := t.wit, flt := t.flt, boot := { s.boot with fatal := t.boot.fatal }
      spn := { s.spn with withdrawn := t.spn.withdrawn, ageSeq := t.spn.ageSeq, links := t.spn.links }
        } ∧ RegsSame ([IFC_CTL.HOLD, IFC_CTL.REARM, IFC_STATUS.COOLING, IFC_STATUS.PG, IFC_STATUS.PHASE, IFC_STATUS.STATE, MS_POWER.CHG] ++ faultFlds) s t) ∧
  (∀ (p : Path) (s : State), s.admin p = true → s.wellPath p = true → s.ifcSt = 4 → s.ifc.rearmFrom = none →
    exec (.ifcRearm p) s = .next { (s.clearOut.fset IFC_CTL.REARM 0 1) with ifc := { s.ifc with rearmFrom := some s.wclk } }) ∧
  (∀ (p : Path) (s : State), s.ifcSt ≠ 4 → exec (.ifcRearm p) s = .next s.clearOut) ∧
  (∀ (at_ : Time) (s : State), s.ifc.rearmFrom = some at_ → at_ + 4000 ≤ s.wclk → s.ifcSt = 4 → ∃ t, exec .rearmHoldEnd s = .next t ∧ t.fget IFC_CTL.REARM = 0 ∧
    t.ifc.rearmFrom = none ∧ t.ifcSt ≤ 1 ∧ (t.classSt setIFC 4).inFault = true ∧ t = { s with
      out := t.out, regs := t.regs, heads := t.heads, ifc := t.ifc, wit := t.wit, flt := t.flt, boot := { s.boot with fatal := t.boot.fatal }
      spn := { s.spn with withdrawn := t.spn.withdrawn, ageSeq := t.spn.ageSeq, links := t.spn.links }
        } ∧ RegsSame ([IFC_CTL.REARM, IFC_STATUS.COOLING, IFC_STATUS.PG, IFC_STATUS.PHASE, IFC_STATUS.STATE, MS_POWER.CHG] ++ faultFlds) s t)

/-- HOLD written by a management path turns the gate off with no trip, and cleared lets it ramp again, once the FET is 40 degrees below its limit; `MS_POWER.CMD` = 1 sets HOLD and turns the gate off 1 ms later, = 2
asks for the REARM sequence in state 4 (15 R376; 04 R99). -/
def Obligations.FuseControllerHold : Prop :=
  (∀ (p : Path) (s : State), s.wellPath p = true → s.ifcOn = true → s.boot.railsLost = false → ∃ t, exec (.ifcHold p true) s = .next t ∧ t.fget IFC_CTL.HOLD =
    1 ∧
    t.ifcSt = 0 ∧ t.ifcPg = false ∧ t.boot.railsLost = true ∧ t.dram = [] ∧ t.nv = s.nv) ∧
  (∀ (p : Path) (s : State), s.wellPath p = true → s.ifcSt ≠ 0 → exec (.ifcHold p false) s =
    .next { (s.clearOut.fset IFC_CTL.HOLD 0 0) with ifc := { s.ifc with offFrom := none } }) ∧
  (∀ (p : Path) (s : State), s.wellPath p = true → s.ifcSt = 0 → s.ifc.armed = true → s.ifc.en = true → s.ifc.dry = false → ∃ t, exec (.ifcHold p false) s =
    .next t ∧ t.fget IFC_CTL.HOLD = 0 ∧
    (s.ifc.tfet + 40 ≤ (s.fget IFC_TEMP.TFET_MAX : Int) → t.ifcSt = 1) ∧ ((s.fget IFC_TEMP.TFET_MAX : Int) < s.ifc.tfet + 40 → t.ifcSt = 0 ∧ t.fget
      IFC_STATUS.COOLING = 1) ∧ t.nv = s.nv ∧ t.dram = s.dram) ∧
  (∀ (p : Path) (s : State), s.admits p = true → s.admin p = true → s.ifcOn = true → s.ifc.offFrom = none →
    exec (.msPowerGateOff p) s = .next { ((s.onAccess p).fset IFC_CTL.HOLD 0 1) with ifc := { s.ifc with offFrom := some s.wclk } }) ∧
  (∀ (p : Path) (s : State), s.admin p = true → s.wellPath p = true → s.fget PWR_STATE.CUR ≠ 4 → s.ifcSt = 4 → s.ifc.rearmFrom = none →
    exec (.msPowerRearm p) s = .next { (s.clearOut.fset IFC_CTL.REARM 0 1) with ifc := { s.ifc with rearmFrom := some s.wclk } })

/-! ## Power states (14) -/

/-- Votes (14 R345): a head's vote of P0 to P2 is taken while its link is up, higher values are ignored; the sideband's vote takes every value but 5 and 6, and other paths
do not write it. -/
def Obligations.PowerVotes : Prop :=
  (∀ (h : Head) (v : BitVec 3) (s : State), s.linkReady h.val = true → v.toNat ≤ 2 → exec (.pwrCmdVote h v) s = .next (s.clearOut.fset PWR_CMD.VOTE h v.toNat))
    ∧
  (∀ (h : Head) (v : BitVec 3) (s : State), 2 < v.toNat → exec (.pwrCmdVote h v) s = .next s.clearOut) ∧
  (∀ (v : BitVec 3) (s : State), v ≠ 5 → v ≠ 6 → exec (.pwrSbvoteWrite .sideband v) s = .next (s.clearOut.fset PWR_SBVOTE.VOTE 0 v.toNat)) ∧
  (∀ (p : Path) (v : BitVec 3) (s : State), p ≠ .sideband ∨ v = 5 ∨ v = 6 → exec (.pwrSbvoteWrite p v) s = .next s.clearOut)

/-- Entry (14 R355, R356): drained, the entry commits to its state with PHASE 0; in P1 (Trickle) and below the on-demand clocks stop, from P2 (Still) on the channels in service
stand in self-refresh; memory contents stay through P1 to P3. At ENTRY_MAX running operations stop, and at four times ENTRY_MAX the entry is given up. -/
def Obligations.PowerEntry : Prop :=
  (∀ s : State, s.fget PWR_STATE.PHASE = 1 → s.entryDrained = true → s.pwr.goal = 1 → ∃ t, exec .entryCommit s = .next t ∧ t.fget PWR_STATE.CUR = 1 ∧
    t.fget PWR_STATE.PHASE = 0 ∧ (∀ u, u < 3 → smGet t.boot.units u 0 = 0) ∧ (∀ c ∈ s.chansIn 2, t.fget DMC_STATUS.PPD c = 1) ∧
    t = { s with out := t.out, regs := t.regs, heads := t.heads, boot := { s.boot with units := t.boot.units, unitIdle := t.boot.unitIdle },
                 chans := t.chans, drw := { s.drw with ops := t.drw.ops } } ∧
    RegsSame ([PWR_STATE.CUR, PWR_STATE.PHASE, PWR_COUNT.ENTRIES, DMC_STATUS.PPD] ++ pmuFlds) s t) ∧
  (∀ s : State, s.fget PWR_STATE.PHASE = 1 → s.entryDrained = true → (s.pwr.goal = 2 ∨ s.pwr.goal = 3) → ∃ t, exec .entryCommit s = .next t ∧
    t.fget PWR_STATE.CUR = s.pwr.goal ∧ t.fget PWR_STATE.PHASE = 0 ∧ (∀ u, u < 3 → smGet t.boot.units u 0 = 0) ∧
    (∀ c ∈ s.chansIn 2, t.fget DMC_STATUS.STATE c = 3 ∧ (t.chan c).canaries = true) ∧ (s.pwr.goal = 3 → t.pwr.saved = true ∧ t.press.hcache = []) ∧
    t.dram = s.dram ∧ t.nv = s.nv ∧ t.inl = s.inl ∧ t.coh = s.coh ∧ t.cut = s.cut ∧ t.ifc = s.ifc ∧ t.tb = s.tb ∧ t.wclk = s.wclk) ∧
  (∀ s : State, s.fget PWR_STATE.PHASE = 1 → s.entryDrained = true → s.pwr.goal = 4 → s.boot.railsLost = false → ∃ t, exec .entryCommit s = .next t ∧
    t.fget PWR_STATE.CUR = 4 ∧ t.ifc.dry = true ∧ t.ifcSt = 0 ∧ t.ifcPg = false ∧ t.boot.railsLost = true ∧ t.dram = [] ∧ (∀ k, k ≠ 0 → (t.slot k).state = 0) ∧
    t.fget GLB_HEADS.ENABLED = s.fget GLB_HEADS.ENABLED % 65536 ∧ t.fget PWR_SBVOTE.VOTE = s.fget PWR_SBVOTE.VOTE % 8 ∧ t.nv = s.nv ∧ t.wclk = s.wclk) ∧
  (∀ s : State, s.fget PWR_STATE.PHASE = 1 → s.entryDrained = false → exec .entryCommit s = .next s.clearOut) ∧
  (∀ s : State, s.fget PWR_STATE.PHASE = 1 → s.elapsed s.pwr.entryFrom (4 * max 10 (s.fget PWR_CTL.ENTRY_MAX_US)) = true → exec .entryMaxExpiry s =
    .next { s with out := [], drw := { s.drw with ops := smMap s.drw.ops fun _ o => { o with stopped := true } } }) ∧
  (∀ s : State, s.fget PWR_STATE.PHASE = 1 → s.elapsed s.pwr.entryFrom (16 * max 10 (s.fget PWR_CTL.ENTRY_MAX_US)) = true → ∃ t, exec .entryAbandon s = .next t
    ∧
    t.fget PWR_STATE.PHASE = 4 ∧ t.fget PWR_COUNT.ABORTS = min (2 ^ PWR_COUNT.ABORTS.width - 1) (s.fget PWR_COUNT.ABORTS + 1) ∧
    (t.classSt setPWR 1).inFault = true ∧ t.dram = s.dram ∧ t.nv = s.nv ∧ t.coh = s.coh ∧ t.pwr = s.pwr)

/-- Wake triggers (14 R347, R349, R350, R357): in P2 and P3 each source starts the wake at step 1 and sets its `PWR_WAKESRC` bit, in P1 each but the Span pattern; during an entry not yet committed a trigger
aborts it; in P0 nothing wakes. Under SMBus an address match is acknowledged and `SB_SCL` held; 2.1 ms later it is released and the rest answered with NACK. -/
def Obligations.WakeTriggers : Prop :=
  (∀ (src : Fin 7) (h : Head) (s : State), src ≠ 0 → (s.fget PWR_STATE.CUR = 2 ∨ s.fget PWR_STATE.CUR = 3) → s.fget PWR_STATE.PHASE = 0 → s.pwr.failed = false
    → ∃ t,
    exec (.wakeTrigger src h) s = .next t ∧ t.fget PWR_STATE.PHASE = 3 ∧ t.fget PWR_STATE.SRC = src.val ∧
    (∀ f, wakeBit src.val = some f → t.fget f = 1) ∧
    t.pwr = { s.pwr with wakeStep := 1, stepFrom := s.wclk, rerun := false, wakeNs := 0, goal := s.fget PWR_STATE.CUR } ∧
    t = { s with out := t.out, regs := t.regs, heads := t.heads, pwr := t.pwr }) ∧
  (∀ (src : Fin 7) (h : Head) (s : State), s.fget PWR_STATE.CUR = 1 → s.fget PWR_STATE.PHASE = 0 → s.pwr.failed = false →
    (src ≠ 0 → src ≠ 3 → ∃ t, exec (.wakeTrigger src h) s = .next t ∧ t.fget PWR_STATE.PHASE = 3 ∧ t.fget PWR_STATE.SRC = src.val ∧ (∀ f, wakeBit src.val =
      some f → t.fget f = 1) ∧
      t.pwr.wakeStep = 1 ∧ t.dram = s.dram ∧ t.nv = s.nv ∧ t.coh = s.coh) ∧
    (src = 0 ∨ src = 3 → exec (.wakeTrigger src h) s = .next s.clearOut)) ∧
  (∀ (src : Fin 7) (h : Head) (s : State), src ≠ 0 → s.fget PWR_STATE.PHASE = 1 → ∃ t, exec (.wakeTrigger src h) s = .next t ∧ t.fget PWR_STATE.PHASE = 4 ∧
    t.fget PWR_COUNT.ABORTS = min (2 ^ PWR_COUNT.ABORTS.width - 1) (s.fget PWR_COUNT.ABORTS + 1) ∧ t.pwr = s.pwr ∧ t.dram = s.dram ∧ t.coh = s.coh ∧ t.nv =
      s.nv) ∧
  (∀ (src : Fin 7) (h : Head) (s : State), s.fget PWR_STATE.CUR = 0 → s.fget PWR_STATE.PHASE ≠ 1 → s.fget PWR_STATE.PHASE ≠ 3 →
    exec (.wakeTrigger src h) s = .next s.clearOut) ∧
  (∀ (i3c : Bool) (s : State), s.fget PWR_STATE.CUR < 2 → exec (.sidebandAddressMatch i3c) s = .next { s with out := [.sbAck] }) ∧
  (∀ s : State, (s.fget PWR_STATE.CUR = 2 ∨ s.fget PWR_STATE.CUR = 3) → s.fget PWR_STATE.PHASE = 0 → s.pwr.failed = false → ∃ t,
    exec (.sidebandAddressMatch false) s = .next t ∧ .sbAck ∈ t.out ∧ t.pwr.sclHeld = true ∧ t.pwr.sclFrom = s.wclk ∧ t.fget PWR_STATE.PHASE = 3 ∧ t.fget
      PWR_WAKESRC.SB = 1) ∧
  (∀ s : State, (s.fget PWR_STATE.CUR = 2 ∨ s.fget PWR_STATE.CUR = 3) → s.fget PWR_STATE.PHASE = 0 → s.pwr.failed = false → ∃ t,
    exec (.sidebandAddressMatch true) s = .next t ∧ .sbNack ∈ t.out ∧ t.pwr.sclHeld = s.pwr.sclHeld ∧ t.fget PWR_STATE.PHASE = 3 ∧ t.fget PWR_WAKESRC.SB = 1) ∧
  (∀ s : State, s.pwr.sclHeld = true → s.pwr.sclFrom + 8400 ≤ s.wclk →
    exec .sclStretchLimit s = .next { s with out := [.sbNack], pwr := { s.pwr with sclHeld := false } })

/-- The steps of a wake (14 R351, R354): with its delay over, a step whose condition fails is rerun once, which raises PWR class 2, and fails for good the second time (class 3); a step
that succeeds gives way to the next WAKE record, and after the last the device is in P0, with the state it left in `PWR_LASTWAKE`. An excursion idle for REENTRY_US enters its target
again (14 R347); a suspect bank is no longer so when its priority scrub has ended (14 R362). -/
def Obligations.WakeStepsAndReentry : Prop :=
  (∀ (bb : List (Chan × Nat)) (bs : List (Fin 8 × Nat × Bool)) (s : State), s.fget PWR_STATE.PHASE = 3 → s.pwr.failed = false → s.pwr.rerun = false →
    s.elapsed s.pwr.stepFrom ((s.fget PWR_WSTEP.DELAY_NS s.wakeIdx + 249) / 250) = true → ∃ t, exec (.wakeStepEnd false bb bs) s = .next t ∧ t.pwr.rerun = true
      ∧
    t.pwr.failed = false ∧ t.pwr.wakeStep = s.pwr.wakeStep ∧ t.pwr.stepFrom = s.wclk ∧ t.fget PWR_STATE.PHASE = 3 ∧ (t.classSt setPWR 2).inFault = true ∧
    t.nv = s.nv ∧ t.dram = s.dram ∧ t.pwr.held = s.pwr.held) ∧
  (∀ (bb : List (Chan × Nat)) (bs : List (Fin 8 × Nat × Bool)) (s : State), s.fget PWR_STATE.PHASE = 3 → s.pwr.failed = false → s.pwr.rerun = true →
    s.elapsed s.pwr.stepFrom ((s.fget PWR_WMAX.NS s.wakeIdx + 249) / 250) = true → ∃ t, exec (.wakeStepEnd false bb bs) s = .next t ∧ t.pwr.failed = true ∧
    (t.classSt setPWR 3).inFault = true ∧ t.nv = s.nv ∧ t.dram = s.dram ∧ t.pwr.held = s.pwr.held) ∧
  (∀ s : State, s.fget PWR_STATE.PHASE = 3 → s.pwr.failed = false → s.pwr.rerun = false → s.pwr.wakeStep < 15 → s.fone PWR_WSTEP.VALID (s.wakeIdx + 1) = true →
    s.elapsed s.pwr.stepFrom ((s.fget PWR_WSTEP.DELAY_NS s.wakeIdx + 249) / 250) = true → ∃ t, exec (.wakeStepEnd true [] []) s = .next t ∧
    t.pwr.wakeStep = s.pwr.wakeStep + 1 ∧ t.pwr.stepFrom = s.wclk ∧ t.fget PWR_STATE.PHASE = 3 ∧ t.fget PWR_STATE.CUR = s.fget PWR_STATE.CUR ∧ t.nv = s.nv ∧
      t.dram = s.dram) ∧
  (∀ s : State, s.fget PWR_STATE.PHASE = 3 → s.pwr.failed = false → s.pwr.rerun = false → s.fone PWR_WSTEP.VALID (s.wakeIdx + 1) = false → s.pwr.held = [] →
    s.elapsed s.pwr.stepFrom ((s.fget PWR_WSTEP.DELAY_NS s.wakeIdx + 249) / 250) = true → ∃ t, exec (.wakeStepEnd true [] []) s = .next t ∧ t.fget
      PWR_STATE.CUR = 0 ∧
    t.fget PWR_LASTWAKE.FROM = s.fget PWR_STATE.CUR % 8 ∧ t.fget PWR_STATE.PHASE = (if s.fget PWR_STATE.TARGET = 0 then 0 else 4) ∧ t.pwr.wakeStep = 0 ∧
    t.pwr.held = [] ∧ t.nv = s.nv ∧ t.dram = s.dram) ∧
  (∀ s : State, s.fget PWR_STATE.PHASE = 4 → s.fget PWR_STATE.TARGET ≠ 0 → s.idle = true → s.slc.moves = [] → s.mayEnter = true →
    s.elapsed s.pwr.idleFrom (4 * max 1 (s.fget PWR_CTL.REENTRY_US)) = true → ∃ t, exec .reentryIdle s = .next t ∧ t.fget PWR_STATE.PHASE = 1 ∧
    t.pwr.goal = s.fget PWR_STATE.TARGET ∧ t.pwr.entryFrom = s.wclk ∧ t.dram = s.dram ∧ t.nv = s.nv ∧ t.coh = s.coh) ∧
  (∀ (c : Chan) (b : Nat) (s : State), (s.chan c).suspect.contains b = true → ∃ t, exec (.priorityScrubEnd c b) s = .next t ∧
    t.chan c = { s.chan c with suspect := (s.chan c).suspect.filter (· != b) } ∧ t.fget PWR_RETN.SUSPECT = (s.fget PWR_RETN.SUSPECT - 1) % 2 ^
      PWR_RETN.SUSPECT.width ∧
    (∀ k, k ≠ c.val → t.chan k = s.chan k) ∧ t = { s with out := t.out, regs := t.regs, chans := t.chans } ∧ RegsSame ([PWR_RETN.SUSPECT]) s t)


/-! ## Mailbox commands (02 R49-R57; 04 R88; 17 R405-R423; 20 R465) -/

/-- Every management command of a path is turned away with Busy while the firmware restarts, and with Unsupported from a path that is neither a
management head nor the sideband; the state then changes by the access and its count alone (02 R50; 20 R465). -/
def Obligations.ManagementCommandsTurnedAway : Prop :=
  (∀ (c : Instr) (p : Path) (s : State), adminPath c = some p → s.admits p = true → s.boot.fwRestart = true →
    exec c s = .next ((s.onMailbox p).reply p .busy)) ∧
  (∀ (c : Instr) (p : Path) (s : State), adminPath c = some p → s.admits p = true → s.boot.fwRestart = false → s.admin p = false →
    exec c s = .next ((s.onMailbox p).reply p .unsupported)) ∧
  (∀ (p : Path) (s : State), s.onMailbox p =
    { s with out := (s.onMailbox p).out, regs := (s.onMailbox p).regs, heads := (s.onMailbox p).heads, pwr := { s.pwr with latched := (s.onMailbox p).pwr.latched, idleFrom := s.wclk } }
    ∧ RegsSame pmuFlds s (s.onMailbox p))

/-- The Cut List commands of a management path (02 R49-R54, R57): a refused image is named in `CUT_REJECT` and answered Invalid Input (Busy for 0x12), and
the Cut List, flash and memory stay; CUT_STREAM that passes makes a cold reset with source 2 and keeps its image; CUT_APPLY_LIVE that passes commits at once, counts
PATCHES and extends the chain; CUT_WRITE_SLOT writes the slot that is not loaded; CUT_ADVANCE raises the fused counter; CUT_READ gives the image. -/
def Obligations.CutListCommands : Prop :=
  (∀ (p : Path) (img : List Byte) (f : CutFail) (s : State), s.adminReady p = true → checkImage (s.onMailbox p) .stream img = some f → ∃ t,
    exec (.cutStream p img) s = .next t ∧ .reply p (if f.code = 0x12 then .busy else .invalidInput) [] ∈ t.out ∧
    t.fget CUT_REJECT.CODE = f.code % 2 ^ CUT_REJECT.CODE.width ∧ (t.classSt setCUT 1).inFault = true ∧ t.cut = s.cut ∧ t.nv = s.nv ∧ t.dram = s.dram ∧
    t.coh = s.coh ∧ t.dec = s.dec) ∧
  (∀ (p : Path) (img : List Byte) (s : State), s.adminReady p = true → checkImage (s.onMailbox p) .stream img = none → ∃ t,
    exec (.cutStream p img) s = .next t ∧ .reply p .success [] ∈ t.out ∧ t.cut.streamed = some img ∧ t.boot = { ({} : Boot) with step := 6 } ∧
    t.fget CLK_RSTCAUSE.KIND = 1 ∧ t.fget CLK_RSTCAUSE.SOURCE = 2 ∧ t.fget CLK_RSTCAUSE.HEAD = pathHead p ∧ t.dram = [] ∧ t.coh = {} ∧ t.nv = s.nv ∧
    t.wclk = s.wclk ∧ t.ifc = s.ifc) ∧
  (∀ (p : Path) (img : List Byte) (f : CutFail) (s : State), s.adminReady p = true → checkImage (s.onMailbox p) .live img = some f → ∃ t,
    exec (.cutApplyLive p img) s = .next t ∧ .reply p (if f.code = 0x12 then .busy else .invalidInput) [] ∈ t.out ∧
    t.fget CUT_REJECT.CODE = f.code % 2 ^ CUT_REJECT.CODE.width ∧ t.sec = s.sec ∧ t.fget CUT_STATUS.PATCHES = s.fget CUT_STATUS.PATCHES ∧ t.cut = s.cut ∧
    t.nv = s.nv ∧ t.dram = s.dram ∧ t.coh = s.coh ∧ t.dec = s.dec ∧ t.slc = s.slc) ∧
  (∀ (p : Path) (img : List Byte) (s : State), s.adminReady p = true → checkImage (s.onMailbox p) .live img = none → ∃ t,
    exec (.cutApplyLive p img) s = .next t ∧ .reply p .success [] ∈ t.out ∧ t.sec.chain = chainNext s.sec.chain img ∧ t.nv = s.nv ∧ t.dram = s.dram ∧
    t.wclk = s.wclk ∧ t.boot.step = s.boot.step) ∧
  (∀ (p : Path) (img : List Byte) (b ok : Bool) (f : CutFail) (s : State), s.adminReady p = true → checkImage (s.onMailbox p) .slot img = some f → ∃ t,
    exec (.cutWriteSlot p img b ok) s = .next t ∧ .reply p (if f.code = 0x12 then .busy else .invalidInput) [] ∈ t.out ∧
    t.fget CUT_REJECT.CODE = f.code % 2 ^ CUT_REJECT.CODE.width ∧ t.nv = s.nv ∧ t.cut = s.cut) ∧
  (∀ (p : Path) (img : List Byte) (b : Bool) (s : State), s.adminReady p = true → checkImage (s.onMailbox p) .slot img = none →
    exec (.cutWriteSlot p img b true) s = .next (((s.onMailbox p).putCutSlot (writeSlot (s.fget CUT_STATUS.SOURCE) b) img).reply p .success)) ∧
  (∀ (p : Path) (img : List Byte) (b : Bool) (s : State), s.adminReady p = true → checkImage (s.onMailbox p) .slot img = none → ∃ t,
    exec (.cutWriteSlot p img b false) s = .next t ∧ .reply p .internalError [] ∈ t.out ∧ (t.classSt setCUT 4).inFault = true ∧
    t.nv = (s.putCutSlot (writeSlot (s.fget CUT_STATUS.SOURCE) b) (img.take 64)).nv ∧ t.cut = s.cut ∧ t.dram = s.dram) ∧
  (∀ (p : Path) (s : State), s.adminReady p = true → s.fget CUT_STATUS.SOURCE < 2 → exec (.cutAdvance p) s = .next
    { (s.onMailbox p).reply p .success with nv := { s.nv with cutFused := max s.nv.cutFused (s.fget CUT_VERSION.IMAGE) } }) ∧
  (∀ (p : Path) (s : State), s.adminReady p = true → 2 ≤ s.fget CUT_STATUS.SOURCE → ∃ t, exec (.cutAdvance p) s = .next t ∧
    .reply p .invalidInput [] ∈ t.out ∧ t.fget CUT_REJECT.CODE = 7 ∧ t.nv = s.nv ∧ t.cut = s.cut) ∧
  (∀ (p : Path) (s : State), s.adminReady p = true →
    exec (.cutRead p) s = .next ((s.onMailbox p).reply p .success (s.cut.image.map (·.toNat))))

/-- BOARD_WRITE writes a valid record in lifecycle BLANK to DEVELOP, refuses one that is not valid, and is Unsupported later (04 R88); FW_ADVANCE raises the
fused counter to the running firmware's ROLLBACK, FW_WRITE_SLOT writes a good image to the slot that does not run (17 R410). -/
def Obligations.BoardAndFirmwareCommands : Prop :=
  (∀ (p : Path) (rec_ : List Byte) (s : State), s.adminReady p = true → lifecycle s.nv ≤ 2 → (boardIds rec_).isSome = true →
    exec (.boardWrite p rec_) s = .next { (s.onMailbox p).reply p .success with nv := { s.nv with board := rec_ } }) ∧
  (∀ (p : Path) (rec_ : List Byte) (s : State), s.adminReady p = true → lifecycle s.nv ≤ 2 → boardIds rec_ = none →
    exec (.boardWrite p rec_) s = .next ((s.onMailbox p).reply p .invalidInput)) ∧
  (∀ (p : Path) (rec_ : List Byte) (s : State), s.adminReady p = true → 2 < lifecycle s.nv →
    exec (.boardWrite p rec_) s = .next ((s.onMailbox p).reply p .unsupported)) ∧
  (∀ (p : Path) (s : State), s.adminReady p = true → s.boot.fwUp = true → exec (.fwAdvance p) s = .next
    { (s.onMailbox p).reply p .success with nv := { s.nv with fwFused := max s.nv.fwFused (s.fget SEC_LC.FW_IMAGE) } }) ∧
  (∀ (p : Path) (img : List Byte) (b ok : Bool) (s : State), s.adminReady p = true → checkFirmware s.nv img = none → s.boot.fwUp = true → ∃ t,
    exec (.fwWriteSlot p img b ok) s = .next t ∧ fwSlotImg t.nv (if s.boot.fwSlot = 0 then 1 else 0) = slotAfter img ok ∧
    fwSlotImg t.nv s.boot.fwSlot = fwSlotImg s.nv s.boot.fwSlot ∧ .reply p (if ok then .success else .internalError) [] ∈ t.out ∧
    t = { (s.onMailbox p).reply p (if ok then .success else .internalError) with nv := { s.nv with fwA := t.nv.fwA, fwB := t.nv.fwB } }) ∧
  (∀ (p : Path) (img : List Byte) (b ok : Bool) (s : State), s.adminReady p = true → (checkFirmware s.nv img).isSome = true →
    exec (.fwWriteSlot p img b ok) s = .next ((s.onMailbox p).reply p .invalidInput))

/-- Nonce and debug session (17 R413-R420, R423): SEC_NONCE draws a nonce (a free value, assumption 4) and gives it with the serial number, and it lapses 600 s later;
an accepted DBG_UNLOCK token opens the session for DURATION minutes, retires every key slot in use and sets STICKY; a refused one changes no session, and its result
stands in `SEC_TOKEN`; the session ends by DBG_LOCK, by `SEC_DBG.LOCK` or when DURATION is over, and the debug vote then abstains. -/
def Obligations.DebugSession : Prop :=
  (∀ (p : Path) (s : State), s.adminReady p = true → ∃ t, exec (.secNonce p) s = .next t ∧
    .reply p .success [(s.freeVal 256).toNat, s.nv.serial.toNat] ∈ t.out ∧ t.sec = { s.sec with nonce := some (s.freeVal 256, s.wclk) } ∧ t.free = s.free + 1 ∧
    t = { s with
      out := t.out, free := t.free, regs := t.regs, heads := t.heads, sec := t.sec
      pwr := { s.pwr with latched := t.pwr.latched, held := t.pwr.held, idleFrom := t.pwr.idleFrom } } ∧ RegsSame (pmuFlds) s t) ∧
  (∀ (n : BitVec 256) (at_ : Time) (s : State), s.sec.nonce = some (n, at_) → at_ + secT 600 ≤ s.wclk →
    exec .nonceExpiry s = .next { s with out := [], sec := { s.sec with nonce := none } }) ∧
  (∀ (n : BitVec 256) (at_ : Time) (s : State), s.sec.nonce = some (n, at_) → s.wclk < at_ + secT 600 → exec .nonceExpiry s = .next s.clearOut) ∧
  (∀ (p : Path) (tok : Token) (s : State), s.adminReady p = true → s.tokenResult 1 tok = 0 → s.sec.dbgUntil = none → ∃ t,
    exec (.dbgUnlock p tok) s = .next t ∧ .reply p .success [] ∈ t.out ∧ t.sec.dbgUntil = some (s.wclk + secT (60 * tok.duration.toNat)) ∧
    t.sec.nonce = none ∧ t.fget SEC_TOKEN.RESULT = 0 ∧ t.fget SEC_DBG.STICKY = 1 ∧ (t.classSt setSEC 3).inFault = true ∧
    (∀ k, (s.slot k).state ≠ 0 → (t.slot k).state = 4) ∧ t.nv = s.nv ∧ t.dram = s.dram ∧ t.wclk = s.wclk) ∧
  (∀ (p : Path) (tok : Token) (u : Time) (s : State), s.adminReady p = true → s.tokenResult 1 tok = 0 → s.sec.dbgUntil = some u → ∃ t,
    exec (.dbgUnlock p tok) s = .next t ∧ .reply p .success [] ∈ t.out ∧ t.sec.dbgUntil = some (s.wclk + secT (60 * tok.duration.toNat)) ∧
    t.sec.nonce = none ∧ t.inl = s.inl ∧ t.nv = s.nv ∧ t.dram = s.dram ∧ t.coh = s.coh) ∧
  (∀ (p : Path) (tok : Token) (s : State), s.adminReady p = true → s.tokenResult 1 tok ≠ 0 → ∃ t, exec (.dbgUnlock p tok) s = .next t ∧
    .reply p (tokenRc (s.tokenResult 1 tok)) [] ∈ t.out ∧ t.fget SEC_TOKEN.RESULT = s.tokenResult 1 tok ∧ t.sec.dbgUntil = s.sec.dbgUntil ∧
    t.fget SEC_TOKEN.FAILS = min (2 ^ SEC_TOKEN.FAILS.width - 1) (s.fget SEC_TOKEN.FAILS + 1) ∧ t.inl = s.inl ∧ t.nv = s.nv ∧ t.dram = s.dram ∧ t.coh = s.coh) ∧
  (∀ (p : Path) (u : Time) (s : State), s.adminReady p = true → s.sec.dbgUntil = some u → ∃ t, exec (.dbgLock p) s = .next t ∧ .reply p .success [] ∈ t.out ∧
    t.sec = { s.sec with dbgUntil := none, bdbg := false, waiting := false } ∧ t.pwr.dbgVote = 15 ∧ t.inl = s.inl ∧ t.nv = s.nv ∧ t.dram = s.dram) ∧
  (∀ (p : Path) (u : Time) (s : State), s.admits p = true → s.mgmt p = true → s.sec.dbgUntil = some u →
    exec (.secDbgLock p) s = .next
      { s.onAccess p with sec := { s.sec with dbgUntil := none, bdbg := false, waiting := false }, pwr := { (s.onAccess p).pwr with dbgVote := 15 } }) ∧
  (∀ (u : Time) (s : State), s.sec.dbgUntil = some u → u ≤ s.wclk → exec .debugDurationEnd s =
    .next { s with out := [], sec := { s.sec with dbgUntil := none, bdbg := false, waiting := false }, pwr := { s.pwr with dbgVote := 15 } }) ∧
  (∀ (u : Time) (s : State), s.sec.dbgUntil = some u → s.wclk < u → exec .debugDurationEnd s = .next s.clearOut) ∧
  (∀ (v : BitVec 4) (s : State), s.admits .bench = true → exec (.secDbgvoteWrite .bench v) s =
    .next { s with out := [], pwr := { s.pwr with dbgVote := voteIn (lifecycle s.nv) v.toNat } }) ∧
  (∀ (p : Path) (v : BitVec 4) (s : State), p ≠ .bench → s.admits p = true → exec (.secDbgvoteWrite p v) s = .next (s.onAccess p))

/-- Lifecycle and owner keys (17 R405-R407, R416): the sideband moves BLANK to MANUFACTURE without a token, by the fuse in all three copies and a cold reset; an accepted token
makes the transition it names, and one to DECOMMISSIONED also blows the device secret; owner keys are enrolled without a token in MANUFACTURE and DEVELOP, with one in
PRODUCTION, and a token revokes a slot, whose digest stays. -/
def Obligations.LifecycleAndOwnerKeys : Prop :=
  (∀ s : State, s.admits .sideband = true → s.boot.fwRestart = false → lifecycle s.nv = 0 → ∃ t, exec (.lcTransition .sideband none) s = .next t ∧
    t.nv = { s.nv with fM := 7 } ∧ .reply .sideband .success [] ∈ t.out ∧ t.boot = { ({} : Boot) with step := 6 } ∧ t.fget CLK_RSTCAUSE.KIND = 1 ∧
    t.fget CLK_RSTCAUSE.SOURCE = 1 ∧ t.dram = [] ∧ t.coh = {} ∧ t.wclk = s.wclk ∧ t.ifc = s.ifc) ∧
  (∀ (h : Head) (s : State), s.admits (.head h) = true → s.boot.fwRestart = false →
    exec (.lcTransition (.head h) none) s = .next ((s.onMailbox (.head h)).reply (.head h) .unsupported)) ∧
  (∀ (p : Path) (tok : Token) (s : State), s.adminReady p = true → s.tokenResult 2 tok = 0 → ∃ t, exec (.lcTransition p (some tok)) s = .next t ∧
    (tok.arg.toNat = 2 → t.nv = { s.nv with fD := 7 }) ∧ (tok.arg.toNat = 3 → t.nv = { s.nv with fP := 7 }) ∧ (tok.arg.toNat = 4 → t.nv =
      { s.nv with fT := 7 }) ∧
    (tok.arg.toNat = 5 → t.nv = { s.nv with fX := 7, secretOk := false }) ∧ 1 < tok.arg.toNat ∧ tok.arg.toNat < 6 ∧ .reply p .success [] ∈ t.out ∧ t.boot =
      { ({} : Boot) with step := 6 } ∧ t.fget CLK_RSTCAUSE.SOURCE = 1 ∧
    t.fget CLK_RSTCAUSE.HEAD = pathHead p ∧ t.dram = [] ∧ t.coh = {} ∧ t.wclk = s.wclk) ∧
  (∀ (p : Path) (tok : Token) (s : State), s.adminReady p = true → s.tokenResult 2 tok ≠ 0 → ∃ t, exec (.lcTransition p (some tok)) s = .next t ∧
    t.nv = s.nv ∧ .reply p (tokenRc (s.tokenResult 2 tok)) [] ∈ t.out ∧ t.fget SEC_TOKEN.RESULT = s.tokenResult 2 tok ∧ t.dram = s.dram ∧ t.coh = s.coh) ∧
  (∀ (p : Path) (slot : Fin 4) (d : BitVec 384) (s : State), s.adminReady p = true → (lifecycle s.nv = 1 ∨ lifecycle s.nv = 2) →
    ownerIn s.nv (slot.val + 1) = false → ∃ t, exec (.ownerEnroll p slot d none) s = .next t ∧ t.nv = { s.nv with owners := smSet s.nv.owners slot d } ∧
    .reply p .success [] ∈ t.out ∧ t.dram = s.dram ∧ t.inl = s.inl ∧ t.sec = s.sec ∧ t.cut = s.cut) ∧
  (∀ (p : Path) (slot : Fin 4) (d : BitVec 384) (s : State), s.adminReady p = true → lifecycle s.nv = 3 →
    exec (.ownerEnroll p slot d none) s = .next ((s.onMailbox p).reply p .invalidInput)) ∧
  (∀ (p : Path) (slot : Fin 4) (d : BitVec 384) (tok : Token) (s : State), s.adminReady p = true → s.tokenResult 3 tok = 0 → ∃ t,
    exec (.ownerEnroll p slot d (some tok)) s = .next t ∧ t.nv = { s.nv with owners := smSet s.nv.owners (tok.arg.toNat - 1) tok.digest } ∧
    .reply p .success [] ∈ t.out ∧ t.sec = { s.sec with nonce := none } ∧ t.dram = s.dram ∧ t.inl = s.inl) ∧
  (∀ (p : Path) (tok : Token) (s : State), s.adminReady p = true → s.tokenResult 4 tok = 0 → ∃ t, exec (.ownerRevoke p tok) s = .next t ∧
    t.nv = { s.nv with revoked := s.nv.revoked ||| (1#4 <<< (tok.arg.toNat - 1)) } ∧ .reply p .success [] ∈ t.out ∧
    t.sec = { s.sec with nonce := none } ∧ t.dram = s.dram ∧ t.inl = s.inl) ∧
  (∀ (p : Path) (tok : Token) (s : State), s.adminReady p = true → s.tokenResult 4 tok ≠ 0 → ∃ t, exec (.ownerRevoke p tok) s = .next t ∧ t.nv = s.nv ∧
    .reply p (tokenRc (s.tokenResult 4 tok)) [] ∈ t.out ∧ t.dram = s.dram ∧ t.inl = s.inl)


/-! ## The TAP and SPDM (17 R411-R413, R418-R422) -/

/-- The TAP (17 R418, R421, R422): every instruction loaded first shifts out the status captured; one that the table of R421 refuses acts as BYPASS, one that must wait is held,
one that needs the core awake is held and wakes it; IDCODE reads 0x1961656B, BYPASS, CLAMP and HIGHZ read one 0, NONCE reads the nonce and serial number, TOKEN is
checked as DBG_UNLOCK, BDBG selects the port, DBGVOTE sets the debug vote; what EXTEST, SAMPLE_PRELOAD and TAP_PRIVATE capture is free (assumption 4). A reset selects IDCODE (assumption 39). -/
def Obligations.TapInstructions : Prop :=
  (∀ (c : Instr) (n : Nat) (s : State), tapCode c = some n → s.tapGate n = .refuse → exec c s = .next
    { s with out := [.tdo 8 s.irCapture], sec := { s.sec with ir := 0xFF, refused := true, waiting := false, bdbg := false } }) ∧
  (∀ (c : Instr) (n : Nat) (s : State), tapCode c = some n → s.tapGate n = .wait → exec c s = .next
    { s with out := [.tdo 8 s.irCapture], pwr := { s.pwr with held := s.pwr.held ++ [.cmd c] }, sec := { s.sec with waiting := true, bdbg := false } }) ∧
  (∀ (c : Instr) (n : Nat) (s : State), tapCode c = some n → s.tapGate n = .wake → exec c s = .next
    { s with out := [.tdo 8 s.irCapture], pwr := { s.pwr with held := s.pwr.held ++ [.cmd c], latched := some (6, 0) } }) ∧
  (∀ s : State, s.tapGate 0x02 = .serve → exec .idcode s = .next
    { s with out := [.tdo 8 s.irCapture, .tdo 32 0x1961656B], sec := { s.sec with ir := 0x02, refused := false, waiting := false, bdbg := false } }) ∧
  (∀ s : State, exec .bypass s = .next
    { s with out := [.tdo 8 s.irCapture, .tdo 1 0], sec := { s.sec with ir := 0xFF, refused := false, waiting := false, bdbg := false } }) ∧
  (∀ s : State, s.tapGate 0x03 = .serve → exec .clamp s = .next
    { s with out := [.tdo 8 s.irCapture, .tdo 1 0], sec := { s.sec with ir := 0x03, refused := false, waiting := false, bdbg := false } }) ∧
  (∀ s : State, s.tapGate 0x04 = .serve → exec .highz s = .next
    { s with out := [.tdo 8 s.irCapture, .tdo 1 0], sec := { s.sec with ir := 0x04, refused := false, waiting := false, bdbg := false } }) ∧
  (∀ (c : Instr) (n : Nat) (s : State), ((c = .extest ∧ n = 0) ∨ (c = .samplePreload ∧ n = 1) ∨ ∃ code : Fin 16, c = .tapPrivate code ∧ n = 0x30 + code.val) →
    s.tapGate n = .serve → exec c s = .next
    { s with out := [.tdo 8 s.irCapture, .tdo 0 (s.freeVal 64).toNat], free := s.free + 1, sec := { s.sec with ir := BitVec.ofNat 8 n, refused := false, waiting := false, bdbg := false } })
      ∧
  (∀ s : State, s.tapGate 0x12 = .serve → exec .nonce s = .next
    { s with out := [.tdo 8 s.irCapture, .tdo 320 ((s.freeVal 256).toNat + s.nv.serial.toNat * 2 ^ 256)], free := s.free + 1, sec := { s.sec with ir := 0x12, refused := false, waiting := false, bdbg := false, nonce := some (s.freeVal 256, s.wclk) } })
      ∧
  (∀ s : State, s.tapGate 0x20 = .serve → exec .bdbg s = .next
    { s with out := [.tdo 8 s.irCapture], pwr := { s.pwr with idleFrom := s.wclk }, sec := { s.sec with ir := 0x20, refused := false, waiting := false, bdbg := true } })
      ∧
  (∀ (v : BitVec 4) (s : State), s.tapGate 0x11 = .serve → ∃ t, exec (.dbgvote v) s = .next t ∧ t.pwr.dbgVote = voteIn (lifecycle s.nv) v.toNat ∧
    t = { s with out := [.tdo 8 s.irCapture], pwr := { s.pwr with dbgVote := t.pwr.dbgVote, latched := t.pwr.latched }, sec := { s.sec with ir := 0x11, refused := false, waiting := false, bdbg := false } })
      ∧
  (∀ (tok : Token) (s : State), s.tapGate 0x10 = .serve → ∃ t, exec (.token tok) s = .next t ∧ .tdo 8 s.irCapture ∈ t.out ∧ t.sec.ir = 0x10 ∧
    t.fget SEC_TOKEN.RESULT = s.tokenResult 1 tok ∧
    t.sec.dbgUntil = (if s.tokenResult 1 tok = 0 then some (s.wclk + secT (60 * tok.duration.toNat)) else s.sec.dbgUntil) ∧
    (s.tokenResult 1 tok = 0 → t.sec.nonce = none) ∧ (s.tokenResult 1 tok ≠ 0 → t.inl = s.inl ∧ t.coh = s.coh) ∧ t.nv = s.nv ∧ t.dram = s.dram) ∧
  (∀ s : State, exec .tapReset s = .next
    { s with out := [], pwr := { s.pwr with held := s.pwr.held.filter fun c => !tapHeld c, dbgVote := 15 }, sec := { s.sec with ir := 0x02, refused := false, waiting := false, bdbg := false } })

/-- The SPDM responder (17 R407, R409, R411, R412; 04 R95; codes of assumption 40): GET_VERSION begins a connection, the capabilities and algorithms follow, then digests, the
certificate of slot 0, challenges, measurements and up to four sessions of a path; a session of a failed transcript is dropped; requests within a session need it to live. A version
that is not 1.2 and a request out of order are answered with ERROR, and DECOMMISSIONED answers GET_VERSION alone. -/
def Obligations.SpdmResponder : Prop :=
  (∀ (p : Path) (r : SpdmReq) (s : State), s.spdmReady p = true → r.version = 0x10 → exec (.getVersion p r) s = .next
    (State.emit { s.onSpdm p with sec := { s.sec with spdm := smSet s.sec.spdm (pathNo p) 1 } } (.spdm p 0x04 (Config.spdmBody 0x84 r.body s.measured)))) ∧
  (∀ (p : Path) (r : SpdmReq) (s : State), s.spdmReady p = true → r.version ≠ 0x10 → exec (.getVersion p r) s = .next ((s.onSpdm p).emit (.spdmError p 0x41))) ∧
  (∀ (p : Path) (r : SpdmReq) (s : State), s.spdmReady p = true → lifecycle s.nv ≠ 5 → r.version = 0x12 → 1 ≤ s.spdmStage p → exec (.getCapabilities p r) s =
    .next
    (State.emit { s.onSpdm p with sec := { s.sec with spdm := smSet s.sec.spdm (pathNo p) (max 2 (s.spdmStage p)) } }
      (.spdm p 0x61 (Config.spdmBody 0xE1 r.body s.measured)))) ∧
  (∀ (p : Path) (r : SpdmReq) (s : State), s.spdmReady p = true → lifecycle s.nv ≠ 5 → r.version = 0x12 → 2 ≤ s.spdmStage p → exec (.negotiateAlgorithms p r) s
    = .next
    (State.emit { s.onSpdm p with sec := { s.sec with spdm := smSet s.sec.spdm (pathNo p) 3 } } (.spdm p 0x63 (Config.spdmBody 0xE3 r.body s.measured)))) ∧
  (∀ (p : Path) (r : SpdmReq) (s : State), s.spdmReady p = true → lifecycle s.nv ≠ 5 → r.version = 0x12 → 3 ≤ s.spdmStage p →
    exec (.getDigests p r) s = .next ((s.onSpdm p).emit (.spdm p 0x01 (Config.spdmBody 0x81 r.body s.measured))) ∧
    exec (.getMeasurements p r) s = .next ((s.onSpdm p).emit (.spdm p 0x60 (Config.spdmBody 0xE0 r.body s.measured))) ∧
    (r.param1 = 0 → exec (.getCertificate p r) s = .next ((s.onSpdm p).emit (.spdm p 0x02 (Config.spdmBody 0x82 r.body s.measured))) ∧
      exec (.challenge p r) s = .next ((s.onSpdm p).emit (.spdm p 0x03 (Config.spdmBody 0x83 r.body s.measured)))) ∧
    (r.param1 ≠ 0 → exec (.getCertificate p r) s = .next ((s.onSpdm p).emit (.spdmError p 0x01)) ∧ exec (.challenge p r) s = .next ((s.onSpdm p).emit
      (.spdmError p 0x01)))) ∧
  (∀ (p : Path) (r : SpdmReq) (s : State), s.spdmReady p = true → lifecycle s.nv ≠ 5 → r.version = 0x12 → 3 ≤ s.spdmStage p → r.param2 = 0 → (s.sessionsOf
    p).length < 4 →
    exec (.keyExchange p r) s = .next (State.emit
      { s.onSpdm p with free := s.free + 1, sec := { s.sec with sessions := s.sec.sessions ++ [{ path := pathNo p, id := s.freeVal 32 }] } }
      (.spdm p 0x64 (Config.spdmBody 0xE4 r.body s.measured)))) ∧
  (∀ (p : Path) (r : SpdmReq) (s : State), s.spdmReady p = true → lifecycle s.nv ≠ 5 → r.version = 0x12 → 3 ≤ s.spdmStage p → r.param2 = 0 → 4 ≤ (s.sessionsOf
    p).length →
    exec (.keyExchange p r) s = .next ((s.onSpdm p).emit (.spdmError p 0x03))) ∧
  (∀ (p : Path) (sid : Word) (r : SpdmReq) (s : State), s.spdmReady p = true → lifecycle s.nv ≠ 5 → r.version = 0x12 → 3 ≤ s.spdmStage p →
    ((s.sessionsOf p).any fun x => x.id == sid && !x.live) = true → ∃ t, exec (.finish p sid r) s = .next t ∧
    (Config.spdmOk 0xE5 sid r.body = true → t.sessionLive p sid = true) ∧
    (Config.spdmOk 0xE5 sid r.body = false → (∀ x ∈ t.sessionsOf p, x.id ≠ sid) ∧ .spdmError p 0x06 ∈ t.out) ∧
    t = { s.onSpdm p with out := t.out, sec := { s.sec with sessions := t.sec.sessions } }) ∧
  (∀ (p : Path) (sid : Word) (r : SpdmReq) (s : State), s.spdmReady p = true → lifecycle s.nv ≠ 5 → s.sessionLive p sid = true →
    exec (.heartbeat p sid) s = .next ((s.onSpdm p).emit (.spdm p 0x68 (Config.spdmBody 0xE8 [] s.measured))) ∧
    (∃ t, exec (.keyUpdate p sid r) s = .next t ∧ t.sessionLive p sid = true ∧ .spdm p 0x69 (Config.spdmBody 0xE9 r.body s.measured) ∈ t.out ∧
      t = { s.onSpdm p with out := t.out, sec := { s.sec with sessions := t.sec.sessions } }) ∧
    (∃ t, exec (.endSession p sid) s = .next t ∧ t.sessionLive p sid = false ∧ .spdm p 0x6C (Config.spdmBody 0xEC [] s.measured) ∈ t.out ∧
      t = { s.onSpdm p with out := t.out, sec := { s.sec with sessions := t.sec.sessions } })) ∧
  (∀ (h : Head) (sid : Word) (s : State), s.spdmReady (.head h) = true → lifecycle s.nv ≠ 5 → s.sessionLive (.head h) sid = true →
    (∃ t, exec (.vendorDefinedRequest (.head h) sid true false) s = .next t ∧ (t.head h).ideKeys.2 = true ∧ t.dram = s.dram ∧ t.nv = s.nv ∧ t.sec = s.sec) ∧
    ((s.head h).ideKeys.2 = true → ∃ t, exec (.vendorDefinedRequest (.head h) sid true true) s = .next t ∧ t.fget HP_IDE.MEM_ACTIVE h = 1 ∧
      t.fget HP_IDE.INSECURE h = 0 ∧ t.dram = s.dram ∧ t.nv = s.nv ∧ t.sec = s.sec)) ∧
  (∀ (p : Path) (r : SpdmReq) (s : State), s.spdmReady p = true → lifecycle s.nv = 5 → exec (.getMeasurements p r) s = .next (((s.onAccess p).count 11 3).emit
    (.spdmError p 0x07))) ∧
  (∀ (p : Path) (r : SpdmReq) (s : State), s.spdmReady p = true → lifecycle s.nv ≠ 5 → r.version ≠ 0x12 → exec (.getDigests p r) s = .next ((s.onSpdm p).emit
    (.spdmError p 0x41)))

/-! ## Inlay (10; 06 R158) -/

/-- Key slots (10 R262-R273; 17 R419): KEY_LOAD of a key that passes its checks makes the slot ACTIVE under a new load, and is refused while a debug session lasts; KEY_RETIRE
begins at step 1, the walk and the drain follow, and after the verified zeroization the slot is RETIRED; KEY_FREE frees a RETIRED slot; KEY_QUERY tells a slot's state, mode, owner and
count. -/
def Obligations.KeySlots : Prop :=
  (∀ (p : Path) (w : WrappedKey) (s : State), s.admits p = true → s.boot.fwRestart = false → s.keyPath p w.keyId.toNat = true → lifecycle s.nv < 4 →
    (w.mode = 2 → lifecycle s.nv = 2) → s.sec.dbgUntil = none → s.keyLoadBad p w = false → (s.slot w.keyId.toNat).state = 0 → ∃ t, exec (.keyLoad p w) s =
      .next t ∧
    t.slot w.keyId.toNat = { state := 1, mode := w.mode.toNat, owner := pathNo p, load := (s.slot w.keyId.toNat).load + 1 } ∧
    (∀ k, k ≠ w.keyId.toNat → t.slot k = s.slot k) ∧ t.inl.ivs = smSet s.inl.ivs w.session.toNat w.ivCount.toNat ∧ .reply p .success [] ∈ t.out ∧ t = { s with
      out := t.out, regs := t.regs, heads := t.heads, inl := t.inl
      pwr := { s.pwr with latched := t.pwr.latched, held := t.pwr.held, idleFrom := t.pwr.idleFrom } } ∧ RegsSame (pmuFlds) s t) ∧
  (∀ (p : Path) (w : WrappedKey) (s : State), s.admits p = true → s.boot.fwRestart = false → s.sec.dbgUntil.isSome = true →
    exec (.keyLoad p w) s = .next ((s.onMailbox p).reply p .unsupported)) ∧
  (∀ (p : Path) (k : KeyId) (rs : List FillRange) (s : State), s.admits p = true → s.boot.fwRestart = false → s.keyOwner p k.toNat = true → k ≠ 0 → rs.length ≤
    4 →
    s.fone INL_RETIRE.BUSY = false → (s.slot k.toNat).state ≠ 0 → (s.slot k.toNat).state ≠ 4 → ∃ t, exec (.keyRetire p k rs) s = .next t ∧
    t.slot k.toNat = { s.slot k.toNat with state := 3, ranges := fillRanges rs, hadRanges := !(fillRanges rs).isEmpty } ∧ (∀ j, j ≠ k.toNat → t.slot j = s.slot
      j) ∧
    t.fget INL_RETIRE.BUSY = 1 ∧ t.fget INL_RETIRE.STEP = 1 ∧ t.fget INL_RETIRE.KEY = k.toNat ∧ .reply p .background [] ∈ t.out ∧ t = { s with
      out := t.out, regs := t.regs, heads := t.heads, inl := t.inl
      pwr := { s.pwr with latched := t.pwr.latched, held := t.pwr.held, idleFrom := t.pwr.idleFrom }
        } ∧ RegsSame ([INL_RETIRE.BUSY, INL_RETIRE.KEY, INL_RETIRE.STEP] ++ pmuFlds) s t) ∧
  (∀ (p : Path) (k : KeyId) (rs : List FillRange) (s : State), s.admits p = true → s.boot.fwRestart = false → s.keyOwner p k.toNat = true → k ≠ 0 → rs.length ≤
    4 →
    s.fone INL_RETIRE.BUSY = true → exec (.keyRetire p k rs) s = .next ((s.onMailbox p).reply p .busy)) ∧
  (∀ (k : KeyId) (s : State), s.admits .bench = true → s.coh.walk = none → ∃ t, exec (.cohKwalkGo .bench k) s = .next t ∧ t.fget COH_KWALK.KEY = k.toNat ∧
    t.fget COH_KWALK.GO = 1 ∧ t.coh.walk = some ((s.entriesUnder k.toNat).map fun e => dirLine e.1 e.2) ∧
    (s.retireAt 1 = true → s.fget INL_RETIRE.KEY = k.toNat → s.inl.aborted = false → t.fget INL_RETIRE.STEP = 2) ∧ t.nv = s.nv ∧ t.slc = s.slc ∧ t.dram =
      s.dram) ∧
  (∀ (l : List Nat) (s : State), s.coh.walk = some l → (∀ ln ∈ l, s.walkWaits (s.fget COH_KWALK.KEY) ln = false) → ∃ t, exec .keyWalkDone s = .next t ∧
    t.coh = { s.coh with walk := none } ∧ t.fget COH_KWALK.GO = 0 ∧ t.fget COH_KWALK.DONE = 1 ∧
    (s.retireAt 2 = true → s.inl.aborted = false → t.fget INL_RETIRE.STEP = 3) ∧ t = { s with out := t.out, regs := t.regs, coh := t.coh, inl := t.inl } ∧
    RegsSame [COH_KWALK.GO, COH_KWALK.DONE, INL_RETIRE.STEP, INL_RETIRE.BUSY] s t) ∧
  (∀ s : State, s.retireAt 3 = true → s.inFlightUnder (s.fget INL_RETIRE.KEY) = false → s.inl.aborted = false →
    exec .retireDrainComplete s = .next (s.clearOut.fset INL_RETIRE.STEP 0 4)) ∧
  (∀ s : State, s.retireAt 4 = true → ∃ t, exec .zeroizeVerified s = .next t ∧ t.slot (s.fget INL_RETIRE.KEY) =
    { s.slot (s.fget INL_RETIRE.KEY) with state := 4 } ∧
    t.fget INL_RETIRE.BUSY = 0 ∧ t.fget INL_RETIRE.STEP = 0 ∧ t.fget INL_EVT.RETIRED = 1 ∧ t.inl.retirer = none ∧
    (s.inl.retirer = some .sideband → .reply .sideband .success [] ∈ t.out) ∧ t = { s with out := t.out, regs := t.regs, heads := t.heads, inl := t.inl } ∧
    RegsSame [INL_RETIRE.BUSY, INL_RETIRE.STEP, INL_EVT.RETIRED] s t) ∧
  (∀ (p : Path) (k : KeyId) (s : State), s.admits p = true → s.boot.fwRestart = false → k ≠ 0 → s.keyOwner p k.toNat = true → (s.slot k.toNat).state = 4 → ∃ t,
    exec (.keyFree p k) s = .next t ∧ t.slot k.toNat = { load := (s.slot k.toNat).load } ∧ (∀ j, j ≠ k.toNat → t.slot j = s.slot j) ∧ .reply p .success [] ∈
      t.out ∧
    t = { s with
      out := t.out, regs := t.regs, heads := t.heads, inl := t.inl
      pwr := { s.pwr with latched := t.pwr.latched, held := t.pwr.held, idleFrom := t.pwr.idleFrom } } ∧ RegsSame (pmuFlds) s t) ∧
  (∀ (p : Path) (s : State), s.admits p = true → s.boot.fwRestart = false → s.mgmt p = true → s.sec.dbgUntil = none → (s.slot 0).state = 4 → ∃ t,
    exec (.keyFree p 0) s = .next t ∧ t.slot 0 = { state := 1, owner := 17, load := (s.slot 0).load + 1 } ∧ (∀ j, j ≠ 0 → t.slot j = s.slot j) ∧
    .reply p .success [] ∈ t.out ∧ t = { s with
      out := t.out, regs := t.regs, heads := t.heads, inl := t.inl
      pwr := { s.pwr with latched := t.pwr.latched, held := t.pwr.held, idleFrom := t.pwr.idleFrom } } ∧ RegsSame (pmuFlds) s t) ∧
  (∀ (p : Path) (k : KeyId) (s : State), s.admits p = true → s.boot.fwRestart = false → (s.mgmt p = true ∨ s.keyPath p k.toNat = true) →
    exec (.keyQuery p k) s = .next ((s.onMailbox p).reply p .success ([(s.slot k.toNat).state, (s.slot k.toNat).mode, (s.slot k.toNat).owner, (s.slot k.toNat).count] ++
      (s.slot k.toNat).ranges.map fun r => r.2 - r.1)))

/-- Inlay's XTS engines (10 R257-R259) and its event enables (R276): a line whose check passes goes on with its data; one that fails runs again, twice at most; after the third
failure it is poisoned; a management path returns fenced engines to service. -/
def Obligations.XtsEngines : Prop :=
  (∀ (n : Nat) (e : Fin 4) (x : Txn) (h : Head) (s : State), s.txn? n = some x → x.phase = .xts → x.job = none → x.src = .head h → s.unitRuns 0 = true →
    s.fbitAt INL_XTS.DEC_FENCED 0 e = false → ∃ t, exec (.xtsDecryptComplete n e true) s = .next t ∧ .drs h x.ln x.data (x.poison || t.boot.fatal) x.devload ∈
      t.out ∧
    t.txn? n = none ∧ t.nv = s.nv ∧ t.dram = s.dram ∧ t.inl = s.inl ∧ t.chans = s.chans ∧ t.slc = s.slc ∧ t.coh.dir = s.coh.dir) ∧
  (∀ (n : Nat) (e : Fin 4) (x : Txn) (s : State), s.txn? n = some x → x.phase = .xts → x.tries < 2 → s.unitRuns 0 = true → s.fbitAt INL_XTS.DEC_FENCED 0 e =
    false → ∃ t,
    exec (.xtsDecryptComplete n e false) s = .next t ∧ t.txn? n = some { x with tries := x.tries + 1 } ∧ (∀ m, m ≠ n → t.txn? m = s.txn? m) ∧
    t.fget INL_XTS.RERUNS = min (2 ^ INL_XTS.RERUNS.width - 1) (s.fget INL_XTS.RERUNS + 1) ∧ t.nv = s.nv ∧ t.dram = s.dram ∧ t.chans = s.chans) ∧
  (∀ (ch : Chan) (n : Nat) (x : Txn) (e : Fin 4) (s : State), s.toEncrypt ch = some (n, x) → s.unitRuns 0 = true → s.fbitAt INL_XTS.ENC_FENCED 0 e = false → ∃
    t,
    exec (.xtsEncryptComplete ch e true) s = .next t ∧ t.txn? n = some { x with cipher := true, tries := 0 } ∧ (∀ m, m ≠ n → t.txn? m = s.txn? m) ∧ t = { s with
      out := t.out, regs := t.regs, heads := t.heads, coh := t.coh, inl := t.inl, wit := t.wit, flt := t.flt
      boot := { s.boot with fatal := t.boot.fatal }
      spn := { s.spn with withdrawn := t.spn.withdrawn, ageSeq := t.spn.ageSeq, links := t.spn.links } }) ∧
  (∀ (ch : Chan) (n : Nat) (x : Txn) (e : Fin 4) (s : State), s.toEncrypt ch = some (n, x) → 2 ≤ x.tries → s.unitRuns 0 = true → s.fbitAt INL_XTS.ENC_FENCED 0
    e = false → ∃ t,
    exec (.xtsEncryptComplete ch e false) s = .next t ∧ t.txn? n = some { x with cipher := true, tries := 0, poison := true } ∧ (t.classSt setINL 4).inFault =
      true ∧ t = { s with
      out := t.out, regs := t.regs, heads := t.heads, coh := t.coh, inl := t.inl, wit := t.wit, flt := t.flt
      boot := { s.boot with fatal := t.boot.fatal }
      spn := { s.spn with withdrawn := t.spn.withdrawn, ageSeq := t.spn.ageSeq, links := t.spn.links } }) ∧
  (∀ (p : Path) (e d : BitVec 4) (s : State), s.admits p = true → s.mgmt p = true → ∃ t, exec (.xtsUnfence p e d) s = .next t ∧
    t.fget INL_XTS.ENC_FENCED = (BitVec.ofNat 4 (s.fget INL_XTS.ENC_FENCED) &&& ~~~e).toNat ∧ t.fget INL_XTS.DEC_FENCED = (BitVec.ofNat 4 (s.fget
      INL_XTS.DEC_FENCED) &&& ~~~d).toNat ∧
    t = { s.onAccess p with regs := t.regs } ∧ RegsSame [INL_XTS.ENC_FENCED, INL_XTS.DEC_FENCED] s t) ∧
  (∀ (p : Path) (v : Word) (s : State), s.admits p = true → s.mgmt p = true → ∃ t, exec (.inlIeWrite p v) s = .next t ∧
    (∀ n, n < 4 → t.fget (ieFld n) = (v.toNat.testBit n).toNat) ∧ t = { s.onAccess p with out := t.out, regs := t.regs, heads := t.heads } ∧
    RegsSame [INL_IE.ADVISE_IE, INL_IE.END_IE, INL_IE.RETIRED_IE, INL_IE.FREED_IE] s t)


/-! ## Faults and the Witness engine (16 R380-R402) -/

/-- Fault reports (16 R380-R390): a report puts its class in fault state, unacknowledged, at the level of R382; it is captured where no capture stands, and counted; an L3 report makes the
device fatal; an acknowledgement clears UNACK alone; after QUIET_TIME without a report a class at L0 to L2 leaves fault state and the recovery is counted, one at L3 stays; a release and a
rearm write their one bit. Of the Wellhead's own sets the Wellhead takes these writes at once. -/
def Obligations.FaultReports : Prop :=
  (∀ (r : Report) (s : State), wellSet r.set.val = true ∨ 6 ≤ s.boot.step → r.set.val ≠ setWIT → ∃ t, exec (.faultReport r) s = .next t ∧
    t.classSt r.set.val (r.cls.val + 1) = { inFault := true, unack := true, level := (nextLevel (s.classSt r.set.val (r.cls.val + 1))
      (baseLevel (blockOf r.set.val) (r.cls.val + 1) r.base.val) (!(neverEscalates (blockOf r.set.val)).contains (r.cls.val + 1))).1 } ∧
    t.fget FLT_COUNT.COUNT r.set.val = min 65535 (s.fget FLT_COUNT.COUNT r.set.val + 1) ∧ t.fone FLT_FIRST.VALID r.set.val = true ∧
    (s.fone FLT_FIRST.VALID r.set.val = false → t.fget FLT_FIRST.CLASS r.set.val = r.cls.val + 1 ∧ t.fget FLT_FIRST.UNIT r.set.val = r.unit.toNat ∧
      t.fget FLT_ADDR.VALUE r.set.val = r.addr.toNat ∧ t.fget FLT_AUX.VALUE r.set.val = r.aux.toNat) ∧
    ((t.classSt r.set.val (r.cls.val + 1)).level = 3 → t.boot.fatal = true) ∧ t = { s with
      out := t.out, regs := t.regs, boot := t.boot, heads := t.heads, wit := t.wit, flt := t.flt, pmu := t.pmu
      spn := { s.spn with withdrawn := t.spn.withdrawn, ageSeq := t.spn.ageSeq, links := t.spn.links }
        } ∧ RegsSame ([PMU_CTR.COUNT, PMU_CYC.VALUE, PMU_DYESTAT.MISSED] ++ faultFlds) s t) ∧
  (∀ (r : Report) (s : State), wellSet r.set.val = false → s.boot.step < 6 → exec (.faultReport r) s = .next s.clearOut) ∧
  (∀ (p : Path) (set : Fin 31) (b : BitVec 16) (s : State), wellSet set.val = false → s.admits p = true → s.mgmt p = true → exec (.fltAck p set b) s = .next
    ((s.onAccess p).fset FLT_ACK.UNACK set (BitVec.ofNat 16 (s.fget FLT_ACK.UNACK set) &&& ~~~b).toNat)) ∧
  (∀ (p : Path) (set : Fin 31) (b : BitVec 16) (s : State), wellSet set.val = true → s.wellPath p = true → exec (.fltAck p set b) s = .next
    (s.clearOut.fset FLT_ACK.UNACK set (BitVec.ofNat 16 (s.fget FLT_ACK.UNACK set) &&& ~~~b).toNat)) ∧
  (∀ (p : Path) (set : Fin 31) (b : BitVec 16) (s : State), wellSet set.val = false → s.admits p = true → s.mgmt p = false → exec (.fltAck p set b) s = .next
    (s.onAccess p)) ∧
  (∀ (set : Fin 31) (cls : Fin 16) (at_ : Time) (s : State), set.val ≠ setWIT → smFind? s.flt.quiet (set.val * 16 + cls.val) = some at_ →
    (s.classSt set (cls.val + 1)).inFault = true → (s.classSt set (cls.val + 1)).level ≠ 3 → s.fone FLT_STATUS.HELD set = false → s.mayRecover set (cls.val +
      1) = true →
    s.elapsed at_ (msT (s.fget FLT_POLICY0.QUIET_MS set)) = true → ∃ t, exec (.quietTimeExpiry set cls) s = .next t ∧
    t.classSt set (cls.val + 1) = { inFault := false, level := 0, unack := false } ∧
    t.fget FLT_RECOV.RECOVERIES set = min (2 ^ FLT_RECOV.RECOVERIES.width - 1) (s.fget FLT_RECOV.RECOVERIES set + 1) ∧ smFind? t.flt.quiet (set.val * 16 +
      cls.val) = none ∧
    (s.fget FLT_POLICY0.RECOVERY_MAX set = 1 → t.fget FLT_STATUS.HELD set = 1) ∧ t =
      { s with out := t.out, regs := t.regs, heads := t.heads, slc := t.slc, wit := t.wit, flt := t.flt } ∧ RegsSame ([FLT_ACK.UNACK, FLT_ADDR.VALUE,
      FLT_AUX.VALUE, FLT_COUNT.COUNT, FLT_FIRST.CLASS, FLT_FIRST.ESC, FLT_FIRST.LEVEL, FLT_FIRST.UNIT, FLT_FIRST.VALID, FLT_LEVEL.LEVEL, FLT_OVF.LOST,
      FLT_OVF.SAT, FLT_RECOV.RECOVERIES, FLT_STATUS.CLASS, FLT_STATUS.HELD, FLT_SYN.SYN, FLT_TIME.VALUE, WIT_LOST.LOST, WIT_SEQ.SEQ] ++ pmuFlds) s t) ∧
  (∀ (set : Fin 31) (cls : Fin 16) (s : State), (s.classSt set (cls.val + 1)).level = 3 ∨ s.fone FLT_STATUS.HELD set = true → exec (.quietTimeExpiry set cls) s
    = .next s.clearOut) ∧
  (∀ (p : Path) (set : Fin 31) (s : State), wellSet set.val = false → s.admits p = true → s.mgmt p = true → exec (.fltRecovRelease p set) s = .next
    { (s.onAccess p).fset FLT_STATUS.HELD set 0 with flt := { s.flt with hist := smDel s.flt.hist set.val } } ∧
    exec (.fltFirstRearm p set) s = .next ((s.onAccess p).fset FLT_FIRST.VALID set 0)) ∧
  (∀ (p : Path) (set : Fin 31) (s : State), wellSet set.val = true → s.wellPath p = true → exec (.fltRecovRelease p set) s = .next
    { s.clearOut.fset FLT_STATUS.HELD set 0 with flt := { s.flt with hist := smDel s.flt.hist set.val } } ∧
    exec (.fltFirstRearm p set) s = .next (s.clearOut.fset FLT_FIRST.VALID set 0))

/-- Acknowledgement (16 R386): a write of 1 to a class's bit of `FLT_ACK`, by a path that may write it, acknowledges that class: UNACK is clear. It does not end the fault state, and the
level stands. It stops the escalation: the next report of the class leaves it at its level, or at the report's base level where that is higher. -/
def Obligations.Acknowledgement : Prop :=
  ∀ (p : Path) (set : Fin 31) (b : BitVec 16) (c : Fin 16) (s : State), (if wellSet set.val = true then s.wellPath p = true else s.admits p = true ∧ s.mgmt p =
    true) →
    b.getLsbD c.val = true → ∃ t, exec (.fltAck p set b) s = .next t ∧ t.classSt set (c.val + 1) = { s.classSt set (c.val + 1) with unack := false } ∧
    ((s.classSt set (c.val + 1)).inFault = true → (∀ r : Report, r.set = set → r.cls.val = c.val → set.val ≠ setWIT → (wellSet set.val = true ∨ 6 ≤
      s.boot.step) →
      ∃ u, exec (.faultReport r) t = .next u ∧
      (u.classSt set (c.val + 1)).level = max (s.classSt set (c.val + 1)).level (baseLevel (blockOf set.val) (c.val + 1) r.base.val)))

/-- The Witness engine (16 R392-R402): a window of 1 ms closes, or writes a BURST record of what it counted; the ring in flash takes staged records up to the end of a page, and a page that
fails twice marks its sector bad; an input loss begins the commit; WIT_READ and WIT_INFO answer a management path, or the sideband from the Wellhead before the Bench is up; WIT_FORMAT empties
the log in BLANK and MANUFACTURE. -/
def Obligations.WitnessLog : Prop :=
  (∀ (set : Fin 31) (cls : Fin 16) (w : WitWin) (s : State), smFind? s.wit.windows (blockOf set.val * 32 + cls.val) = some w → w.first = none → s.elapsed
    w.from_ (msT 1) = true →
    exec (.witnessWindowEnd set cls) s = .next { s with out := [], wit := { s.wit with windows := smDel s.wit.windows (blockOf set.val * 32 + cls.val) } }) ∧
  (∀ (set : Fin 31) (cls : Fin 16) (w : WitWin) (r : WitRec) (s : State), smFind? s.wit.windows (blockOf set.val * 32 + cls.val) = some w → w.first = some r →
    s.elapsed w.from_ (msT 1) = true → s.wit.staging.length < 128 → ∃ t, exec (.witnessWindowEnd set cls) s = .next t ∧
    t.wit.windows = smSet s.wit.windows (blockOf set.val * 32 + cls.val) { from_ := s.wclk } ∧
    t.wit.staging = s.wit.staging ++ [s.witStamp { r with kind := 1, count := min 0xFFFF w.count }] ∧ t.fget WIT_SEQ.SEQ = (s.fget WIT_SEQ.SEQ + 1) % 2 ^
      WIT_SEQ.SEQ.width ∧
    t = { s with out := [], regs := t.regs, wit := t.wit } ∧ RegsSame [WIT_SEQ.SEQ] s t) ∧
  (∀ (n : Nat) (s : State), s.wit.erasing = some n → ∃ t, exec .sectorEraseComplete s = .next t ∧ t.wit.erased = s.wit.erased ++ [n] ∧ t.wit.erasing ≠ some n ∧
    t.wit.staging = s.wit.staging ∧ t = { s with out := t.out, wit := t.wit }) ∧
  (∀ (r2 : Bool) (s : State), s.witReady = true → s.wit.lost = [] → ∃ t, exec (.pageProgramComplete true r2) s = .next t ∧ .witProgram (s.fget WIT_HEAD.SLOT) ∈
    t.out ∧
    t.wit.staging = s.wit.staging.drop (min (4 - s.fget WIT_HEAD.SLOT % 4) s.wit.staging.length) ∧
    t.fget WIT_HEAD.SLOT = (s.fget WIT_HEAD.SLOT + min (4 - s.fget WIT_HEAD.SLOT % 4) s.wit.staging.length) % 524288 ∧ t.fget WIT_LOST.PROGFAIL = s.fget
      WIT_LOST.PROGFAIL ∧
    t = { s with
      out := t.out, regs := t.regs, heads := t.heads, wit := t.wit, flt := t.flt, boot := { s.boot with fatal := t.boot.fatal }
      spn := { s.spn with withdrawn := t.spn.withdrawn, ageSeq := t.spn.ageSeq, links := t.spn.links } }) ∧
  (∀ s : State, s.witReady = true → ∃ t, exec (.pageProgramComplete false false) s = .next t ∧ s.fget WIT_HEAD.SLOT / 64 ∈ t.wit.bad ∧
    t.fget WIT_LOST.PROGFAIL = min (2 ^ WIT_LOST.PROGFAIL.width - 1) (s.fget WIT_LOST.PROGFAIL + 2) ∧ (t.classSt setWIT 3).inFault = true ∧
    t.fget WIT_HEAD.SLOT = (s.fget WIT_HEAD.SLOT / 64 + 1) * 64 % 524288 ∧ t = { s with
      out := t.out, regs := t.regs, heads := t.heads, wit := t.wit, flt := t.flt, boot := { s.boot with fatal := t.boot.fatal }
      spn := { s.spn with withdrawn := t.spn.withdrawn, ageSeq := t.spn.ageSeq, links := t.spn.links } }) ∧
  (∀ s : State, ∃ t, exec .inputLoss s = .next t ∧ t.fget WIT_STATUS.COMMIT = (if s.wit.staging = [] then 0 else 1) ∧ t = { s with out := [], regs := t.regs } ∧
    RegsSame [WIT_STATUS.COMMIT] s t) ∧
  (∀ (p : Path) (first : Word) (n from_ : Nat) (l : List WitRec) (s : State), s.adminReady p = true → 1 ≤ n → n ≤ 1023 →
    from_ = (if first = 0xFFFFFFFF#32 then s.witOldest else max first.toNat s.witOldest) → l = (s.witAll.filter fun r => decide (from_ ≤ r.seq)).take n →
    exec (.witRead p first n) s = .next ((s.onMailbox p).reply p .success ([(l.head?.map (·.seq)).getD from_, l.length] ++ l.map witNat))) ∧
  (∀ (p : Path) (first : Word) (n : Nat) (s : State), s.adminReady p = true → n = 0 ∨ 1023 < n → exec (.witRead p first n) s = .next ((s.onMailbox p).reply p
    .invalidInput)) ∧
  (∀ (p : Path) (s : State), s.adminReady p = true → exec (.witInfo p) s = .next ((s.onMailbox p).reply p .success
    [s.witOldest, s.fget WIT_SEQ.SEQ, s.wit.staging.length, s.fget WIT_LOST.LOST, s.fget WIT_LOST.PROGFAIL, s.wit.bad.length])) ∧
  (∀ s : State, s.benchUp = false → exec (.witInfo .sideband) s = .next { s with out := [.reply .sideband .success
    [s.witOldest, s.fget WIT_SEQ.SEQ, s.wit.staging.length, s.fget WIT_LOST.LOST, s.fget WIT_LOST.PROGFAIL, s.wit.bad.length]] }) ∧
  (∀ s : State, s.admits .sideband = true → s.boot.fwRestart = false → lifecycle s.nv ≤ 1 → ∃ t, exec (.witFormat .sideband) s = .next t ∧ t.wit.flash = [] ∧
    t.wit.staging.map (·.kind) = [4] ∧ t.wit.staging.map (·.cls) = [2] ∧ t.fget WIT_SEQ.SEQ = 1 ∧ t.fget WIT_HEAD.SLOT = 0 ∧ .reply .sideband .success [] ∈
      t.out ∧
    t = { s with
      out := t.out, regs := t.regs, heads := t.heads, wit := t.wit
      pwr := { s.pwr with latched := t.pwr.latched, held := t.pwr.held, idleFrom := t.pwr.idleFrom }
        } ∧ RegsSame ([WIT_HEAD.SLOT, WIT_SEQ.SEQ] ++ pmuFlds) s t) ∧
  (∀ (h : Head) (s : State), s.admits (.head h) = true → s.boot.fwRestart = false → exec (.witFormat (.head h)) s = .next ((s.onMailbox (.head h)).reply (.head
    h) .unsupported))

/-! ## Counters and registers (18 R424-R436; 20 R456-R463) -/

/-- The PMU (18 R425-R436): its commands act on the unit that the path selects, on all twelve under 0x1F, and of another head they have no effect; a counter at its end wraps to 0 and sets its
bit of `PMU_OVF`; DYE_POP takes the oldest record, and a dye seed of 0 acts as 1. -/
def Obligations.CountersAndDye : Prop :=
  (∀ (p : Path) (on : Bool) (u : Nat) (s : State), s.admits p = true → s.mgmt p = true → s.fget PMU_UNITSEL.UNIT (pathNo p) = u → u < 12 →
    exec (.pmuFreeze p on) s = .next ((s.onAccess p).fset PMU_CTL.FREEZE u on.toNat)) ∧
  (∀ (p : Path) (on : Bool) (s : State), s.admits p = true → s.mgmt p = true → s.fget PMU_UNITSEL.UNIT (pathNo p) = 31 → ∃ t,
    exec (.pmuFreeze p on) s = .next t ∧ (∀ u, u < 12 → t.fget PMU_CTL.FREEZE u = on.toNat) ∧ t = { s.onAccess p with regs := t.regs } ∧ RegsSame
      [PMU_CTL.FREEZE] s t) ∧
  (∀ (p : Path) (u : Nat) (s : State), s.admits p = true → s.mgmt p = true → s.fget PMU_UNITSEL.UNIT (pathNo p) = u → u < 12 → ∃ t, exec (.pmuClear p) s =
    .next t ∧
    t.fget PMU_CYC.VALUE u = 0 ∧ t.fget PMU_OVF.OVF u = 0 ∧ (∀ n, n < 8 → t.fget PMU_CTR.COUNT (u * 8 + n) = 0) ∧
    (∀ n, n / 8 ≠ u → t.fget PMU_CTR.COUNT n = s.fget PMU_CTR.COUNT n) ∧ t = { s.onAccess p with regs := t.regs } ∧ RegsSame [PMU_CYC.VALUE, PMU_OVF.OVF,
      PMU_CTR.COUNT] s t) ∧
  (∀ (p : Path) (n : Fin 8) (v : Word64) (u : Nat) (s : State), s.admits p = true → s.mgmt p = true → s.fget PMU_UNITSEL.UNIT (pathNo p) = u → u < 12 →
    exec (.pmuCtrWrite p n v) s = .next ((s.onAccess p).fset PMU_CTR.COUNT (u * 8 + n.val) v.toNat)) ∧
  (∀ (p : Path) (u : Nat) (s : State), s.admits p = true → s.mgmt p = true → s.fget PMU_UNITSEL.UNIT (pathNo p) = u → u < 12 →
    exec (.pmuCycRead p) s = .next (((s.onAccess p).fset PMU_TBSNAP.VALUE u s.tb).emit (.regData p (BitVec.ofNat 64 (s.fget PMU_CYC.VALUE u))))) ∧
  (∀ (h : Head) (on : Bool) (n : Fin 8) (v : Word64) (w : Word) (s : State), s.admits (.head h) = true → s.headMgmt h.val = false →
    exec (.pmuFreeze (.head h) on) s = .next (s.onAccess (.head h)) ∧ exec (.pmuClear (.head h)) s = .next (s.onAccess (.head h)) ∧
    exec (.pmuCtrWrite (.head h) n v) s = .next (s.onAccess (.head h)) ∧ exec (.dyePop (.head h)) s = .next (s.onAccess (.head h)) ∧
    exec (.dyeSeedWrite (.head h) w) s = .next (s.onAccess (.head h)) ∧ exec (.pmuCycRead (.head h)) s = .next ((s.onAccess (.head h)).emit (.regData (.head h)
      0))) ∧
  (∀ (u : Fin 12) (n : Fin 8) (s : State), s.fone PMU_EVSEL.EN (u.val * 8 + n.val) = true → s.fone PMU_CTL.FREEZE u = false → s.fget PMU_CTR.COUNT (u.val * 8 +
    n.val) = 2 ^ 48 - 1 → ∃ t,
    exec (.counterOverflow u n) s = .next t ∧ t.fget PMU_CTR.COUNT (u.val * 8 + n.val) = 0 ∧ t.fbitAt PMU_OVF.OVF u n = true ∧
    (s.fone PMU_EVSEL.CHAIN (u.val * 8 + n.val) = false → t.fone PMU_CTL.FREEZE u = s.fone PMU_CTL.FRZ_OVF u) ∧
    (∀ m, m < 8 → m ≠ n.val → t.fbitAt PMU_OVF.OVF u m = true → s.fbitAt PMU_OVF.OVF u m = true ∨ (n.val < m ∧ s.fget PMU_CTR.COUNT (u.val * 8 + m) = 2 ^ 48 -
      1)) ∧
    t = { s with out := t.out, regs := t.regs, heads := t.heads } ∧ RegsSame ([PMU_CTL.FREEZE, PMU_CTR.COUNT, PMU_OVF.OVF]) s t) ∧
  (∀ (p : Path) (s : State), s.admits p = true → s.mgmt p = true →
    exec (.dyePop p) s = .next { s.onAccess p with pmu := { s.pmu with dye := s.pmu.dye.drop 1 } }) ∧
  (∀ (p : Path) (w : Word) (s : State), s.admits p = true → s.mgmt p = true →
    exec (.dyeSeedWrite p w) s = .next { (s.onAccess p).fset PMU_DYESEED.SEED 0 w.toNat with pmu := { s.pmu with lfsr := if w = 0 then 1 else w } })

/-- Register accesses (20 R456-R463): a 32-bit read answers the register's value; the low half of a 64-bit register also captures the whole in the path's holding register, and the high half
comes from there; the sideband's REG_READ reads a 64-bit register whole; an access that is not aligned, a write without every byte enable, and a head's write of a register that only
management paths write have no effect; the sideband's REG_WRITE is answered; `WEIR_BRIM` takes thresholds that strictly increase (11 R292). -/
def Obligations.RegisterAccesses : Prop :=
  (∀ (h : Head) (off : Nat) (x : Site) (s : State), s.admits (.head h) = true → memSpace (s.head h) = true → wellOff off = false → off % 4 = 0 →
    s.siteAt (.head h) off = some x → x.reg.wide = false → x.high = false → ∃ t, exec (.lowHalfRead (.head h) off) s = .next t ∧
    .regData (.head h) (BitVec.ofNat 64 ((s.onRegister (.head h)).siteValue (.head h) off x % 2 ^ 32)) ∈ t.out ∧ t.hold = s.hold ∧ t.nv = s.nv ∧ t.dram =
      s.dram ∧
    t.dec = s.dec ∧ t.coh = s.coh ∧ t.slc = s.slc ∧ t.inl = s.inl ∧ t.drw = s.drw ∧ t.sec = s.sec) ∧
  (∀ (h : Head) (off : Nat) (x : Site) (s : State), s.admits (.head h) = true → memSpace (s.head h) = true → wellOff off = false → off % 4 = 0 →
    s.siteAt (.head h) off = some x → x.reg.wide = true → x.high = false → ∃ t, exec (.lowHalfRead (.head h) off) s = .next t ∧
    t.hold = smSet s.hold h.val (BitVec.ofNat 64 ((s.onRegister (.head h)).siteValue (.head h) off x)) ∧
    .regData (.head h) (BitVec.ofNat 64 ((s.onRegister (.head h)).siteValue (.head h) off x % 2 ^ 32)) ∈ t.out ∧ t.nv = s.nv ∧ t.dram = s.dram) ∧
  (∀ (h : Head) (off : Nat) (x : Site) (s : State), s.admits (.head h) = true → memSpace (s.head h) = true → wellOff off = false → off % 4 = 0 →
    s.siteAt (.head h) off = some x → x.high = true →
    exec (.lowHalfRead (.head h) off) s = .next ((s.onRegister (.head h)).emit (.regData (.head h) (BitVec.ofNat 64 ((smGet s.hold h.val 0).toNat >>> 32))))) ∧
  (∀ (off : Nat) (x : Site) (s : State), s.admits .sideband = true → s.fget PWR_STATE.CUR = 0 → wellOff off = false → off % 8 = 0 → off < 0x00130000 →
    s.siteAt .sideband off = some x → x.reg.wide = true → ∃ t, exec (.regRead off true) s = .next t ∧
    .regData .sideband (BitVec.ofNat 64 (((s.onRegister .sideband).count 11 2).siteValue .sideband off x % 2 ^ 64)) ∈ t.out ∧ t.nv = s.nv ∧ t.dram = s.dram ∧
      t.coh = s.coh) ∧
  (∀ (off : Nat) (s : State), s.admits .sideband = true → s.boot.fwRestart = false → 0x00130000 ≤ off →
    (∀ w, exec (.regRead off w) s = .next ((s.onMailbox .sideband).reply .sideband .invalidInput)) ∧
    (∀ w v, exec (.regWrite off w v) s = .next ((s.onMailbox .sideband).reply .sideband .invalidInput))) ∧
  (∀ (off : Nat) (wide : Bool) (v : Word64) (s : State), s.admits .sideband = true → s.fget PWR_STATE.CUR = 0 → wellOff off = false → off % 8 = 0 → off <
    0x00130000 → ∃ t,
    exec (.regWrite off wide v) s = .next t ∧ .reply .sideband .success [] ∈ t.out ∧ t.nv = s.nv ∧
    t = { (((s.onRegister .sideband).count 11 2).writeOf .sideband off wide v.toNat).reply .sideband .success with nv := s.nv, pending := s.pending }) ∧
  (∀ (p : Path) (off : Nat) (wide full : Bool) (v : Word64) (s : State), full = false ∨ alignedOff off wide = false → exec (.registerWrite p off wide full v) s
    = .next s.clearOut) ∧
  (∀ (h : Head) (v : Word64) (s : State), s.admits (.head h) = true → memSpace (s.head h) = true → s.headMgmt h.val = true → v.toNat % 2 ^ 8 < v.toNat / 2 ^ 8
    % 2 ^ 8 →
    v.toNat / 2 ^ 8 % 2 ^ 8 < v.toNat / 2 ^ 16 % 2 ^ 8 → ∃ t, exec (.registerWrite (.head h) 0x9002C false true v) s = .next t ∧ t.fget WEIR_BRIM.L1 = v.toNat
      % 2 ^ 8 ∧
    t.fget WEIR_BRIM.L2 = v.toNat / 2 ^ 8 % 2 ^ 8 ∧ t.fget WEIR_BRIM.L3 = v.toNat / 2 ^ 16 % 2 ^ 8 ∧ t.fget WEIR_BRIM.HYST = v.toNat / 2 ^ 24 % 2 ^ 8 ∧
    t = { s.onRegister (.head h) with regs := t.regs } ∧ RegsSame [WEIR_BRIM.HYST, WEIR_BRIM.L3, WEIR_BRIM.L2, WEIR_BRIM.L1] (s.onRegister (.head h)) t) ∧
  (∀ (h : Head) (v : Word64) (s : State), s.admits (.head h) = true → memSpace (s.head h) = true →
    (s.headMgmt h.val = false ∨ v.toNat / 2 ^ 8 % 2 ^ 8 ≤ v.toNat % 2 ^ 8 ∨ v.toNat / 2 ^ 16 % 2 ^ 8 ≤ v.toNat / 2 ^ 8 % 2 ^ 8) →
    exec (.registerWrite (.head h) 0x9002C false true v) s = .next (s.onRegister (.head h)))

/-- RWL fields (00 R12): a write to a register on any path completes normally, whatever its width and value, and changes no RWL field of the register or registers it reaches; where
all their fields are RWL, it raises no fault: fault state, levels and captures stand. The same holds of the sideband's REG_WRITE. -/
def Obligations.RwlFieldsStand : Prop :=
  (∀ (p : Path) (off : Nat) (wide full : Bool) (v : Word64) (s : State), ∃ t, exec (.registerWrite p off wide full v) s = .next t ∧
    (∀ (x : Site) (f : Fld) (i : Nat), s.siteAt p off = some x ∨ (wide = true ∧ s.siteAt p (off + 4) = some x) → f ∈ x.reg.flds → f.ty = .rwl →
      t.fget f i = s.fget f i) ∧
    ((∀ x : Site, s.siteAt p off = some x ∨ (wide = true ∧ s.siteAt p (off + 4) = some x) → ∀ f ∈ x.reg.flds, f.ty = .rwl) →
      (s.siteAt p off).isSome = true → (wide = true → (s.siteAt p (off + 4)).isSome = true) →
      t.flt = s.flt ∧ t.boot.fatal = s.boot.fatal ∧ RegsSame pmuFlds s t)) ∧
  (∀ (off : Nat) (wide : Bool) (v : Word64) (s : State), ∃ t, exec (.regWrite off wide v) s = .next t ∧
    (∀ (x : Site) (f : Fld) (i : Nat), s.siteAt .sideband off = some x ∨ (wide = true ∧ s.siteAt .sideband (off + 4) = some x) → f ∈ x.reg.flds → f.ty = .rwl →
      t.fget f i = s.fget f i))

/-- Accesses that a path may not make (20 R458, R459): a write that reaches only registers none of whose instances the path may write completes normally, whatever its width, changes no register but the counters of
the access, and raises no fault; a read of a register that the path may not read returns 0. -/
def Obligations.AccessesNotAllowed : Prop :=
  (∀ (p : Path) (off : Nat) (wide full : Bool) (v : Word64) (x : Site) (s : State), s.siteAt p off = some x → (∀ i ∈ s.siteInsts p x, s.mayWrite p off x i =
    false) →
    (wide = true → x.reg.wide = false → ∃ y, s.siteAt p (off + 4) = some y ∧ ∀ i ∈ s.siteInsts p y, s.mayWrite p (off + 4) y i = false) → ∃ t, exec
      (.registerWrite p off wide full v) s = .next t ∧ t = { s with
      out := t.out, regs := t.regs, heads := t.heads
      pwr := { s.pwr with latched := t.pwr.latched, held := t.pwr.held, idleFrom := t.pwr.idleFrom } } ∧ RegsSame pmuFlds s t) ∧
  (∀ (p : Path) (off : Nat) (x : Site) (s : State), s.siteAt p off = some x → x.high = false → (∀ i ∈ (s.siteInsts p x).head?, s.mayRead p off x i = false) → ∃
    t,
    exec (.lowHalfRead p off) s = .next t ∧ (∀ w, .regData p w ∈ t.out → w = 0) ∧
    (s.admits p = true → p ≠ .bench → off % 4 = 0 → s.fget PWR_STATE.CUR = 0 → (∀ h : Head, p = .head h → memSpace (s.head h) = true) → .regData p 0 ∈ t.out)) ∧
  (∀ (h : Head) (off : Nat) (s : State), s.linkReady h.val = true → memSpace (s.head h) = false →
    exec (.lowHalfRead (.head h) off) s = .next (s.clearOut.emit (.barUr h)) ∧
    (∀ (wide full : Bool) (v : Word64), exec (.registerWrite (.head h) off wide full v) s = .next s.clearOut))

/-! ## Requests of the heads (01 R17-R24; 05 R111-R128; 06 R137-R141) -/

/-- CXL.mem requests (01 R17, R22; 04 R89, R95, R96; 05 R114-R120; 06 R138; 10 R263, R268): one that decodes to an untiered region enters the transaction table with its line, key ID and data and asks
for its line's lock; a write is counted under its key; a writeback goes on towards memory at once, a clean eviction notice is completed. One that matches no decoder is answered with poison or a
normal completion and raises DEC class 1; one without the IDE stream it needs is dropped and counted; a failed IDE check ends the stream; one to a remote home leaves on the Span. -/
def Obligations.HostRequests : Prop :=
  (∀ (h : Head) (hpa : Hpa) (mv : MetaValue) (m : Match) (s : State), s.hitsDirect h hpa.toNat m → ∃ t x, exec (.memRead h hpa mv true) s = .next t ∧
    t.txn? s.coh.next = some x ∧ x.src = .head h ∧ x.kind = .read ∧ x.mv = mv ∧ x.ln = s.dpaOf m / 64 ∧ x.key = BitVec.ofNat 7 (s.keyOf m hpa.toNat) ∧
    x.shared = (s.region m.tpl.region).shared ∧ (s.ttFree ≠ 0 → s.queueFull (s.dpaOf m / 64) = false → x.phase = .lockWait) ∧ t.coh.next = s.coh.next + 1 ∧
    t.nv = s.nv ∧ t.dram = s.dram ∧ t.chans = s.chans ∧ t.slc = s.slc ∧ t.inl = s.inl ∧ t.coh.dir = s.coh.dir) ∧
  (∀ (h : Head) (hpa : Hpa) (mv : MetaValue) (d : Data) (m : Match) (s : State), s.hitsDirect h hpa.toNat m → ∃ t x, exec (.memWrite h hpa mv d true) s = .next
    t ∧
    t.txn? s.coh.next = some x ∧ x.src = .head h ∧ x.kind = .write ∧ x.data = d ∧ x.be = BitVec.allOnes 64 ∧ x.ln = s.dpaOf m / 64 ∧ x.key = BitVec.ofNat 7
      (s.keyOf m hpa.toNat) ∧
    (s.ttFree ≠ 0 → s.queueFull (s.dpaOf m / 64) = false → x.phase = .lockWait) ∧
    (t.slot (s.keyOf m hpa.toNat % 128)).count = min (2 ^ 52 - 1) ((s.slot (s.keyOf m hpa.toNat % 128)).count + 1) ∧ t.nv = s.nv ∧ t.dram = s.dram ∧ t.chans =
      s.chans ∧ t.slc = s.slc ∧
    t.coh.dir = s.coh.dir) ∧
  (∀ (h : Head) (hpa : Hpa) (mv : MetaValue) (d : Data) (be : ByteEn) (m : Match) (s : State), s.hitsDirect h hpa.toNat m → ∃ t x, exec (.partialWrite h hpa mv
    d be true) s = .next t ∧
    t.txn? s.coh.next = some x ∧ x.src = .head h ∧ x.kind = .part ∧ x.data = d ∧ x.be = be ∧ x.ln = s.dpaOf m / 64 ∧ x.key = BitVec.ofNat 7 (s.keyOf m
      hpa.toNat) ∧
    (s.ttFree ≠ 0 → s.queueFull (s.dpaOf m / 64) = false → x.phase = .lockWait) ∧ t.nv = s.nv ∧ t.dram = s.dram ∧ t.chans = s.chans ∧ t.slc = s.slc ∧ t.coh.dir
      = s.coh.dir) ∧
  (∀ (h : Head) (hpa : Hpa) (mv : MetaValue) (d : Data) (m : Match) (s : State), s.hitsDirect h hpa.toNat m → (s.region m.tpl.region).shared = false →
    s.ttRoom1 = true →
    (s.localPtr h, s.dpaOf m / 64) ∉ s.coh.timeouts → s.onChannel (s.dpaOf m / 64) = true → ∃ t x, exec (.memWriteback h hpa mv d) s = .next t ∧
    t.txn? s.coh.next = some x ∧ x.src = .head h ∧ x.kind = .write ∧ x.mc = 1 ∧ x.data = d ∧ x.ln = s.dpaOf m / 64 ∧ x.phase = .credit ∧ x.mpa = some (s.dpaOf
      m / 64) ∧
    t.nv = s.nv ∧ t.dram = s.dram ∧ t.chans = s.chans ∧ t.slc = s.slc ∧ t.coh.dir = s.coh.dir) ∧
  (∀ (h : Head) (hpa : Hpa) (m : Match) (s : State), s.memServed h = true → s.decode h hpa.toNat = some m → (s.region m.tpl.region).home = none →
    (s.region m.tpl.region).shared = false → ∃ t, exec (.memClnEvct h hpa) s = .next t ∧ .ndr h (s.dpaOf m / 64) false 0 ∈ t.out ∧ t.coh = s.coh ∧ t.dram =
      s.dram ∧ t.nv = s.nv ∧ t.inl = s.inl) ∧
  (∀ (h : Head) (hpa : Hpa) (mv : MetaValue) (d : Data) (s : State), s.memServed h = true → s.decode h hpa.toNat = none →
    (∃ t, exec (.memRead h hpa mv true) s = .next t ∧ .drs h 0 0 true 0 ∈ t.out ∧ (t.classSt setDEC 1).inFault = true ∧ t.coh = s.coh ∧ t.dram = s.dram ∧ t.nv
      = s.nv) ∧
    (∃ t, exec (.memWrite h hpa mv d true) s = .next t ∧ .ndr h 0 false 0 ∈ t.out ∧ (t.classSt setDEC 1).inFault = true ∧ t.coh = s.coh ∧ t.dram = s.dram ∧
      t.nv = s.nv)) ∧
  (∀ (h : Head) (hpa : Hpa) (mv : MetaValue) (ok : Bool) (s : State), s.admits (.head h) = true → s.fget PWR_STATE.CUR = 0 → s.ideRefused h = true → ∃ t,
    exec (.memRead h hpa mv ok) s = .next t ∧ .drs h 0 0 true 0 ∈ t.out ∧ t.fget HP_IDE.DROPS h = min (2 ^ HP_IDE.DROPS.width - 1) (s.fget HP_IDE.DROPS h + 1) ∧
    t.coh = s.coh ∧ t.dram = s.dram ∧ t.dec = s.dec ∧ t.nv = s.nv) ∧
  (∀ (h : Head) (hpa : Hpa) (mv : MetaValue) (s : State), s.admits (.head h) = true → s.fget PWR_STATE.CUR = 0 → s.ideRefused h = false → ∃ t,
    exec (.memRead h hpa mv false) s = .next t ∧ t.fget HP_IDE.INSECURE h = 1 ∧ t.fget HP_IDE.MEM_ACTIVE h = 0 ∧ (t.classSt setHP 1).inFault = true ∧ t.coh =
      s.coh ∧ t.dram = s.dram ∧ t.nv = s.nv) ∧
  (∀ (h : Head) (hpa : Hpa) (mv : MetaValue) (m : Match) (home : NodeId) (tag : Nat) (s : State), s.decodes h hpa.toNat m → (s.region m.tpl.region).home = some
    home →
    s.freeTag home.toNat = some tag → ∃ t msg, exec (.memRead h hpa mv true) s = .next t ∧ .span home 1 msg ∈ t.out ∧ msg.head = h ∧ msg.ln = BitVec.ofNat 40
      (s.dpaOf m / 64) ∧
    msg.tag = BitVec.ofNat 12 tag ∧ msg.mv = mv ∧ smFind? t.spn.tags (home.toNat * 4096 + tag) = some
      { head := some h, ln := s.dpaOf m / 64, op := 1, since := s.wclk } ∧
    t.coh = s.coh ∧ t.dram = s.dram ∧ t.nv = s.nv)

/-- The key ID of a request (05 R116), w being the decoder's keyid_width and DEFKEY its `DEC_DEFKEY.KEY`: a host read, write, partial write or writeback, and a read that leaves for a
remote home, goes under (DEFKEY AND NOT (2^w - 1)) OR HPA[44+w:45], which is DEFKEY where w is 0 and HPA[51:45] where w is 7; a drawer's operand in device memory goes under the key ID
of its descriptor's attributes, whatever its address and DEFKEY hold. -/
def Obligations.KeyIdOfRequest : Prop :=
  (∀ (h : Head) (hpa : Hpa) (mv : MetaValue) (d : Data) (be : ByteEn) (m : Match) (k : BitVec 7) (s : State), s.hitsDirect h hpa.toNat m → m.tpl.kw ≤ 7 →
    k = ((BitVec.ofNat 7 (s.fget DEC_DEFKEY.KEY m.idx) &&& ~~~BitVec.ofNat 7 (2 ^ m.tpl.kw - 1)) ||| BitVec.ofNat 7 (hpa.toNat / 2 ^ 45 % 2 ^ m.tpl.kw)) →
    (m.tpl.kw = 0 → k = BitVec.ofNat 7 (s.fget DEC_DEFKEY.KEY m.idx)) ∧ (m.tpl.kw = 7 → k = hpa.extractLsb' 45 7) ∧
    (∃ t x, exec (.memRead h hpa mv true) s = .next t ∧ t.txn? s.coh.next = some x ∧ x.key = k) ∧
    (∃ t x, exec (.memWrite h hpa mv d true) s = .next t ∧ t.txn? s.coh.next = some x ∧ x.key = k) ∧
    (∃ t x, exec (.partialWrite h hpa mv d be true) s = .next t ∧ t.txn? s.coh.next = some x ∧ x.key = k) ∧
    ((s.region m.tpl.region).shared = false → s.ttRoom1 = true → (s.localPtr h, s.dpaOf m / 64) ∉ s.coh.timeouts → s.onChannel (s.dpaOf m / 64) = true →
      ∃ t x, exec (.memWriteback h hpa mv d) s = .next t ∧ t.txn? s.coh.next = some x ∧ x.key = k)) ∧
  (∀ (h : Head) (hpa : Hpa) (mv : MetaValue) (m : Match) (home : NodeId) (tag : Nat) (s : State), s.decodes h hpa.toNat m → (s.region m.tpl.region).home = some
    home → s.freeTag home.toNat = some tag →
    m.tpl.kw ≤ 7 → ∃ t msg, exec (.memRead h hpa mv true) s = .next t ∧ .span home 1 msg ∈ t.out ∧
    msg.key = ((BitVec.ofNat 7 (s.fget DEC_DEFKEY.KEY m.idx) &&& ~~~BitVec.ofNat 7 (2 ^ m.tpl.kw - 1)) ||| BitVec.ofNat 7 (hpa.toNat / 2 ^ 45 % 2 ^ m.tpl.kw)))
      ∧
  (∀ (d : DrawerId) (r : RingId) (n rn dpa : Nat) (rg : Region) (o : Op) (s : State), s.freshOp d r 2 n o → s.badKey o = none → o.desc.dattr.dev = true →
    o.desc.len = 64 → o.desc.dst.toNat % 64 = 0 →
    s.opDec d o.desc.dattr o.desc.dst.toNat = some (rn, rg, dpa) → rg.home = none → rg.tiered = false → (s.slot o.desc.dattr.key.toNat).state = 1 → ∃ t x, exec
      (.fill d r) s = .next t ∧
    t.txn? s.coh.next = some x ∧ x.src = .drawer n ∧ x.key = o.desc.dattr.key)

/-! ## Coherence (06 R132-R156; 05 R126; 09 R246-R247) -/

/-- Coherence events: a response resolves its snoop and takes a pointer that left its line invalid, a late one is counted; a conflict notice is acknowledged; the lock of a line goes to the contender
next after ROT, the others queue and ROT moves past the winner (06 R139, R140); an eviction whose snoops are answered removes its entry; a freed way takes the entry of the set's first waiter; a
snoop unanswered for its limit raises COH class 5 and enters the timeout table; a fetched PME is installed. -/
def Obligations.CoherenceEvents : Prop :=
  (∀ (h : Head) (ln : BitVec 40) (left : MetaValue) (at_ : Time) (s : State), (s.localPtr h, ln.toNat, at_) ∈ s.coh.sent → (s.localPtr h, ln.toNat) ∉
    s.coh.timeouts →
    (∀ e ∈ s.coh.txns, e.2.ln ≠ ln.toNat) → ∃ t, exec (.m2sBirsp h ln left) s = .next t ∧
    t.coh.sent = s.coh.sent.filter (fun e => !(e.1 == s.localPtr h && e.2.1 == ln.toNat)) ∧ (left ≠ .I → t.coh.dir = s.coh.dir) ∧
    (∀ k e, left = .I → s.selfNode < 64 → s.dirFind ln.toNat = some (k, e) → e.ovf = false → e.ptrs = [BitVec.ofNat 10 (s.localPtr h)] → smFind? t.coh.dir k =
      none) ∧
    t = { s with out := [], coh := t.coh, slc := { s.slc with moves := t.slc.moves } }) ∧
  (∀ (h : Head) (ln : BitVec 40) (left : MetaValue) (s : State), (s.localPtr h, ln.toNat) ∈ s.coh.timeouts → ∃ t, exec (.m2sBirsp h ln left) s = .next t ∧
    t.coh = { s.coh with timeouts := s.coh.timeouts.filter (· != (s.localPtr h, ln.toNat)) } ∧
    t.fget COH_SNPTO.LATE = min (2 ^ COH_SNPTO.LATE.width - 1) (s.fget COH_SNPTO.LATE + 1) ∧ t = { s with out := [], coh := t.coh, regs := t.regs } ∧ RegsSame
      [COH_SNPTO.LATE] s t) ∧
  (∀ (h : Head) (ln : BitVec 40) (s : State), s.accepts h = true → s.spn.tags = [] → exec (.biconflict h ln) s = .next
    { s with out := [.biConflictAck h ln.toNat] }) ∧
  (∀ (ln : BitVec 40) (n r : Nat) (x : Txn) (s : State), smFind? s.coh.locks ln.toNat = none → s.contenders ln.toNat = [(n, r)] → s.txn? n = some x → x.shared
    = false → x.tiered = false →
    x.ln = ln.toNat → x.dyed = false → s.onChannel ln.toNat = true → ∃ t, exec (.lineLockGrant ln .none) s = .next t ∧
    smFind? t.coh.locks ln.toNat = some { holder := some n } ∧ t.txn? n = some { x with phase := .credit, mpa := some ln.toNat, since := s.wclk } ∧
    t.fget COH_ROT.ROT = s.fget COH_ROT.ROT ∧ t.dram = s.dram ∧ t.nv = s.nv ∧ t.chans = s.chans ∧ t.slc = s.slc) ∧
  (∀ (ln : BitVec 40) (a ra b rb : Nat) (x : Txn) (s : State), smFind? s.coh.locks ln.toNat = none → (s.contenders ln.toNat = [(a, ra), (b, rb)] ∨ s.contenders
    ln.toNat = [(b, rb), (a, ra)]) →
    rotScore (s.fget COH_ROT.ROT) ra < rotScore (s.fget COH_ROT.ROT) rb → s.txn? a = some x → x.shared = false → x.tiered = false → x.ln = ln.toNat → x.dyed =
      false →
    s.onChannel ln.toNat = true → ∃ t, exec (.lineLockGrant ln .none) s = .next t ∧ smFind? t.coh.locks ln.toNat = some { holder := some a, queue := [b] } ∧
    t.fget COH_ROT.ROT = (ra + 1) % 20 ∧ t.dram = s.dram ∧ t.nv = s.nv) ∧
  (∀ (ln : BitVec 40) (v : Evict) (s : State), smFind? s.coh.evicts ln.toNat = some v → v.snoops = [] → v.forTxn = none → v.poisonIfNoWb = false → s.coh.txns =
    [] → ∃ t,
    exec (.evictionComplete ln) s = .next t ∧ smFind? t.coh.evicts ln.toNat = none ∧ (∀ k e, s.dirFind ln.toNat = some (k, e) →
      smFind? t.coh.dir k = (if v.down then some { e with m := false } else none)) ∧ t = { s with out := [], coh := t.coh }) ∧
  (∀ (ln : BitVec 40) (v : Evict) (s : State), smFind? s.coh.evicts ln.toNat = some v → v.snoops ≠ [] → exec (.evictionComplete ln) s = .next s.clearOut) ∧
  (∀ (set : BitVec 16) (n w : Nat) (rest : List Nat) (x : Txn) (e : DirEntry) (s : State), smGet s.coh.retry set.toNat [] = n :: rest → s.txn? n = some x →
    s.pickWay x.ln = .free w →
    s.dirFind x.ln = none → s.entryAfter x none = some e → x.unkLost = false → x.tiered = false → x.dyed = false → s.onChannel x.ln = true → ∃ t,
    exec (.wayFreed set) s = .next t ∧ smFind? t.coh.dir w = some e ∧ smGet t.coh.retry set.toNat [] = rest ∧ t.txn? n = some
      { x with phase := .credit, mpa := some x.ln, since := s.wclk } ∧
    t.dram = s.dram ∧ t.nv = s.nv ∧ t.chans = s.chans) ∧
  (∀ (node : NodeId) (h : Head) (ln : BitVec 40) (q : Nat) (at_ : Time) (s : State),
    s.coh.sent.find? (fun e => (e.1 == node.toNat * 16 + h.val || e.1 == 1024 + node.toNat && h.val == 0) && e.2.1 == ln.toNat) = some (q, ln.toNat, at_) →
    s.elapsed at_ (usT (max 100 (s.fget COH_CTL.SNPTO))) = true → ∃ t, exec (.snoopTimeout node h ln) s = .next t ∧ (t.classSt setCOH 5).inFault = true ∧
    t.fget COH_SNPTO.TIMEOUTS = min (2 ^ COH_SNPTO.TIMEOUTS.width - 1) (s.fget COH_SNPTO.TIMEOUTS + 1) ∧ (q, ln.toNat) ∈ t.coh.timeouts ∧ t.nv = s.nv ∧ t.chans
      = s.chans ∧
    t.ifc = s.ifc ∧ t.sec = s.sec) ∧
  (∀ (page : BitVec 33) (s : State), page.toNat + 2 ^ 32 ∈ s.dec.misses → s.coh.txns = [] → ∃ t, exec (.pmeFetchReturn page true true) s = .next t ∧
    t.dec.misses = s.dec.misses.filter (· != page.toNat + 2 ^ 32) ∧ t.pmeCached (page.toNat + 2 ^ 32) = true ∧ t.coh = s.coh ∧ t.dram = s.dram ∧ t.nv = s.nv ∧
      t.slc.pageKey = s.slc.pageKey) ∧
  (∀ (page : BitVec 33) (s : State), page.toNat + 2 ^ 32 ∈ s.dec.misses → s.coh.txns = [] → s.pmeCached (page.toNat + 2 ^ 32) = false → ∃ t, exec
    (.pmeFetchReturn page false false) s = .next t ∧
    (t.classSt setSLC 2).inFault = true ∧ (t.pme (page.toNat + 2 ^ 32)).poison = true ∧ (t.pme (page.toNat + 2 ^ 32)).tier = 3 ∧ t.coh = s.coh ∧ t.dram =
      s.dram ∧ t.nv = s.nv) ∧
  (∀ (page : BitVec 33) (a b : Bool) (s : State), page.toNat + 2 ^ 32 ∉ s.dec.misses → exec (.pmeFetchReturn page a b) s = .next s.clearOut)


/-! ## Weir and the DRAM channels (11; 07) -/

/-- Weir (11 R277, R280, R285, R292; 07 R163): one grant at most, which charges its class and enters the matching queue of the channel, a write with its completion; no grant while the channel does not
serve; the byte count of a window is latched when TB passes the window's end; a parity error of the counts stops the grants until both queues are empty and the counts start again at 0. -/
def Obligations.WeirGrants : Prop :=
  (∀ (ch : Chan) (n : Nat) (x : Txn) (aged : Bool) (s : State), s.grants ch = true → s.urgRefresh.weirPick ch = some ((n, x), aged) → s.txn? n = some x →
    x.kind = .read → ∃ t,
    exec (.weirGrant ch) s = .next t ∧ (t.chan ch).rq = (s.chan ch).rq ++ [n] ∧ (t.chan ch).wq = (s.chan ch).wq ∧ (t.txn? n).map (·.phase) = some .dmcq ∧
    t.fget WEIR_OUT.NOW (ch.val * 8 + x.cls) = (s.fget WEIR_OUT.NOW (ch.val * 8 + x.cls) + 1) % 256 ∧ smGet (t.chan ch).bytes x.cls 0 = smGet (s.chan ch).bytes
      x.cls 0 + 64 ∧
    (∀ c, c ≠ ch.val → t.chan c = s.chan c) ∧ t.dram = s.dram ∧ t.nv = s.nv ∧ t.coh.dir = s.coh.dir) ∧
  (∀ (ch : Chan) (n : Nat) (h : Head) (x : Txn) (aged : Bool) (s : State), s.grants ch = true → s.urgRefresh.weirPick ch = some ((n, x), aged) → s.txn? n =
    some x → x.kind = .write →
    x.src = .head h → s.mergeInto ch x = none → ∃ t dl, exec (.weirGrant ch) s = .next t ∧ (t.chan ch).wq = (s.chan ch).wq ++ [n] ∧ (t.chan ch).rq = (s.chan
      ch).rq ∧
    .ndr h x.ln false dl ∈ t.out ∧ t.dram = s.dram ∧ t.nv = s.nv ∧ t.coh.dir = s.coh.dir) ∧
  (∀ (ch : Chan) (s : State), s.grants ch = false ∨ s.urgRefresh.weirPick ch = none → exec (.weirGrant ch) s = .next s.clearOut.urgRefresh) ∧
  (∀ (cls : Fin 8) (ch : Chan) (s : State), smGet (s.chan ch).winStart cls 0 / (max 1 (s.fget WEIR_WINDOW.US (ch.val * 8 + cls.val)) * 1000) <
      s.tb / (max 1 (s.fget WEIR_WINDOW.US (ch.val * 8 + cls.val)) * 1000) → ∃ t, exec (.weirWindowEnd cls ch) s = .next t ∧
    t.fget WEIR_BYTES.LAST (ch.val * 8 + cls.val) = smGet (s.chan ch).bytes cls 0 % 2 ^ 32 ∧ smGet (t.chan ch).bytes cls 0 = 0 ∧
    (∀ i, i ≠ ch.val * 8 + cls.val → t.fget WEIR_BYTES.LAST i = s.fget WEIR_BYTES.LAST i) ∧ (∀ c, c ≠ ch.val → t.chan c = s.chan c) ∧
    t = { s with out := [], regs := t.regs, chans := t.chans } ∧ RegsSame [WEIR_BYTES.LAST] s t) ∧
  (∀ (ch : Chan) (s : State), ∃ t, exec (.creditParityError ch) s = .next t ∧ t.chan ch = { s.chan ch with creditStop := true } ∧ (t.classSt setWEIR 2).inFault
    = true ∧
    (∀ c, c ≠ ch.val → t.chan c = s.chan c) ∧ t = { s with
      out := t.out, regs := t.regs, heads := t.heads, chans := t.chans, wit := t.wit, flt := t.flt
      boot := { s.boot with fatal := t.boot.fatal }
      spn := { s.spn with withdrawn := t.spn.withdrawn, ageSeq := t.spn.ageSeq, links := t.spn.links } } ∧ RegsSame (faultFlds) s t) ∧
  (∀ (ch : Chan) (s : State), (s.chan ch).creditStop = true → (s.chan ch).rq = [] → (s.chan ch).wq = [] → ∃ t, exec (.creditResync ch) s = .next t ∧
    t.chan ch = { s.chan ch with creditStop := false } ∧ (∀ k, k < 8 → t.fget WEIR_OUT.NOW (ch.val * 8 + k) = 0) ∧ (∀ c, c ≠ ch.val → t.chan c = s.chan c) ∧
    t = { s with out := [], regs := t.regs, chans := t.chans } ∧ RegsSame [WEIR_OUT.NOW] s t) ∧
  (∀ (ch : Chan) (s : State), (s.chan ch).rq ≠ [] ∨ (s.chan ch).wq ≠ [] → exec (.creditResync ch) s = .next s.clearOut)

/-- DRAM commands (07 R164-R173, R180-R185): a slot of a channel that does not serve does nothing; where no refresh is owed the chosen request's next command issues: an activate opens its row, a precharge closes
one, a read's burst carries what the line holds, a write's burst stores its line and takes it from the queue; a good line goes back to the head that asked, a poisoned one as poison, and an
uncorrectable error raises DMC class 2; a refresh that falls due is owed, four at most. -/
def Obligations.DramCommands : Prop :=
  (∀ (ch : Chan) (sub : Bool) (b : List Nat) (s : State), s.fget DMC_STATUS.STATE ch ≠ 2 → exec (.dmcCommandIssue ch sub b) s = .next s.clearOut) ∧
  (∀ (ch : Chan) (sub : Bool) (b : List Nat) (i : Item) (s : State), s.fget DMC_STATUS.STATE ch = 2 → s.owing ch sub = [] → s.choose ch b (s.slate ch sub) =
    some i →
    s.need ch i = .act → ∃ t, exec (.dmcCommandIssue ch sub b) s = .next t ∧ .dramCmd ch sub i.p.bankNo (.act i.p.row) ∈ t.out ∧ (t.bank ch i.p.bankNo).row =
      some i.p.row ∧
    (∀ k, k ≠ i.p.bankNo → t.bank ch k = s.bank ch k) ∧ t.dram = s.dram ∧ t.nv = s.nv ∧ t.coh.dir = s.coh.dir) ∧
  (∀ (ch : Chan) (sub : Bool) (b : List Nat) (i : Item) (s : State), s.fget DMC_STATUS.STATE ch = 2 → s.owing ch sub = [] → s.choose ch b (s.slate ch sub) =
    some i →
    s.need ch i = .pre → ∃ t, exec (.dmcCommandIssue ch sub b) s = .next t ∧ .dramCmd ch sub i.p.bankNo .pre ∈ t.out ∧ (t.bank ch i.p.bankNo).row = none ∧
    (∀ k, k ≠ i.p.bankNo → t.bank ch k = s.bank ch k) ∧ t.dram = s.dram ∧ t.nv = s.nv ∧ t.regs = s.regs) ∧
  (∀ (ch : Chan) (sub : Bool) (b : List Nat) (i : Item) (m : Nat) (s : State), s.fget DMC_STATUS.STATE ch = 2 → s.owing ch sub = [] → s.choose ch b (s.slate ch
    sub) = some i →
    s.need ch i = .column → i.x.kind ≠ .write → i.x.mpa = some m → ∃ t, exec (.dmcCommandIssue ch sub b) s = .next t ∧
    (t.chan ch).inflight = (s.chan ch).inflight ++ [(i.t, s.rawLine m)] ∧ (.dramCmd ch sub i.p.bankNo .rd ∈ t.out ∨ .dramCmd ch sub i.p.bankNo .rdAp ∈ t.out) ∧
      t.dram = s.dram ∧ t.nv = s.nv) ∧
  (∀ (ch : Chan) (sub : Bool) (b : List Nat) (i : Item) (m : Nat) (s : State), s.fget DMC_STATUS.STATE ch = 2 → s.owing ch sub = [] → s.choose ch b (s.slate ch
    sub) = some i →
    s.need ch i = .column → i.x.kind = .write → i.x.mpa = some m → ∃ t, exec (.dmcCommandIssue ch sub b) s = .next t ∧
    t.dram = (s.writeLine m i.x.key i.x.data i.x.slab i.x.poison).dram ∧ (∀ n, n ≠ m → t.rawLine n = s.rawLine n) ∧ i.t ∉ (t.chan ch).wq ∧
    (.dramCmd ch sub i.p.bankNo .wr ∈ t.out ∨ .dramCmd ch sub i.p.bankNo .wrAp ∈ t.out) ∧ t.nv = s.nv) ∧
  (∀ (ch : Chan) (n m : Nat) (l : Line) (rest : List (Nat × Line)) (x : Txn) (p : Place) (h : Head) (s : State), (s.chan ch).inflight = (n, l) :: rest → s.txn?
    n = some x → x.mpa = some m →
    s.placeOf m = some p → x.kind = .read → x.src = .head h → x.job = none → x.retired = false → (s.slot x.key.toNat).mode ≠ 1 → (s.seen l m x.key x.slab).bad
      = false → ∃ t dl,
    exec (.dramReadReturn ch .clean) s = .next t ∧ .drs h x.ln (s.seen l m x.key x.slab).data (x.poison || s.boot.fatal) dl ∈ t.out ∧ t.txn? n = none ∧
    (t.chan ch).inflight = rest ∧ t.dram = s.dram ∧ t.nv = s.nv ∧ t.slc = s.slc ∧ t.inl = s.inl) ∧
  (∀ (ch : Chan) (n m : Nat) (l : Line) (rest : List (Nat × Line)) (x : Txn) (p : Place) (h : Head) (s : State), (s.chan ch).inflight = (n, l) :: rest → s.txn?
    n = some x → x.mpa = some m →
    s.placeOf m = some p → x.kind = .read → x.src = .head h → x.job = none → l.poison = true → ∃ t d dl, exec (.dramReadReturn ch .clean) s = .next t ∧ .drs h
      x.ln d true dl ∈ t.out ∧
    t.txn? n = none ∧ t.dram = s.dram ∧ t.nv = s.nv) ∧
  (∀ (ch : Chan) (n m : Nat) (l : Line) (rest : List (Nat × Line)) (x : Txn) (p : Place) (h : Head) (r : Bool) (s : State), (s.chan ch).inflight = (n, l) ::
    rest → s.txn? n = some x →
    x.mpa = some m → s.placeOf m = some p → x.kind = .read → x.src = .head h → x.job = none → s.rawLine m = l → s.inMeta m = false → ∃ t dl, exec
      (.dramReadReturn ch (.uncorrectable r)) s = .next t ∧
    .drs h x.ln 0 true dl ∈ t.out ∧ (t.classSt (setDMC ch) 2).inFault = true ∧ (t.rawLine m).poison = true ∧ (∀ k, k ≠ m → t.rawLine k = s.rawLine k) ∧ t.nv =
      s.nv) ∧
  (∀ (ch : Chan) (rk : Fin 16) (s : State), s.fget DMC_STATUS.STATE ch = 2 → ∃ t, exec (.refreshDue ch rk) s = .next t ∧
    smGet (t.chan ch).owed rk.val 0 = min 4 (smGet (s.chan ch).owed rk.val 0 + 1) ∧ smGet (t.chan ch).owed (16 + rk.val) 0 = min 4 (smGet (s.chan ch).owed (16
      + rk.val) 0 + 1) ∧
    (3 ≤ smGet (s.chan ch).owed rk.val 0 → rk.val ∈ (t.chan ch).forced) ∧ (∀ c, c ≠ ch.val → t.chan c = s.chan c) ∧ t = { s with out := [], chans := t.chans })
      ∧
  (∀ (ch : Chan) (b : Nat) (s : State), (s.bank ch b).hint = 2 → (s.bank ch b).row.isSome = true → (s.chan ch).rq = [] → (s.chan ch).wq = [] → ∃ t, exec
    (.autoPageIdle ch b) s = .next t ∧
    t.out = [.dramCmd ch (decide (512 ≤ b)) b .pre] ∧ t.bank ch b = { s.bank ch b with row := none, streak := 0 } ∧ (∀ k, k ≠ b → t.bank ch k = s.bank ch k) ∧
    t = { s with out := t.out, chans := t.chans })

/-- Keeping the DRAM alive (07 R172-R178, R186-R190): training puts a channel into service or fails it; the hubs' readings decide the doubled refresh rate, three that fail raise class 9; calibration marks a
channel for retraining when drift is not absorbed; scrub steps advance; eight replays that fail take the channel to FAILED; sparing is asked for, and at its copy's end the rank is out of use; self-tests run and end with
their result; repairs are queued or refused for want of resources. -/
def Obligations.DramUpkeep : Prop :=
  (∀ (ch : Chan) (spd : Spd) (s : State), s.fget DMC_STATUS.STATE ch = 1 → spd.matchesCut = true → ∃ t, exec (.dramTrainingComplete ch true spd) s = .next t ∧
    t.fget DMC_STATUS.STATE ch = 2 ∧ t.fget DMC_STATUS.INSVC ch = s.insvc ch % 2 ^ DMC_STATUS.INSVC.width ∧ t.fget DMC_STATUS.RETRAIN ch = 0 ∧
    t.chan ch = { s.chan ch with trained := 2, raaimt := if spd.rfm then spd.raaimt else 0 } ∧ (∀ c, c ≠ ch.val → t.chan c = s.chan c) ∧
    t = { s with out := [], regs := t.regs, chans := t.chans } ∧ RegsSame [DMC_STATUS.STATE, DMC_STATUS.INSVC, DMC_STATUS.RETRAIN, DMC_RH.RFM, DMC_RH.DRFM] s
      t) ∧
  (∀ (ch : Chan) (ok : Bool) (spd : Spd) (s : State), s.fget DMC_STATUS.STATE ch = 1 → (ok = false ∨ spd.matchesCut = false) → ∃ t, exec (.dramTrainingComplete
    ch ok spd) s = .next t ∧
    t.fget DMC_STATUS.STATE ch = 4 ∧ (t.classSt (setDMC ch) 7).inFault = true ∧ (t.chan ch).rq = [] ∧ (t.chan ch).wq = [] ∧ (t.chan ch).inflight = [] ∧ t.dram
      = s.dram ∧ t.nv = s.nv) ∧
  (∀ (ch : Chan) (ok : Bool) (spd : Spd) (s : State), s.fget DMC_STATUS.STATE ch ≠ 1 → exec (.dramTrainingComplete ch ok spd) s = .next s.clearOut) ∧
  (∀ (ch : Chan) (r : BitVec 16) (s : State), s.fget DMC_CFG.SLOTS ch = 1 → (4 * s.fget DMC_REFCTL.HOT_T ch : Int) < r.toInt → ∃ t, exec (.spdThermalRead ch
    (some r) none) s = .next t ∧
    t.fget DMC_TEMP.SLOT0 ch = r.toNat ∧ (t.chan ch).hot = true ∧ (t.chan ch).blind = false ∧ t.fget DMC_STATUS.REF2X ch = 1 ∧
    ((s.chan ch).hot = false → (t.classSt (setDMC ch) 10).inFault = true) ∧ (∀ c, c ≠ ch.val → t.chan c = s.chan c) ∧ t = { s with
      out := t.out, regs := t.regs, heads := t.heads, chans := t.chans, wit := t.wit, flt := t.flt
      boot := { s.boot with fatal := t.boot.fatal }
      spn := { s.spn with withdrawn := t.spn.withdrawn, ageSeq := t.spn.ageSeq, links := t.spn.links }
        } ∧ RegsSame ([DMC_STATUS.REF2X, DMC_TEMP.SLOT0, DMC_TEMP.SLOT1, WEIR_CAP.D, WEIR_CAP.EFFSUM, WEIR_CAP.REF2X, WEIR_CAP.SHORT, WEIR_CAP.SPARE, WEIR_CAP.SUMMIN, WEIR_EFF.EFFMAX, WEIR_EFF.EFFMIN, WEIR_EFF.REDUCED, WEIR_SHORT.CH, WEIR_SHORT.EVENTS, WEIR_SHORT.SPAN, WEIR_SPAN.SPANCAP, WEIR_SPAN.SUMC5] ++ faultFlds) s t) ∧
  (∀ (ch : Chan) (s : State), s.fget DMC_CFG.SLOTS ch = 1 → (s.chan ch).sensorFails.1 = 2 → ∃ t, exec (.spdThermalRead ch none none) s = .next t ∧ (t.chan
    ch).blind = true ∧
    t.fget DMC_TEMP.SLOT0 ch = 0x8000 ∧ t.fget DMC_STATUS.REF2X ch = 1 ∧ (t.classSt (setDMC ch) 9).inFault = true ∧ t = { s with
      out := t.out, regs := t.regs, heads := t.heads, chans := t.chans, wit := t.wit, flt := t.flt
      boot := { s.boot with fatal := t.boot.fatal }
      spn := { s.spn with withdrawn := t.spn.withdrawn, ageSeq := t.spn.ageSeq, links := t.spn.links }
        } ∧ RegsSame ([DMC_STATUS.REF2X, DMC_TEMP.SLOT0, DMC_TEMP.SLOT1, WEIR_CAP.D, WEIR_CAP.EFFSUM, WEIR_CAP.REF2X, WEIR_CAP.SHORT, WEIR_CAP.SPARE, WEIR_CAP.SUMMIN, WEIR_EFF.EFFMAX, WEIR_EFF.EFFMIN, WEIR_EFF.REDUCED, WEIR_SHORT.CH, WEIR_SHORT.EVENTS, WEIR_SHORT.SPAN, WEIR_SPAN.SPANCAP, WEIR_SPAN.SUMC5] ++ faultFlds) s t) ∧
  (∀ (ch : Chan) (rk : Fin 16) (n : Nat) (s : State), s.fget DMC_STATUS.STATE ch = 2 →
    (∃ t, exec (.dqsOscMeasure ch rk true n) s = .next t ∧ t.fget DMC_CAL.MAXSTALL ch = max (s.fget DMC_CAL.MAXSTALL ch) (min 40 n) ∧
      t.chan ch = { s.chan ch with recalDqs := (s.chan ch).recalDqs.filter (· != rk.val) } ∧ t = { s with out := [], regs := t.regs, chans := t.chans } ∧
        RegsSame [DMC_CAL.MAXSTALL, DMC_CAL.RECAL] s t) ∧
    (∃ t, exec (.dqsOscMeasure ch rk false n) s = .next t ∧ t.fget DMC_STATUS.RETRAIN ch = 1 ∧ (t.classSt (setDMC ch) 5).inFault = true ∧ t = { s with
      out := t.out, regs := t.regs, heads := t.heads, chans := t.chans, wit := t.wit, flt := t.flt
      boot := { s.boot with fatal := t.boot.fatal }
      spn := { s.spn with withdrawn := t.spn.withdrawn, ageSeq := t.spn.ageSeq, links := t.spn.links }
        } ∧ RegsSame ([DMC_CAL.MAXSTALL, DMC_CAL.RECAL, DMC_STATUS.RETRAIN] ++ faultFlds) s t) ∧
    (∃ t, exec (.zqCalibration ch rk n) s = .next t ∧ t.fget DMC_CAL.MAXSTALL ch = max (s.fget DMC_CAL.MAXSTALL ch) (min 40 n) ∧
      t.chan ch = { s.chan ch with recalZq := (s.chan ch).recalZq.filter (· != rk.val) } ∧ t.out = [.dramCmd ch false (rk.val * 32) .zqCal, .dramCmd ch true
        ((16 + rk.val) * 32) .zqCal] ∧
      t = { s with out := t.out, regs := t.regs, chans := t.chans } ∧ RegsSame [DMC_CAL.MAXSTALL, DMC_CAL.RECAL] s t)) ∧
  (∀ (ch : Chan) (m : Nat) (p : Place) (rk : Fin 16) (row : Nat) (s : State), s.fone DMC_SCRUB.EN ch = true → s.fget DMC_STATUS.STATE ch = 2 → s.placeOf m =
    some p → p.chan = ch.val →
    s.lineBusy m = false → (∃ t, exec (.patrolScrubStep ch (some m) .clean rk row) s = .next t ∧ ((t.chan ch).scrubbed = (s.chan ch).scrubbed + 1 ∨ (t.chan
      ch).scrubbed = 0) ∧
      (∀ c, c ≠ ch.val → t.chan c = s.chan c) ∧ t = { s with out := [], regs := t.regs, chans := t.chans } ∧ RegsSame [DMC_SCRUB.PASSES, DMC_SCRUBPOS.POS] s t)
        ∧
    (∃ t, exec (.patrolScrubStep ch (some m) (.uncorrectable false) rk row) s = .next t ∧ (t.classSt (setDMC ch) 2).inFault = true ∧
      t.fget DMC_ECC.UE ch = min (2 ^ DMC_ECC.UE.width - 1) (s.fget DMC_ECC.UE ch + 1) ∧ (s.inMeta m = false → (t.rawLine m).poison = true) ∧ (∀ k, k ≠ m →
        t.rawLine k = s.rawLine k) ∧ t.nv = s.nv)) ∧
  (∀ (ch : Chan) (k : AlertKind) (s : State), s.fget DMC_STATUS.STATE ch = 2 → (∃ t, exec (.alertReplay ch k 8 false) s = .next t ∧ t.fget DMC_STATUS.STATE ch
    = 4 ∧
      (t.classSt (setDMC ch) 6).inFault = true ∧ t.dram = s.dram ∧ t.nv = s.nv) ∧
    (∃ t, exec (.alertReplay ch k 2 true) s = .next t ∧ t.fget DMC_STATUS.STATE ch = 2 ∧ (t.classSt (setDMC ch) 5).inFault = true ∧
      (k = .caParity → t.fget DMC_CAERR.CA ch = min (2 ^ DMC_CAERR.CA.width - 1) (s.fget DMC_CAERR.CA ch + 3)) ∧ t.chans = s.chans ∧ t.dram = s.dram ∧ t.nv =
        s.nv)) ∧
  (∀ (ch : Chan) (s : State), s.fget DMC_SPARE.STATE ch = 1 → s.rankUnits ch ≤ s.sparePos ch → ∃ t, exec (.sparingComplete ch) s = .next t ∧ t.fget
    DMC_SPARE.STATE ch = 2 ∧
    t.fget DMC_SPARE.DONE ch = 1 ∧ t.chan ch = { s.chan ch with outRank := some (s.fget DMC_SPARE.FROM ch) } ∧ (t.classSt (setDMC ch) 8).inFault = true ∧ t =
      { s with
      out := t.out, regs := t.regs, heads := t.heads, chans := t.chans, wit := t.wit, flt := t.flt
      boot := { s.boot with fatal := t.boot.fatal }
      spn := { s.spn with withdrawn := t.spn.withdrawn, ageSeq := t.spn.ageSeq, links := t.spn.links }
        } ∧ RegsSame ([DMC_RANKMAP.MAP, DMC_SPARE.DONE, DMC_SPARE.STATE, DMC_SPAREPOS.POS, DMC_STATUS.INSVC, WEIR_CAP.D, WEIR_CAP.EFFSUM, WEIR_CAP.REF2X, WEIR_CAP.SHORT, WEIR_CAP.SPARE, WEIR_CAP.SUMMIN, WEIR_EFF.EFFMAX, WEIR_EFF.EFFMIN, WEIR_EFF.REDUCED, WEIR_SHORT.CH, WEIR_SHORT.EVENTS, WEIR_SHORT.SPAN, WEIR_SPAN.SPANCAP, WEIR_SPAN.SUMC5] ++ faultFlds) s t) ∧
  (∀ (ch : Chan) (n : Nat) (s : State), (s.chan ch).test.isSome = true → ∃ t, exec (.dmcSelfTestEnd ch n) s = .next t ∧ t.chan ch =
    { s.chan ch with test := none } ∧
    t.fget DMC_TEST.GO ch = 0 ∧ t.fget DMC_TEST.DONE ch = 1 ∧ t.fget DMC_TEST.RESULT ch = (if 0 < n then 1 else 0) ∧ t.fget DMC_TESTRES.ERRORS ch = min
      0xFFFFFFFF n ∧
    t = { s with
      out := t.out, regs := t.regs, heads := t.heads, chans := t.chans, wit := t.wit, flt := t.flt
      boot := { s.boot with fatal := t.boot.fatal }
      spn := { s.spn with withdrawn := t.spn.withdrawn, ageSeq := t.spn.ageSeq, links := t.spn.links }
        } ∧ RegsSame ([DMC_ECC.CE, DMC_TEST.DONE, DMC_TEST.GO, DMC_TEST.RESULT, DMC_TESTRES.ERRORS] ++ faultFlds) s t) ∧
  (∀ (p : Path) (c : Nat) (s : State), s.admits p = true → s.mgmt p = true → s.chSel p = [c] → c < 12 → s.fone DMC_CAL.RECAL c = false → s.fget
    DMC_STATUS.STATE c = 2 → ∃ t,
    exec (.dmcCalRecal p) s = .next t ∧ t.fget DMC_CAL.RECAL c = 1 ∧ t.chan c = { s.chan c with recalDqs := s.rankList c, recalZq := s.rankList c } ∧
    (∀ k, k ≠ c → t.chan k = s.chan k) ∧ t = { s.onAccess p with regs := t.regs, chans := t.chans } ∧ RegsSame [DMC_CAL.RECAL] s t) ∧
  (∀ (p : Path) (c : Nat) (rk : Fin 16) (s : State), s.admits p = true → s.mgmt p = true → s.chSel p = [c] → c < 12 →
    (s.rankExists c rk = true → (s.chan c).test = none → s.fget DMC_SPARE.STATE c ≠ 1 → s.fget DMC_STATUS.STATE c = 2 → ∃ t, exec (.dmcTestGo p rk 1) s = .next
      t ∧
      t.fget DMC_TEST.GO c = 1 ∧ t.fget DMC_TESTRES.ERRORS c = 0 ∧ t.chan c = { s.chan c with test := some (rk.val, 1) } ∧ t =
        { s.onAccess p with regs := t.regs, chans := t.chans } ∧
      RegsSame [DMC_TEST.RANK, DMC_TEST.PATTERN, DMC_TEST.GO, DMC_TESTRES.ERRORS] s t) ∧
    (∃ t, exec (.dmcTestGo p rk 0) s = .next t ∧ t.fget DMC_TEST.GO c = 0 ∧ t.fget DMC_TEST.DONE c = 1 ∧ t.fget DMC_TEST.RESULT c = 3 ∧ t =
      { s.onAccess p with regs := t.regs } ∧
      RegsSame [DMC_TEST.RANK, DMC_TEST.PATTERN, DMC_TEST.GO, DMC_TEST.DONE, DMC_TEST.RESULT] s t)) ∧
  (∀ (p : Path) (c : Nat) (rk : Fin 16) (s : State), s.admits p = true → s.mgmt p = true → s.chSel p = [c] → c < 12 → s.fget DMC_SPARE.STATE c = 0 → s.fget
    DMC_CFG.SPARE c ≠ 15 →
    s.rankMapped c rk = true → (s.chan c).test = none → ∃ t, exec (.dmcSpareGo p rk) s = .next t ∧ t.fget DMC_SPARE.STATE c = 1 ∧ t.fget DMC_SPARE.FROM c =
      rk.val ∧
    t.fget DMC_SPAREPOS.POS c = 0 ∧ t.chan c = { s.chan c with spareFrom := s.wclk } ∧ t = { s with
      out := t.out, regs := t.regs, heads := t.heads, chans := t.chans, wit := t.wit, flt := t.flt
      boot := { s.boot with fatal := t.boot.fatal }
      spn := { s.spn with withdrawn := t.spn.withdrawn, ageSeq := t.spn.ageSeq, links := t.spn.links }
      pwr := { s.pwr with latched := t.pwr.latched, held := t.pwr.held }
        } ∧ RegsSame ([DMC_SPARE.FROM, DMC_SPARE.STATE, DMC_SPAREPOS.POS, WEIR_CAP.D, WEIR_CAP.EFFSUM, WEIR_CAP.REF2X, WEIR_CAP.SHORT, WEIR_CAP.SPARE, WEIR_CAP.SUMMIN, WEIR_EFF.EFFMAX, WEIR_EFF.EFFMIN, WEIR_EFF.REDUCED, WEIR_SHORT.CH, WEIR_SHORT.EVENTS, WEIR_SHORT.SPAN, WEIR_SPAN.SPANCAP, WEIR_SPAN.SUMC5] ++ faultFlds) s t) ∧
  (∀ (p : Path) (ch : Chan) (sub : Bool) (rank bank row : Nat) (s : State), s.adminReady p = true →
    (∃ t, exec (.pprSoft p ch sub rank bank row true) s = .next t ∧ t.chan ch =
      { s.chan ch with pprSoft := (s.chan ch).pprSoft ++ [(sub.toNat, rank, bank, row)] } ∧
      t = { (s.onMailbox p).reply p .success with chans := t.chans }) ∧
    (∃ t, exec (.pprHard p ch sub rank bank row true) s = .next t ∧ t.chan ch =
      { s.chan ch with pprHard := (s.chan ch).pprHard ++ [(sub.toNat, rank, bank, row)] } ∧
      t = { (s.onMailbox p).reply p .success with chans := t.chans }) ∧
    exec (.pprSoft p ch sub rank bank row false) s = .next ((s.onMailbox p).reply p .resourcesExhausted) ∧
    exec (.pprHard p ch sub rank bank row false) s = .next ((s.onMailbox p).reply p .resourcesExhausted))


/-! ## The Press, Sluice, decoders and dynamic capacity (05 R111-R120, R126; 08 R203-R213; 09 R226-R250) -/

/-- The Press is lossless (08 R193-R197, R213): under every predictor that applies to a segment of 128 words, its coded bytes have the coded size, pass the exact check of a decode,
and decode to the same 128 words; so does the segment under the predictor the encoder chooses, whatever predictors are enabled, and it is never longer than 265 bytes. -/
def Obligations.PressIsLossless : Prop :=
  (∀ (w : List Nat) (p : Nat), w.length = 128 → (∀ x ∈ w, x < 65536) → p < 8 → applies w p = true →
    (segBytes w p).length = segSize w p ∧ segOk (segBytes w p) (p == 7) = true ∧ decodeSeg (segBytes w p) = w) ∧
  (∀ (w : List Nat) (en : Nat), w.length = 128 → (∀ x ∈ w, x < 65536) → applies w (choosePred w en) = true ∧ choosePred w en < 8 ∧
    segSize w (choosePred w en) ≤ 265 ∧ decodeSeg (segBytes w (choosePred w en)) = w)

/-- The Press, Sluice, HDM decoders and dynamic capacity (05 R111, R112, R115, R120, R126; 08 R205, R207, R208, R210-R213; 09 R229, R230, R233-R235, R237-R240, R242, R243, R250): a decode job answers its reads with the
segment's data, poison where its page is bad; a failed attempt runs again and counts towards its pipe's fence; an encode gives its page's size; a promotion writes the page buffer over the old lines and
switches the PME to the T0 page; a demotion stores the encoded page in a run and frees the T0 page; moves start at their marks; a stalled write ends in a T0 page, the reserve or capacity
fault; decoders commit only what R112 admits; extents join and leave the table by their responses. -/
def Obligations.PressAndSluice : Prop :=
  (∀ (job n : Nat) (p : Fin 6) (j : DecJob) (x : Txn) (h : Head) (s : State), smFind? s.press.jobs job = some j → j.ready = true → s.unitRuns 0 = true →
    s.mayTake false p j.failed = true →
    j.txns = [n] → s.txn? n = some x → x.src = .head h →
    (∀ ok, j.bad = true → ∃ t dl, exec (.pressDecodeComplete job p ok) s = .next t ∧ .drs h x.ln 0 true dl ∈ t.out ∧ t.txn? n = none ∧ smFind? t.press.jobs job
      = none ∧ t.dram = s.dram ∧ t.nv = s.nv) ∧
    (j.bad = false → j.raw = true → ∃ t dl q, exec (.pressDecodeComplete job p true) s = .next t ∧
      .drs h x.ln (s.runLine j.loc j.page j.key (if j.node.toNat = 0 ∧ j.got.isEmpty then none else some j.got) (x.ln % 64)).1 q dl ∈ t.out ∧
      (q = false → (s.runLine j.loc j.page j.key (if j.node.toNat = 0 ∧ j.got.isEmpty then none else some j.got) (x.ln % 64)).2 = false) ∧
      t.txn? n = none ∧ smFind? t.press.jobs job = none ∧ t.dram = s.dram ∧ t.nv = s.nv) ∧
    (∀ hd b w, j.bad = false → j.raw = false → j.failed = [] → s.hcacheGet j.loc j.node.toNat = some hd →
      s.runBytes j.loc j.page j.key (if j.node.toNat = 0 ∧ j.got.isEmpty then none else some j.got) (4 * j.slabs) (segLines hd j.seg) = (b, false) → segPlain
        hd b j.seg = some w → ∃ t dl,
      exec (.pressDecodeComplete job p true) s = .next t ∧ .drs h x.ln (dataOfBytes (sliceBytes w (64 * (x.ln % 4)) 64)) (x.poison || s.boot.fatal) dl ∈ t.out
        ∧ t.txn? n = none ∧
      smFind? t.press.jobs job = none ∧ t.dram = s.dram ∧ t.nv = s.nv ∧ t.inl = s.inl) ∧
    (j.bad = false → j.failed = [] → ∃ t, exec (.pressDecodeComplete job p false) s = .next t ∧ smFind? t.press.jobs job = some { j with failed := [p.val] } ∧
      t.fget PRS_RERUN.RERUNS = min (2 ^ PRS_RERUN.RERUNS.width - 1) (s.fget PRS_RERUN.RERUNS + 1) ∧ (s.fget PRS_FENCE.TH ≤ 1 → t.fbitAt PRS_STATUS.DFENCE 0 p
        = true ∧ (t.classSt setPRS 4).inFault = true) ∧
      t.coh = s.coh ∧ t.dram = s.dram ∧ t.nv = s.nv) ∧
    (j.bad = false → 2 ≤ j.failed.length → ∃ t dl, exec (.pressDecodeComplete job p false) s = .next t ∧ .drs h x.ln 0 true dl ∈ t.out ∧ (t.classSt setPRS
      3).inFault = true ∧
      t.fget PRS_RERUN.FAILED = min (2 ^ PRS_RERUN.FAILED.width - 1) (s.fget PRS_RERUN.FAILED + 1) ∧ smFind? t.press.jobs job = none ∧ t.dram = s.dram ∧ t.nv =
        s.nv)) ∧
  (∀ (job : Nat) (p : Fin 6) (ok : Bool) (s : State), s.unitRuns 0 = false → exec (.pressDecodeComplete job p ok) s = .next s.clearOut) ∧
  (∀ (page : BitVec 33) (p : Fin 4) (m : Move) (s : State), smFind? s.slc.moves (page.toNat + 2 ^ 32) = some m → m.kind = .demote → m.result = none → m.snoops
    = [] → m.late = [] → s.unitRuns 0 = true →
    s.mayTake true p m.failed = true → m.failed = [] → (s.pme (page.toNat + 2 ^ 32)).tier = 0 →
    (∀ c, s.encodeLines (overlay (s.pageLines (s.pme (page.toNat + 2 ^ 32)) (page.toNat + 2 ^ 32) m.key [] []).1 m.buffer) = some c → ∃ t, exec
      (.pressEncodeComplete page p true) s = .next t ∧
      smFind? t.slc.moves (page.toNat + 2 ^ 32) = some { m with result := some c.slabs, encLen := m.buffer.length } ∧
      t.fget PRS_PAGES.ENCODED = min (2 ^ PRS_PAGES.ENCODED.width - 1) (s.fget PRS_PAGES.ENCODED + 1) ∧ t.dram = s.dram ∧ t.nv = s.nv ∧ t.coh = s.coh ∧ t.inl =
        s.inl ∧ t.dec = s.dec) ∧
    (s.encodeLines (overlay (s.pageLines (s.pme (page.toNat + 2 ^ 32)) (page.toNat + 2 ^ 32) m.key [] []).1 m.buffer) = none → ∃ t, exec (.pressEncodeComplete
      page p true) s = .next t ∧
      smFind? t.slc.moves (page.toNat + 2 ^ 32) = some { m with result := some 0 } ∧ t = { s with out := t.out, slc := t.slc }) ∧
    (∃ t, exec (.pressEncodeComplete page p false) s = .next t ∧ smFind? t.slc.moves (page.toNat + 2 ^ 32) = some { m with failed := [p.val] } ∧
      t.fget PRS_RERUN.RERUNS = min (2 ^ PRS_RERUN.RERUNS.width - 1) (s.fget PRS_RERUN.RERUNS + 1) ∧ t.dram = s.dram ∧ t.nv = s.nv ∧ t.coh = s.coh)) ∧
  (∀ (p : Path) (e : BitVec 4) (d : BitVec 6) (s : State), s.admits p = true → s.mgmt p = true → ∃ t, exec (.prsUnfence p e d) s = .next t ∧
    (∀ k, k < 4 → t.fbitAt PRS_STATUS.EFENCE 0 k = (s.fbitAt PRS_STATUS.EFENCE 0 k && !e.getLsbD k)) ∧ (∀ k, k < 6 → t.fbitAt PRS_STATUS.DFENCE 0 k = (s.fbitAt
      PRS_STATUS.DFENCE 0 k && !d.getLsbD k)) ∧
    t = { s.onAccess p with regs := t.regs } ∧ RegsSame [PRS_STATUS.EFENCE, PRS_STATUS.DFENCE] s t) ∧
  (∀ (p : Path) (e : BitVec 4) (d : BitVec 6) (s : State), s.admits p = true → s.mgmt p = false → exec (.prsUnfence p e d) s = .next (s.onAccess p)) ∧
  (∀ s : State, s.admits .bench = true → exec (.prsHcacheFlush .bench) s = .next { s with out := [], press := { s.press with hcache := [] } } ∧
    ∃ t, exec (.decPmecFlush .bench) s = .next t ∧ (∀ pn l, smFind? s.dec.pmec pn = some l → l.pinned = false → smFind? t.dec.pmec pn = none ∧ (t.pme pn).tier
      = l.pme.tier ∧ (t.pme pn).loc = l.pme.loc) ∧
      (∀ pn l, smFind? s.dec.pmec pn = some l → l.pinned = true → (∀ e ∈ s.dec.pmec, e.1 = pn → e.2.pinned = true) → smFind? t.dec.pmec pn = some l) ∧ t =
        { s with out := [], dec := t.dec, slc := t.slc }) ∧
  (∀ (p : Path) (s : State), s.admits p = true → p ≠ .bench → exec (.prsHcacheFlush p) s = .next (s.onAccess p) ∧ exec (.decPmecFlush p) s = .next (s.onAccess
    p)) ∧
  (∀ (page : BitVec 33) (lost : List (Fin 16)) (m : Move) (d n : Nat) (x : Txn) (h : Head) (s : State), smFind? s.slc.moves (page.toNat + 2 ^ 32) = some m →
    m.kind = .promoteOnWrite → m.dest = some d →
    m.snoops = [] → m.late = [] → m.want = [] → m.buffer = [] → m.writers = [n] → s.txn? n = some x → x.kind = .write → x.src = .head h → (s.pme (page.toNat +
      2 ^ 32)).tier = 3 →
    (s.pme (page.toNat + 2 ^ 32)).poison = false → (∀ e ∈ s.coh.txns, e.2.phase = .promoting → e.2.ln / 64 = page.toNat + 2 ^ 32 → e.1 = n) → ∃ t dl, exec
      (.promotionComplete page lost) s = .next t ∧
    (t.pme (page.toNat + 2 ^ 32)).tier = 0 ∧ (t.pme (page.toNat + 2 ^ 32)).loc = d * 16 ∧ (t.pme (page.toNat + 2 ^ 32)).poison = false ∧
    (∀ i, i < 64 → i ≠ x.ln % 64 → t.rawLine (d * 64 + i) = (s.writeLine (d * 64 + i) m.key 0 false false).rawLine (d * 64 + i)) ∧
    t.rawLine (d * 64 + x.ln % 64) = (s.writeLine (d * 64 + x.ln % 64) x.key x.data false x.poison).rawLine (d * 64 + x.ln % 64) ∧
    (∀ k, (k < d * 64 ∨ d * 64 + 64 ≤ k) → t.rawLine k = s.rawLine k) ∧ smFind? t.slc.moves (page.toNat + 2 ^ 32) = none ∧ smFind? t.slc.pageKey (page.toNat +
      2 ^ 32) = some x.key ∧
    .ndr h x.ln false dl ∈ t.out ∧ t.txn? n = none ∧ t.fget SLC_PROMOTED.PAGES = min (2 ^ SLC_PROMOTED.PAGES.width - 1) (s.fget SLC_PROMOTED.PAGES + 1) ∧
    (∀ q, q ≠ page.toNat + 2 ^ 32 → (t.pme q).tier = (s.pme q).tier ∧ (t.pme q).loc = (s.pme q).loc) ∧ t.nv = s.nv ∧ t.chans = s.chans) ∧
  (∀ (page : BitVec 33) (lost : List (Fin 16)) (s : State), smFind? s.slc.moves (page.toNat + 2 ^ 32) = none → exec (.promotionComplete page lost) s = .next
    s.clearOut ∧
    exec (.demotionComplete page) s = .next s.clearOut ∧ exec (.t2MoveComplete page) s = .next s.clearOut) ∧
  (∀ s : State, s.slc.epochStart + max 1 (s.fget SLC_EPOCH.US) * 1000 ≤ s.tb →
    (s.fget PWR_STATE.CUR = 0 → ∃ t, exec .epochEnd s = .next t ∧ t.epoch = (s.epoch + 1) % 2 ^ SLC_EPOCHNUM.E.width ∧
      t.dec = { s.dec with pmec := smMap s.dec.pmec fun _ l => { l with pme := { l.pme with count := l.pme.count / 2 } } } ∧ t.slc.rec2 = smMap s.slc.rec2 (fun
        _ r => { r with sum := r.sum / 2 }) ∧
      t.slc.rec1 = smMap s.slc.rec1 (fun _ r => { r with sum := r.sum / 2 }) ∧ t.slc.dpm = s.slc.dpm ∧ t.slc.epochStart = s.slc.epochStart + max 1 (s.fget
        SLC_EPOCH.US) * 1000 ∧ t = { s with out := t.out, regs := t.regs, boot := t.boot, heads := t.heads, dec := t.dec, slc := t.slc } ∧
      RegsSame ([SLC_EPOCHNUM.E] ++ pmuFlds) s t) ∧
    (s.fget PWR_STATE.CUR ≠ 0 → exec .epochEnd s =
      .next { s with out := [], slc := { s.slc with epochStart := s.slc.epochStart + max 1 (s.fget SLC_EPOCH.US) * 1000, missedEpochs := s.slc.missedEpochs + 1 } }))
        ∧
  (∀ s : State, s.tb < s.slc.epochStart + max 1 (s.fget SLC_EPOCH.US) * 1000 → exec .epochEnd s = .next s.clearOut) ∧
  (∀ (blk : Nat) (s : State), (∃ t, exec (.stampVisit blk false) s = .next t ∧ t.rec2 blk =
    { s.rec2 blk with sum := 16384, stamp := BitVec.ofNat 16 s.epoch, stale := true } ∧
      (∀ b, b ≠ blk → t.rec2 b = s.rec2 b) ∧ (t.classSt setSLC 4).inFault = true ∧ t = { s with
      out := t.out, regs := t.regs, heads := t.heads, slc := t.slc, wit := t.wit, flt := t.flt, boot := { s.boot with fatal := t.boot.fatal }
      spn := { s.spn with withdrawn := t.spn.withdrawn, ageSeq := t.spn.ageSeq, links := t.spn.links } } ∧ RegsSame (faultFlds) s t) ∧
    ((s.rec2 blk).stale = false → 16 ≤ (BitVec.ofNat 16 s.epoch - (s.rec2 blk).stamp).toNat → ∃ t, exec (.stampVisit blk true) s = .next t ∧
      t.rec2 blk = { s.rec2 blk with stamp := BitVec.ofNat 16 s.epoch - 16 } ∧ (∀ b, b ≠ blk → t.rec2 b = s.rec2 b) ∧ t =
        { s with out := [], slc := { s.slc with rec2 := t.slc.rec2 } }) ∧
    ((s.rec2 blk).stale = true → (BitVec.ofNat 16 s.epoch - (s.rec2 blk).stamp).toNat < 16 → ∃ t, exec (.stampVisit blk true) s = .next t ∧
      t.rec2 blk =
        { s.rec2 blk with t0 := (s.slc.dpm.filter fun q => blk2 q.1 == blk && q.2.tier == 0).length, t1 := (s.slc.dpm.filter fun q => blk2 q.1 == blk && q.2.tier == 1).length, stale := false }
        ∧
      (∀ b, b ≠ blk → t.rec2 b = s.rec2 b) ∧ t = { s with out := [], slc := { s.slc with rec2 := t.slc.rec2 } })) ∧
  (∀ (pn d : Nat) (rest : List Nat) (s1 s : State), s.slc.promoQ = pn :: rest → (s.pme pn).tier = 1 → smHas s.slc.moves pn = false → s.t0Mark SLC_T0MARK.HIGH ≤
    s.f0 → s.moveRoom = true → s.movable pn = true →
    s.fone SLC_CTL.PROMOTE_EN = true → s.drawT0 = some (d, s1) → ∃ t m, exec .readPromotionStart s = .next t ∧ smFind? t.slc.moves pn = some m ∧ m.kind =
      .readPromote ∧ m.dest = some d ∧ m.want = [] ∧
    m.key = smGet s.slc.pageKey pn 0 ∧ t.slc.promoQ = rest ∧ smHas t.slc.t0used d = true ∧ (t.pme pn).tier = 1 ∧ t.dram = s.dram ∧ t.nv = s.nv) ∧
  (∀ s : State, s.slc.promoQ = [] → exec .readPromotionStart s = .next s.clearOut) ∧
  (∀ (pn : Nat) (s : State), s.f0 < s.t0Mark SLC_T0MARK.LOW → s.fone SLC_CTL.DEMOTE_EN = true → s.canEncode = true → s.moveRoom = true → s.choosePage 0 = some
    pn → ∃ t m,
    exec .demotionStart s = .next t ∧ t.slc.demoting = true ∧ t.slc.cursor = pn ∧ smFind? t.slc.moves pn = some m ∧ m.kind = .demote ∧ m.result = none ∧ m.key
      = smGet s.slc.pageKey pn 0 ∧
    t.dram = s.dram ∧ t.nv = s.nv ∧ t.slc.t0used = s.slc.t0used) ∧
  (∀ s : State, s.t0Mark SLC_T0MARK.LOW ≤ s.f0 → s.slc.demoting = false ∨ s.t0Mark SLC_T0MARK.HIGH ≤ s.f0 → exec .demotionStart s = .next
    { s with out := [], slc := { s.slc with demoting := false } }) ∧
  (∀ (page : BitVec 33) (m : Move) (r loc : Nat) (c : Coded) (s1 s : State), smFind? s.slc.moves (page.toNat + 2 ^ 32) = some m → m.kind = .demote → m.result =
    some r → 0 < r → r < 16 → m.buffer = [] → m.encLen = 0 →
    (s.pme (page.toNat + 2 ^ 32)).tier = 0 → s.encodeLines (s.pageLines (s.pme (page.toNat + 2 ^ 32)) (page.toNat + 2 ^ 32) m.key [] []).1 = some c → s.drawRun
      r = some (loc, s1) →
    (∀ e ∈ s.coh.txns, e.2.phase = .promoting → e.2.ln / 64 ≠ page.toNat + 2 ^ 32) → s.slc.stallQ = [] → ∃ t, exec (.demotionComplete page) s = .next t ∧
    (t.pme (page.toNat + 2 ^ 32)).tier = 1 ∧ (t.pme (page.toNat + 2 ^ 32)).slabs = r ∧ (t.pme (page.toNat + 2 ^ 32)).raw = false ∧ (t.pme (page.toNat + 2 ^
      32)).loc = loc ∧
    (∀ i, i < 4 * r → t.rawLine (loc * 4 + i) =
      { data := dataOfBytes (sliceBytes (storedPage ((s.pageLines (s.pme (page.toNat + 2 ^ 32)) (page.toNat + 2 ^ 32) m.key [] []).1.flatMap fun y => bytesOfData y.1) c) (64 * i) 64), inst := s.keyInst m.key, ktag := ktagOf m.key, slab := true, poison := !s.keyUsable m.key })
      ∧
    (∀ k, (k < loc * 4 ∨ loc * 4 + 4 * r ≤ k) → t.rawLine k = s.rawLine k) ∧ smFind? t.slc.moves (page.toNat + 2 ^ 32) = none ∧
    t.fget SLC_DEMOTED.PAGES = min (2 ^ SLC_DEMOTED.PAGES.width - 1) (s.fget SLC_DEMOTED.PAGES + 1) ∧
    (∀ q, q ≠ page.toNat + 2 ^ 32 → (t.pme q).tier = (s.pme q).tier ∧ (t.pme q).loc = (s.pme q).loc) ∧ t.nv = s.nv ∧ t.coh = s.coh) ∧
  (∀ (page : BitVec 33) (m : Move) (s : State), smFind? s.slc.moves (page.toNat + 2 ^ 32) = some m → m.kind = .demote → m.result = some 0 → m.buffer = [] →
    (∀ e ∈ s.coh.txns, e.2.phase = .promoting → e.2.ln / 64 ≠ page.toNat + 2 ^ 32) → ∃ t, exec (.demotionComplete page) s = .next t ∧ (t.pme (page.toNat + 2 ^
      32)).count = 32 ∧
    (t.pme (page.toNat + 2 ^ 32)).tier = (s.pme (page.toNat + 2 ^ 32)).tier ∧ (t.pme (page.toNat + 2 ^ 32)).loc = (s.pme (page.toNat + 2 ^ 32)).loc ∧ smFind?
      t.slc.moves (page.toNat + 2 ^ 32) = none ∧
    t = { s with out := [], slc := t.slc, dec := t.dec }) ∧
  (∀ (pn tag : Nat) (node : Nat) (s : State), s.fs < s.slabMark SLC_SLABMARK.LOW → s.fone SLC_TIERCFG.T2_EN = true → s.fone SLC_CTL.DEMOTE_EN = true →
    s.moveRoom = true → s.donorNode = some node →
    s.choosePage 1 = some pn → s.freeTag node = some tag → (s.lineRegion (pn * 64)).shared = false → ∃ t m msg, exec .t2MoveStart s = .next t ∧ t.slc.toT2 =
      true ∧ t.slc.cursor = pn ∧
    smFind? t.slc.moves pn = some m ∧ m.kind = .toT2 ∧ .span (BitVec.ofNat 6 node) 0x12 msg ∈ t.out ∧
    smFind? t.spn.tags (node * 4096 + tag) = some { ln := if (s.pme pn).raw then 16 else (s.pme pn).slabs, page := pn, op := 0x12, since := s.wclk } ∧ t.dram =
      s.dram ∧ t.nv = s.nv ∧ t.coh = s.coh) ∧
  (∀ s : State, s.slabMark SLC_SLABMARK.LOW ≤ s.fs → s.slc.toT2 = false → exec .t2MoveStart s = .next s.clearOut) ∧
  (∀ (page : BitVec 33) (m : Move) (node : NodeId) (loc : Nat) (s : State), smFind? s.slc.moves (page.toNat + 2 ^ 32) = some m → m.kind = .toT2 → m.peer = some
    (node, loc) → m.want = [] → m.snoops = [] → m.late = [] →
    m.buffer = [] → (s.pme (page.toNat + 2 ^ 32)).tier = 1 → (∀ e ∈ s.coh.txns, e.2.phase = .promoting → e.2.ln / 64 ≠ page.toNat + 2 ^ 32) → ∃ t, exec
      (.t2MoveComplete page) s = .next t ∧
    (t.pme (page.toNat + 2 ^ 32)).tier = 2 ∧ (t.pme (page.toNat + 2 ^ 32)).node = node ∧ (t.pme (page.toNat + 2 ^ 32)).loc = loc ∧ (t.pme (page.toNat + 2 ^
      32)).slabs = (s.pme (page.toNat + 2 ^ 32)).slabs ∧
    t.slc.slabs = giveRun s.slc.slabs (s.pme (page.toNat + 2 ^ 32)).loc ∧ smFind? t.slc.moves (page.toNat + 2 ^ 32) = none ∧ t.dram = s.dram ∧ t.nv = s.nv ∧
      t.coh = s.coh ∧ t.spn = s.spn) ∧
  (∀ (n at_ : Nat) (rest : List (Nat × Nat)) (x : Txn) (m : Move) (s : State), s.slc.stallQ = (n, at_) :: rest → (at_ = 0 ∨ s.elapsed (at_ - 1) (usT (s.fget
    SLC_PROMO.STALL_US)) = true) → s.txn? n = some x →
    smFind? s.slc.moves (x.ln / 64) = some m →
    (∀ d s1, s.drawT0 = some (d, s1) → ∃ t, exec .stallExpiry s = .next t ∧ t.slc.stallQ = rest ∧ smFind? t.slc.moves (x.ln / 64) = some
      { m with dest := some d } ∧
      t.txn? n = some { x with phase := .promoting } ∧ smHas t.slc.t0used d = true ∧ t = { s with out := [], slc := t.slc, coh := t.coh }) ∧
    (∀ d s1, s.drawT0 = none → s.donorNode = none → s.drawRsv = some (d, s1) → ∃ t, exec .stallExpiry s = .next t ∧ t.slc.stallQ = rest ∧
      smFind? t.slc.moves (x.ln / 64) = some { m with dest := some d, spill := false } ∧ (t.classSt setSLC 5).inFault = true ∧ t.dram = s.dram ∧ t.nv = s.nv) ∧
    (∀ h, s.drawT0 = none → s.donorNode = none → s.drawRsv = none → (s.pme (x.ln / 64)).tier = 3 → m.writers = [n] → x.src = .head h →
      (∀ e ∈ s.coh.txns, e.2.phase = .promoting → e.2.ln / 64 ≠ x.ln / 64) → ∃ t dl, exec .stallExpiry s = .next t ∧ .ndr h x.ln true dl ∈ t.out ∧ (t.pme (x.ln
        / 64)).poison = true ∧
      (t.pme (x.ln / 64)).tier = 3 ∧ s.regionNo (x.ln / 64) ∈ t.slc.capFault ∧ (t.classSt setSLC 6).inFault = true ∧ smFind? t.slc.moves (x.ln / 64) = none ∧
        t.dram = s.dram ∧ t.nv = s.nv)) ∧
  (∀ s : State, s.slc.stallQ = [] → exec .stallExpiry s = .next s.clearOut) ∧
  (∀ (a : Nat) (e : Extent) (s : State), s.f0 + s.fs / 16 < s.fget SLC_DCDMARK.RELEASE * (512 * s.poolFrames 0 + 512 * s.poolFrames 3) / 1024 → s.slc.lastAsk =
    none → s.dec.extents = [(a, e)] →
    2 ^ 44 ≤ e.start → e.asked = false → ∃ t, exec .dcdReleaseRequest s = .next t ∧ t.slc = { s.slc with lastAsk := some s.wclk } ∧ t.dec =
      { s.dec with extents := [(a, { e with asked := true })] } ∧
    (∀ h, h < 16 → e.heads.getLsbD h = true → (smGet (s.head h).logs 0 []).length < 256 →
      smGet (t.head h).logs 0 [] = smGet (s.head h).logs 0 [] ++ [{ kind := 3, set := setSLC, cls := 0, addr := e.start }]) ∧
    (∀ h, h < 16 → e.heads.getLsbD h = false → t.head h = s.head h) ∧ t = { s with out := t.out, heads := t.heads, dec := t.dec, slc := t.slc }) ∧
  (∀ s : State, s.fget SLC_DCDMARK.RELEASE * (512 * s.poolFrames 0 + 512 * s.poolFrames 3) / 1024 ≤ s.f0 + s.fs / 16 → exec .dcdReleaseRequest s = .next
    s.clearOut) ∧
  (∀ (node : NodeId) (s : State), node.toNat ∈ s.slc.lost → ∃ t, exec (.t2DonorLostScan node) s = .next t ∧ node.toNat ∉ t.slc.lost ∧ smFind? t.slc.grants
    node.toNat = none ∧
    (∀ k, k ≠ node.toNat → (k ∈ t.slc.lost ↔ k ∈ s.slc.lost) ∧ smFind? t.slc.grants k = smFind? s.slc.grants k) ∧
    (∀ pn q, smFind? s.slc.dpm pn = some q → q.tier = 2 → q.node = node → (t.pme pn).poison = true) ∧ t.dram = s.dram ∧ t =
      { s with out := [], dec := t.dec, slc := t.slc }) ∧
  (∀ (node : NodeId) (s : State), node.toNat ∉ s.slc.lost → exec (.t2DonorLostScan node) s = .next s.clearOut) ∧
  (∀ (h : Head) (n : Fin 32) (base size ways gran : Nat) (lock : Bool) (s : State), s.admits (.head h) = true → s.fget PWR_STATE.CUR = 0 → memSpace (s.head h)
    = true →
    ((s.decoder (h.val * 32 + n.val)).committed = false → (s.decoder (h.val * 32 + n.val)).locked = false → exec (.hdmCommit h n base size ways gran lock) s =
      .next ((s.onAccess (.head h)).putDecoder (h.val * 32 + n.val)
      { committed := s.hdmFits h n base size ways gran, err := !s.hdmFits h n base size ways gran, locked := s.hdmFits h n base size ways gran && lock, base := base, size := size, ways := ways, gran := gran }))
        ∧
    ((s.decoder (h.val * 32 + n.val)).committed = true ∨ (s.decoder (h.val * 32 + n.val)).locked = true → exec (.hdmCommit h n base size ways gran lock) s =
      .next (s.onAccess (.head h))) ∧
    ((s.decoder (h.val * 32 + n.val)).committed = true → (s.decoder (h.val * 32 + n.val)).locked = false → ∃ t, exec (.hdmUncommit h n) s = .next t ∧
      t.decoder (h.val * 32 + n.val) = { s.decoder (h.val * 32 + n.val) with committed := false, err := false } ∧ (∀ i, i ≠ h.val * 32 + n.val → t.decoder i =
        s.decoder i) ∧
      t = { s.onAccess (.head h) with dec := { s.dec with decoders := t.dec.decoders } }) ∧
    ((s.decoder (h.val * 32 + n.val)).locked = true → exec (.hdmUncommit h n) s = .next (s.onAccess (.head h)))) ∧
  (∀ (h : Head) (n m : Nat) (base size ways gran : Nat) (s : State), s.hdmFits h n base size ways gran = true → m ≠ n → m < 32 → (s.decoder (h.val * 32 +
    m)).committed = true →
    base + size ≤ (s.decoder (h.val * 32 + m)).base ∨ (s.decoder (h.val * 32 + m)).base + (s.decoder (h.val * 32 + m)).size ≤ base) ∧
  (∀ (h : Head) (a : Dpa) (len : Nat) (drawer : Option DrawerId) (s : State), s.admits (.head h) = true → s.fget PWR_STATE.CUR = 0 → memSpace (s.head h) = true
    → s.boot.fwRestart = false → smFind? s.dec.extents a.toNat = none →
    (s.extentOffered h a.toNat len (drawer.map Fin.val) = true → exec (.addDcResponse h a len drawer) s =
      .next ({ s.onMailbox (.head h) with dec := { s.dec with extents := smSet s.dec.extents a.toNat { start := a.toNat, len := len, heads := 1#16 <<< h.val, drawer := drawer.map Fin.val } } }.reply
        (.head h) .success)) ∧
    (s.extentOffered h a.toNat len (drawer.map Fin.val) = false → exec (.addDcResponse h a len drawer) s = .next ((s.onMailbox (.head h)).reply (.head h)
      .invalidInput)) ∧
    exec (.releaseDcResponse h a) s = .next ((s.onMailbox (.head h)).reply (.head h) .invalidInput)) ∧
  (∀ (h : Head) (a : Dpa) (e : Extent) (s : State), s.admits (.head h) = true → s.fget PWR_STATE.CUR = 0 → memSpace (s.head h) = true → s.boot.fwRestart =
    false → smFind? s.dec.extents a.toNat = some e → e.heads.getLsbD h = true →
    (e.heads &&& ~~~(1#16 <<< h.val) ≠ 0 → exec (.releaseDcResponse h a) s =
      .next { (s.onMailbox (.head h)).reply (.head h) .success with dec := { s.dec with extents := smSet s.dec.extents a.toNat { e with heads := e.heads &&& ~~~(1#16 <<< h.val) } } })
        ∧
    (e.heads &&& ~~~(1#16 <<< h.val) = 0 → ∃ t, exec (.releaseDcResponse h a) s = .next t ∧ smFind? t.dec.extents a.toNat = none ∧ (∀ b, b ≠ a.toNat → smFind?
      t.dec.extents b = smFind? s.dec.extents b) ∧
      .reply (.head h) .success [] ∈ t.out ∧ t.dec.decoders = s.dec.decoders ∧ t.dram = s.dram ∧ t.nv = s.nv ∧ t.chans = s.chans ∧ t.inl = s.inl))

/-! ## Drawers (04 R105; 08 R214-R217; 12 R293-R317) -/

/-- Drawer control (12 R294, R295, R297, R299-R301, R309-R317): an admin path binds, unbinds and limits drawers, a write that the rule ignores sets ERR; a reset of an ordinary drawer advances its
generation and clears it at once, one of a privileged drawer drains first; rings are enabled, disabled, paused and resumed; doorbells move an index or raise DRW class 1; an entry that waits is sent
when it is unmasked. -/
def Obligations.DrawerControl : Prop :=
  (∀ (p : Path) (d : DrawerId) (h : Head) (pasid : BitVec 20) (s : State), s.drwOpen p d = true →
    (s.bindBad d h pasid.toNat = false → ∃ t, exec (.drwBindWrite p d h pasid) s = .next t ∧ t.fget DRW_BIND.EN d = 1 ∧ t.fget DRW_BIND.HEAD d = h.val ∧ t.fget
      DRW_BIND.PASID d = pasid.toNat ∧
      (∀ e, e ≠ d.val → t.fget DRW_BIND.EN e = s.fget DRW_BIND.EN e ∧ t.fget DRW_BIND.HEAD e = s.fget DRW_BIND.HEAD e ∧ t.fget DRW_BIND.PASID e = s.fget
        DRW_BIND.PASID e) ∧
      t = { s.onAccess p with regs := t.regs } ∧ RegsSame [DRW_BIND.EN, DRW_BIND.HEAD, DRW_BIND.PASID] s t) ∧
    (s.bindBad d h pasid.toNat = true → ∃ t, exec (.drwBindWrite p d h pasid) s = .next t ∧ t.fget DRW_BIND.ERR d = 1 ∧ t =
      { s.onAccess p with regs := t.regs } ∧ RegsBut DRW_BIND.ERR d s t) ∧
    (d ≠ 0 → s.ringsOff d = true → ∃ t, exec (.drwUnbind p d) s = .next t ∧ t.fget DRW_BIND.EN d = 0 ∧ t = { s.onAccess p with regs := t.regs } ∧ RegsBut
      DRW_BIND.EN d s t) ∧
    (d = 0 ∨ s.ringsOff d = false → ∃ t, exec (.drwUnbind p d) s = .next t ∧ t.fget DRW_BIND.ERR d = 1 ∧ t = { s.onAccess p with regs := t.regs } ∧ RegsBut
      DRW_BIND.ERR d s t)) ∧
  (∀ (p : Path) (d : DrawerId) (h : Head) (pasid : BitVec 20) (v : Word) (s : State), s.admits p = true → s.drwAdmin p = false → exec (.drwBindWrite p d h
    pasid) s = .next (s.onAccess p) ∧
    exec (.drwUnbind p d) s = .next (s.onAccess p) ∧ exec (.drwLimitWrite p d v) s = .next (s.onAccess p) ∧ exec (.drwResetGo (some p) d) s = .next (s.onAccess
      p)) ∧
  (∀ (p : Path) (d : DrawerId) (v : Word) (s : State), s.drwOpen p d = true →
    (s.opsSum d (bits v.toNat 16 13) ≤ 4096 → ∃ t, exec (.drwLimitWrite p d v) s = .next t ∧ t.fget DRW_LIMIT.OPS d = bits v.toNat 16 13 ∧ t.fget
      DRW_LIMIT.RINGS d = bits v.toNat 29 2 ∧
      t.fget DRW_LIMIT.SHARE d = bits v.toNat 0 11 ∧ (∀ r, r ≤ bits v.toNat 29 2 → t.ring d r = s.ring d r) ∧
      (∀ r, r < 4 → bits v.toNat 29 2 < r → (s.ring d r).state ≠ 0 → s.ringBusy d r = false → t.ring d r =
        { s.ring d r with state := 0, closing := false, cause := 5 }) ∧
      (∀ r, r < 4 → bits v.toNat 29 2 < r → (s.ring d r).state ≠ 0 → s.ringBusy d r = true → t.ring d r = { s.ring d r with closing := true }) ∧ (∀ e, e ≠
        d.val → t.drawer e = s.drawer e) ∧
      t = { s.onAccess p with regs := t.regs, drw := { s.drw with drawers := t.drw.drawers } } ∧ RegsSame [DRW_LIMIT.OPS, DRW_LIMIT.RINGS, DRW_LIMIT.SHARE] s
        t) ∧
    (4096 < s.opsSum d (bits v.toNat 16 13) → ∃ t, exec (.drwLimitWrite p d v) s = .next t ∧ t.fget DRW_BIND.ERR d = 1 ∧ t =
      { s.onAccess p with regs := t.regs } ∧ RegsBut DRW_BIND.ERR d s t)) ∧
  (∀ (d : DrawerId) (v : Word) (s : State), s.pageOpen d = true →
    (bits v.toNat 16 11 = 0 ∨ (64 ≤ bits v.toNat 0 11 ∧ bits v.toNat 0 11 + bits v.toNat 16 11 ≤ 2048 ∧
        ∀ e ∈ s.boundTo (s.drwHead d), e ≠ d.val → overlaps (bits v.toNat 0 11) (bits v.toNat 16 11) (s.fget DRW_VEC.BASE e) (s.fget DRW_VEC.COUNT e) = false)
          → ∃ t, exec (.drwVecWrite d v) s = .next t ∧
      t.fget DRW_VEC.COUNT d = bits v.toNat 16 11 ∧ t.fget DRW_VEC.BASE d = bits v.toNat 0 11 ∧ t = { s.onAccess (s.pagePath d) with regs := t.regs } ∧
        RegsSame [DRW_VEC.BASE, DRW_VEC.COUNT] s t) ∧
    (bits v.toNat 16 11 ≠ 0 → (bits v.toNat 0 11 < 64 ∨ 2048 < bits v.toNat 0 11 + bits v.toNat 16 11) → ∃ t, exec (.drwVecWrite d v) s = .next t ∧ t.fget
      DRW_BIND.ERR d = 1 ∧
      t = { s.onAccess (s.pagePath d) with regs := t.regs } ∧ RegsBut DRW_BIND.ERR d s t)) ∧
  (∀ (p : Option Path) (q : Path) (d : DrawerId) (s : State), ((p = none ∧ s.pageOpen d = true ∧ q = s.pagePath d) ∨ (p = some q ∧ s.drwOpen q d = true)) →
    (s.drawer d).resetting = false →
    (s.drwPriv d = false → (s.drawer d).unbindAfter = false → s.tooOld d ((s.fget DRW_STATE.GEN d + 1) % 65536) = [] → ∃ t, exec (.drwResetGo p d) s = .next t ∧
      t.fget DRW_STATE.GEN d = (s.fget DRW_STATE.GEN d + 1) % 65536 ∧ t.fget DRW_RESET.GO d = 0 ∧ t.fget DRW_RESET.DONE d = 1 ∧ t.fget DRW_RESET.RESULT d = 0 ∧
        t.fget DRW_VEC.COUNT d = 0 ∧
      (∀ r, r < 4 → t.ring d r = {} ∧ t.fget DRW_RCFG.EN (4 * d + r) = 0) ∧ (∀ k x, smFind? (s.drawer d).irqs k = some x → smFind? (t.drawer d).irqs k = some
        { x with mask := true, pend := false }) ∧
      (∀ k o, smFind? s.drw.ops k = some o → o.drawer ≠ d.val → (∀ e ∈ s.drw.ops, e.1 = k → e.2 = o) → smFind? t.drw.ops k = some o) ∧
      (∀ k o, smFind? s.drw.ops k = some o → o.drawer = d.val → o.tags = [] → o.outst = 0 → smFind? t.drw.ops k = none) ∧ (∀ e, e ≠ d.val → t.drawer e =
        s.drawer e) ∧
      t = { s.onAccess q with regs := t.regs, drw := { s.drw with drawers := t.drw.drawers, ops := t.drw.ops } } ∧
      RegsSame [DRW_STATE.GEN, DRW_RESET.GO, DRW_RESET.DONE, DRW_RESET.RESULT, DRW_VEC.COUNT, DRW_VEC.BASE, DRW_SQBASE.ADDR, DRW_CQBASE.ADDR, DRW_STAGE.ADDR, DRW_RCFG.EN, DRW_RCFG.STOP, DRW_RCFG.EIE,
        DRW_RCFG.EIRQ, DRW_RCFG.LOG2, DRW_RSTATE.RESUME] s t) ∧
    (s.drwPriv d = false → s.tooOld d ((s.fget DRW_STATE.GEN d + 1) % 65536) ≠ [] → ∃ t, exec (.drwResetGo p d) s = .next t ∧ t.fget DRW_RESET.DONE d = 1 ∧
      t.fget DRW_RESET.RESULT d = 1 ∧
      t = { s.onAccess q with regs := t.regs } ∧ RegsSame [DRW_RESET.DONE, DRW_RESET.RESULT] s t) ∧
    (s.drwPriv d = true → ∃ t, exec (.drwResetGo p d) s = .next t ∧ t.fget DRW_RESET.GO d = 1 ∧ t.drawer d =
      { s.drawer d with resetting := true, drainFrom := s.wclk } ∧
      (∀ e, e ≠ d.val → t.drawer e = s.drawer e) ∧ t = { s.onAccess q with regs := t.regs, drw := { s.drw with drawers := t.drw.drawers } } ∧ RegsSame
        [DRW_RESET.GO] s t)) ∧
  (∀ (d : DrawerId) (s : State), (s.drawer d).resetting = true →
    (s.elapsed (s.drawer d).drainFrom (usT s.drainMax) = true → ∃ t, exec (.drainMaxExpiry d) s = .next t ∧ (t.drawer d).resetting = false ∧ (∀ e ∈ t.drw.ops,
      e.2.drawer ≠ d.val) ∧
      t.fget DRW_STATE.GEN d = (s.fget DRW_STATE.GEN d + 1) % 65536 ∧ (s.fget DRW_RESET.GO d = 1 → t.fget DRW_RESET.GO d = 0 ∧ t.fget DRW_RESET.DONE d = 1 ∧
        t.fget DRW_RESET.RESULT d = (if (s.drwOps d).isEmpty then 2 else 3)) ∧ (s.drwOps d ≠ [] → (t.classSt setDRW 3).inFault = true) ∧ t.dram = s.dram ∧ t.nv
          = s.nv ∧ t.coh = s.coh) ∧
    (s.elapsed (s.drawer d).drainFrom (usT s.drainMax) = false → exec (.drainMaxExpiry d) s = .next s.clearOut) ∧
    (s.drained d = true → ∃ t, exec (.privilegedDrainComplete d) s = .next t ∧ (t.drawer d).resetting = false ∧ (∀ e ∈ t.drw.ops, e.2.drawer ≠ d.val) ∧
      t.fget DRW_STATE.GEN d = (s.fget DRW_STATE.GEN d + 1) % 65536 ∧ (s.fget DRW_RESET.GO d = 1 → t.fget DRW_RESET.GO d = 0 ∧ t.fget DRW_RESET.DONE d = 1 ∧
        t.fget DRW_RESET.RESULT d = 2) ∧
      t = { s with out := [], regs := t.regs, heads := t.heads, drw := t.drw }) ∧
    (s.drained d = false → exec (.privilegedDrainComplete d) s = .next s.clearOut)) ∧
  (∀ (p : Path) (d : DrawerId) (rs : BitVec 4) (s : State), s.admits p = true → s.drwExists d = true → s.drwAdmin p = true ∨ s.pageOwner p d = true → ∃ t, exec
    (.drwPause p d rs) s = .next t ∧
    (∀ r, r < 4 → rs.getLsbD r = true → (s.ring d r).state = 1 → t.ring d r = { s.ring d r with state := 2, cause := 4 }) ∧
    (∀ r, rs.getLsbD r = false ∨ (s.ring d r).state ≠ 1 → t.ring d r = s.ring d r) ∧ (∀ e, e ≠ d.val → t.drawer e = s.drawer e) ∧ t.drw.ops = s.drw.ops ∧ t =
      { s with
      out := t.out, regs := t.regs, heads := t.heads, drw := t.drw, wit := t.wit, flt := t.flt, boot := { s.boot with fatal := t.boot.fatal }
      spn := { s.spn with withdrawn := t.spn.withdrawn, ageSeq := t.spn.ageSeq, links := t.spn.links }
      pwr := { s.pwr with latched := t.pwr.latched, held := t.pwr.held } } ∧ RegsSame (faultFlds) s t) ∧
  (∀ (d : DrawerId) (r : RingId) (s : State), s.pageOpen d = true →
    ((s.ring d r).state = 0 → (s.drawer d).resetting = false → s.ringValid d r = true → ∃ t, exec (.drwRingEnable d r) s = .next t ∧ t.ring d r =
      { state := 1 } ∧ t.fget DRW_RCFG.EN (4 * d + r) = 1 ∧
      (∀ k, k ≠ r.val → t.ring d k = s.ring d k) ∧ (∀ e, e ≠ d.val → t.drawer e = s.drawer e) ∧ t =
        { s.onAccess (s.pagePath d) with regs := t.regs, drw := { s.drw with drawers := t.drw.drawers } } ∧
      RegsBut DRW_RCFG.EN (4 * d + r) s t) ∧
    ((s.ring d r).state = 0 → (s.drawer d).resetting = false → s.ringValid d r = false → ∃ t, exec (.drwRingEnable d r) s = .next t ∧ t.ring d r =
      { s.ring d r with cause := 1 } ∧
      (∀ k, k ≠ r.val → t.ring d k = s.ring d k) ∧ t = { s.onAccess (s.pagePath d) with drw := { s.drw with drawers := t.drw.drawers } }) ∧
    ((s.ring d r).state ≠ 0 → ∃ t, exec (.drwRingDisable d r) s = .next t ∧ t.fget DRW_RCFG.EN (4 * d + r) = 0 ∧ (s.ringBusy d r = true → t.ring d r =
      { s.ring d r with closing := true }) ∧
      (s.ringBusy d r = false → (t.ring d r).state = 0 ∧ (t.ring d r).closing = false) ∧ (∀ k, k ≠ r.val → t.ring d k = s.ring d k) ∧ (∀ e, e ≠ d.val →
        t.drawer e = s.drawer e) ∧
      t = { s.onAccess (s.pagePath d) with regs := t.regs, drw := { s.drw with drawers := t.drw.drawers } } ∧ RegsBut DRW_RCFG.EN (4 * d + r) s t) ∧
    ((s.ring d r).state = 2 → (s.ring d r).cause ≠ 3 ∨ s.hostReach d = true → (s.ring d r).held = [] → ∃ t, exec (.drwResume d r) s = .next t ∧ t.ring d r =
      { s.ring d r with state := 1, cause := 0 } ∧
      (∀ k, k ≠ r.val → t.ring d k = s.ring d k) ∧ (∀ e, e ≠ d.val → t.drawer e = s.drawer e) ∧ t =
        { s.onAccess (s.pagePath d) with drw := { s.drw with drawers := t.drw.drawers } }) ∧
    (∀ n o st, (s.ring d r).state = 2 → s.hostReach d = true → (s.ring d r).held = [n] → smFind? s.drw.ops n = some o → o.status = some st → o.drawer = d.val →
      o.ring = r.val → o.desc.quiet = false → ∃ t,
      exec (.drwResume d r) s = .next t ∧ .record (BitVec.ofNat 8 d.val).toFin r o.desc.id o.index st (recordPhase (s.ringLog2 d r) (s.ring d r).cqTail)
        o.inBytes o.outBytes o.detail o.gen s.tb ∈ t.out ∧
      smFind? t.drw.ops n = none ∧ (t.ring d r).held = []) ∧
    (∀ v : Word, (s.ring d r).state ≠ 0 → ringAhead (s.ringLog2 d r) (ringIdx (s.ringLog2 d r) v.toNat) (s.ring d r).sqHead ≤ 2 ^ s.ringLog2 d r → ∃ t, exec
      (.doorbellSqTail d r v) s = .next t ∧
      t.ring d r = { s.ring d r with sqTail := v.toNat % 2 ^ (s.ringLog2 d r + 1) } ∧ (∀ k, k ≠ r.val → t.ring d k = s.ring d k) ∧ (∀ e, e ≠ d.val → t.drawer e
        = s.drawer e) ∧ t.dram = s.dram ∧ t.nv = s.nv ∧
      RegsSame pmuFlds s t) ∧
    (∀ v : Word, (s.ring d r).state = 0 ∨ 2 ^ s.ringLog2 d r < ringAhead (s.ringLog2 d r) (ringIdx (s.ringLog2 d r) v.toNat) (s.ring d r).sqHead → ∃ t, exec
      (.doorbellSqTail d r v) s = .next t ∧
      (t.classSt setDRW 1).inFault = true ∧ t.drw = s.drw ∧ t.dram = s.dram ∧ t.nv = s.nv ∧ RegsSame (faultFlds ++ pmuFlds) s t) ∧
    (∀ v : Word, (s.ring d r).state ≠ 0 → ringAhead (s.ringLog2 d r) (s.ring d r).cqTail (ringIdx (s.ringLog2 d r) v.toNat) ≤ 2 ^ s.ringLog2 d r → ∃ t, exec
      (.doorbellCqHead d r v) s = .next t ∧
      t.ring d r = { s.ring d r with cqHead := v.toNat % 2 ^ (s.ringLog2 d r + 1) } ∧ (∀ k, k ≠ r.val → t.ring d k = s.ring d k) ∧ (∀ e, e ≠ d.val → t.drawer e
        = s.drawer e) ∧ t.dram = s.dram ∧ t.nv = s.nv ∧
      RegsSame pmuFlds s t) ∧
    (∀ v : Word, (s.ring d r).state = 0 ∨ 2 ^ s.ringLog2 d r < ringAhead (s.ringLog2 d r) (s.ring d r).cqTail (ringIdx (s.ringLog2 d r) v.toNat) → ∃ t, exec
      (.doorbellCqHead d r v) s = .next t ∧
      (t.classSt setDRW 1).inFault = true ∧ t.drw = s.drw ∧ t.dram = s.dram ∧ t.nv = s.nv ∧ RegsSame (faultFlds ++ pmuFlds) s t) ∧
    (∀ (k : Fin 64) (x : IrqEntry), smGet (s.drawer d).irqs k {} = x →
      (x.pend = false ∨ entryHeld (s.head (s.drwHead d)) = true → ∃ t, exec (.interruptEntryUnmask d k) s = .next t ∧ smGet (t.drawer d).irqs k {} =
        { x with mask := false } ∧
        (∀ e, e ≠ d.val → t.drawer e = s.drawer e) ∧ t = { s.onAccess (s.pagePath d) with drw := { s.drw with drawers := t.drw.drawers } }) ∧
      (x.pend = true → x.vec = false → entryHeld (s.head (s.drwHead d)) = false → ∃ t, exec (.interruptEntryUnmask d k) s = .next t ∧ smGet (t.drawer d).irqs k
        {} = { x with mask := false, pend := false } ∧
        t.out = [.irqWrite (Fin.ofNat 16 (s.drwHead d)) x.addr x.data] ∧ (∀ e, e ≠ d.val → t.drawer e = s.drawer e) ∧
        t = { s.onAccess (s.pagePath d) with out := t.out, drw := { s.drw with drawers := t.drw.drawers } })))

/-- Drawer operations (12 R299, R302-R308, R317; 08 R214-R217; 01 R26; 06 R145): one fetch turns the descriptors it may take into operations; a descriptor with a field that is not as R302 requires ends with ATTR;
NOP and FENCE succeed; COPY, FILL, COMPRESS, DECOMPRESS and FLUSH write what R304 says, a FILL of device memory as a write of class C4; an executed operation's record is written to its slot while the host
is reachable, and held while it is not. -/
def Obligations.DrawerOperations : Prop :=
  (∀ (d : DrawerId) (r : RingId) (ds : List Descriptor) (s : State), s.fetchable d r = true → s.drwRuns = true → s.hostReach d = true → ds ≠ [] → ds.length ≤
    s.fetchRoom d r → ∃ t,
    exec (.descriptorFetch d r ds) s = .next t ∧ t.drw.next = s.drw.next + ds.length ∧ (t.ring d r).sqHead = ((s.ring d r).sqHead + ds.length) % 2 ^
      (s.ringLog2 d r + 1) ∧
    (∀ i x, ds[i]? = some x → ∃ o, smFind? t.drw.ops (s.drw.next + i) = some o ∧ o.drawer = d.val ∧ o.ring = r.val ∧ o.desc = x ∧ o.gen = s.fget DRW_STATE.GEN
      d ∧
      o.index = ((s.ring d r).sqHead + i) % 2 ^ s.ringLog2 d r ∧ o.status = (if 6 < x.op.toNat then some 1 else none) ∧ o.started = false) ∧
    .dmaRead (Fin.ofNat 16 (s.drwHead d)) (BitVec.ofNat 20 (s.fget DRW_BIND.PASID d))
      (BitVec.ofNat 64 (s.fget DRW_SQBASE.ADDR (4 * d + r) * 4096 + (s.ring d r).sqHead % 2 ^ s.ringLog2 d r * 64)) (64 * ds.length) 0 ∈ t.out ∧
    (∀ k, (k < s.drw.next ∨ s.drw.next + ds.length ≤ k) → smFind? t.drw.ops k = smFind? s.drw.ops k) ∧ t =
      { s with out := t.out, regs := t.regs, heads := t.heads, drw := t.drw } ∧ RegsSame (pmuFlds) s t) ∧
  (∀ (d : DrawerId) (r : RingId) (ds : List Descriptor) (s : State), s.fetchable d r = false ∨ s.drwRuns = false ∨ s.hostReach d = false ∨ s.fetchRoom d r = 0 →
    exec (.descriptorFetch d r ds) s = .next s.clearOut) ∧
  (∀ (d : DrawerId) (r : RingId) (n f : Nat) (o : Op) (s : State), s.opPick d r 2 = some (n, o) → smFind? s.drw.ops n = some o → o.started = false → o.plan =
    none → s.badField o = some f → s.hostReach d = true → ∃ t q,
    exec (.fill d r) s = .next t ∧ smFind? t.drw.ops n = some q ∧ q.status = some 1 ∧ q.detail = f ∧ q.outBytes = 0 ∧ (∀ k, k ≠ n → smFind? t.drw.ops k =
      smFind? s.drw.ops k) ∧
    t = { s with out := [], drw := { s.drw with ops := t.drw.ops } }) ∧
  (∀ (d : DrawerId) (r : RingId) (n : Nat) (o : Op) (s : State),
    (s.freshOp d r 0 n o → ∃ t q, exec (.nop d r) s = .next t ∧ smFind? t.drw.ops n = some q ∧ q.status = some 0 ∧ q.inBytes = 0 ∧ q.outBytes = 0 ∧
      (∀ k, k ≠ n → smFind? t.drw.ops k = smFind? s.drw.ops k) ∧ t = { s with out := [], drw := { s.drw with ops := t.drw.ops } }) ∧
    (s.freshOp d r 6 n o → ∃ t q, exec (.fence d r) s = .next t ∧ smFind? t.drw.ops n = some q ∧ q.status = some 0 ∧ q.inBytes = 0 ∧ q.outBytes = 0 ∧
      (∀ k, k ≠ n → smFind? t.drw.ops k = smFind? s.drw.ops k) ∧ t = { s with out := [], drw := { s.drw with ops := t.drw.ops } })) ∧
  (∀ (d : DrawerId) (r : RingId) (n : Nat) (o : Op) (b : List Byte) (s : State), s.hostOp d r 1 n o → ∃ t q, exec (.copy d r b .ok) s = .next t ∧
    .dmaWrite (Fin.ofNat 16 (s.drwHead d)) (s.drwPasid d) o.desc.dst (hostRead b o.desc.len.toNat) ∈ t.out ∧ smFind? t.drw.ops n = some q ∧ q.status = some 0 ∧
      q.outBytes = o.desc.len.toNat ∧
    (∀ k, k ≠ n → smFind? t.drw.ops k = smFind? s.drw.ops k) ∧ t = { s with out := t.out, drw := { s.drw with ops := t.drw.ops, drawers := t.drw.drawers } }) ∧
  (∀ (d : DrawerId) (r : RingId) (n : Nat) (o : Op) (b : List Byte) (s : State), s.hostOp d r 1 n o → (∃ t q, exec (.copy d r b .ur) s = .next t ∧ smFind?
    t.drw.ops n = some q ∧ q.status = some 5 ∧ q.outBytes = 0 ∧
    t = { s with out := [], drw := { s.drw with ops := t.drw.ops } }) ∧
    ∀ tag, s.freeHostTag (s.drwHead d) = some tag → ∃ t q, exec (.copy d r b .pending) s = .next t ∧ t.out = [.dmaRead (Fin.ofNat 16 (s.drwHead d)) (s.drwPasid
      d) o.desc.src o.desc.len.toNat tag] ∧
      smFind? t.drw.ops n = some q ∧ q.status = none ∧ q.tags = [tag] ∧ smFind? (t.head (s.drwHead d)).tags tag = some (n, s.wclk)) ∧
  (∀ (d : DrawerId) (r : RingId) (n : Nat) (o : Op) (s : State), s.hostOp d r 2 n o → ∃ t q, exec (.fill d r) s = .next t ∧
    t.out = [.dmaWrite (Fin.ofNat 16 (s.drwHead d)) (s.drwPasid d) o.desc.dst (fillBytes o.desc.pattern o.desc.len.toNat)] ∧ smFind? t.drw.ops n = some q ∧
      q.status = some 0 ∧ q.outBytes = o.desc.len.toNat ∧
    (∀ k, k ≠ n → smFind? t.drw.ops k = smFind? s.drw.ops k) ∧ t = { s with out := t.out, drw := { s.drw with ops := t.drw.ops, drawers := t.drw.drawers } }) ∧
  (∀ (d : DrawerId) (r : RingId) (n rn dpa : Nat) (rg : Region) (o : Op) (s : State), s.freshOp d r 2 n o → s.badKey o = none → o.desc.dattr.dev = true →
    o.desc.len = 64 → o.desc.dst.toNat % 64 = 0 →
    s.opDec d o.desc.dattr o.desc.dst.toNat = some (rn, rg, dpa) → rg.home = none → rg.tiered = false → (s.slot o.desc.dattr.key.toNat).state = 1 → ∃ t q x,
      exec (.fill d r) s = .next t ∧
    t.txn? s.coh.next = some x ∧ x.src = .drawer n ∧ x.kind = .write ∧ x.cls = 4 ∧ x.ln = dpa / 64 ∧ x.key = o.desc.dattr.key ∧ x.data = dataOfBytes (fillBytes
      o.desc.pattern 64) ∧
    smFind? t.drw.ops n = some q ∧ q.status = none ∧ q.outst = 1 ∧ (t.slot o.desc.dattr.key.toNat).count = min (2 ^ 52 - 1) ((s.slot
      o.desc.dattr.key.toNat).count + 1) ∧ t.dram = s.dram ∧ t.nv = s.nv ∧
    t.chans = s.chans) ∧
  (∀ (d : DrawerId) (r : RingId) (n : Nat) (o : Op) (b : List Byte) (s : State), s.hostOp d r 3 n o → s.canEncode = true →
    ((s.ring d r).openBlock.length + o.desc.len.toNat < 65536 → ∃ t q, exec (.compress d r b .ok none) s = .next t ∧ (t.ring d r).openBlock = (s.ring d
      r).openBlock ++ hostRead b o.desc.len.toNat ∧
      smFind? t.drw.ops n = some q ∧ q.status = some 0 ∧ q.outBytes = 0 ∧ q.detail = (s.ring d r).openBlock.length + o.desc.len.toNat ∧ (∀ k, k ≠ n → smFind?
        t.drw.ops k = smFind? s.drw.ops k) ∧
      t.dram = s.dram ∧ t.nv = s.nv ∧ t.coh = s.coh) ∧
    (∀ p, ∃ t q, exec (.compress d r b .ok (some p)) s = .next t ∧ smFind? t.drw.ops n = some q ∧ q.status = some 8 ∧ q.detail = p ∧ (t.classSt setPRS
      3).inFault = true ∧
      (t.ring d r).openBlock = (s.ring d r).openBlock ∧ t.dram = s.dram ∧ t.nv = s.nv ∧ t.coh = s.coh)) ∧
  (∀ (d : DrawerId) (r : RingId) (n used : Nat) (o : Op) (b out : List Byte) (s : State), s.hostOp d r 4 n o → s.pipes false ≠ [] →
    (jobBlocks o.desc.dmax.toNat none (o.desc.len.toNat + 1) 0 0 (hostRead b o.desc.len.toNat) 0 [] = (out, used, none) → out ≠ [] → ∃ t q, exec (.decompress d
      r b .ok none) s = .next t ∧
      .dmaWrite (Fin.ofNat 16 (s.drwHead d)) (s.drwPasid d) o.desc.dst out ∈ t.out ∧ smFind? t.drw.ops n = some q ∧ q.status = some 0 ∧ q.inBytes = used ∧
        q.outBytes = out.length ∧
      (∀ k, k ≠ n → smFind? t.drw.ops k = smFind? s.drw.ops k) ∧ t =
        { s with out := t.out, boot := t.boot, drw := { s.drw with ops := t.drw.ops, drawers := t.drw.drawers } }) ∧
    (∀ i, jobBlocks o.desc.dmax.toNat none (o.desc.len.toNat + 1) 0 0 (hostRead b o.desc.len.toNat) 0 [] = (out, used, some (7, i)) → ∃ t q, exec (.decompress
      d r b .ok none) s = .next t ∧
      smFind? t.drw.ops n = some q ∧ q.status = some 7 ∧ q.detail = i ∧ q.inBytes = used ∧ q.outBytes = out.length ∧ (t.classSt setPRS 8).inFault = true ∧
      t.fget PRS_FMTERR.STREAM = min (2 ^ PRS_FMTERR.STREAM.width - 1) (s.fget PRS_FMTERR.STREAM + 1) ∧ t.dram = s.dram ∧ t.nv = s.nv ∧ t.coh = s.coh)) ∧
  (∀ (d : DrawerId) (r : RingId) (n : Nat) (o : Op) (s : State), s.freshOp d r 5 n o → o.desc.dattr.dev = false → s.hostReach d = true →
    ((s.ring d r).openBlock = [] → ∃ t q, exec (.flush d r .ok false) s = .next t ∧ smFind? t.drw.ops n = some q ∧ q.status = some 0 ∧ q.outBytes = 0 ∧
      t = { s with out := [], drw := { s.drw with ops := t.drw.ops } }) ∧
    ((s.ring d r).openBlock ≠ [] → s.canEncode = true → o.desc.dmax = 0 → ∃ t q, exec (.flush d r .ok false) s = .next t ∧
      .dmaWrite (Fin.ofNat 16 (s.drwHead d)) (s.drwPasid d) o.desc.dst (streamBlock (s.ring d r).openBlock true s.predEn) ∈ t.out ∧ smFind? t.drw.ops n = some
        q ∧ q.status = some 0 ∧
      q.outBytes = (streamBlock (s.ring d r).openBlock true s.predEn).length ∧ (t.ring d r).openBlock = [] ∧ (∀ k, k ≠ n → smFind? t.drw.ops k = smFind?
        s.drw.ops k) ∧ t.dram = s.dram ∧ t.nv = s.nv ∧ t.coh = s.coh)) ∧
  (∀ (n st : Nat) (o : Op) (s : State), smFind? s.drw.ops n = some o → o.status = some st → s.opCurrent o = true → o.outst = 0 → o.tags = [] → s.fget
    PWR_STATE.CUR = 0 →
    (s.hostReach o.drawer = true → ((s.ring o.drawer o.ring).state ≠ 2 ∨ (s.ring o.drawer o.ring).cause ≠ 3) → ∃ t, exec (.operationComplete n) s = .next t ∧
      smFind? t.drw.ops n = none ∧
      (t.ring o.drawer o.ring).cqTail = ((s.ring o.drawer o.ring).cqTail + 1) % 2 ^ (s.ringLog2 o.drawer o.ring + 1) ∧
      ((o.desc.quiet && st == 0) = false → .record (BitVec.ofNat 8 o.drawer).toFin o.ring o.desc.id o.index st (recordPhase (s.ringLog2 o.drawer o.ring)
        (s.ring o.drawer o.ring).cqTail)
        o.inBytes o.outBytes o.detail o.gen s.tb ∈ t.out) ∧
      (st ≠ 0 → s.fone DRW_RCFG.STOP (4 * o.drawer + o.ring) = true → (s.ring o.drawer o.ring).state = 1 → (s.ring o.drawer o.ring).closing = false → (t.ring
        o.drawer o.ring).state = 2 ∧ (t.ring o.drawer o.ring).cause = 2) ∧
      (∀ k, k ≠ n → smFind? t.drw.ops k = smFind? s.drw.ops k) ∧ (∀ e, e ≠ o.drawer → t.drawer e = s.drawer e) ∧ t = { s with
      out := t.out, regs := t.regs, heads := t.heads, inl := t.inl, drw := t.drw, wit := t.wit, flt := t.flt
      boot := { s.boot with fatal := t.boot.fatal }
      spn := { s.spn with withdrawn := t.spn.withdrawn, ageSeq := t.spn.ageSeq, links := t.spn.links } }) ∧
    (s.hostReach o.drawer = false → n ∉ (s.ring o.drawer o.ring).held → ∃ t, exec (.operationComplete n) s = .next t ∧
      t.ring o.drawer o.ring = { s.ring o.drawer o.ring with held := (s.ring o.drawer o.ring).held ++ [n] } ∧ t.drw.ops = s.drw.ops ∧ t =
        { s with out := [], drw := { s.drw with drawers := t.drw.drawers } })) ∧
  (∀ (n : Nat) (o : Op) (s : State), smFind? s.drw.ops n = some o → o.status = none → exec (.operationComplete n) s = .next s.clearOut)

/-! ## The Span (05 R119; 06 R141-R143, R157; 09 R250; 13 R320-R343) -/

/-- Span links, discovery and routing (13 R321, R325-R336, R340, R341): a port trains into HELLO, a matching HELLO goes on to AUTH and any other is quarantined; authentication admits, and what fails, conflicts
or times out is quarantined; silence and failed retraining take a link down; failed lanes narrow it; a NAK replays; an ID is claimed after 2 ms without a conflict; newer announcements are kept and forwarded;
routes follow the database; flits for others go on, wait or are dropped; requests fail after E2E_US and their TAGs rest; a node without a route for LOSS_MS is unreachable. -/
def Obligations.SpanLink : Prop :=
  (∀ (p : Path) (port : Port) (s : State), s.admits p = true → s.mgmt p = true →
    (s.linkSt port = 3 → ∃ t, exec (.spnPctlRetry p port) s = .next t ∧ t.linkSt port = 1 ∧ t.fget SPN_PSTATE.QCAUSE port = 0 ∧ t.out = [.helloFlit port] ∧
      (t.link port).gotHello = false ∧
      (t.link port).lastHello = s.wclk ∧ (∀ k, k ≠ port.val → t.link k = s.link k ∧ t.linkSt k = s.linkSt k) ∧
      t = { s.onAccess p with out := t.out, regs := t.regs, spn := { s.spn with links := t.spn.links } } ∧ RegsSame [SPN_PSTATE.LINK, SPN_PSTATE.QCAUSE] s t) ∧
    (s.linkUp port = true → s.fget SPN_PSTATE.WIDTH port ≠ 8 → ∃ t, exec (.spnPctlWiden p port) s = .next t ∧ t.fget SPN_PSTATE.WIDTH port = 8 ∧ t.fget
      SPN_PLANES.FAILED port = 0 ∧
      t.fget SPN_PCTL.WIDEN port = 1 ∧ (t.link port).narrowing = true ∧ .retrain port ∈ t.out ∧ t.linkSt port = s.linkSt port ∧ t = { s with
      out := t.out, regs := t.regs, heads := t.heads, spn := t.spn, wit := t.wit, flt := t.flt, boot := { s.boot with fatal := t.boot.fatal }
      pwr := { s.pwr with latched := t.pwr.latched, held := t.pwr.held } } ∧
      RegsSame ([SPN_PCTL.WIDEN, SPN_PLANES.FAILED, SPN_PLANES.NARROWS, SPN_PSTATE.WIDTH] ++ weirFlds ++ faultFlds) s t) ∧
    (s.linkSt port ≠ 0 → ∃ t, exec (.spnPctlHold p port true) s = .next t ∧ t.fget SPN_PCTL.HOLD port = 1 ∧ t.linkSt port = 0 ∧ t.fget SPN_PSTATE.WIDTH port =
      0 ∧ t.link port = {} ∧
      (s.linkSt port = 4 → (t.classSt setSPN 3).inFault = true) ∧ t = { s with
      out := t.out, regs := t.regs, heads := t.heads, spn := t.spn, wit := t.wit, flt := t.flt, boot := { s.boot with fatal := t.boot.fatal }
      pwr := { s.pwr with latched := t.pwr.latched, held := t.pwr.held } } ∧
      RegsSame ([SPN_PCTL.HOLD, SPN_PSTATE.LINK, SPN_PSTATE.QCAUSE, SPN_PSTATE.WIDTH] ++ weirFlds ++ faultFlds) s t) ∧
    (∃ t, exec (.spnPctlHold p port false) s = .next t ∧ t.fget SPN_PCTL.HOLD port = 0 ∧ t = { s.onAccess p with regs := t.regs } ∧ RegsBut SPN_PCTL.HOLD port
      s t)) ∧
  (∀ (p : Path) (port : Port) (on : Bool) (s : State), s.admits p = true → s.mgmt p = false → exec (.spnPctlRetry p port) s = .next (s.onAccess p) ∧
    exec (.spnPctlWiden p port) s = .next (s.onAccess p) ∧ exec (.spnPctlHold p port on) s = .next (s.onAccess p)) ∧
  (∀ (port : Port) (rate : Bool) (s : State), s.portMay port = true →
    (s.linkSt port = 0 → (s.link port).narrowing = false → (s.link port).retraining = false → ∃ t, exec (.spanLinkTrained port rate) s = .next t ∧ t.linkSt
      port = 1 ∧ t.fget SPN_PSTATE.WIDTH port = 8 ∧
      t.fget SPN_PSTATE.RATE64 port = rate.toNat ∧ t.out = [.helloFlit port] ∧ (t.link port).lastHello = s.wclk ∧ (t.link port).gotHello = false ∧ (∀ k, k ≠
        port.val → t.link k = s.link k) ∧
      t = { s with out := t.out, regs := t.regs, spn := { s.spn with links := t.spn.links } } ∧
      RegsSame [SPN_PSTATE.LINK, SPN_PSTATE.WIDTH, SPN_PSTATE.RATE64, SPN_PLANES.FAILED, SPN_PLANES.NARROWS] s t) ∧
    ((s.link port).narrowing = true → ∃ t, exec (.spanLinkTrained port rate) s = .next t ∧ t.link port = { s.link port with narrowing := false } ∧ t.fget
      SPN_PCTL.WIDEN port = 0 ∧
      t.out = ((s.link port).replay.head?.map fun f => Out.replayFrom port f.seq).toList ∧ (∀ k, k ≠ port.val → t.link k = s.link k) ∧
      t = { s with out := t.out, regs := t.regs, spn := { s.spn with links := t.spn.links } } ∧ RegsSame [SPN_PCTL.WIDEN] s t) ∧
    ((s.link port).narrowing = false → (s.link port).retraining = true → ∃ t, exec (.spanLinkTrained port rate) s = .next t ∧ (t.link port).retraining = false
      ∧ (t.link port).replays = 0 ∧
      (t.classSt setSPN 1).inFault = true ∧ t.linkSt port = s.linkSt port ∧ RegsSame faultFlds s t ∧ t.dram = s.dram ∧ t.nv = s.nv)) ∧
  (∀ (port : Port) (rate : Bool) (s : State), s.portMay port = false → exec (.spanLinkTrained port rate) s = .next s.clearOut) ∧
  (∀ (port : Port) (b : HelloBody) (s : State),
    (s.linkSt port = 1 → b.fabric.toNat = s.fget SPN_FABRIC.ID → s.lcAccepts b = true → b.serial ≠ s.nv.serial → ∃ t, exec (.hello port b) s = .next t ∧
      t.linkSt port = 2 ∧
      t.fget SPN_PEERSN.SERIAL port = b.serial.toNat ∧ t.fget SPN_PSTATE.PEER port = b.node.toNat ∧
      t.link port = { s.link port with gotHello := true, lastHello := s.wclk, peerIncarn := some b.incarn, authFrom := s.wclk, spdm := [], spdmIdx := 0 } ∧ (∀
        k, k ≠ port.val → t.link k = s.link k) ∧
      t = { s with out := [], regs := t.regs, spn := { s.spn with links := t.spn.links } } ∧ RegsSame [SPN_PEERSN.SERIAL, SPN_PSTATE.LINK, SPN_PSTATE.PEER] s
        t) ∧
    (s.linkSt port = 1 → b.fabric.toNat ≠ s.fget SPN_FABRIC.ID → ∃ t, exec (.hello port b) s = .next t ∧ t.linkSt port = 3 ∧ t.fget SPN_PSTATE.QCAUSE port = 1
      ∧ (t.classSt setSPN 4).inFault = true ∧
      t = { s with
      out := t.out, regs := t.regs, heads := t.heads, slc := t.slc, spn := t.spn, wit := t.wit, flt := t.flt
      boot := { s.boot with fatal := t.boot.fatal } } ∧ RegsSame ([SPN_PEERSN.SERIAL, SPN_PSTATE.LINK, SPN_PSTATE.PEER, SPN_PSTATE.QCAUSE] ++ faultFlds) s t) ∧
    (s.linkSt port = 1 → b.fabric.toNat = s.fget SPN_FABRIC.ID → s.lcAccepts b = false → ∃ t, exec (.hello port b) s = .next t ∧ t.linkSt port = 3 ∧ t.fget
      SPN_PSTATE.QCAUSE port = 2 ∧
      (t.classSt setSPN 4).inFault = true) ∧
    (s.linkSt port = 5 → (s.link port).peerIncarn = some b.incarn → ∃ t, exec (.hello port b) s = .next t ∧ t.linkSt port = 4 ∧ t.fget SPN_PSTATE.QCAUSE port =
      0 ∧ t.slc = s.slc ∧ t.dram = s.dram) ∧
    (s.linkSt port = 0 → exec (.hello port b) s = .next s.clearOut)) ∧
  (∀ (port : Port) (s : State),
    (s.linkUp port = true → exec (.helloPeriodic port) s = .next (State.pushFlit { s with out := [.helloFlit port] } port 2)) ∧ (s.linkUp port = false → exec
      (.helloPeriodic port) s = .next s.clearOut) ∧
    (s.linkUp port = true → s.elapsed (s.link port).lastHello (msT 300) = true → ∃ t, exec (.helloTimeout port) s = .next t ∧ t.linkSt port = 0 ∧ t.link port =
      {} ∧
      (s.linkSt port = 4 → (t.classSt setSPN 3).inFault = true) ∧ t = { s with
      out := t.out, regs := t.regs, heads := t.heads, spn := t.spn, wit := t.wit, flt := t.flt, boot := { s.boot with fatal := t.boot.fatal }
        } ∧ RegsSame ([SPN_PSTATE.LINK, SPN_PSTATE.QCAUSE, SPN_PSTATE.WIDTH] ++ weirFlds ++ faultFlds) s t) ∧
    (s.elapsed (s.link port).lastHello (msT 300) = false → exec (.helloTimeout port) s = .next s.clearOut) ∧
    ((s.link port).retraining = true ∨ (s.link port).narrowing = true → ∃ t, exec (.retrainTimeout port) s = .next t ∧ t.linkSt port = 0 ∧ t.link port = {} ∧
      (s.linkSt port = 4 → (t.classSt setSPN 3).inFault = true) ∧ t = { s with
      out := t.out, regs := t.regs, heads := t.heads, spn := t.spn, wit := t.wit, flt := t.flt, boot := { s.boot with fatal := t.boot.fatal }
        } ∧ RegsSame ([SPN_PSTATE.LINK, SPN_PSTATE.QCAUSE, SPN_PSTATE.WIDTH] ++ weirFlds ++ faultFlds) s t) ∧
    ((s.link port).retraining = false → (s.link port).narrowing = false → exec (.retrainTimeout port) s = .next s.clearOut) ∧
    (s.linkSt port = 2 → s.elapsed (s.link port).authFrom (msT 500) = true → ∃ t, exec (.authTimeout port) s = .next t ∧ t.linkSt port = 3 ∧ t.fget
      SPN_PSTATE.QCAUSE port = 4 ∧
      (t.classSt setSPN 4).inFault = true ∧ t = { s with
      out := t.out, regs := t.regs, heads := t.heads, wit := t.wit, flt := t.flt, boot := { s.boot with fatal := t.boot.fatal }
      spn := { s.spn with withdrawn := t.spn.withdrawn, ageSeq := t.spn.ageSeq, links := t.spn.links }
        } ∧ RegsSame ([SPN_PSTATE.LINK, SPN_PSTATE.QCAUSE] ++ faultFlds) s t) ∧
    (s.linkSt port ≠ 2 ∨ s.elapsed (s.link port).authFrom (msT 500) = false → exec (.authTimeout port) s = .next s.clearOut)) ∧
  (∀ (port : Port) (db : List LsaBody) (s : State),
    (s.linkSt port = 2 → (∃ t, exec (.authComplete port false db) s = .next t ∧ t.linkSt port = 3 ∧ t.fget SPN_PSTATE.QCAUSE port = 3 ∧ (t.classSt setSPN
      4).inFault = true ∧ t.slc = s.slc ∧ t.dram = s.dram) ∧
      (s.idConflict db = true → ∃ t, exec (.authComplete port true db) s = .next t ∧ t.linkSt port = 3 ∧ t.fget SPN_PSTATE.QCAUSE port = 5 ∧ (t.classSt setSPN
        4).inFault = true) ∧
      (s.idConflict db = false → ∃ t, exec (.authComplete port true db) s = .next t ∧ t.linkSt port = 4 ∧ t.fget SPN_PSTATE.QCAUSE port = 0 ∧
        t.spn.admittedOnce = true ∧ t.dram = s.dram ∧ t.nv = s.nv ∧
        (∀ b, db = [b] → b.serial ≠ s.nv.serial → smFind? s.spn.db b.serial.toNat = none → smFind? t.spn.db b.serial.toNat = some
          { body := b, at_ := s.wclk }))) ∧
    (s.linkSt port ≠ 2 → ∀ ok, exec (.authComplete port ok db) s = .next s.clearOut)) ∧
  (∀ (port : Port) (len : BitVec 16) (idx : Byte) (last : Bool) (body : List Byte) (s : State), 2 ≤ s.linkSt port → s.linkSt port ≤ 4 → body.length ≤ 224 →
    (idx = 0 → exec (.spdmFlit port len idx last body) s = .next (s.clearOut.modLink port fun l =>
      { l with spdm := if last then body.take len.toNat else body, spdmIdx := if last then 0 else 1 })) ∧
    (idx.toNat ≠ 0 → idx.toNat = (s.link port).spdmIdx → exec (.spdmFlit port len idx last body) s = .next (s.clearOut.modLink port fun l =>
      { l with spdm := if last then (l.spdm ++ body).take len.toNat else l.spdm ++ body, spdmIdx := if last then 0 else idx.toNat + 1 })) ∧
    (idx.toNat ≠ 0 → idx.toNat ≠ (s.link port).spdmIdx → exec (.spdmFlit port len idx last body) s = .next (s.clearOut.modLink port fun l =>
      { l with spdm := [], spdmIdx := 0 }))) ∧
  (∀ (t0 : Time) (s : State), s.fget SPN_NODE.STATE = 1 → s.spn.claimFrom = some t0 →
    (s.elapsed t0 (msT 2) = true → ∃ t, exec .claimIntervalEnd s = .next t ∧ t.fget SPN_NODE.STATE = 2 ∧ t.spn.claimFrom = none ∧
      (s.fget SPN_NODE.ID ≠ s.fget SPN_CFG.NODE_ID → (t.classSt setSPN 5).inFault = true) ∧ t.fget SPN_NODE.ID = s.fget SPN_NODE.ID ∧ t = { s with
      out := t.out, regs := t.regs, heads := t.heads, spn := t.spn, wit := t.wit, flt := t.flt, boot := { s.boot with fatal := t.boot.fatal }
        } ∧ RegsSame ([SPN_NODE.STATE] ++ faultFlds) s t) ∧
    (s.elapsed t0 (msT 2) = false → exec .claimIntervalEnd s = .next s.clearOut)) ∧
  (∀ (t0 : Time) (us : Nat) (s : State), s.spn.backoff = some (t0, us) → s.elapsed t0 (usT us) = true → ∃ t, exec .yieldBackoffEnd s = .next t ∧ t.fget
    SPN_NODE.ID = s.nextId % 64 ∧
    t.spn.backoff = none ∧ t.spn.claimFrom = some s.wclk ∧ t = { s with out := t.out, regs := t.regs, spn := t.spn } ∧ RegsSame ([SPN_NODE.ID]) s t) ∧
  (∀ (n : Nat) (s : State), n < 63 → (∀ e ∈ s.spn.db, e.2.body.node.toNat ≠ (s.fget SPN_NODE.ID + 1 + n) % 64) → ∀ e ∈ s.spn.db, e.2.body.node.toNat ≠
    s.nextId) ∧
  (∀ (port : Port) (b : LsaBody) (s : State), s.linkSt port = 4 → b.serial ≠ s.nv.serial →
    (smFind? s.spn.db b.serial.toNat = none → ∃ t, exec (.lsa port b) s = .next t ∧ smFind? t.spn.db b.serial.toNat = some { body := b, at_ := s.wclk } ∧
      (∀ k, k ≠ b.serial.toNat → smFind? t.spn.db k = smFind? s.spn.db k) ∧ (∀ q : Port, q ≠ port → s.linkSt q = 4 → .lsaForward q b ∈ t.out) ∧ .lsaForward
        port b ∉ t.out ∧ t = { s with
      out := t.out, free := t.free, regs := t.regs, heads := t.heads, slc := t.slc, spn := t.spn, wit := t.wit, flt := t.flt
      boot := { s.boot with fatal := t.boot.fatal } } ∧ RegsSame ([SPN_NODE.STATE, SPN_NODE.YIELDS] ++ faultFlds) s t) ∧
    (∀ r, smFind? s.spn.db b.serial.toNat = some r → newer b.ageSeq r.body.ageSeq = false → r.body.incarn = b.incarn → exec (.lsa port b) s = .next
      s.clearOut)) ∧
  (∀ s : State, (s.fget SPN_CFG.ROLE ≠ 0 → s.spn.withdrawn = false → ∃ t b, exec .lsaPeriodic s = .next t ∧ .lsaFlood b ∈ t.out ∧ b.serial = s.nv.serial ∧
    b.ageSeq = s.spn.ageSeq + 1 ∧
      t.spn.ageSeq = s.spn.ageSeq + 1 ∧ t = { s with out := t.out, spn := { s.spn with ageSeq := t.spn.ageSeq, links := t.spn.links } }) ∧
    (s.fget SPN_CFG.ROLE = 0 ∨ s.spn.withdrawn = true → exec .lsaPeriodic s = .next s.clearOut)) ∧
  (∀ (serial : Word64) (r : LsaRec) (s : State), smFind? s.spn.db serial.toNat = some r →
    (s.elapsed r.at_ (secT 3) = true → exec (.lsaAgeOut serial) s = .next { s with out := [], spn := { s.spn with db := smDel s.spn.db serial.toNat } }) ∧
    (s.elapsed r.at_ (secT 3) = false → exec (.lsaAgeOut serial) s = .next s.clearOut)) ∧
  (∀ s : State, ∃ t, exec .routeCompute s = .next t ∧ t.spn.routes = s.routeTable ∧ (∀ n, smHas s.routeTable n = true → n ∉ t.spn.unreach ∧ smHas t.spn.lostAt
    n = false) ∧
    (∀ n, smHas s.spn.routes n = true → smHas s.routeTable n = false → smHas s.spn.lostAt n = false → smFind? t.spn.lostAt n = some s.wclk) ∧
    t = { s with out := [], spn := { s.spn with routes := t.spn.routes, lostAt := t.spn.lostAt, unreach := t.spn.unreach } }) ∧
  (∀ (port : Port) (s : State), (s.linkUp port = true → exec (.flitCrcFail port) s = .next (State.pushFlit
    { s with out := [.ctrlNak port (s.freeVal 8)], free := s.free + 1 } port 5)) ∧
    (s.linkUp port = false → exec (.flitCrcFail port) s = .next s.clearOut)) ∧
  (∀ (port : Port) (seq : Byte) (s : State), s.linkUp port = true →
    (((s.link port).replay.head?.any fun f => f.seq == seq) = false → ∃ t, exec (.nak port seq) s = .next t ∧ (t.link port).replays = 1 ∧ .replayFrom port seq
      ∈ t.out ∧
      t.fget SPN_PERR.REPLAY port = min (2 ^ SPN_PERR.REPLAY.width - 1) (s.fget SPN_PERR.REPLAY port + ((s.link port).replay.dropWhile fun f => f.seq !=
        seq).length) ∧
      (t.classSt setSPN 1).inFault = true ∧ t = { s with
      out := t.out, regs := t.regs, heads := t.heads, spn := t.spn, wit := t.wit, flt := t.flt, boot := { s.boot with fatal := t.boot.fatal }
        } ∧ RegsSame ([SPN_PERR.REPLAY] ++ faultFlds ++ pmuFlds) s t) ∧
    (((s.link port).replay.head?.any fun f => f.seq == seq) = true → 4 ≤ (s.link port).replays → ∃ t, exec (.nak port seq) s = .next t ∧ (t.link
      port).retraining = true ∧ .retrain port ∈ t.out ∧
      (t.classSt setSPN 1).inFault = true)) ∧
  (∀ (port : Port) (lane : Fin 8) (s : State), s.linkUp port = true → s.fbitAt SPN_PLANES.FAILED port lane.val = false →
    (∀ f n, soundLanes (withBit (s.fget SPN_PLANES.FAILED port) lane.val true % 256) (s.fget SPN_PSTATE.WIDTH port) = some (f, n) → ∃ t, exec (.laneFailed port
      lane) s = .next t ∧
      t.fget SPN_PSTATE.WIDTH port = n ∧ t.fbitAt SPN_PLANES.FAILED port lane.val = true ∧ (t.link port).narrowing = true ∧ .ctrlNarrow port (BitVec.ofNat 8
        ((2 ^ n - 1) <<< f)) ∈ t.out ∧
      t.fget SPN_PLANES.NARROWS port = min (2 ^ SPN_PLANES.NARROWS.width - 1) (s.fget SPN_PLANES.NARROWS port + 1) ∧ (t.classSt setSPN 2).inFault = true ∧
        t.linkSt port = s.linkSt port ∧ t.dram = s.dram) ∧
    (soundLanes (withBit (s.fget SPN_PLANES.FAILED port) lane.val true % 256) (s.fget SPN_PSTATE.WIDTH port) = none → ∃ t, exec (.laneFailed port lane) s =
      .next t ∧ t.linkSt port = 0 ∧ t.link port = {})) ∧
  (∀ (port : Port) (keep : Byte) (s : State),
    (s.linkUp port = true → (popCount keep.toNat 8 = 4 ∨ popCount keep.toNat 8 = 2) → popCount keep.toNat 8 < s.fget SPN_PSTATE.WIDTH port → ∃ t, exec (.narrow
      port keep) s = .next t ∧
      t.fget SPN_PSTATE.WIDTH port = popCount keep.toNat 8 ∧ (t.link port).narrowing = true ∧ (t.classSt setSPN 2).inFault = true ∧ t = { s with
      out := t.out, regs := t.regs, heads := t.heads, spn := t.spn, wit := t.wit, flt := t.flt, boot := { s.boot with fatal := t.boot.fatal } } ∧
      RegsSame ([SPN_PSTATE.WIDTH, SPN_PLANES.NARROWS] ++ weirFlds ++ faultFlds) s t) ∧
    (s.fget SPN_PSTATE.WIDTH port ≤ popCount keep.toNat 8 → exec (.narrow port keep) s = .next s.clearOut)) ∧
  (∀ (port : Port) (src dest : NodeId) (mc : Fin 4) (hop : Fin 6) (urg : Fin 4) (tags : List (BitVec 12)) (s : State), s.spanOpen port = true → dest.toNat ≠
    s.fget SPN_NODE.ID → s.spn.fwd.length < 1024 →
    (s.asleep = true → exec (.spanForward port src dest mc hop urg tags) s =
      .next { s with out := [], pwr := { s.pwr with held := s.pwr.held ++ [.fwd port src dest mc.val hop.val urg.val tags], latched := some (7, 0) } }) ∧
    (∀ p, s.asleep = false → hop.val + 1 < s.fget SPN_CFG.MAX_HOPS → smFind? s.spn.routes dest.toNat = some p → s.linkSt p = 4 → ∃ t u, exec (.spanForward port
      src dest mc hop urg tags) s = .next t ∧
      .forwarded p dest (hop.val + 1) u ∈ t.out ∧ urg.val ≤ u ∧ t.dram = s.dram ∧ t.nv = s.nv ∧ t.coh = s.coh) ∧
    (s.asleep = false → hop.val + 1 < s.fget SPN_CFG.MAX_HOPS → smFind? s.spn.routes dest.toNat = none → ∃ t, exec (.spanForward port src dest mc hop urg tags)
      s = .next t ∧
      smFind? t.spn.fwd s.spn.next = some { src := src, dest := dest, mc := mc.val, hop := hop.val + 1, urg := urg.val, tags := tags, since := s.wclk } ∧
        t.spn.next = s.spn.next + 1 ∧ t.coh = s.coh) ∧
    (s.asleep = false → s.fget SPN_CFG.MAX_HOPS ≤ hop.val + 1 → ∃ t, exec (.spanForward port src dest mc hop urg tags) s = .next t ∧
      t.fget SPN_FWD.DROPS = min (2 ^ SPN_FWD.DROPS.width - 1) (s.fget SPN_FWD.DROPS + 1) ∧ (t.classSt setSPN 7).inFault = true ∧ t.coh = s.coh ∧ t.dram =
        s.dram)) ∧
  (∀ (entry : Nat) (e : FwdEntry) (tag : BitVec 12) (s : State), smFind? s.spn.fwd entry = some e → e.wake = false → s.elapsed e.since (msT 1) = true → ∃ t,
    exec (.forwardWaitExpiry entry) s = .next t ∧
    smFind? t.spn.fwd entry = none ∧ (∀ k, k ≠ entry → smFind? t.spn.fwd k = smFind? s.spn.fwd k) ∧ t.fget SPN_FWD.DROPS = min (2 ^ SPN_FWD.DROPS.width - 1)
      (s.fget SPN_FWD.DROPS + 1) ∧
    (t.classSt setSPN 7).inFault = true ∧ (e.mc = 3 → e.tags = [tag] → ∃ m, .span e.src 0x38 m ∈ t.out ∧ m.tag = tag ∧ m.src = e.dest ∧ m.arg = 2) ∧ t =
      { s with
      out := t.out, regs := t.regs, heads := t.heads, spn := t.spn, wit := t.wit, flt := t.flt, boot := { s.boot with fatal := t.boot.fatal }
        } ∧ RegsSame ([SPN_FWD.DROPS] ++ faultFlds ++ pmuFlds) s t) ∧
  (∀ (entry : Nat) (s : State), smFind? s.spn.fwd entry = none → exec (.forwardWaitExpiry entry) s = .next s.clearOut) ∧
  (∀ (dest : NodeId) (tag : BitVec 12) (r : SpanReq) (s : State), smFind? s.spn.tags (dest.toNat * 4096 + tag.toNat) = some r →
    (∀ h, r.failed = false → s.elapsed r.since (usT (s.fmin SPN_CTL.E2E_US 1000)) = true → r.op = 1 → r.drw = none → r.head = some h → s.linkReady h.val = true
      → ∃ t, exec (.e2eTimeout dest tag) s = .next t ∧
      .drs h r.ln 0 true 0 ∈ t.out ∧ smFind? t.spn.tags (dest.toNat * 4096 + tag.toNat) = some { r with failed := true, since := s.wclk } ∧ (t.classSt setSPN
        8).inFault = true ∧ t.dram = s.dram ∧ t.coh = s.coh ∧
      t.nv = s.nv) ∧
    (r.failed = true ∨ s.elapsed r.since (usT (s.fmin SPN_CTL.E2E_US 1000)) = false → exec (.e2eTimeout dest tag) s = .next s.clearOut) ∧
    (r.failed = true → s.elapsed r.since (usT (4 * s.fmin SPN_CTL.E2E_US 1000)) = true →
      exec (.spanTagRelease dest tag) s = .next { s with out := [], spn := { s.spn with tags := smDel s.spn.tags (dest.toNat * 4096 + tag.toNat) } }) ∧
    (r.failed = false → exec (.spanTagRelease dest tag) s = .next s.clearOut)) ∧
  (∀ (n : NodeId) (t0 : Time) (s : State), smFind? s.spn.lostAt n.toNat = some t0 → s.elapsed t0 (msT (s.fmin SPN_CTL.LOSS_MS 10)) = true → s.wakePending
    n.toNat = false → n.toNat ∉ s.spn.unreach → ∃ t,
    exec (.nodeUnreachable n) s = .next t ∧ t.spn.unreach = s.spn.unreach ++ [n.toNat] ∧ smFind? t.spn.lostAt n.toNat = none ∧ (t.classSt setSPN 9).inFault =
      true ∧ (t.classSt setCOH 8).inFault = true ∧
    t.nv = s.nv) ∧
  (∀ (n : NodeId) (s : State), smFind? s.spn.lostAt n.toNat = none ∨ n.toNat ∈ s.spn.unreach → exec (.nodeUnreachable n) s = .next s.clearOut) ∧
  (∀ (port : Port) (s : State), (s.fget SPN_CFG.ROLE ≠ 0 → s.linkSt port ≠ 0 → (s.fget PWR_STATE.CUR = 2 ∨ s.fget PWR_STATE.CUR = 3) → s.fget PWR_STATE.PHASE =
    0 → s.pwr.failed = false → ∃ t,
      exec (.wakePattern port) s = .next t ∧ t.fget PWR_STATE.PHASE = 3 ∧ t.fget PWR_STATE.SRC = 3 ∧ exec (.wakeTrigger 3 0) s = .next t) ∧
    (s.fget SPN_CFG.ROLE = 0 ∨ s.linkSt port = 0 → exec (.wakePattern port) s = .next s.clearOut) ∧
    (s.linkSt port = 5 → s.portWaits port = true → exec (.wakePatternRepeat port) s = .next { s with out := [.wakeOut port] }) ∧
    (s.linkSt port ≠ 5 ∨ s.portWaits port = false → exec (.wakePatternRepeat port) s = .next s.clearOut))

/-- Span messages (05 R119; 06 R136, R141-R143, R157; 09 R240, R241; 13 R323, R324, R330, R336-R339; 14 R347): a message on a link that is not admitted does nothing, one in P1 waits and wakes; an accepted
peer request enters the transaction table in class C5, a refused one is answered with poison and raises DEC class 4; a WRP takes the mask before it; snoops go to the heads concerned, and are answered at once where there is
none; a donor serves the runs it has allocated within its grants; a response frees the TAG of its request and answers the head that asked, and one with no request is counted late. -/
def Obligations.SpanMessages : Prop :=
  (∀ (m : SpanMsg) (s : State), (s.spanOpen m.port = false → exec (.rd m) s = .next s.clearOut ∧ exec (.wr m) s = .next s.clearOut ∧ exec (.rspData m) s =
    .next s.clearOut) ∧
    (s.spanOpen m.port = true → s.asleep = true → exec (.rd m) s = .next
      { s with out := [], pwr := { s.pwr with held := s.pwr.held ++ [.span 1 m], latched := some (7, 0) } })) ∧
  (∀ (m : SpanMsg) (r : Region) (s : State), s.peerHits m r →
    (∃ t x, exec (.rd m) s = .next t ∧ t.txn? s.coh.next = some x ∧ x.src = .peer m.src m.head m.tag ∧ x.kind = .read ∧ x.ln = m.ln.toNat ∧ x.key = m.key ∧
      x.mv = m.mv ∧ x.cls = 5 ∧
      x.shared = r.shared ∧ t.coh.next = s.coh.next + 1 ∧ t.dram = s.dram ∧ t.nv = s.nv ∧ t.slc = s.slc ∧ t.inl = s.inl) ∧
    (∃ t x, exec (.wr m) s = .next t ∧ t.txn? s.coh.next = some x ∧ x.src = .peer m.src m.head m.tag ∧ x.kind = .write ∧ x.ln = m.ln.toNat ∧ x.key = m.key ∧
      x.data = m.data ∧
      x.be = BitVec.allOnes 64 ∧ x.poison = m.poison ∧ x.cls = 5 ∧ (t.slot m.key.toNat).count = min (2 ^ 52 - 1) ((s.slot m.key.toNat).count + 1) ∧ t.dram =
        s.dram ∧ t.nv = s.nv ∧ t.slc = s.slc) ∧
    (∀ be, (s.link m.port).mask = some be → ∃ t x, exec (.wrp m) s = .next t ∧ t.txn? s.coh.next = some x ∧ x.src = .peer m.src m.head m.tag ∧ x.kind = .part ∧
      x.ln = m.ln.toNat ∧ x.data = m.data ∧
      x.be = be ∧ x.cls = 5 ∧ (t.link m.port).mask = none ∧ t.dram = s.dram ∧ t.nv = s.nv ∧ t.slc = s.slc) ∧
    (∃ t c, exec (.clnevct m) s = .next t ∧ .span m.src 0x31 c ∈ t.out ∧ c.tag = m.tag ∧ c.poison = false ∧ (r.shared = false → t.coh = s.coh) ∧ t.dram =
      s.dram ∧ t.nv = s.nv ∧ t.inl = s.inl) ∧
    (r.shared = false → s.ttRoom1 = true → (peerPtr m, m.ln.toNat) ∉ s.coh.timeouts → s.onChannel m.ln.toNat = true → ∃ t x, exec (.wb m) s = .next t ∧ t.txn?
      s.coh.next = some x ∧
      x.src = .peer m.src m.head m.tag ∧ x.kind = .write ∧ x.mc = 1 ∧ x.data = m.data ∧ x.ln = m.ln.toNat ∧ x.phase = .credit ∧ x.mpa = some m.ln.toNat ∧
        t.dram = s.dram ∧ t.nv = s.nv ∧ t.slc = s.slc)) ∧
  (∀ (m : SpanMsg) (s : State), s.spanReady m = true → (s.regionAt (m.ln.toNat * 64)).all (fun e => !s.peerMay m e.2) = true →
    (∃ t c, exec (.rd m) s = .next t ∧ .span m.src 0x30 c ∈ t.out ∧ c.tag = m.tag ∧ c.poison = true ∧ (t.classSt setDEC 4).inFault = true ∧ t.coh = s.coh ∧
      t.dram = s.dram ∧ t.nv = s.nv ∧ t.inl = s.inl) ∧
    (∃ t c, exec (.wr m) s = .next t ∧ .span m.src 0x31 c ∈ t.out ∧ c.tag = m.tag ∧ c.poison = true ∧ (t.classSt setDEC 4).inFault = true ∧ t.coh = s.coh ∧
      t.dram = s.dram ∧ t.nv = s.nv ∧ t.inl = s.inl)) ∧
  (∀ (m : SpanMsg) (s : State), s.spanReady m = true → (s.link m.port).mask = none → ∃ t c, exec (.wrp m) s = .next t ∧ .span m.src 0x38 c ∈ t.out ∧ c.tag =
    m.tag ∧ c.arg = 3 ∧ t.coh = s.coh ∧ t.dram = s.dram ∧
    t.nv = s.nv ∧ RegsSame pmuFlds s t) ∧
  (∀ (port : Port) (be : ByteEn) (s : State), s.spanOpen port = true →
    (s.asleep = false → ∃ t, exec (.bemask port be) s = .next t ∧ t.link port = { s.link port with mask := some be } ∧ (∀ k, k ≠ port.val → t.link k = s.link
      k) ∧
      t = { s with out := [], spn := { s.spn with links := t.spn.links } }) ∧
    (s.asleep = true → exec (.bemask port be) s = .next
      { s with out := [], pwr := { s.pwr with held := s.pwr.held ++ [.mask port be], latched := some (7, 0) } })) ∧
  (∀ (m : SpanMsg) (s : State), s.spanReady m = true → ∃ t c, exec (.spanBiconflict m) s = .next t ∧ .span m.src 0x33 c ∈ t.out ∧ c.tag = m.tag ∧ c.ln = m.ln ∧
    c.head = m.head ∧ t.coh = s.coh ∧ t.dram = s.dram ∧
    t.nv = s.nv ∧ RegsSame pmuFlds s t) ∧
  (∀ (m : SpanMsg) (s : State), s.spanReady m = true →
    (s.holdsLine m.src.toNat m.ln.toNat = true → s.boot.fatal = false → (∃ t x, exec (.slabRd m) s = .next t ∧ t.txn? s.coh.next = some x ∧ x.src = .peer m.src
      m.head m.tag ∧ x.kind = .read ∧ x.ln = m.ln.toNat ∧
        x.key = 0 ∧ x.slab = true ∧ x.cls = 5 ∧ t.dram = s.dram ∧ t.nv = s.nv ∧ t.inl = s.inl) ∧
      (∃ t x, exec (.slabWr m) s = .next t ∧ t.txn? s.coh.next = some x ∧ x.src = .peer m.src m.head m.tag ∧ x.kind = .write ∧ x.ln = m.ln.toNat ∧ x.key = 0 ∧
        x.slab = true ∧ x.data = m.data ∧
        (t.slot 0).count = min (2 ^ 52 - 1) ((s.slot 0).count + 1) ∧ t.dram = s.dram ∧ t.nv = s.nv)) ∧
    (s.holdsLine m.src.toNat m.ln.toNat = false → ∃ t c, exec (.slabRd m) s = .next t ∧ .span m.src 0x30 c ∈ t.out ∧ c.tag = m.tag ∧ c.poison = true ∧ t.coh =
      s.coh ∧ t.dram = s.dram)) ∧
  (∀ (m : SpanMsg) (s : State), s.spanReady m = true → 1 ≤ m.arg.toNat → m.arg.toNat ≤ 16 →
    (∀ slab fr, s.slabsHeldFor m.src.toNat + m.arg.toNat ≤ s.slabsGrantedTo m.src.toNat → takeRun (s.frameCands 2 s.slc.donor) m.arg.toNat s.slc.donor = some
      (slab, fr) → ∃ t c, exec (.alloc m) s = .next t ∧
      t.slc = { s.slc with donor := fr } ∧ smFind? t.spn.runs slab = some (m.src, m.arg.toNat) ∧ (∀ k, k ≠ slab → smFind? t.spn.runs k = smFind? s.spn.runs k)
        ∧ .span m.src 0x34 c ∈ t.out ∧ c.tag = m.tag ∧
      c.arg = 0 ∧ c.ln = BitVec.ofNat 40 (slab * 4) ∧ t.dram = s.dram ∧ t.coh = s.coh ∧ t.nv = s.nv ∧ RegsSame pmuFlds s t) ∧
    (s.slabsHeldFor m.src.toNat + m.arg.toNat ≤ s.slabsGrantedTo m.src.toNat → takeRun (s.frameCands 2 s.slc.donor) m.arg.toNat s.slc.donor = none → ∃ t c,
      exec (.alloc m) s = .next t ∧
      .span m.src 0x34 c ∈ t.out ∧ c.tag = m.tag ∧ c.arg = 1 ∧ t.slc = s.slc ∧ t.spn.runs = s.spn.runs) ∧
    (s.slabsGrantedTo m.src.toNat < s.slabsHeldFor m.src.toNat + m.arg.toNat → ∃ t c, exec (.alloc m) s = .next t ∧ .span m.src 0x34 c ∈ t.out ∧ c.tag = m.tag
      ∧ c.arg = 2 ∧ t.slc = s.slc ∧ t.spn.runs = s.spn.runs)) ∧
  (∀ (m : SpanMsg) (s : State), s.spanReady m = true → ∃ t c, exec (.free m) s = .next t ∧ .span m.src 0x31 c ∈ t.out ∧ c.tag = m.tag ∧
    (∀ k, smFind? s.spn.runs (m.ln.toNat / 4) = some (m.src, k) → smFind? t.spn.runs (m.ln.toNat / 4) = none ∧ t.slc =
      { s.slc with donor := giveRun s.slc.donor (m.ln.toNat / 4) }) ∧
    (∀ n k, smFind? s.spn.runs (m.ln.toNat / 4) = some (n, k) → n ≠ m.src → t.spn.runs = s.spn.runs ∧ t.slc = s.slc) ∧ t.dram = s.dram ∧ t.coh = s.coh ∧ t.nv =
      s.nv ∧ RegsSame pmuFlds s t) ∧
  (∀ (m : SpanMsg) (s : State), s.spanReady m = true → ∃ t c, exec (.grantReq m) s = .next t ∧ .span m.src 0x35 c ∈ t.out ∧ c.tag = m.tag ∧ c.arg =
    BitVec.ofNat 20 (min m.arg.toNat s.freeGib) ∧
    (min m.arg.toNat s.freeGib ≠ 0 → smGet t.spn.grantsOut m.src.toNat 0 = smGet s.spn.grantsOut m.src.toNat 0 + min m.arg.toNat s.freeGib ∧
      t.fget SPN_GRANT.OUT = (s.fget SPN_GRANT.OUT + min m.arg.toNat s.freeGib) % 2 ^ SPN_GRANT.OUT.width) ∧ (min m.arg.toNat s.freeGib = 0 → t.spn.grantsOut =
        s.spn.grantsOut) ∧
    (∀ k, k ≠ m.src.toNat → smFind? t.spn.grantsOut k = smFind? s.spn.grantsOut k) ∧ t.dram = s.dram ∧ t.coh = s.coh ∧ t.nv = s.nv ∧ t.slc = s.slc ∧ RegsSame
      ([SPN_GRANT.OUT] ++ pmuFlds) s t) ∧
  (∀ (m : SpanMsg) (s : State), s.spanReady m = true →
    (∀ h, s.snoopedHeads m = [h] → h < 16 → (∃ t, exec (.bisnpInv m) s = .next t ∧ .bisnp (Fin.ofNat 16 h) m.ln.toNat true ∈ t.out ∧
        smFind? t.spn.snoops s.spn.snoopNext = some { home := m.src.toNat, tag := m.tag.toNat, head := m.head.val, ln := m.ln.toNat, heads := [h] } ∧ t.dram =
          s.dram ∧ t.coh = s.coh ∧ t.nv = s.nv ∧ RegsSame pmuFlds s t) ∧
      (∃ t, exec (.bisnpData m) s = .next t ∧ .bisnp (Fin.ofNat 16 h) m.ln.toNat false ∈ t.out ∧
        smFind? t.spn.snoops s.spn.snoopNext = some { home := m.src.toNat, tag := m.tag.toNat, head := m.head.val, ln := m.ln.toNat, heads := [h] } ∧ t.dram =
          s.dram ∧ t.coh = s.coh ∧ t.nv = s.nv ∧ RegsSame pmuFlds s t)) ∧
    (s.snoopedHeads m = [] → s.wbPending m.src.toNat m.ln.toNat = false → ∃ t c, exec (.bisnpInv m) s = .next t ∧ .span m.src 0x32 c ∈ t.out ∧ c.tag = m.tag ∧
      c.ln = m.ln ∧ c.mv = .I ∧
      smFind? t.spn.snoops s.spn.snoopNext = none ∧ t.coh = s.coh)) ∧
  (∀ (m : SpanMsg) (r : SpanReq) (h : Head) (s : State), s.headAwaits m r h →
    (r.op = 1 → ∃ t, exec (.rspData m) s = .next t ∧ .drs h r.ln m.data m.poison m.devload.val ∈ t.out ∧ smFind? t.spn.tags (m.src.toNat * 4096 + m.tag.toNat)
      = none ∧
      (∀ k, k ≠ m.src.toNat * 4096 + m.tag.toNat → smFind? t.spn.tags k = smFind? s.spn.tags k) ∧ t.coh = s.coh ∧ t.dram = s.dram ∧ t.nv = s.nv ∧ t.slc = s.slc
        ∧ RegsSame pmuFlds s t) ∧
    (r.op = 2 ∨ r.op = 3 ∨ r.op = 5 → ∃ t, exec (.cmp m) s = .next t ∧ .ndr h r.ln m.poison m.devload.val ∈ t.out ∧ smFind? t.spn.tags (m.src.toNat * 4096 +
      m.tag.toNat) = none ∧
      (∀ k, k ≠ m.src.toNat * 4096 + m.tag.toNat → smFind? t.spn.tags k = smFind? s.spn.tags k) ∧ t.coh = s.coh ∧ t.dram = s.dram ∧ t.nv = s.nv ∧ t.slc = s.slc
        ∧ RegsSame pmuFlds s t) ∧
    (r.op = 1 → ∃ t, exec (.nack m) s = .next t ∧ .drs h r.ln 0 true 0 ∈ t.out ∧ smFind? t.spn.tags (m.src.toNat * 4096 + m.tag.toNat) = none ∧ t.coh = s.coh ∧
      t.dram = s.dram ∧ t.nv = s.nv ∧ RegsSame pmuFlds s t) ∧
    (∃ t, exec (.biconflictack m) s = .next t ∧ .biConflictAck h r.ln ∈ t.out ∧ smFind? t.spn.tags (m.src.toNat * 4096 + m.tag.toNat) = none ∧ t.coh = s.coh ∧
      t.dram = s.dram ∧ t.nv = s.nv ∧ RegsSame pmuFlds s t)) ∧
  (∀ (m : SpanMsg) (s : State), s.spanReady m = true → (∀ r, smFind? s.spn.tags (m.src.toNat * 4096 + m.tag.toNat) = some r → r.failed = true) →
    (∃ t, exec (.rspData m) s = .next t ∧ t.fget SPN_FWD.LATE = min (2 ^ SPN_FWD.LATE.width - 1) (s.fget SPN_FWD.LATE + 1) ∧ t.spn.tags = s.spn.tags ∧ t.coh =
      s.coh ∧ t.dram = s.dram ∧
      RegsSame ([SPN_FWD.LATE] ++ pmuFlds) s t) ∧
    (∃ t, exec (.cmp m) s = .next t ∧ t.fget SPN_FWD.LATE = min (2 ^ SPN_FWD.LATE.width - 1) (s.fget SPN_FWD.LATE + 1) ∧ t.spn.tags = s.spn.tags ∧ t.coh =
      s.coh ∧ t.dram = s.dram ∧
      RegsSame ([SPN_FWD.LATE] ++ pmuFlds) s t)) ∧
  (∀ (m : SpanMsg) (at_ : Time) (s : State), s.spanReady m = true → (peerPtr m, m.ln.toNat, at_) ∈ s.coh.sent → (peerPtr m, m.ln.toNat) ∉ s.coh.timeouts → (∀ e
    ∈ s.coh.txns, e.2.ln ≠ m.ln.toNat) → ∃ t,
    exec (.birsp m) s = .next t ∧ t.coh.sent = s.coh.sent.filter (fun e => !(e.1 == peerPtr m && e.2.1 == m.ln.toNat)) ∧ (m.mv ≠ .I → t.coh.dir = s.coh.dir) ∧
      t.coh.txns = s.coh.txns ∧ t.dram = s.dram ∧ t.nv = s.nv ∧
    RegsSame pmuFlds s t) ∧
  (∀ (m : SpanMsg) (r : SpanReq) (v : Move) (s : State), s.awaits m r → smFind? s.slc.moves r.page = some v → v.kind = .toT2 → v.peer = none →
    (m.arg = 0 → ∃ t w, exec (.allocRsp m) s = .next t ∧ smFind? t.slc.moves r.page = some w ∧ w.kind = .toT2 ∧ w.peer = some (m.src, m.ln.toNat / 4) ∧
      w.want = List.range (if (s.pme r.page).raw then 64 else 4 * (s.pme r.page).slabs) ∧ t.dram = s.dram ∧ t.nv = s.nv ∧ t.coh = s.coh) ∧
    (m.arg ≠ 0 → (∀ e ∈ s.coh.txns, e.2.phase = .promoting → e.2.ln / 64 ≠ r.page) → ∃ t, exec (.allocRsp m) s = .next t ∧ smFind? t.slc.moves r.page = none ∧
      smFind? t.spn.tags (m.src.toNat * 4096 + m.tag.toNat) = none ∧ (t.pme r.page).tier = (s.pme r.page).tier ∧ t.dram = s.dram ∧ t.nv = s.nv ∧ t.coh =
        s.coh)) ∧
  (∀ (m : SpanMsg) (r : SpanReq) (s : State), s.awaits m r → ∃ t, exec (.grantRsp m) s = .next t ∧ smFind? t.spn.tags (m.src.toNat * 4096 + m.tag.toNat) = none
    ∧
    (m.arg ≠ 0 → smGet t.slc.grants m.src.toNat 0 = smGet s.slc.grants m.src.toNat 0 + m.arg.toNat ∧ t.fget SPN_GRANT.IN = (s.fget SPN_GRANT.IN + m.arg.toNat)
      % 2 ^ SPN_GRANT.IN.width) ∧
    (m.arg = 0 → t.slc = s.slc) ∧ (∀ k, k ≠ m.src.toNat → smFind? t.slc.grants k = smFind? s.slc.grants k) ∧ t.dram = s.dram ∧ t.coh = s.coh ∧ t.nv = s.nv ∧
      RegsSame ([SPN_GRANT.IN] ++ pmuFlds) s t) ∧
  (∀ (m : SpanMsg) (s : State), s.spanReady m = true → ∃ t, exec (.withdraw m) s = .next t ∧ smGet t.slc.grants m.src.toNat 0 = smGet s.slc.grants m.src.toNat
    0 - m.arg.toNat ∧
    (∀ k, k ≠ m.src.toNat → smFind? t.slc.grants k = smFind? s.slc.grants k) ∧
    t.fget SPN_GRANT.IN = (s.fget SPN_GRANT.IN - min m.arg.toNat (smGet s.slc.grants m.src.toNat 0)) % 2 ^ SPN_GRANT.IN.width ∧ t.dram = s.dram ∧ t.coh = s.coh
      ∧ t.nv = s.nv ∧
    RegsSame ([SPN_GRANT.IN] ++ pmuFlds) s t) ∧
  (∀ (m : SpanMsg) (s : State), s.spanReady m = true → ∃ t, exec (.headGone m) s = .next t ∧ (t.classSt setCOH 8).inFault = true ∧
    (s.fget COH_SCAN.ACTIVE ≠ 1 → t.fget COH_SCAN.NODE = m.src.toNat ∧ t.fget COH_SCAN.HEAD = m.head.val) ∧ (∀ e ∈ t.coh.timeouts, e.1 ≠ peerPtr m) ∧ t.nv =
      s.nv ∧ t.chans = s.chans)

end
end

