-- ==== Sys2Proof/Laws/Map.lean ====
section
/-! SUPPORT. Laws of the sparse store: read over write, and the canonical form kept. -/

namespace Sys2Proof.Machine

theorem smFind?_nil {α : Type} (k : Nat) : smFind? ([] : SMap α) k = none := rfl

@[simp] theorem smFind?_set_self {α : Type} (m : SMap α) (k : Nat) (v : α) : smFind? (smSet m k v) k = some v := by
  induction m with
  | nil => simp [smSet, smFind?]
  | cons e m ih =>
    obtain ⟨k', v'⟩ := e
    by_cases h1 : k < k'
    · simp [smSet, h1, smFind?]
    · by_cases h2 : k = k'
      · simp [smSet, h2, smFind?]
      · simp [smSet, h1, h2, smFind?, ih]

theorem smFind?_set_ne {α : Type} (m : SMap α) {j k : Nat} (v : α) (h : j ≠ k) : smFind? (smSet m k v) j = smFind? m j := by
  induction m with
  | nil => simp [smSet, smFind?, h]
  | cons e m ih =>
    obtain ⟨k', v'⟩ := e
    by_cases h1 : k < k'
    · simp [smSet, h1, smFind?, h]
    · by_cases h2 : k = k'
      · subst h2; simp [smSet, smFind?, h]
      · by_cases h3 : j = k'
        · simp [smSet, h1, h2, smFind?, h3]
        · simp [smSet, h1, h2, smFind?, h3, ih]

@[simp] theorem smFind?_del_self {α : Type} (m : SMap α) (k : Nat) : smFind? (smDel m k) k = none := by
  induction m with
  | nil => rfl
  | cons e m ih =>
    obtain ⟨k', v'⟩ := e
    by_cases h : k' = k
    · subst h; simpa [smDel] using ih
    · have h' : k ≠ k' := fun x => h x.symm
      simpa [smDel, h, smFind?, h'] using ih

theorem smFind?_del_ne {α : Type} (m : SMap α) {j k : Nat} (h : j ≠ k) : smFind? (smDel m k) j = smFind? m j := by
  induction m with
  | nil => rfl
  | cons e m ih =>
    obtain ⟨k', v'⟩ := e
    by_cases h1 : k' = k
    · subst h1; simpa [smDel, smFind?, h] using ih
    · by_cases h2 : j = k'
      · simp [smDel, h1, smFind?, h2]
      · simpa [smDel, h1, smFind?, h2] using ih

@[simp] theorem smGet_set_self {α : Type} (m : SMap α) (k : Nat) (v d : α) : smGet (smSet m k v) k d = v := by simp [smGet]

theorem smGet_set_ne {α : Type} (m : SMap α) {j k : Nat} (v d : α) (h : j ≠ k) : smGet (smSet m k v) j d = smGet m j d := by
  simp [smGet, smFind?_set_ne m v h]

@[simp] theorem smGet_del_self {α : Type} (m : SMap α) (k : Nat) (d : α) : smGet (smDel m k) k d = d := by simp [smGet]

theorem smGet_del_ne {α : Type} (m : SMap α) {j k : Nat} (d : α) (h : j ≠ k) : smGet (smDel m k) j d = smGet m j d := by
  simp [smGet, smFind?_del_ne m h]

@[simp] theorem smGet_put_self {α : Type} [DecidableEq α] (m : SMap α) (k : Nat) (d v : α) : smGet (smPut m k d v) k d = v := by
  by_cases h : v = d <;> simp [smPut, h]

theorem smGet_put_ne {α : Type} [DecidableEq α] (m : SMap α) {j k : Nat} (d v d' : α) (h : j ≠ k) :
    smGet (smPut m k d v) j d' = smGet m j d' := by
  by_cases hv : v = d <;> simp [smPut, hv, smGet_set_ne _ _ _ h, smGet_del_ne _ _ h]

theorem smFind?_put_ne {α : Type} [DecidableEq α] (m : SMap α) {j k : Nat} (d v : α) (h : j ≠ k) :
    smFind? (smPut m k d v) j = smFind? m j := by
  by_cases hv : v = d <;> simp [smPut, hv, smFind?_set_ne _ _ h, smFind?_del_ne _ h]

@[simp] theorem smGet_mod_self {α : Type} (m : SMap α) (k : Nat) (d : α) (f : α → α) : smGet (smMod m k d f) k d = f (smGet m k d) := by
  simp [smMod]

theorem smGet_mod_ne {α : Type} (m : SMap α) {j k : Nat} (d d' : α) (f : α → α) (h : j ≠ k) :
    smGet (smMod m k d f) j d' = smGet m j d' := by
  simp [smMod, smGet_set_ne _ _ _ h]

theorem smFind?_adj_self {α : Type} (m : SMap α) (k : Nat) (f : α → α) : smFind? (smAdj m k f) k = (smFind? m k).map f := by
  unfold smAdj
  cases h : smFind? m k <;> simp [h]

theorem smFind?_adj_ne {α : Type} (m : SMap α) {j k : Nat} (f : α → α) (h : j ≠ k) : smFind? (smAdj m k f) j = smFind? m j := by
  unfold smAdj
  cases smFind? m k <;> simp [smFind?_set_ne _ _ h]

/-- A map whose keys rise above a bound keeps them above it when a larger key is stored. -/
theorem smRising_set {α : Type} (m : SMap α) (k : Nat) (v : α) (lo : Option Nat)
    (hlo : ∀ l, lo = some l → l < k) (h : smRising lo m = true) : smRising lo (smSet m k v) = true := by
  induction m generalizing lo with
  | nil => cases lo with
    | none => simp [smSet, smRising]
    | some l => simpa [smSet, smRising] using hlo l rfl
  | cons e m ih =>
    obtain ⟨k', v'⟩ := e
    simp only [smRising, Bool.and_eq_true] at h
    by_cases h1 : k < k'
    · simp only [smSet, h1, if_true, smRising, Bool.and_eq_true, decide_true]
      refine ⟨?_, trivial, h.2⟩
      cases lo with
      | none => rfl
      | some l => simpa using hlo l rfl
    · by_cases h2 : k = k'
      · subst h2
        simp only [smSet, h1, if_false, if_true, smRising, Bool.and_eq_true]
        exact h
      · have h3 : k' < k := by omega
        simp only [smSet, h1, h2, if_false, smRising, Bool.and_eq_true]
        exact ⟨h.1, ih (some k') (fun l hl => by cases hl; exact h3) h.2⟩

/-- Storing keeps the canonical form. -/
theorem smWf_set {α : Type} (m : SMap α) (k : Nat) (v : α) (h : smWf m = true) : smWf (smSet m k v) = true :=
  smRising_set m k v none (fun _ hl => by cases hl) h

/-- A rising map rises above every smaller bound. -/
theorem smRising_weaken {α : Type} (m : SMap α) {a : Option Nat} {b : Nat} (hab : ∀ l, a = some l → l < b)
    (h : smRising (some b) m = true) : smRising a m = true := by
  cases m with
  | nil => rfl
  | cons e m =>
    simp only [smRising, Bool.and_eq_true, decide_eq_true_eq] at h ⊢
    refine ⟨?_, h.2⟩
    cases a with
    | none => rfl
    | some l => have := hab l rfl; simp; omega

theorem smRising_filter {α : Type} (m : SMap α) (p : Nat × α → Bool) (lo : Option Nat) (h : smRising lo m = true) :
    smRising lo (m.filter p) = true := by
  induction m generalizing lo with
  | nil => exact h
  | cons e m ih =>
    obtain ⟨k', v'⟩ := e
    simp only [smRising, Bool.and_eq_true] at h
    by_cases hp : p (k', v') = true
    · simp only [List.filter_cons, hp, if_true, smRising, Bool.and_eq_true]
      exact ⟨h.1, ih _ h.2⟩
    · simp only [List.filter_cons, hp]
      refine ih lo (smRising_weaken m ?_ h.2)
      intro l hl
      cases hl
      simpa using h.1

/-- Removing keeps the canonical form. -/
theorem smWf_del {α : Type} (m : SMap α) (k : Nat) (h : smWf m = true) : smWf (smDel m k) = true := smRising_filter m _ none h

/-- Storing in a map with a default keeps the canonical form. -/
theorem smWf_put {α : Type} [DecidableEq α] (m : SMap α) (k : Nat) (d v : α) (h : smWf m = true) : smWf (smPut m k d v) = true := by
  by_cases hv : v = d
  · simpa [smPut, hv] using smWf_del m k h
  · simpa [smPut, hv] using smWf_set m k v h

end Sys2Proof.Machine
end

