-- ==== Sys2Proof/Laws/State.lean ====
section
/-! SUPPORT. Laws of the state's updates: what each leaves of every field, and reads over writes of registers. -/

namespace Sys2Proof.Machine

open Sys2Proof

@[simp] theorem State.fset_pending (s : State) (f : Fld) (i v : Nat) : (s.fset f i v).pending = s.pending := rfl
@[simp] theorem State.fset_out (s : State) (f : Fld) (i v : Nat) : (s.fset f i v).out = s.out := rfl
@[simp] theorem State.fset_free (s : State) (f : Fld) (i v : Nat) : (s.fset f i v).free = s.free := rfl
@[simp] theorem State.fset_wclk (s : State) (f : Fld) (i v : Nat) : (s.fset f i v).wclk = s.wclk := rfl
@[simp] theorem State.fset_tb (s : State) (f : Fld) (i v : Nat) : (s.fset f i v).tb = s.tb := rfl
@[simp] theorem State.fset_hold (s : State) (f : Fld) (i v : Nat) : (s.fset f i v).hold = s.hold := rfl
@[simp] theorem State.fset_dramLoss (s : State) (f : Fld) (i v : Nat) : (s.fset f i v).dramLoss = s.dramLoss := rfl
@[simp] theorem State.fset_dram (s : State) (f : Fld) (i v : Nat) : (s.fset f i v).dram = s.dram := rfl
@[simp] theorem State.fset_boot (s : State) (f : Fld) (i v : Nat) : (s.fset f i v).boot = s.boot := rfl
@[simp] theorem State.fset_nv (s : State) (f : Fld) (i v : Nat) : (s.fset f i v).nv = s.nv := rfl
@[simp] theorem State.fset_cut (s : State) (f : Fld) (i v : Nat) : (s.fset f i v).cut = s.cut := rfl
@[simp] theorem State.fset_heads (s : State) (f : Fld) (i v : Nat) : (s.fset f i v).heads = s.heads := rfl
@[simp] theorem State.fset_dec (s : State) (f : Fld) (i v : Nat) : (s.fset f i v).dec = s.dec := rfl
@[simp] theorem State.fset_coh (s : State) (f : Fld) (i v : Nat) : (s.fset f i v).coh = s.coh := rfl
@[simp] theorem State.fset_chans (s : State) (f : Fld) (i v : Nat) : (s.fset f i v).chans = s.chans := rfl
@[simp] theorem State.fset_press (s : State) (f : Fld) (i v : Nat) : (s.fset f i v).press = s.press := rfl
@[simp] theorem State.fset_slc (s : State) (f : Fld) (i v : Nat) : (s.fset f i v).slc = s.slc := rfl
@[simp] theorem State.fset_inl (s : State) (f : Fld) (i v : Nat) : (s.fset f i v).inl = s.inl := rfl
@[simp] theorem State.fset_drw (s : State) (f : Fld) (i v : Nat) : (s.fset f i v).drw = s.drw := rfl
@[simp] theorem State.fset_spn (s : State) (f : Fld) (i v : Nat) : (s.fset f i v).spn = s.spn := rfl
@[simp] theorem State.fset_pwr (s : State) (f : Fld) (i v : Nat) : (s.fset f i v).pwr = s.pwr := rfl
@[simp] theorem State.fset_ifc (s : State) (f : Fld) (i v : Nat) : (s.fset f i v).ifc = s.ifc := rfl
@[simp] theorem State.fset_wit (s : State) (f : Fld) (i v : Nat) : (s.fset f i v).wit = s.wit := rfl
@[simp] theorem State.fset_flt (s : State) (f : Fld) (i v : Nat) : (s.fset f i v).flt = s.flt := rfl
@[simp] theorem State.fset_sec (s : State) (f : Fld) (i v : Nat) : (s.fset f i v).sec = s.sec := rfl
@[simp] theorem State.fset_pmu (s : State) (f : Fld) (i v : Nat) : (s.fset f i v).pmu = s.pmu := rfl
@[simp] theorem State.fset_thermtrip (s : State) (f : Fld) (i v : Nat) : (s.fset f i v).thermtrip = s.thermtrip := rfl

@[simp] theorem State.clearOut_pending (s : State) : (s.clearOut).pending = s.pending := rfl
@[simp] theorem State.clearOut_free (s : State) : (s.clearOut).free = s.free := rfl
@[simp] theorem State.clearOut_wclk (s : State) : (s.clearOut).wclk = s.wclk := rfl
@[simp] theorem State.clearOut_tb (s : State) : (s.clearOut).tb = s.tb := rfl
@[simp] theorem State.clearOut_regs (s : State) : (s.clearOut).regs = s.regs := rfl
@[simp] theorem State.clearOut_hold (s : State) : (s.clearOut).hold = s.hold := rfl
@[simp] theorem State.clearOut_dramLoss (s : State) : (s.clearOut).dramLoss = s.dramLoss := rfl
@[simp] theorem State.clearOut_dram (s : State) : (s.clearOut).dram = s.dram := rfl
@[simp] theorem State.clearOut_boot (s : State) : (s.clearOut).boot = s.boot := rfl
@[simp] theorem State.clearOut_nv (s : State) : (s.clearOut).nv = s.nv := rfl
@[simp] theorem State.clearOut_cut (s : State) : (s.clearOut).cut = s.cut := rfl
@[simp] theorem State.clearOut_heads (s : State) : (s.clearOut).heads = s.heads := rfl
@[simp] theorem State.clearOut_dec (s : State) : (s.clearOut).dec = s.dec := rfl
@[simp] theorem State.clearOut_coh (s : State) : (s.clearOut).coh = s.coh := rfl
@[simp] theorem State.clearOut_chans (s : State) : (s.clearOut).chans = s.chans := rfl
@[simp] theorem State.clearOut_press (s : State) : (s.clearOut).press = s.press := rfl
@[simp] theorem State.clearOut_slc (s : State) : (s.clearOut).slc = s.slc := rfl
@[simp] theorem State.clearOut_inl (s : State) : (s.clearOut).inl = s.inl := rfl
@[simp] theorem State.clearOut_drw (s : State) : (s.clearOut).drw = s.drw := rfl
@[simp] theorem State.clearOut_spn (s : State) : (s.clearOut).spn = s.spn := rfl
@[simp] theorem State.clearOut_pwr (s : State) : (s.clearOut).pwr = s.pwr := rfl
@[simp] theorem State.clearOut_ifc (s : State) : (s.clearOut).ifc = s.ifc := rfl
@[simp] theorem State.clearOut_wit (s : State) : (s.clearOut).wit = s.wit := rfl
@[simp] theorem State.clearOut_flt (s : State) : (s.clearOut).flt = s.flt := rfl
@[simp] theorem State.clearOut_sec (s : State) : (s.clearOut).sec = s.sec := rfl
@[simp] theorem State.clearOut_pmu (s : State) : (s.clearOut).pmu = s.pmu := rfl
@[simp] theorem State.clearOut_thermtrip (s : State) : (s.clearOut).thermtrip = s.thermtrip := rfl

@[simp] theorem State.emit_pending (s : State) (o : Out) : (s.emit o).pending = s.pending := rfl
@[simp] theorem State.emit_free (s : State) (o : Out) : (s.emit o).free = s.free := rfl
@[simp] theorem State.emit_wclk (s : State) (o : Out) : (s.emit o).wclk = s.wclk := rfl
@[simp] theorem State.emit_tb (s : State) (o : Out) : (s.emit o).tb = s.tb := rfl
@[simp] theorem State.emit_regs (s : State) (o : Out) : (s.emit o).regs = s.regs := rfl
@[simp] theorem State.emit_hold (s : State) (o : Out) : (s.emit o).hold = s.hold := rfl
@[simp] theorem State.emit_dramLoss (s : State) (o : Out) : (s.emit o).dramLoss = s.dramLoss := rfl
@[simp] theorem State.emit_dram (s : State) (o : Out) : (s.emit o).dram = s.dram := rfl
@[simp] theorem State.emit_boot (s : State) (o : Out) : (s.emit o).boot = s.boot := rfl
@[simp] theorem State.emit_nv (s : State) (o : Out) : (s.emit o).nv = s.nv := rfl
@[simp] theorem State.emit_cut (s : State) (o : Out) : (s.emit o).cut = s.cut := rfl
@[simp] theorem State.emit_heads (s : State) (o : Out) : (s.emit o).heads = s.heads := rfl
@[simp] theorem State.emit_dec (s : State) (o : Out) : (s.emit o).dec = s.dec := rfl
@[simp] theorem State.emit_coh (s : State) (o : Out) : (s.emit o).coh = s.coh := rfl
@[simp] theorem State.emit_chans (s : State) (o : Out) : (s.emit o).chans = s.chans := rfl
@[simp] theorem State.emit_press (s : State) (o : Out) : (s.emit o).press = s.press := rfl
@[simp] theorem State.emit_slc (s : State) (o : Out) : (s.emit o).slc = s.slc := rfl
@[simp] theorem State.emit_inl (s : State) (o : Out) : (s.emit o).inl = s.inl := rfl
@[simp] theorem State.emit_drw (s : State) (o : Out) : (s.emit o).drw = s.drw := rfl
@[simp] theorem State.emit_spn (s : State) (o : Out) : (s.emit o).spn = s.spn := rfl
@[simp] theorem State.emit_pwr (s : State) (o : Out) : (s.emit o).pwr = s.pwr := rfl
@[simp] theorem State.emit_ifc (s : State) (o : Out) : (s.emit o).ifc = s.ifc := rfl
@[simp] theorem State.emit_wit (s : State) (o : Out) : (s.emit o).wit = s.wit := rfl
@[simp] theorem State.emit_flt (s : State) (o : Out) : (s.emit o).flt = s.flt := rfl
@[simp] theorem State.emit_sec (s : State) (o : Out) : (s.emit o).sec = s.sec := rfl
@[simp] theorem State.emit_pmu (s : State) (o : Out) : (s.emit o).pmu = s.pmu := rfl
@[simp] theorem State.emit_thermtrip (s : State) (o : Out) : (s.emit o).thermtrip = s.thermtrip := rfl

@[simp] theorem State.reply_pending (s : State) (p : Path) (rc : Rc) (l : List Nat) : (s.reply p rc l).pending = s.pending := rfl
@[simp] theorem State.reply_free (s : State) (p : Path) (rc : Rc) (l : List Nat) : (s.reply p rc l).free = s.free := rfl
@[simp] theorem State.reply_wclk (s : State) (p : Path) (rc : Rc) (l : List Nat) : (s.reply p rc l).wclk = s.wclk := rfl
@[simp] theorem State.reply_tb (s : State) (p : Path) (rc : Rc) (l : List Nat) : (s.reply p rc l).tb = s.tb := rfl
@[simp] theorem State.reply_regs (s : State) (p : Path) (rc : Rc) (l : List Nat) : (s.reply p rc l).regs = s.regs := rfl
@[simp] theorem State.reply_hold (s : State) (p : Path) (rc : Rc) (l : List Nat) : (s.reply p rc l).hold = s.hold := rfl
@[simp] theorem State.reply_dramLoss (s : State) (p : Path) (rc : Rc) (l : List Nat) : (s.reply p rc l).dramLoss = s.dramLoss := rfl
@[simp] theorem State.reply_dram (s : State) (p : Path) (rc : Rc) (l : List Nat) : (s.reply p rc l).dram = s.dram := rfl
@[simp] theorem State.reply_boot (s : State) (p : Path) (rc : Rc) (l : List Nat) : (s.reply p rc l).boot = s.boot := rfl
@[simp] theorem State.reply_nv (s : State) (p : Path) (rc : Rc) (l : List Nat) : (s.reply p rc l).nv = s.nv := rfl
@[simp] theorem State.reply_cut (s : State) (p : Path) (rc : Rc) (l : List Nat) : (s.reply p rc l).cut = s.cut := rfl
@[simp] theorem State.reply_heads (s : State) (p : Path) (rc : Rc) (l : List Nat) : (s.reply p rc l).heads = s.heads := rfl
@[simp] theorem State.reply_dec (s : State) (p : Path) (rc : Rc) (l : List Nat) : (s.reply p rc l).dec = s.dec := rfl
@[simp] theorem State.reply_coh (s : State) (p : Path) (rc : Rc) (l : List Nat) : (s.reply p rc l).coh = s.coh := rfl
@[simp] theorem State.reply_chans (s : State) (p : Path) (rc : Rc) (l : List Nat) : (s.reply p rc l).chans = s.chans := rfl
@[simp] theorem State.reply_press (s : State) (p : Path) (rc : Rc) (l : List Nat) : (s.reply p rc l).press = s.press := rfl
@[simp] theorem State.reply_slc (s : State) (p : Path) (rc : Rc) (l : List Nat) : (s.reply p rc l).slc = s.slc := rfl
@[simp] theorem State.reply_inl (s : State) (p : Path) (rc : Rc) (l : List Nat) : (s.reply p rc l).inl = s.inl := rfl
@[simp] theorem State.reply_drw (s : State) (p : Path) (rc : Rc) (l : List Nat) : (s.reply p rc l).drw = s.drw := rfl
@[simp] theorem State.reply_spn (s : State) (p : Path) (rc : Rc) (l : List Nat) : (s.reply p rc l).spn = s.spn := rfl
@[simp] theorem State.reply_pwr (s : State) (p : Path) (rc : Rc) (l : List Nat) : (s.reply p rc l).pwr = s.pwr := rfl
@[simp] theorem State.reply_ifc (s : State) (p : Path) (rc : Rc) (l : List Nat) : (s.reply p rc l).ifc = s.ifc := rfl
@[simp] theorem State.reply_wit (s : State) (p : Path) (rc : Rc) (l : List Nat) : (s.reply p rc l).wit = s.wit := rfl
@[simp] theorem State.reply_flt (s : State) (p : Path) (rc : Rc) (l : List Nat) : (s.reply p rc l).flt = s.flt := rfl
@[simp] theorem State.reply_sec (s : State) (p : Path) (rc : Rc) (l : List Nat) : (s.reply p rc l).sec = s.sec := rfl
@[simp] theorem State.reply_pmu (s : State) (p : Path) (rc : Rc) (l : List Nat) : (s.reply p rc l).pmu = s.pmu := rfl
@[simp] theorem State.reply_thermtrip (s : State) (p : Path) (rc : Rc) (l : List Nat) : (s.reply p rc l).thermtrip = s.thermtrip := rfl

@[simp] theorem State.freeTaken_pending (s : State) : (s.freeTaken).pending = s.pending := rfl
@[simp] theorem State.freeTaken_out (s : State) : (s.freeTaken).out = s.out := rfl
@[simp] theorem State.freeTaken_wclk (s : State) : (s.freeTaken).wclk = s.wclk := rfl
@[simp] theorem State.freeTaken_tb (s : State) : (s.freeTaken).tb = s.tb := rfl
@[simp] theorem State.freeTaken_regs (s : State) : (s.freeTaken).regs = s.regs := rfl
@[simp] theorem State.freeTaken_hold (s : State) : (s.freeTaken).hold = s.hold := rfl
@[simp] theorem State.freeTaken_dramLoss (s : State) : (s.freeTaken).dramLoss = s.dramLoss := rfl
@[simp] theorem State.freeTaken_dram (s : State) : (s.freeTaken).dram = s.dram := rfl
@[simp] theorem State.freeTaken_boot (s : State) : (s.freeTaken).boot = s.boot := rfl
@[simp] theorem State.freeTaken_nv (s : State) : (s.freeTaken).nv = s.nv := rfl
@[simp] theorem State.freeTaken_cut (s : State) : (s.freeTaken).cut = s.cut := rfl
@[simp] theorem State.freeTaken_heads (s : State) : (s.freeTaken).heads = s.heads := rfl
@[simp] theorem State.freeTaken_dec (s : State) : (s.freeTaken).dec = s.dec := rfl
@[simp] theorem State.freeTaken_coh (s : State) : (s.freeTaken).coh = s.coh := rfl
@[simp] theorem State.freeTaken_chans (s : State) : (s.freeTaken).chans = s.chans := rfl
@[simp] theorem State.freeTaken_press (s : State) : (s.freeTaken).press = s.press := rfl
@[simp] theorem State.freeTaken_slc (s : State) : (s.freeTaken).slc = s.slc := rfl
@[simp] theorem State.freeTaken_inl (s : State) : (s.freeTaken).inl = s.inl := rfl
@[simp] theorem State.freeTaken_drw (s : State) : (s.freeTaken).drw = s.drw := rfl
@[simp] theorem State.freeTaken_spn (s : State) : (s.freeTaken).spn = s.spn := rfl
@[simp] theorem State.freeTaken_pwr (s : State) : (s.freeTaken).pwr = s.pwr := rfl
@[simp] theorem State.freeTaken_ifc (s : State) : (s.freeTaken).ifc = s.ifc := rfl
@[simp] theorem State.freeTaken_wit (s : State) : (s.freeTaken).wit = s.wit := rfl
@[simp] theorem State.freeTaken_flt (s : State) : (s.freeTaken).flt = s.flt := rfl
@[simp] theorem State.freeTaken_sec (s : State) : (s.freeTaken).sec = s.sec := rfl
@[simp] theorem State.freeTaken_pmu (s : State) : (s.freeTaken).pmu = s.pmu := rfl
@[simp] theorem State.freeTaken_thermtrip (s : State) : (s.freeTaken).thermtrip = s.thermtrip := rfl

@[simp] theorem State.active_pending (s : State) : (s.active).pending = s.pending := rfl
@[simp] theorem State.active_out (s : State) : (s.active).out = s.out := rfl
@[simp] theorem State.active_free (s : State) : (s.active).free = s.free := rfl
@[simp] theorem State.active_wclk (s : State) : (s.active).wclk = s.wclk := rfl
@[simp] theorem State.active_tb (s : State) : (s.active).tb = s.tb := rfl
@[simp] theorem State.active_regs (s : State) : (s.active).regs = s.regs := rfl
@[simp] theorem State.active_hold (s : State) : (s.active).hold = s.hold := rfl
@[simp] theorem State.active_dramLoss (s : State) : (s.active).dramLoss = s.dramLoss := rfl
@[simp] theorem State.active_dram (s : State) : (s.active).dram = s.dram := rfl
@[simp] theorem State.active_boot (s : State) : (s.active).boot = s.boot := rfl
@[simp] theorem State.active_nv (s : State) : (s.active).nv = s.nv := rfl
@[simp] theorem State.active_cut (s : State) : (s.active).cut = s.cut := rfl
@[simp] theorem State.active_heads (s : State) : (s.active).heads = s.heads := rfl
@[simp] theorem State.active_dec (s : State) : (s.active).dec = s.dec := rfl
@[simp] theorem State.active_coh (s : State) : (s.active).coh = s.coh := rfl
@[simp] theorem State.active_chans (s : State) : (s.active).chans = s.chans := rfl
@[simp] theorem State.active_press (s : State) : (s.active).press = s.press := rfl
@[simp] theorem State.active_slc (s : State) : (s.active).slc = s.slc := rfl
@[simp] theorem State.active_inl (s : State) : (s.active).inl = s.inl := rfl
@[simp] theorem State.active_drw (s : State) : (s.active).drw = s.drw := rfl
@[simp] theorem State.active_spn (s : State) : (s.active).spn = s.spn := rfl
@[simp] theorem State.active_ifc (s : State) : (s.active).ifc = s.ifc := rfl
@[simp] theorem State.active_wit (s : State) : (s.active).wit = s.wit := rfl
@[simp] theorem State.active_flt (s : State) : (s.active).flt = s.flt := rfl
@[simp] theorem State.active_sec (s : State) : (s.active).sec = s.sec := rfl
@[simp] theorem State.active_pmu (s : State) : (s.active).pmu = s.pmu := rfl
@[simp] theorem State.active_thermtrip (s : State) : (s.active).thermtrip = s.thermtrip := rfl

@[simp] theorem State.latch_pending (s : State) (a b : Nat) : (s.latch a b).pending = s.pending := rfl
@[simp] theorem State.latch_out (s : State) (a b : Nat) : (s.latch a b).out = s.out := rfl
@[simp] theorem State.latch_free (s : State) (a b : Nat) : (s.latch a b).free = s.free := rfl
@[simp] theorem State.latch_wclk (s : State) (a b : Nat) : (s.latch a b).wclk = s.wclk := rfl
@[simp] theorem State.latch_tb (s : State) (a b : Nat) : (s.latch a b).tb = s.tb := rfl
@[simp] theorem State.latch_regs (s : State) (a b : Nat) : (s.latch a b).regs = s.regs := rfl
@[simp] theorem State.latch_hold (s : State) (a b : Nat) : (s.latch a b).hold = s.hold := rfl
@[simp] theorem State.latch_dramLoss (s : State) (a b : Nat) : (s.latch a b).dramLoss = s.dramLoss := rfl
@[simp] theorem State.latch_dram (s : State) (a b : Nat) : (s.latch a b).dram = s.dram := rfl
@[simp] theorem State.latch_boot (s : State) (a b : Nat) : (s.latch a b).boot = s.boot := rfl
@[simp] theorem State.latch_nv (s : State) (a b : Nat) : (s.latch a b).nv = s.nv := rfl
@[simp] theorem State.latch_cut (s : State) (a b : Nat) : (s.latch a b).cut = s.cut := rfl
@[simp] theorem State.latch_heads (s : State) (a b : Nat) : (s.latch a b).heads = s.heads := rfl
@[simp] theorem State.latch_dec (s : State) (a b : Nat) : (s.latch a b).dec = s.dec := rfl
@[simp] theorem State.latch_coh (s : State) (a b : Nat) : (s.latch a b).coh = s.coh := rfl
@[simp] theorem State.latch_chans (s : State) (a b : Nat) : (s.latch a b).chans = s.chans := rfl
@[simp] theorem State.latch_press (s : State) (a b : Nat) : (s.latch a b).press = s.press := rfl
@[simp] theorem State.latch_slc (s : State) (a b : Nat) : (s.latch a b).slc = s.slc := rfl
@[simp] theorem State.latch_inl (s : State) (a b : Nat) : (s.latch a b).inl = s.inl := rfl
@[simp] theorem State.latch_drw (s : State) (a b : Nat) : (s.latch a b).drw = s.drw := rfl
@[simp] theorem State.latch_spn (s : State) (a b : Nat) : (s.latch a b).spn = s.spn := rfl
@[simp] theorem State.latch_ifc (s : State) (a b : Nat) : (s.latch a b).ifc = s.ifc := rfl
@[simp] theorem State.latch_wit (s : State) (a b : Nat) : (s.latch a b).wit = s.wit := rfl
@[simp] theorem State.latch_flt (s : State) (a b : Nat) : (s.latch a b).flt = s.flt := rfl
@[simp] theorem State.latch_sec (s : State) (a b : Nat) : (s.latch a b).sec = s.sec := rfl
@[simp] theorem State.latch_pmu (s : State) (a b : Nat) : (s.latch a b).pmu = s.pmu := rfl
@[simp] theorem State.latch_thermtrip (s : State) (a b : Nat) : (s.latch a b).thermtrip = s.thermtrip := rfl

@[simp] theorem State.modHead_pending (s : State) (h : Nat) (f : HeadSt → HeadSt) : (s.modHead h f).pending = s.pending := rfl
@[simp] theorem State.modHead_out (s : State) (h : Nat) (f : HeadSt → HeadSt) : (s.modHead h f).out = s.out := rfl
@[simp] theorem State.modHead_free (s : State) (h : Nat) (f : HeadSt → HeadSt) : (s.modHead h f).free = s.free := rfl
@[simp] theorem State.modHead_wclk (s : State) (h : Nat) (f : HeadSt → HeadSt) : (s.modHead h f).wclk = s.wclk := rfl
@[simp] theorem State.modHead_tb (s : State) (h : Nat) (f : HeadSt → HeadSt) : (s.modHead h f).tb = s.tb := rfl
@[simp] theorem State.modHead_regs (s : State) (h : Nat) (f : HeadSt → HeadSt) : (s.modHead h f).regs = s.regs := rfl
@[simp] theorem State.modHead_hold (s : State) (h : Nat) (f : HeadSt → HeadSt) : (s.modHead h f).hold = s.hold := rfl
@[simp] theorem State.modHead_dramLoss (s : State) (h : Nat) (f : HeadSt → HeadSt) : (s.modHead h f).dramLoss = s.dramLoss := rfl
@[simp] theorem State.modHead_dram (s : State) (h : Nat) (f : HeadSt → HeadSt) : (s.modHead h f).dram = s.dram := rfl
@[simp] theorem State.modHead_boot (s : State) (h : Nat) (f : HeadSt → HeadSt) : (s.modHead h f).boot = s.boot := rfl
@[simp] theorem State.modHead_nv (s : State) (h : Nat) (f : HeadSt → HeadSt) : (s.modHead h f).nv = s.nv := rfl
@[simp] theorem State.modHead_cut (s : State) (h : Nat) (f : HeadSt → HeadSt) : (s.modHead h f).cut = s.cut := rfl
@[simp] theorem State.modHead_dec (s : State) (h : Nat) (f : HeadSt → HeadSt) : (s.modHead h f).dec = s.dec := rfl
@[simp] theorem State.modHead_coh (s : State) (h : Nat) (f : HeadSt → HeadSt) : (s.modHead h f).coh = s.coh := rfl
@[simp] theorem State.modHead_chans (s : State) (h : Nat) (f : HeadSt → HeadSt) : (s.modHead h f).chans = s.chans := rfl
@[simp] theorem State.modHead_press (s : State) (h : Nat) (f : HeadSt → HeadSt) : (s.modHead h f).press = s.press := rfl
@[simp] theorem State.modHead_slc (s : State) (h : Nat) (f : HeadSt → HeadSt) : (s.modHead h f).slc = s.slc := rfl
@[simp] theorem State.modHead_inl (s : State) (h : Nat) (f : HeadSt → HeadSt) : (s.modHead h f).inl = s.inl := rfl
@[simp] theorem State.modHead_drw (s : State) (h : Nat) (f : HeadSt → HeadSt) : (s.modHead h f).drw = s.drw := rfl
@[simp] theorem State.modHead_spn (s : State) (h : Nat) (f : HeadSt → HeadSt) : (s.modHead h f).spn = s.spn := rfl
@[simp] theorem State.modHead_pwr (s : State) (h : Nat) (f : HeadSt → HeadSt) : (s.modHead h f).pwr = s.pwr := rfl
@[simp] theorem State.modHead_ifc (s : State) (h : Nat) (f : HeadSt → HeadSt) : (s.modHead h f).ifc = s.ifc := rfl
@[simp] theorem State.modHead_wit (s : State) (h : Nat) (f : HeadSt → HeadSt) : (s.modHead h f).wit = s.wit := rfl
@[simp] theorem State.modHead_flt (s : State) (h : Nat) (f : HeadSt → HeadSt) : (s.modHead h f).flt = s.flt := rfl
@[simp] theorem State.modHead_sec (s : State) (h : Nat) (f : HeadSt → HeadSt) : (s.modHead h f).sec = s.sec := rfl
@[simp] theorem State.modHead_pmu (s : State) (h : Nat) (f : HeadSt → HeadSt) : (s.modHead h f).pmu = s.pmu := rfl
@[simp] theorem State.modHead_thermtrip (s : State) (h : Nat) (f : HeadSt → HeadSt) : (s.modHead h f).thermtrip = s.thermtrip := rfl

@[simp] theorem State.modChan_pending (s : State) (c : Nat) (f : Channel → Channel) : (s.modChan c f).pending = s.pending := rfl
@[simp] theorem State.modChan_out (s : State) (c : Nat) (f : Channel → Channel) : (s.modChan c f).out = s.out := rfl
@[simp] theorem State.modChan_free (s : State) (c : Nat) (f : Channel → Channel) : (s.modChan c f).free = s.free := rfl
@[simp] theorem State.modChan_wclk (s : State) (c : Nat) (f : Channel → Channel) : (s.modChan c f).wclk = s.wclk := rfl
@[simp] theorem State.modChan_tb (s : State) (c : Nat) (f : Channel → Channel) : (s.modChan c f).tb = s.tb := rfl
@[simp] theorem State.modChan_regs (s : State) (c : Nat) (f : Channel → Channel) : (s.modChan c f).regs = s.regs := rfl
@[simp] theorem State.modChan_hold (s : State) (c : Nat) (f : Channel → Channel) : (s.modChan c f).hold = s.hold := rfl
@[simp] theorem State.modChan_dramLoss (s : State) (c : Nat) (f : Channel → Channel) : (s.modChan c f).dramLoss = s.dramLoss := rfl
@[simp] theorem State.modChan_dram (s : State) (c : Nat) (f : Channel → Channel) : (s.modChan c f).dram = s.dram := rfl
@[simp] theorem State.modChan_boot (s : State) (c : Nat) (f : Channel → Channel) : (s.modChan c f).boot = s.boot := rfl
@[simp] theorem State.modChan_nv (s : State) (c : Nat) (f : Channel → Channel) : (s.modChan c f).nv = s.nv := rfl
@[simp] theorem State.modChan_cut (s : State) (c : Nat) (f : Channel → Channel) : (s.modChan c f).cut = s.cut := rfl
@[simp] theorem State.modChan_heads (s : State) (c : Nat) (f : Channel → Channel) : (s.modChan c f).heads = s.heads := rfl
@[simp] theorem State.modChan_dec (s : State) (c : Nat) (f : Channel → Channel) : (s.modChan c f).dec = s.dec := rfl
@[simp] theorem State.modChan_coh (s : State) (c : Nat) (f : Channel → Channel) : (s.modChan c f).coh = s.coh := rfl
@[simp] theorem State.modChan_press (s : State) (c : Nat) (f : Channel → Channel) : (s.modChan c f).press = s.press := rfl
@[simp] theorem State.modChan_slc (s : State) (c : Nat) (f : Channel → Channel) : (s.modChan c f).slc = s.slc := rfl
@[simp] theorem State.modChan_inl (s : State) (c : Nat) (f : Channel → Channel) : (s.modChan c f).inl = s.inl := rfl
@[simp] theorem State.modChan_drw (s : State) (c : Nat) (f : Channel → Channel) : (s.modChan c f).drw = s.drw := rfl
@[simp] theorem State.modChan_spn (s : State) (c : Nat) (f : Channel → Channel) : (s.modChan c f).spn = s.spn := rfl
@[simp] theorem State.modChan_pwr (s : State) (c : Nat) (f : Channel → Channel) : (s.modChan c f).pwr = s.pwr := rfl
@[simp] theorem State.modChan_ifc (s : State) (c : Nat) (f : Channel → Channel) : (s.modChan c f).ifc = s.ifc := rfl
@[simp] theorem State.modChan_wit (s : State) (c : Nat) (f : Channel → Channel) : (s.modChan c f).wit = s.wit := rfl
@[simp] theorem State.modChan_flt (s : State) (c : Nat) (f : Channel → Channel) : (s.modChan c f).flt = s.flt := rfl
@[simp] theorem State.modChan_sec (s : State) (c : Nat) (f : Channel → Channel) : (s.modChan c f).sec = s.sec := rfl
@[simp] theorem State.modChan_pmu (s : State) (c : Nat) (f : Channel → Channel) : (s.modChan c f).pmu = s.pmu := rfl
@[simp] theorem State.modChan_thermtrip (s : State) (c : Nat) (f : Channel → Channel) : (s.modChan c f).thermtrip = s.thermtrip := rfl

@[simp] theorem State.modTxn_pending (s : State) (t : Nat) (f : Txn → Txn) : (s.modTxn t f).pending = s.pending := rfl
@[simp] theorem State.modTxn_out (s : State) (t : Nat) (f : Txn → Txn) : (s.modTxn t f).out = s.out := rfl
@[simp] theorem State.modTxn_free (s : State) (t : Nat) (f : Txn → Txn) : (s.modTxn t f).free = s.free := rfl
@[simp] theorem State.modTxn_wclk (s : State) (t : Nat) (f : Txn → Txn) : (s.modTxn t f).wclk = s.wclk := rfl
@[simp] theorem State.modTxn_tb (s : State) (t : Nat) (f : Txn → Txn) : (s.modTxn t f).tb = s.tb := rfl
@[simp] theorem State.modTxn_regs (s : State) (t : Nat) (f : Txn → Txn) : (s.modTxn t f).regs = s.regs := rfl
@[simp] theorem State.modTxn_hold (s : State) (t : Nat) (f : Txn → Txn) : (s.modTxn t f).hold = s.hold := rfl
@[simp] theorem State.modTxn_dramLoss (s : State) (t : Nat) (f : Txn → Txn) : (s.modTxn t f).dramLoss = s.dramLoss := rfl
@[simp] theorem State.modTxn_dram (s : State) (t : Nat) (f : Txn → Txn) : (s.modTxn t f).dram = s.dram := rfl
@[simp] theorem State.modTxn_boot (s : State) (t : Nat) (f : Txn → Txn) : (s.modTxn t f).boot = s.boot := rfl
@[simp] theorem State.modTxn_nv (s : State) (t : Nat) (f : Txn → Txn) : (s.modTxn t f).nv = s.nv := rfl
@[simp] theorem State.modTxn_cut (s : State) (t : Nat) (f : Txn → Txn) : (s.modTxn t f).cut = s.cut := rfl
@[simp] theorem State.modTxn_heads (s : State) (t : Nat) (f : Txn → Txn) : (s.modTxn t f).heads = s.heads := rfl
@[simp] theorem State.modTxn_dec (s : State) (t : Nat) (f : Txn → Txn) : (s.modTxn t f).dec = s.dec := rfl
@[simp] theorem State.modTxn_chans (s : State) (t : Nat) (f : Txn → Txn) : (s.modTxn t f).chans = s.chans := rfl
@[simp] theorem State.modTxn_press (s : State) (t : Nat) (f : Txn → Txn) : (s.modTxn t f).press = s.press := rfl
@[simp] theorem State.modTxn_slc (s : State) (t : Nat) (f : Txn → Txn) : (s.modTxn t f).slc = s.slc := rfl
@[simp] theorem State.modTxn_inl (s : State) (t : Nat) (f : Txn → Txn) : (s.modTxn t f).inl = s.inl := rfl
@[simp] theorem State.modTxn_drw (s : State) (t : Nat) (f : Txn → Txn) : (s.modTxn t f).drw = s.drw := rfl
@[simp] theorem State.modTxn_spn (s : State) (t : Nat) (f : Txn → Txn) : (s.modTxn t f).spn = s.spn := rfl
@[simp] theorem State.modTxn_pwr (s : State) (t : Nat) (f : Txn → Txn) : (s.modTxn t f).pwr = s.pwr := rfl
@[simp] theorem State.modTxn_ifc (s : State) (t : Nat) (f : Txn → Txn) : (s.modTxn t f).ifc = s.ifc := rfl
@[simp] theorem State.modTxn_wit (s : State) (t : Nat) (f : Txn → Txn) : (s.modTxn t f).wit = s.wit := rfl
@[simp] theorem State.modTxn_flt (s : State) (t : Nat) (f : Txn → Txn) : (s.modTxn t f).flt = s.flt := rfl
@[simp] theorem State.modTxn_sec (s : State) (t : Nat) (f : Txn → Txn) : (s.modTxn t f).sec = s.sec := rfl
@[simp] theorem State.modTxn_pmu (s : State) (t : Nat) (f : Txn → Txn) : (s.modTxn t f).pmu = s.pmu := rfl
@[simp] theorem State.modTxn_thermtrip (s : State) (t : Nat) (f : Txn → Txn) : (s.modTxn t f).thermtrip = s.thermtrip := rfl

@[simp] theorem State.modSlot_pending (s : State) (k : Nat) (f : Slot → Slot) : (s.modSlot k f).pending = s.pending := rfl
@[simp] theorem State.modSlot_out (s : State) (k : Nat) (f : Slot → Slot) : (s.modSlot k f).out = s.out := rfl
@[simp] theorem State.modSlot_free (s : State) (k : Nat) (f : Slot → Slot) : (s.modSlot k f).free = s.free := rfl
@[simp] theorem State.modSlot_wclk (s : State) (k : Nat) (f : Slot → Slot) : (s.modSlot k f).wclk = s.wclk := rfl
@[simp] theorem State.modSlot_tb (s : State) (k : Nat) (f : Slot → Slot) : (s.modSlot k f).tb = s.tb := rfl
@[simp] theorem State.modSlot_regs (s : State) (k : Nat) (f : Slot → Slot) : (s.modSlot k f).regs = s.regs := rfl
@[simp] theorem State.modSlot_hold (s : State) (k : Nat) (f : Slot → Slot) : (s.modSlot k f).hold = s.hold := rfl
@[simp] theorem State.modSlot_dramLoss (s : State) (k : Nat) (f : Slot → Slot) : (s.modSlot k f).dramLoss = s.dramLoss := rfl
@[simp] theorem State.modSlot_dram (s : State) (k : Nat) (f : Slot → Slot) : (s.modSlot k f).dram = s.dram := rfl
@[simp] theorem State.modSlot_boot (s : State) (k : Nat) (f : Slot → Slot) : (s.modSlot k f).boot = s.boot := rfl
@[simp] theorem State.modSlot_nv (s : State) (k : Nat) (f : Slot → Slot) : (s.modSlot k f).nv = s.nv := rfl
@[simp] theorem State.modSlot_cut (s : State) (k : Nat) (f : Slot → Slot) : (s.modSlot k f).cut = s.cut := rfl
@[simp] theorem State.modSlot_heads (s : State) (k : Nat) (f : Slot → Slot) : (s.modSlot k f).heads = s.heads := rfl
@[simp] theorem State.modSlot_dec (s : State) (k : Nat) (f : Slot → Slot) : (s.modSlot k f).dec = s.dec := rfl
@[simp] theorem State.modSlot_coh (s : State) (k : Nat) (f : Slot → Slot) : (s.modSlot k f).coh = s.coh := rfl
@[simp] theorem State.modSlot_chans (s : State) (k : Nat) (f : Slot → Slot) : (s.modSlot k f).chans = s.chans := rfl
@[simp] theorem State.modSlot_press (s : State) (k : Nat) (f : Slot → Slot) : (s.modSlot k f).press = s.press := rfl
@[simp] theorem State.modSlot_slc (s : State) (k : Nat) (f : Slot → Slot) : (s.modSlot k f).slc = s.slc := rfl
@[simp] theorem State.modSlot_drw (s : State) (k : Nat) (f : Slot → Slot) : (s.modSlot k f).drw = s.drw := rfl
@[simp] theorem State.modSlot_spn (s : State) (k : Nat) (f : Slot → Slot) : (s.modSlot k f).spn = s.spn := rfl
@[simp] theorem State.modSlot_pwr (s : State) (k : Nat) (f : Slot → Slot) : (s.modSlot k f).pwr = s.pwr := rfl
@[simp] theorem State.modSlot_ifc (s : State) (k : Nat) (f : Slot → Slot) : (s.modSlot k f).ifc = s.ifc := rfl
@[simp] theorem State.modSlot_wit (s : State) (k : Nat) (f : Slot → Slot) : (s.modSlot k f).wit = s.wit := rfl
@[simp] theorem State.modSlot_flt (s : State) (k : Nat) (f : Slot → Slot) : (s.modSlot k f).flt = s.flt := rfl
@[simp] theorem State.modSlot_sec (s : State) (k : Nat) (f : Slot → Slot) : (s.modSlot k f).sec = s.sec := rfl
@[simp] theorem State.modSlot_pmu (s : State) (k : Nat) (f : Slot → Slot) : (s.modSlot k f).pmu = s.pmu := rfl
@[simp] theorem State.modSlot_thermtrip (s : State) (k : Nat) (f : Slot → Slot) : (s.modSlot k f).thermtrip = s.thermtrip := rfl

@[simp] theorem State.modDrawer_pending (s : State) (d : Nat) (f : Drawer → Drawer) : (s.modDrawer d f).pending = s.pending := rfl
@[simp] theorem State.modDrawer_out (s : State) (d : Nat) (f : Drawer → Drawer) : (s.modDrawer d f).out = s.out := rfl
@[simp] theorem State.modDrawer_free (s : State) (d : Nat) (f : Drawer → Drawer) : (s.modDrawer d f).free = s.free := rfl
@[simp] theorem State.modDrawer_wclk (s : State) (d : Nat) (f : Drawer → Drawer) : (s.modDrawer d f).wclk = s.wclk := rfl
@[simp] theorem State.modDrawer_tb (s : State) (d : Nat) (f : Drawer → Drawer) : (s.modDrawer d f).tb = s.tb := rfl
@[simp] theorem State.modDrawer_regs (s : State) (d : Nat) (f : Drawer → Drawer) : (s.modDrawer d f).regs = s.regs := rfl
@[simp] theorem State.modDrawer_hold (s : State) (d : Nat) (f : Drawer → Drawer) : (s.modDrawer d f).hold = s.hold := rfl
@[simp] theorem State.modDrawer_dramLoss (s : State) (d : Nat) (f : Drawer → Drawer) : (s.modDrawer d f).dramLoss = s.dramLoss := rfl
@[simp] theorem State.modDrawer_dram (s : State) (d : Nat) (f : Drawer → Drawer) : (s.modDrawer d f).dram = s.dram := rfl
@[simp] theorem State.modDrawer_boot (s : State) (d : Nat) (f : Drawer → Drawer) : (s.modDrawer d f).boot = s.boot := rfl
@[simp] theorem State.modDrawer_nv (s : State) (d : Nat) (f : Drawer → Drawer) : (s.modDrawer d f).nv = s.nv := rfl
@[simp] theorem State.modDrawer_cut (s : State) (d : Nat) (f : Drawer → Drawer) : (s.modDrawer d f).cut = s.cut := rfl
@[simp] theorem State.modDrawer_heads (s : State) (d : Nat) (f : Drawer → Drawer) : (s.modDrawer d f).heads = s.heads := rfl
@[simp] theorem State.modDrawer_dec (s : State) (d : Nat) (f : Drawer → Drawer) : (s.modDrawer d f).dec = s.dec := rfl
@[simp] theorem State.modDrawer_coh (s : State) (d : Nat) (f : Drawer → Drawer) : (s.modDrawer d f).coh = s.coh := rfl
@[simp] theorem State.modDrawer_chans (s : State) (d : Nat) (f : Drawer → Drawer) : (s.modDrawer d f).chans = s.chans := rfl
@[simp] theorem State.modDrawer_press (s : State) (d : Nat) (f : Drawer → Drawer) : (s.modDrawer d f).press = s.press := rfl
@[simp] theorem State.modDrawer_slc (s : State) (d : Nat) (f : Drawer → Drawer) : (s.modDrawer d f).slc = s.slc := rfl
@[simp] theorem State.modDrawer_inl (s : State) (d : Nat) (f : Drawer → Drawer) : (s.modDrawer d f).inl = s.inl := rfl
@[simp] theorem State.modDrawer_spn (s : State) (d : Nat) (f : Drawer → Drawer) : (s.modDrawer d f).spn = s.spn := rfl
@[simp] theorem State.modDrawer_pwr (s : State) (d : Nat) (f : Drawer → Drawer) : (s.modDrawer d f).pwr = s.pwr := rfl
@[simp] theorem State.modDrawer_ifc (s : State) (d : Nat) (f : Drawer → Drawer) : (s.modDrawer d f).ifc = s.ifc := rfl
@[simp] theorem State.modDrawer_wit (s : State) (d : Nat) (f : Drawer → Drawer) : (s.modDrawer d f).wit = s.wit := rfl
@[simp] theorem State.modDrawer_flt (s : State) (d : Nat) (f : Drawer → Drawer) : (s.modDrawer d f).flt = s.flt := rfl
@[simp] theorem State.modDrawer_sec (s : State) (d : Nat) (f : Drawer → Drawer) : (s.modDrawer d f).sec = s.sec := rfl
@[simp] theorem State.modDrawer_pmu (s : State) (d : Nat) (f : Drawer → Drawer) : (s.modDrawer d f).pmu = s.pmu := rfl
@[simp] theorem State.modDrawer_thermtrip (s : State) (d : Nat) (f : Drawer → Drawer) : (s.modDrawer d f).thermtrip = s.thermtrip := rfl

@[simp] theorem State.modRing_pending (s : State) (d r : Nat) (f : RingSt → RingSt) : (s.modRing d r f).pending = s.pending := rfl
@[simp] theorem State.modRing_out (s : State) (d r : Nat) (f : RingSt → RingSt) : (s.modRing d r f).out = s.out := rfl
@[simp] theorem State.modRing_free (s : State) (d r : Nat) (f : RingSt → RingSt) : (s.modRing d r f).free = s.free := rfl
@[simp] theorem State.modRing_wclk (s : State) (d r : Nat) (f : RingSt → RingSt) : (s.modRing d r f).wclk = s.wclk := rfl
@[simp] theorem State.modRing_tb (s : State) (d r : Nat) (f : RingSt → RingSt) : (s.modRing d r f).tb = s.tb := rfl
@[simp] theorem State.modRing_regs (s : State) (d r : Nat) (f : RingSt → RingSt) : (s.modRing d r f).regs = s.regs := rfl
@[simp] theorem State.modRing_hold (s : State) (d r : Nat) (f : RingSt → RingSt) : (s.modRing d r f).hold = s.hold := rfl
@[simp] theorem State.modRing_dramLoss (s : State) (d r : Nat) (f : RingSt → RingSt) : (s.modRing d r f).dramLoss = s.dramLoss := rfl
@[simp] theorem State.modRing_dram (s : State) (d r : Nat) (f : RingSt → RingSt) : (s.modRing d r f).dram = s.dram := rfl
@[simp] theorem State.modRing_boot (s : State) (d r : Nat) (f : RingSt → RingSt) : (s.modRing d r f).boot = s.boot := rfl
@[simp] theorem State.modRing_nv (s : State) (d r : Nat) (f : RingSt → RingSt) : (s.modRing d r f).nv = s.nv := rfl
@[simp] theorem State.modRing_cut (s : State) (d r : Nat) (f : RingSt → RingSt) : (s.modRing d r f).cut = s.cut := rfl
@[simp] theorem State.modRing_heads (s : State) (d r : Nat) (f : RingSt → RingSt) : (s.modRing d r f).heads = s.heads := rfl
@[simp] theorem State.modRing_dec (s : State) (d r : Nat) (f : RingSt → RingSt) : (s.modRing d r f).dec = s.dec := rfl
@[simp] theorem State.modRing_coh (s : State) (d r : Nat) (f : RingSt → RingSt) : (s.modRing d r f).coh = s.coh := rfl
@[simp] theorem State.modRing_chans (s : State) (d r : Nat) (f : RingSt → RingSt) : (s.modRing d r f).chans = s.chans := rfl
@[simp] theorem State.modRing_press (s : State) (d r : Nat) (f : RingSt → RingSt) : (s.modRing d r f).press = s.press := rfl
@[simp] theorem State.modRing_slc (s : State) (d r : Nat) (f : RingSt → RingSt) : (s.modRing d r f).slc = s.slc := rfl
@[simp] theorem State.modRing_inl (s : State) (d r : Nat) (f : RingSt → RingSt) : (s.modRing d r f).inl = s.inl := rfl
@[simp] theorem State.modRing_spn (s : State) (d r : Nat) (f : RingSt → RingSt) : (s.modRing d r f).spn = s.spn := rfl
@[simp] theorem State.modRing_pwr (s : State) (d r : Nat) (f : RingSt → RingSt) : (s.modRing d r f).pwr = s.pwr := rfl
@[simp] theorem State.modRing_ifc (s : State) (d r : Nat) (f : RingSt → RingSt) : (s.modRing d r f).ifc = s.ifc := rfl
@[simp] theorem State.modRing_wit (s : State) (d r : Nat) (f : RingSt → RingSt) : (s.modRing d r f).wit = s.wit := rfl
@[simp] theorem State.modRing_flt (s : State) (d r : Nat) (f : RingSt → RingSt) : (s.modRing d r f).flt = s.flt := rfl
@[simp] theorem State.modRing_sec (s : State) (d r : Nat) (f : RingSt → RingSt) : (s.modRing d r f).sec = s.sec := rfl
@[simp] theorem State.modRing_pmu (s : State) (d r : Nat) (f : RingSt → RingSt) : (s.modRing d r f).pmu = s.pmu := rfl
@[simp] theorem State.modRing_thermtrip (s : State) (d r : Nat) (f : RingSt → RingSt) : (s.modRing d r f).thermtrip = s.thermtrip := rfl

@[simp] theorem State.modLink_pending (s : State) (p : Nat) (f : Link → Link) : (s.modLink p f).pending = s.pending := rfl
@[simp] theorem State.modLink_out (s : State) (p : Nat) (f : Link → Link) : (s.modLink p f).out = s.out := rfl
@[simp] theorem State.modLink_free (s : State) (p : Nat) (f : Link → Link) : (s.modLink p f).free = s.free := rfl
@[simp] theorem State.modLink_wclk (s : State) (p : Nat) (f : Link → Link) : (s.modLink p f).wclk = s.wclk := rfl
@[simp] theorem State.modLink_tb (s : State) (p : Nat) (f : Link → Link) : (s.modLink p f).tb = s.tb := rfl
@[simp] theorem State.modLink_regs (s : State) (p : Nat) (f : Link → Link) : (s.modLink p f).regs = s.regs := rfl
@[simp] theorem State.modLink_hold (s : State) (p : Nat) (f : Link → Link) : (s.modLink p f).hold = s.hold := rfl
@[simp] theorem State.modLink_dramLoss (s : State) (p : Nat) (f : Link → Link) : (s.modLink p f).dramLoss = s.dramLoss := rfl
@[simp] theorem State.modLink_dram (s : State) (p : Nat) (f : Link → Link) : (s.modLink p f).dram = s.dram := rfl
@[simp] theorem State.modLink_boot (s : State) (p : Nat) (f : Link → Link) : (s.modLink p f).boot = s.boot := rfl
@[simp] theorem State.modLink_nv (s : State) (p : Nat) (f : Link → Link) : (s.modLink p f).nv = s.nv := rfl
@[simp] theorem State.modLink_cut (s : State) (p : Nat) (f : Link → Link) : (s.modLink p f).cut = s.cut := rfl
@[simp] theorem State.modLink_heads (s : State) (p : Nat) (f : Link → Link) : (s.modLink p f).heads = s.heads := rfl
@[simp] theorem State.modLink_dec (s : State) (p : Nat) (f : Link → Link) : (s.modLink p f).dec = s.dec := rfl
@[simp] theorem State.modLink_coh (s : State) (p : Nat) (f : Link → Link) : (s.modLink p f).coh = s.coh := rfl
@[simp] theorem State.modLink_chans (s : State) (p : Nat) (f : Link → Link) : (s.modLink p f).chans = s.chans := rfl
@[simp] theorem State.modLink_press (s : State) (p : Nat) (f : Link → Link) : (s.modLink p f).press = s.press := rfl
@[simp] theorem State.modLink_slc (s : State) (p : Nat) (f : Link → Link) : (s.modLink p f).slc = s.slc := rfl
@[simp] theorem State.modLink_inl (s : State) (p : Nat) (f : Link → Link) : (s.modLink p f).inl = s.inl := rfl
@[simp] theorem State.modLink_drw (s : State) (p : Nat) (f : Link → Link) : (s.modLink p f).drw = s.drw := rfl
@[simp] theorem State.modLink_pwr (s : State) (p : Nat) (f : Link → Link) : (s.modLink p f).pwr = s.pwr := rfl
@[simp] theorem State.modLink_ifc (s : State) (p : Nat) (f : Link → Link) : (s.modLink p f).ifc = s.ifc := rfl
@[simp] theorem State.modLink_wit (s : State) (p : Nat) (f : Link → Link) : (s.modLink p f).wit = s.wit := rfl
@[simp] theorem State.modLink_flt (s : State) (p : Nat) (f : Link → Link) : (s.modLink p f).flt = s.flt := rfl
@[simp] theorem State.modLink_sec (s : State) (p : Nat) (f : Link → Link) : (s.modLink p f).sec = s.sec := rfl
@[simp] theorem State.modLink_pmu (s : State) (p : Nat) (f : Link → Link) : (s.modLink p f).pmu = s.pmu := rfl
@[simp] theorem State.modLink_thermtrip (s : State) (p : Nat) (f : Link → Link) : (s.modLink p f).thermtrip = s.thermtrip := rfl

@[simp] theorem State.putLine_pending (s : State) (m : Nat) (l : Line) : (s.putLine m l).pending = s.pending := rfl
@[simp] theorem State.putLine_out (s : State) (m : Nat) (l : Line) : (s.putLine m l).out = s.out := rfl
@[simp] theorem State.putLine_free (s : State) (m : Nat) (l : Line) : (s.putLine m l).free = s.free := rfl
@[simp] theorem State.putLine_wclk (s : State) (m : Nat) (l : Line) : (s.putLine m l).wclk = s.wclk := rfl
@[simp] theorem State.putLine_tb (s : State) (m : Nat) (l : Line) : (s.putLine m l).tb = s.tb := rfl
@[simp] theorem State.putLine_regs (s : State) (m : Nat) (l : Line) : (s.putLine m l).regs = s.regs := rfl
@[simp] theorem State.putLine_hold (s : State) (m : Nat) (l : Line) : (s.putLine m l).hold = s.hold := rfl
@[simp] theorem State.putLine_dramLoss (s : State) (m : Nat) (l : Line) : (s.putLine m l).dramLoss = s.dramLoss := rfl
@[simp] theorem State.putLine_boot (s : State) (m : Nat) (l : Line) : (s.putLine m l).boot = s.boot := rfl
@[simp] theorem State.putLine_nv (s : State) (m : Nat) (l : Line) : (s.putLine m l).nv = s.nv := rfl
@[simp] theorem State.putLine_cut (s : State) (m : Nat) (l : Line) : (s.putLine m l).cut = s.cut := rfl
@[simp] theorem State.putLine_heads (s : State) (m : Nat) (l : Line) : (s.putLine m l).heads = s.heads := rfl
@[simp] theorem State.putLine_dec (s : State) (m : Nat) (l : Line) : (s.putLine m l).dec = s.dec := rfl
@[simp] theorem State.putLine_coh (s : State) (m : Nat) (l : Line) : (s.putLine m l).coh = s.coh := rfl
@[simp] theorem State.putLine_chans (s : State) (m : Nat) (l : Line) : (s.putLine m l).chans = s.chans := rfl
@[simp] theorem State.putLine_press (s : State) (m : Nat) (l : Line) : (s.putLine m l).press = s.press := rfl
@[simp] theorem State.putLine_slc (s : State) (m : Nat) (l : Line) : (s.putLine m l).slc = s.slc := rfl
@[simp] theorem State.putLine_inl (s : State) (m : Nat) (l : Line) : (s.putLine m l).inl = s.inl := rfl
@[simp] theorem State.putLine_drw (s : State) (m : Nat) (l : Line) : (s.putLine m l).drw = s.drw := rfl
@[simp] theorem State.putLine_spn (s : State) (m : Nat) (l : Line) : (s.putLine m l).spn = s.spn := rfl
@[simp] theorem State.putLine_pwr (s : State) (m : Nat) (l : Line) : (s.putLine m l).pwr = s.pwr := rfl
@[simp] theorem State.putLine_ifc (s : State) (m : Nat) (l : Line) : (s.putLine m l).ifc = s.ifc := rfl
@[simp] theorem State.putLine_wit (s : State) (m : Nat) (l : Line) : (s.putLine m l).wit = s.wit := rfl
@[simp] theorem State.putLine_flt (s : State) (m : Nat) (l : Line) : (s.putLine m l).flt = s.flt := rfl
@[simp] theorem State.putLine_sec (s : State) (m : Nat) (l : Line) : (s.putLine m l).sec = s.sec := rfl
@[simp] theorem State.putLine_pmu (s : State) (m : Nat) (l : Line) : (s.putLine m l).pmu = s.pmu := rfl
@[simp] theorem State.putLine_thermtrip (s : State) (m : Nat) (l : Line) : (s.putLine m l).thermtrip = s.thermtrip := rfl

@[simp] theorem State.clearOut_fget (s : State) (f : Fld) (i : Nat) : (s.clearOut).fget f i = s.fget f i := rfl
@[simp] theorem State.emit_fget (s : State) (o : Out) (f : Fld) (i : Nat) : (s.emit o).fget f i = s.fget f i := rfl
@[simp] theorem State.reply_fget (s : State) (p : Path) (rc : Rc) (l : List Nat) (f : Fld) (i : Nat) : (s.reply p rc l).fget f i = s.fget f i := rfl
@[simp] theorem State.freeTaken_fget (s : State) (f : Fld) (i : Nat) : (s.freeTaken).fget f i = s.fget f i := rfl
@[simp] theorem State.active_fget (s : State) (f : Fld) (i : Nat) : (s.active).fget f i = s.fget f i := rfl
@[simp] theorem State.latch_fget (s : State) (a b : Nat) (f : Fld) (i : Nat) : (s.latch a b).fget f i = s.fget f i := rfl
@[simp] theorem State.modHead_fget (s : State) (h : Nat) (g : HeadSt → HeadSt) (f : Fld) (i : Nat) : (s.modHead h g).fget f i = s.fget f i := rfl
@[simp] theorem State.modChan_fget (s : State) (c : Nat) (g : Channel → Channel) (f : Fld) (i : Nat) : (s.modChan c g).fget f i = s.fget f i := rfl
@[simp] theorem State.modTxn_fget (s : State) (t : Nat) (g : Txn → Txn) (f : Fld) (i : Nat) : (s.modTxn t g).fget f i = s.fget f i := rfl
@[simp] theorem State.modSlot_fget (s : State) (k : Nat) (g : Slot → Slot) (f : Fld) (i : Nat) : (s.modSlot k g).fget f i = s.fget f i := rfl
@[simp] theorem State.modDrawer_fget (s : State) (d : Nat) (g : Drawer → Drawer) (f : Fld) (i : Nat) : (s.modDrawer d g).fget f i = s.fget f i := rfl
@[simp] theorem State.modRing_fget (s : State) (d r : Nat) (g : RingSt → RingSt) (f : Fld) (i : Nat) : (s.modRing d r g).fget f i = s.fget f i := rfl
@[simp] theorem State.modLink_fget (s : State) (p : Nat) (g : Link → Link) (f : Fld) (i : Nat) : (s.modLink p g).fget f i = s.fget f i := rfl
@[simp] theorem State.putLine_fget (s : State) (m : Nat) (l : Line) (f : Fld) (i : Nat) : (s.putLine m l).fget f i = s.fget f i := rfl

@[simp] theorem State.keepNv_nv (s : State) (f : State → State) : (s.keepNv f).nv = s.nv := rfl

/-! ## Registers -/

theorem fldKey_ne {f g : Fld} (i j : Nat) (hf : f.id < 1024) (hg : g.id < 1024) (h : f.id ≠ g.id) : fldKey f i ≠ fldKey g j := by
  unfold fldKey; omega

theorem fldKey_inst_ne {f : Fld} {i j : Nat} (h : i ≠ j) : fldKey f i ≠ fldKey f j := by
  unfold fldKey; omega

/-- A field reads what was last written to it, cut to its width. -/
@[simp] theorem State.fget_fset_self (s : State) (f : Fld) (i v : Nat) : (s.fset f i v).fget f i = v % 2 ^ f.width :=
  smGet_put_self ..

/-- Another field keeps its value. -/
theorem State.fget_fset_ne (s : State) {f g : Fld} (i j v : Nat) (hf : f.id < 1024) (hg : g.id < 1024) (h : f.id ≠ g.id) :
    (s.fset g j v).fget f i = s.fget f i :=
  smGet_put_ne _ _ _ _ (fldKey_ne i j hf hg h)

/-- Another instance of the field keeps its value. -/
theorem State.fget_fset_inst (s : State) {f : Fld} {i j : Nat} (v : Nat) (h : i ≠ j) : (s.fset f j v).fget f i = s.fget f i :=
  smGet_put_ne _ _ _ _ (fldKey_inst_ne h)

/-- A field holds no more than its width. -/
theorem State.fset_lt (s : State) (f : Fld) (i v : Nat) : (s.fset f i v).fget f i < 2 ^ f.width := by
  rw [State.fget_fset_self]; exact Nat.mod_lt _ (Nat.two_pow_pos _)

/-! ## Parts by number -/

@[simp] theorem State.modHead_head_self (s : State) (h : Nat) (f : HeadSt → HeadSt) : (s.modHead h f).head h = f (s.head h) :=
  smGet_mod_self ..

theorem State.modHead_head_ne (s : State) {h k : Nat} (f : HeadSt → HeadSt) (hk : k ≠ h) : (s.modHead h f).head k = s.head k :=
  smGet_mod_ne _ _ _ _ hk

@[simp] theorem State.modChan_chan_self (s : State) (c : Nat) (f : Channel → Channel) : (s.modChan c f).chan c = f (s.chan c) :=
  smGet_mod_self ..

theorem State.modChan_chan_ne (s : State) {c d : Nat} (f : Channel → Channel) (h : d ≠ c) : (s.modChan c f).chan d = s.chan d :=
  smGet_mod_ne _ _ _ _ h

@[simp] theorem State.modSlot_slot_self (s : State) (k : Nat) (f : Slot → Slot) : (s.modSlot k f).slot k = f (s.slot k) :=
  smGet_mod_self ..

theorem State.modSlot_slot_ne (s : State) {k j : Nat} (f : Slot → Slot) (h : j ≠ k) : (s.modSlot k f).slot j = s.slot j :=
  smGet_mod_ne _ _ _ _ h

@[simp] theorem State.modDrawer_drawer_self (s : State) (d : Nat) (f : Drawer → Drawer) : (s.modDrawer d f).drawer d = f (s.drawer d) :=
  smGet_mod_self ..

theorem State.modDrawer_drawer_ne (s : State) {d e : Nat} (f : Drawer → Drawer) (h : e ≠ d) : (s.modDrawer d f).drawer e = s.drawer e :=
  smGet_mod_ne _ _ _ _ h

@[simp] theorem State.modLink_link_self (s : State) (p : Nat) (f : Link → Link) : (s.modLink p f).link p = f (s.link p) :=
  smGet_mod_self ..

theorem State.modLink_link_ne (s : State) {p q : Nat} (f : Link → Link) (h : q ≠ p) : (s.modLink p f).link q = s.link q :=
  smGet_mod_ne _ _ _ _ h

@[simp] theorem State.modRing_ring_self (s : State) (d r : Nat) (f : RingSt → RingSt) : (s.modRing d r f).ring d r = f (s.ring d r) := by
  simp [State.modRing, State.ring]

theorem State.modTxn_txn_self (s : State) (t : Nat) (f : Txn → Txn) : (s.modTxn t f).txn? t = (s.txn? t).map f :=
  smFind?_adj_self ..

theorem State.modTxn_txn_ne (s : State) {t u : Nat} (f : Txn → Txn) (h : u ≠ t) : (s.modTxn t f).txn? u = s.txn? u :=
  smFind?_adj_ne _ _ h

/-! ## DRAM lines (07 R179) -/

/-- Reading one line after one was written. -/
theorem State.rawLine_putLine (s : State) (m n : Nat) (l : Line) :
    (s.putLine m l).rawLine n = if n = m then l else s.rawLine n := by
  by_cases h : n = m
  · subst h; simp [State.rawLine, State.putLine]
  · simp [State.rawLine, State.putLine, smFind?_set_ne _ _ h, h]

/-- Writing a line keeps the canonical form. -/
theorem State.putLine_wf (s : State) (m : Nat) (l : Line) (h : smWf s.dram = true) : smWf (s.putLine m l).dram = true :=
  smWf_set _ _ _ h

/-- Setting a register field keeps the register map's canonical form. -/
theorem State.fset_wf (s : State) (f : Fld) (i v : Nat) (h : smWf s.regs = true) : smWf (s.fset f i v).regs = true :=
  smWf_put _ _ _ _ h

/-! ## Lists of updates -/

/-- What every member of a list of updates leaves alone, the list leaves alone. -/
theorem State.each_inv {α β : Type} (g : State → β) (l : List α) (f : α → State → State) (h : ∀ a s, g (f a s) = g s) (s : State) :
    g (s.each l f) = g s := by
  induction l generalizing s with
  | nil => rfl
  | cons a l ih => exact (ih (f a s)).trans (h a s)

@[simp] theorem State.each_nil {α : Type} (s : State) (f : α → State → State) : s.each [] f = s := rfl

@[simp] theorem State.each_cons {α : Type} (s : State) (a : α) (l : List α) (f : α → State → State) :
    s.each (a :: l) f = (f a s).each l f := rfl

end Sys2Proof.Machine
end

