-- ==== Sys2Proof/Laws/Ops.lean ====
section
/-! SUPPORT. Laws of the shared operations: what a signalled cause, an event record, a counted event, a Witness record and a fault
report can change, and that they change nothing else. -/

namespace Sys2Proof.Machine

open Sys2Proof

/-- The state without what a signalled cause reaches: heads and outputs. -/
def State.offHeads (s : State) : State := { s with heads := [], out := [] }

/-- The state without what a counted event reaches: registers, heads and outputs. -/
def State.offCount (s : State) : State := { s with regs := [], heads := [], out := [] }

/-- The state without what a fault report reaches: registers, heads, outputs, the fault and Witness engines, the start-up state and the Span. -/
def State.offFault (s : State) : State := 
  { s with
    regs := [], heads := [], out := [], flt := {}, wit := {}, boot := { s.boot with fatal := false }
    spn := { s.spn with withdrawn := false, ageSeq := 0, links := [] } }

theorem offCount_of_offHeads {s t : State} (h : s.offHeads = t.offHeads) : s.offCount = t.offCount :=
  congrArg (fun x : State => { x with regs := [] }) h

theorem offFault_of_offCount {s t : State} (h : s.offCount = t.offCount) : s.offFault = t.offFault :=
  congrArg (fun x : State => { x with flt := {}, wit := {}, boot := { x.boot with fatal := false }, spn := { x.spn with withdrawn := false, ageSeq := 0, links := [] } }) h

theorem offFault_of_offHeads {s t : State} (h : s.offHeads = t.offHeads) : s.offFault = t.offFault :=
  offFault_of_offCount (offCount_of_offHeads h)

/-! ## Interrupts and event records -/

theorem State.signalHead_off (s : State) (v h : Nat) : (s.signalHead v h).offHeads = s.offHeads := by
  unfold State.signalHead
  dsimp only
  split
  · rfl
  · split <;> rfl

theorem State.signal_off (s : State) (v : Nat) : (s.signal v).offHeads = s.offHeads :=
  State.each_inv State.offHeads _ _ (fun h s => s.signalHead_off v h) s

theorem State.logEvent_off (s : State) (h l : Nat) (e : EvRec) : (s.logEvent h l e).offHeads = s.offHeads := by
  unfold State.logEvent
  dsimp only
  split
  · split
    · exact (State.signalHead_off _ _ _).trans rfl
    · rfl
  · rfl

theorem State.eventOf_off (s : State) (set code level unit : Nat) (dpa : Option Nat) :
    (s.eventOf set code level unit dpa).offHeads = s.offHeads := by
  have k (l : List Nat) (n : Nat) (e : EvRec) (s : State) : (s.each l fun h s => s.logEvent h n e).offHeads = s.offHeads :=
    State.each_inv State.offHeads _ _ (fun h s => s.logEvent_off h n e) s
  unfold State.eventOf
  dsimp only
  split
  · exact k ..
  · split
    · exact k ..
    · split
      · exact k ..
      · split
        · rfl
        · exact k ..

/-! ## Counters (18 R426-R429) -/

theorem State.ctrAdd_off (s : State) (u fuel n k : Nat) : (s.ctrAdd u fuel n k).offCount = s.offCount := by
  induction fuel generalizing s n k with
  | zero => rfl
  | succ fuel ih =>
    unfold State.ctrAdd
    dsimp only
    split
    · rfl
    · split
      · split
        · exact (ih _ _ _).trans rfl
        · rfl
      · split
        · split
          · exact (offCount_of_offHeads (State.signal_off _ _)).trans rfl
          · exact (offCount_of_offHeads (State.signal_off _ _)).trans rfl
        · split <;> rfl

theorem State.count_off (s : State) (u ev : Nat) (a : Attr) (k : Nat) : (s.count u ev a k).offCount = s.offCount := by
  unfold State.count
  split
  · rfl
  · refine State.each_inv State.offCount _ _ (fun n s => ?_) s
    split
    · exact State.ctrAdd_off ..
    · rfl

theorem State.pmuCycles_off (s : State) (u n occ : Nat) : (s.pmuCycles u n occ).offCount = s.offCount := by
  unfold State.pmuCycles
  split
  · rfl
  · exact (State.count_off ..).trans ((State.count_off ..).trans rfl)

/-- Identities of the register fields that a counted event writes. -/
def pmuIds : List Nat := pmuFlds.map (·.id)

theorem State.signalHead_fget (s : State) (v h : Nat) (f : Fld) (i : Nat) : (s.signalHead v h).fget f i = s.fget f i := by
  have e : (s.signalHead v h).regs = s.regs := by have h := congrArg State.regs (s.signalHead_off v h); exact h
  simp only [State.fget, e]

theorem State.signal_fget (s : State) (v : Nat) (f : Fld) (i : Nat) : (s.signal v).fget f i = s.fget f i := by
  have e : (s.signal v).regs = s.regs := by have h := congrArg State.regs (s.signal_off v); exact h
  simp only [State.fget, e]

theorem State.ctrAdd_fget (s : State) (u fuel n k : Nat) (f : Fld) (i : Nat) (hf : f.id < 1024) (hp : f.id ∉ pmuIds) :
    (s.ctrAdd u fuel n k).fget f i = s.fget f i := by
  have h1 : f.id ≠ PMU_CTR.COUNT.id := fun h => hp (h ▸ by decide)
  have h2 : f.id ≠ PMU_OVF.OVF.id := fun h => hp (h ▸ by decide)
  have h3 : f.id ≠ PMU_CTL.FREEZE.id := fun h => hp (h ▸ by decide)
  have c1 : PMU_CTR.COUNT.id < 1024 := by decide
  have c2 : PMU_OVF.OVF.id < 1024 := by decide
  have c3 : PMU_CTL.FREEZE.id < 1024 := by decide
  induction fuel generalizing s n k with
  | zero => rfl
  | succ fuel ih =>
    unfold State.ctrAdd
    dsimp only [State.fputBit]
    split
    · exact State.fget_fset_ne _ _ _ _ hf c1 h1
    · split
      · split
        · rw [ih, State.fget_fset_ne _ _ _ _ hf c2 h2, State.fget_fset_ne _ _ _ _ hf c1 h1]
        · rw [State.fget_fset_ne _ _ _ _ hf c2 h2, State.fget_fset_ne _ _ _ _ hf c1 h1]
      · split
        · split
          · rw [State.fget_fset_ne _ _ _ _ hf c3 h3, State.signal_fget, State.fget_fset_ne _ _ _ _ hf c2 h2,
              State.fget_fset_ne _ _ _ _ hf c1 h1]
          · rw [State.signal_fget, State.fget_fset_ne _ _ _ _ hf c2 h2, State.fget_fset_ne _ _ _ _ hf c1 h1]
        · split
          · rw [State.fget_fset_ne _ _ _ _ hf c3 h3, State.fget_fset_ne _ _ _ _ hf c2 h2, State.fget_fset_ne _ _ _ _ hf c1 h1]
          · rw [State.fget_fset_ne _ _ _ _ hf c2 h2, State.fget_fset_ne _ _ _ _ hf c1 h1]

/-- A register field that is no counter and no counter control keeps its value when an event is counted. -/
theorem State.count_fget (s : State) (u ev : Nat) (a : Attr) (k : Nat) (f : Fld) (i : Nat) (hf : f.id < 1024) (hp : f.id ∉ pmuIds) :
    (s.count u ev a k).fget f i = s.fget f i := by
  unfold State.count
  split
  · rfl
  · refine State.each_inv (fun s => s.fget f i) _ _ (fun n s => ?_) s
    split
    · exact State.ctrAdd_fget _ _ _ _ _ _ _ hf hp
    · rfl

/-! ## The Witness staging (16 R392-R394) -/

theorem State.witWrite_off (s : State) (r : WitRec) : (s.witWrite r).1.offFault = s.offFault := by
  unfold State.witWrite
  dsimp only
  split
  · rfl
  · split
    · rfl
    · split <;> rfl

theorem State.witReport_off (s : State) (set : Nat) (r : WitRec) : (s.witReport set r).1.offFault = s.offFault := by
  have k (t : State) (ht : t.offFault = s.offFault) :
      (match t.witWrite r with
        | (s, true) => (s, true)
        | (s, false) => (s.witLost set, false)).1.offFault = s.offFault := by
    have w := t.witWrite_off r
    rcases e : t.witWrite r with ⟨u, b⟩
    rw [e] at w
    cases b
    · exact w.trans ht
    · exact w.trans ht
  unfold State.witReport
  dsimp only
  split
  · split
    · exact k s rfl
    · rfl
  · split
    · rfl
    · exact k _ rfl

/-! ## Fault reports (16 R382-R390) -/

theorem State.floodSelf_off (s : State) (b : Bool) : (s.floodSelf b).offFault = s.offFault := by
  unfold State.floodSelf
  dsimp only
  split
  · rfl
  · exact (State.each_inv State.offFault _ (fun p s => s.pushFlit p 3) (fun _ _ => rfl) _).trans rfl

theorem State.goFatal_off (s : State) : s.goFatal.offFault = s.offFault := by
  unfold State.goFatal
  dsimp only
  split
  · rfl
  · rw [State.floodSelf_off]
    exact (State.each_inv State.offFault _ (fun h s => s.emit (.viral (Fin.ofNat 16 h))) (fun _ _ => rfl) _).trans rfl

theorem State.fset_off (s : State) (f : Fld) (i v : Nat) : (s.fset f i v).offFault = s.offFault := rfl

theorem State.captureFirst_off (s : State) (set code level : Nat) (esc : Bool) (c : Capture) :
    (s.captureFirst set code level esc c).offFault = s.offFault := by
  unfold State.captureFirst
  split
  · rfl
  · simp only [State.fbit, State.fset_off]

theorem State.countReport_off (s : State) (set : Nat) : (s.countReport set).offFault = s.offFault := by
  unfold State.countReport
  dsimp only
  split
  · rfl
  · rfl

theorem State.reportRegs_off (s : State) (set code level : Nat) (esc : Bool) (c : Capture) :
    (s.reportRegs set code level esc c).offFault = s.offFault := by
  unfold State.reportRegs
  dsimp only
  rw [offFault_of_offHeads (State.eventOf_off ..)]
  have e (t : State) : (t.enterClass set code level).offFault = t.offFault := by
    have k (u : State) (x : Faults) : ({ u with flt := x } : State).offFault = u.offFault := rfl
    unfold State.enterClass
    dsimp only [State.fputBit]
    rw [k]
    simp only [State.fset_off]
  have h : (((s.captureFirst set code level esc c).countReport set).enterClass set code level).offFault = s.offFault :=
    (e _).trans ((State.countReport_off ..).trans (State.captureFirst_off ..))
  generalize ((s.captureFirst set code level esc c).countReport set).enterClass set code level = t at h ⊢
  split
  · split
    · exact (offFault_of_offHeads (State.each_inv State.offHeads _ _ (fun h s => s.signalHead_off 2 h) _)).trans h
    · exact (offFault_of_offHeads (State.signal_off ..)).trans h
  · exact h

/-- A fault report reaches registers, heads, outputs, the fault and Witness engines, the start-up state and the Span; nothing else. -/
theorem State.report_off (s : State) (set code : Nat) (c : Capture) (base : Nat) :
    (s.report set code c base).offFault = s.offFault := by
  unfold State.report
  dsimp only
  generalize nextLevel _ _ _ = l
  have h1 := s.reportRegs_off set code l.1 l.2 c
  generalize s.reportRegs set code l.1 l.2 c = t at h1 ⊢
  have h2 (w : WitRec) := t.witReport_off set w
  generalize hu : t.witReport set _ = u
  have h3 : u.1.offFault = s.offFault := by rw [← hu]; exact (h2 _).trans h1
  split
  · split
    · exact (State.goFatal_off _).trans h3
    · exact (State.goFatal_off _).trans ((State.reportRegs_off ..).trans h3)
  · split
    · exact h3
    · exact (State.reportRegs_off ..).trans h3

/-! ## Registers under a report -/

/-- Identities of the register fields that a fault report writes. -/
def faultIds : List Nat := faultFlds.map (·.id)

theorem State.fget_fset_faultIds (s : State) {f g : Fld} (i j v : Nat) (hf : f.id < 1024) (hp : f.id ∉ faultIds)
    (hg : g.id ∈ faultIds) : (s.fset g j v).fget f i = s.fget f i := by
  have hlt : ∀ n ∈ faultIds, n < 1024 := by decide
  exact State.fget_fset_ne _ _ _ _ hf (hlt _ hg) (fun h => hp (h ▸ hg))

theorem State.regs_fget {s t : State} (h : s.regs = t.regs) (f : Fld) (i : Nat) : s.fget f i = t.fget f i := by
  simp only [State.fget, h]

theorem State.witStage_fget (s : State) (r : WitRec) (l : List WitRec) (f : Fld) (i : Nat) (hf : f.id < 1024) (hp : f.id ∉ faultIds) :
    (s.witStage r l).fget f i = s.fget f i :=
  State.fget_fset_faultIds (g := WIT_SEQ.SEQ) s i 0 _ hf hp (by decide)

theorem State.witWrite_fget (s : State) (r : WitRec) (f : Fld) (i : Nat) (hf : f.id < 1024) (hp : f.id ∉ faultIds) :
    (s.witWrite r).1.fget f i = s.fget f i := by
  unfold State.witWrite
  dsimp only
  split
  · exact s.witStage_fget _ _ f i hf hp
  · split
    · rfl
    · split
      · exact s.witStage_fget _ _ f i hf hp
      · rfl

theorem State.witLost_fget (s : State) (set : Nat) (f : Fld) (i : Nat) (hf : f.id < 1024) (hp : f.id ∉ faultIds) :
    (s.witLost set).fget f i = s.fget f i := by
  unfold State.witLost State.finc State.fadd State.fbit
  dsimp only
  rw [State.fget_fset_faultIds _ _ _ _ hf hp (by decide), State.fget_fset_faultIds _ _ _ _ hf hp (by decide)]
  rfl

theorem State.witReport_fget (s : State) (set : Nat) (r : WitRec) (f : Fld) (i : Nat) (hf : f.id < 1024) (hp : f.id ∉ faultIds) :
    (s.witReport set r).1.fget f i = s.fget f i := by
  have k (t : State) (ht : t.fget f i = s.fget f i) :
      (match t.witWrite r with
        | (s, true) => (s, true)
        | (s, false) => (s.witLost set, false)).1.fget f i = s.fget f i := by
    have w := t.witWrite_fget r f i hf hp
    rcases e : t.witWrite r with ⟨u, b⟩
    rw [e] at w
    cases b
    · exact (u.witLost_fget set f i hf hp).trans (w.trans ht)
    · exact w.trans ht
  unfold State.witReport
  dsimp only
  split
  · split
    · exact k s rfl
    · rfl
  · split
    · exact s.witLost_fget set f i hf hp
    · exact k _ rfl

theorem State.floodSelf_regs (s : State) (b : Bool) : (s.floodSelf b).regs = s.regs := by
  unfold State.floodSelf
  dsimp only
  split
  · rfl
  · exact (State.each_inv State.regs _ (fun p s => s.pushFlit p 3) (fun _ _ => rfl) _).trans rfl

theorem State.goFatal_regs (s : State) : s.goFatal.regs = s.regs := by
  unfold State.goFatal
  dsimp only
  split
  · rfl
  · rw [State.floodSelf_regs]
    exact (State.each_inv State.regs _ (fun h s => s.emit (.viral (Fin.ofNat 16 h))) (fun _ _ => rfl) _).trans rfl

theorem State.captureFirst_fget (s : State) (set code level : Nat) (esc : Bool) (c : Capture) (f : Fld) (i : Nat) (hf : f.id < 1024)
    (hp : f.id ∉ faultIds) : (s.captureFirst set code level esc c).fget f i = s.fget f i := by
  have k (s : State) (g : Fld) (j v : Nat) (hg : g.id ∈ faultIds) : (s.fset g j v).fget f i = s.fget f i :=
    s.fget_fset_faultIds i j v hf hp hg
  unfold State.captureFirst
  dsimp only [State.fbit]
  split
  · rfl
  · rw [k _ _ _ _ (by decide), k _ _ _ _ (by decide), k _ _ _ _ (by decide), k _ _ _ _ (by decide), k _ _ _ _ (by decide),
      k _ _ _ _ (by decide), k _ _ _ _ (by decide), k _ _ _ _ (by decide), k _ _ _ _ (by decide), k _ _ _ _ (by decide),
      k _ _ _ _ (by decide)]

theorem State.countReport_fget (s : State) (set : Nat) (f : Fld) (i : Nat) (hf : f.id < 1024) (hp : f.id ∉ faultIds) :
    (s.countReport set).fget f i = s.fget f i := by
  have k (s : State) (g : Fld) (j v : Nat) (hg : g.id ∈ faultIds) : (s.fset g j v).fget f i = s.fget f i :=
    s.fget_fset_faultIds i j v hf hp hg
  unfold State.countReport
  dsimp only [State.fbit, State.finc, State.fadd]
  split
  · rw [k _ _ _ _ (by decide), k _ _ _ _ (by decide)]
  · rw [k _ _ _ _ (by decide)]

theorem State.enterClass_fget (s : State) (set code level : Nat) (f : Fld) (i : Nat) (hf : f.id < 1024) (hp : f.id ∉ faultIds) :
    (s.enterClass set code level).fget f i = s.fget f i := by
  have k (s : State) (g : Fld) (j v : Nat) (hg : g.id ∈ faultIds) : (s.fset g j v).fget f i = s.fget f i :=
    s.fget_fset_faultIds i j v hf hp hg
  have e (u : State) (x : Faults) : ({ u with flt := x } : State).fget f i = u.fget f i := rfl
  unfold State.enterClass
  dsimp only [State.fputBit]
  rw [e, k _ _ _ _ (by decide), k _ _ _ _ (by decide), k _ _ _ _ (by decide)]

theorem State.reportRegs_fget (s : State) (set code level : Nat) (esc : Bool) (c : Capture) (f : Fld) (i : Nat) (hf : f.id < 1024)
    (hp : f.id ∉ faultIds) : (s.reportRegs set code level esc c).fget f i = s.fget f i := by
  have off (s t : State) (h : s.offHeads = t.offHeads) : s.fget f i = t.fget f i :=
    State.regs_fget (by have e := congrArg State.regs h; exact e) f i
  unfold State.reportRegs
  dsimp only
  rw [off _ _ (State.eventOf_off ..)]
  have h : (((s.captureFirst set code level esc c).countReport set).enterClass set code level).fget f i = s.fget f i := by
    rw [State.enterClass_fget _ _ _ _ _ _ hf hp, State.countReport_fget _ _ _ _ hf hp, State.captureFirst_fget _ _ _ _ _ _ _ _ hf hp]
  generalize ((s.captureFirst set code level esc c).countReport set).enterClass set code level = t at h ⊢
  split
  · split
    · exact (off _ _ (State.each_inv State.offHeads _ _ (fun h s => s.signalHead_off 2 h) _)).trans h
    · exact (off _ _ (State.signal_off ..)).trans h
  · exact h

/-- A register field that no fault set and no Witness count holds keeps its value under a fault report. -/
theorem State.report_fget (s : State) (set code : Nat) (c : Capture) (base : Nat) (f : Fld) (i : Nat) (hf : f.id < 1024)
    (hp : f.id ∉ faultIds) : (s.report set code c base).fget f i = s.fget f i := by
  have g (t : State) : t.goFatal.fget f i = t.fget f i := State.regs_fget t.goFatal_regs f i
  unfold State.report
  dsimp only
  generalize nextLevel _ _ _ = l
  have h1 := s.reportRegs_fget set code l.1 l.2 c f i hf hp
  generalize s.reportRegs set code l.1 l.2 c = t at h1 ⊢
  have h2 (w : WitRec) := t.witReport_fget set w f i hf hp
  generalize hu : t.witReport set _ = u
  have h3 : u.1.fget f i = s.fget f i := by rw [← hu]; exact (h2 _).trans h1
  split
  · split
    · exact (g _).trans h3
    · exact (g _).trans ((State.reportRegs_fget _ _ _ _ _ _ _ _ hf hp).trans h3)
  · split
    · exact h3
    · exact (State.reportRegs_fget _ _ _ _ _ _ _ _ hf hp).trans h3

@[simp] theorem State.floodSelf_fget (s : State) (b : Bool) (f : Fld) (i : Nat) : (s.floodSelf b).fget f i = s.fget f i :=
  State.regs_fget (s.floodSelf_regs b) f i

/-! ## What each leaves of every field -/

@[simp] theorem State.signalHead_pending (s : State) (v h : Nat) : (s.signalHead v h).pending = s.pending := by
  have h := congrArg State.pending (s.signalHead_off v h); exact h
@[simp] theorem State.signalHead_free (s : State) (v h : Nat) : (s.signalHead v h).free = s.free := by
  have h := congrArg State.free (s.signalHead_off v h); exact h
@[simp] theorem State.signalHead_wclk (s : State) (v h : Nat) : (s.signalHead v h).wclk = s.wclk := by
  have h := congrArg State.wclk (s.signalHead_off v h); exact h
@[simp] theorem State.signalHead_tb (s : State) (v h : Nat) : (s.signalHead v h).tb = s.tb := by
  have h := congrArg State.tb (s.signalHead_off v h); exact h
@[simp] theorem State.signalHead_regs (s : State) (v h : Nat) : (s.signalHead v h).regs = s.regs := by
  have h := congrArg State.regs (s.signalHead_off v h); exact h
@[simp] theorem State.signalHead_hold (s : State) (v h : Nat) : (s.signalHead v h).hold = s.hold := by
  have h := congrArg State.hold (s.signalHead_off v h); exact h
@[simp] theorem State.signalHead_dramLoss (s : State) (v h : Nat) : (s.signalHead v h).dramLoss = s.dramLoss := by
  have h := congrArg State.dramLoss (s.signalHead_off v h); exact h
@[simp] theorem State.signalHead_dram (s : State) (v h : Nat) : (s.signalHead v h).dram = s.dram := by
  have h := congrArg State.dram (s.signalHead_off v h); exact h
@[simp] theorem State.signalHead_boot (s : State) (v h : Nat) : (s.signalHead v h).boot = s.boot := by
  have h := congrArg State.boot (s.signalHead_off v h); exact h
@[simp] theorem State.signalHead_nv (s : State) (v h : Nat) : (s.signalHead v h).nv = s.nv := by
  have h := congrArg State.nv (s.signalHead_off v h); exact h
@[simp] theorem State.signalHead_cut (s : State) (v h : Nat) : (s.signalHead v h).cut = s.cut := by
  have h := congrArg State.cut (s.signalHead_off v h); exact h
@[simp] theorem State.signalHead_dec (s : State) (v h : Nat) : (s.signalHead v h).dec = s.dec := by
  have h := congrArg State.dec (s.signalHead_off v h); exact h
@[simp] theorem State.signalHead_coh (s : State) (v h : Nat) : (s.signalHead v h).coh = s.coh := by
  have h := congrArg State.coh (s.signalHead_off v h); exact h
@[simp] theorem State.signalHead_chans (s : State) (v h : Nat) : (s.signalHead v h).chans = s.chans := by
  have h := congrArg State.chans (s.signalHead_off v h); exact h
@[simp] theorem State.signalHead_press (s : State) (v h : Nat) : (s.signalHead v h).press = s.press := by
  have h := congrArg State.press (s.signalHead_off v h); exact h
@[simp] theorem State.signalHead_slc (s : State) (v h : Nat) : (s.signalHead v h).slc = s.slc := by
  have h := congrArg State.slc (s.signalHead_off v h); exact h
@[simp] theorem State.signalHead_inl (s : State) (v h : Nat) : (s.signalHead v h).inl = s.inl := by
  have h := congrArg State.inl (s.signalHead_off v h); exact h
@[simp] theorem State.signalHead_drw (s : State) (v h : Nat) : (s.signalHead v h).drw = s.drw := by
  have h := congrArg State.drw (s.signalHead_off v h); exact h
@[simp] theorem State.signalHead_spn (s : State) (v h : Nat) : (s.signalHead v h).spn = s.spn := by
  have h := congrArg State.spn (s.signalHead_off v h); exact h
@[simp] theorem State.signalHead_pwr (s : State) (v h : Nat) : (s.signalHead v h).pwr = s.pwr := by
  have h := congrArg State.pwr (s.signalHead_off v h); exact h
@[simp] theorem State.signalHead_ifc (s : State) (v h : Nat) : (s.signalHead v h).ifc = s.ifc := by
  have h := congrArg State.ifc (s.signalHead_off v h); exact h
@[simp] theorem State.signalHead_wit (s : State) (v h : Nat) : (s.signalHead v h).wit = s.wit := by
  have h := congrArg State.wit (s.signalHead_off v h); exact h
@[simp] theorem State.signalHead_flt (s : State) (v h : Nat) : (s.signalHead v h).flt = s.flt := by
  have h := congrArg State.flt (s.signalHead_off v h); exact h
@[simp] theorem State.signalHead_sec (s : State) (v h : Nat) : (s.signalHead v h).sec = s.sec := by
  have h := congrArg State.sec (s.signalHead_off v h); exact h
@[simp] theorem State.signalHead_pmu (s : State) (v h : Nat) : (s.signalHead v h).pmu = s.pmu := by
  have h := congrArg State.pmu (s.signalHead_off v h); exact h
@[simp] theorem State.signalHead_thermtrip (s : State) (v h : Nat) : (s.signalHead v h).thermtrip = s.thermtrip := by
  have h := congrArg State.thermtrip (s.signalHead_off v h); exact h

@[simp] theorem State.signal_pending (s : State) (v : Nat) : (s.signal v).pending = s.pending := by
  have h := congrArg State.pending (s.signal_off v); exact h
@[simp] theorem State.signal_free (s : State) (v : Nat) : (s.signal v).free = s.free := by
  have h := congrArg State.free (s.signal_off v); exact h
@[simp] theorem State.signal_wclk (s : State) (v : Nat) : (s.signal v).wclk = s.wclk := by
  have h := congrArg State.wclk (s.signal_off v); exact h
@[simp] theorem State.signal_tb (s : State) (v : Nat) : (s.signal v).tb = s.tb := by
  have h := congrArg State.tb (s.signal_off v); exact h
@[simp] theorem State.signal_regs (s : State) (v : Nat) : (s.signal v).regs = s.regs := by
  have h := congrArg State.regs (s.signal_off v); exact h
@[simp] theorem State.signal_hold (s : State) (v : Nat) : (s.signal v).hold = s.hold := by
  have h := congrArg State.hold (s.signal_off v); exact h
@[simp] theorem State.signal_dramLoss (s : State) (v : Nat) : (s.signal v).dramLoss = s.dramLoss := by
  have h := congrArg State.dramLoss (s.signal_off v); exact h
@[simp] theorem State.signal_dram (s : State) (v : Nat) : (s.signal v).dram = s.dram := by
  have h := congrArg State.dram (s.signal_off v); exact h
@[simp] theorem State.signal_boot (s : State) (v : Nat) : (s.signal v).boot = s.boot := by
  have h := congrArg State.boot (s.signal_off v); exact h
@[simp] theorem State.signal_nv (s : State) (v : Nat) : (s.signal v).nv = s.nv := by
  have h := congrArg State.nv (s.signal_off v); exact h
@[simp] theorem State.signal_cut (s : State) (v : Nat) : (s.signal v).cut = s.cut := by
  have h := congrArg State.cut (s.signal_off v); exact h
@[simp] theorem State.signal_dec (s : State) (v : Nat) : (s.signal v).dec = s.dec := by
  have h := congrArg State.dec (s.signal_off v); exact h
@[simp] theorem State.signal_coh (s : State) (v : Nat) : (s.signal v).coh = s.coh := by
  have h := congrArg State.coh (s.signal_off v); exact h
@[simp] theorem State.signal_chans (s : State) (v : Nat) : (s.signal v).chans = s.chans := by
  have h := congrArg State.chans (s.signal_off v); exact h
@[simp] theorem State.signal_press (s : State) (v : Nat) : (s.signal v).press = s.press := by
  have h := congrArg State.press (s.signal_off v); exact h
@[simp] theorem State.signal_slc (s : State) (v : Nat) : (s.signal v).slc = s.slc := by
  have h := congrArg State.slc (s.signal_off v); exact h
@[simp] theorem State.signal_inl (s : State) (v : Nat) : (s.signal v).inl = s.inl := by
  have h := congrArg State.inl (s.signal_off v); exact h
@[simp] theorem State.signal_drw (s : State) (v : Nat) : (s.signal v).drw = s.drw := by
  have h := congrArg State.drw (s.signal_off v); exact h
@[simp] theorem State.signal_spn (s : State) (v : Nat) : (s.signal v).spn = s.spn := by
  have h := congrArg State.spn (s.signal_off v); exact h
@[simp] theorem State.signal_pwr (s : State) (v : Nat) : (s.signal v).pwr = s.pwr := by
  have h := congrArg State.pwr (s.signal_off v); exact h
@[simp] theorem State.signal_ifc (s : State) (v : Nat) : (s.signal v).ifc = s.ifc := by
  have h := congrArg State.ifc (s.signal_off v); exact h
@[simp] theorem State.signal_wit (s : State) (v : Nat) : (s.signal v).wit = s.wit := by
  have h := congrArg State.wit (s.signal_off v); exact h
@[simp] theorem State.signal_flt (s : State) (v : Nat) : (s.signal v).flt = s.flt := by
  have h := congrArg State.flt (s.signal_off v); exact h
@[simp] theorem State.signal_sec (s : State) (v : Nat) : (s.signal v).sec = s.sec := by
  have h := congrArg State.sec (s.signal_off v); exact h
@[simp] theorem State.signal_pmu (s : State) (v : Nat) : (s.signal v).pmu = s.pmu := by
  have h := congrArg State.pmu (s.signal_off v); exact h
@[simp] theorem State.signal_thermtrip (s : State) (v : Nat) : (s.signal v).thermtrip = s.thermtrip := by
  have h := congrArg State.thermtrip (s.signal_off v); exact h

@[simp] theorem State.logEvent_pending (s : State) (h l : Nat) (e : EvRec) : (s.logEvent h l e).pending = s.pending := by
  have h := congrArg State.pending (s.logEvent_off h l e); exact h
@[simp] theorem State.logEvent_free (s : State) (h l : Nat) (e : EvRec) : (s.logEvent h l e).free = s.free := by
  have h := congrArg State.free (s.logEvent_off h l e); exact h
@[simp] theorem State.logEvent_wclk (s : State) (h l : Nat) (e : EvRec) : (s.logEvent h l e).wclk = s.wclk := by
  have h := congrArg State.wclk (s.logEvent_off h l e); exact h
@[simp] theorem State.logEvent_tb (s : State) (h l : Nat) (e : EvRec) : (s.logEvent h l e).tb = s.tb := by
  have h := congrArg State.tb (s.logEvent_off h l e); exact h
@[simp] theorem State.logEvent_regs (s : State) (h l : Nat) (e : EvRec) : (s.logEvent h l e).regs = s.regs := by
  have h := congrArg State.regs (s.logEvent_off h l e); exact h
@[simp] theorem State.logEvent_hold (s : State) (h l : Nat) (e : EvRec) : (s.logEvent h l e).hold = s.hold := by
  have h := congrArg State.hold (s.logEvent_off h l e); exact h
@[simp] theorem State.logEvent_dramLoss (s : State) (h l : Nat) (e : EvRec) : (s.logEvent h l e).dramLoss = s.dramLoss := by
  have h := congrArg State.dramLoss (s.logEvent_off h l e); exact h
@[simp] theorem State.logEvent_dram (s : State) (h l : Nat) (e : EvRec) : (s.logEvent h l e).dram = s.dram := by
  have h := congrArg State.dram (s.logEvent_off h l e); exact h
@[simp] theorem State.logEvent_boot (s : State) (h l : Nat) (e : EvRec) : (s.logEvent h l e).boot = s.boot := by
  have h := congrArg State.boot (s.logEvent_off h l e); exact h
@[simp] theorem State.logEvent_nv (s : State) (h l : Nat) (e : EvRec) : (s.logEvent h l e).nv = s.nv := by
  have h := congrArg State.nv (s.logEvent_off h l e); exact h
@[simp] theorem State.logEvent_cut (s : State) (h l : Nat) (e : EvRec) : (s.logEvent h l e).cut = s.cut := by
  have h := congrArg State.cut (s.logEvent_off h l e); exact h
@[simp] theorem State.logEvent_dec (s : State) (h l : Nat) (e : EvRec) : (s.logEvent h l e).dec = s.dec := by
  have h := congrArg State.dec (s.logEvent_off h l e); exact h
@[simp] theorem State.logEvent_coh (s : State) (h l : Nat) (e : EvRec) : (s.logEvent h l e).coh = s.coh := by
  have h := congrArg State.coh (s.logEvent_off h l e); exact h
@[simp] theorem State.logEvent_chans (s : State) (h l : Nat) (e : EvRec) : (s.logEvent h l e).chans = s.chans := by
  have h := congrArg State.chans (s.logEvent_off h l e); exact h
@[simp] theorem State.logEvent_press (s : State) (h l : Nat) (e : EvRec) : (s.logEvent h l e).press = s.press := by
  have h := congrArg State.press (s.logEvent_off h l e); exact h
@[simp] theorem State.logEvent_slc (s : State) (h l : Nat) (e : EvRec) : (s.logEvent h l e).slc = s.slc := by
  have h := congrArg State.slc (s.logEvent_off h l e); exact h
@[simp] theorem State.logEvent_inl (s : State) (h l : Nat) (e : EvRec) : (s.logEvent h l e).inl = s.inl := by
  have h := congrArg State.inl (s.logEvent_off h l e); exact h
@[simp] theorem State.logEvent_drw (s : State) (h l : Nat) (e : EvRec) : (s.logEvent h l e).drw = s.drw := by
  have h := congrArg State.drw (s.logEvent_off h l e); exact h
@[simp] theorem State.logEvent_spn (s : State) (h l : Nat) (e : EvRec) : (s.logEvent h l e).spn = s.spn := by
  have h := congrArg State.spn (s.logEvent_off h l e); exact h
@[simp] theorem State.logEvent_pwr (s : State) (h l : Nat) (e : EvRec) : (s.logEvent h l e).pwr = s.pwr := by
  have h := congrArg State.pwr (s.logEvent_off h l e); exact h
@[simp] theorem State.logEvent_ifc (s : State) (h l : Nat) (e : EvRec) : (s.logEvent h l e).ifc = s.ifc := by
  have h := congrArg State.ifc (s.logEvent_off h l e); exact h
@[simp] theorem State.logEvent_wit (s : State) (h l : Nat) (e : EvRec) : (s.logEvent h l e).wit = s.wit := by
  have h := congrArg State.wit (s.logEvent_off h l e); exact h
@[simp] theorem State.logEvent_flt (s : State) (h l : Nat) (e : EvRec) : (s.logEvent h l e).flt = s.flt := by
  have h := congrArg State.flt (s.logEvent_off h l e); exact h
@[simp] theorem State.logEvent_sec (s : State) (h l : Nat) (e : EvRec) : (s.logEvent h l e).sec = s.sec := by
  have h := congrArg State.sec (s.logEvent_off h l e); exact h
@[simp] theorem State.logEvent_pmu (s : State) (h l : Nat) (e : EvRec) : (s.logEvent h l e).pmu = s.pmu := by
  have h := congrArg State.pmu (s.logEvent_off h l e); exact h
@[simp] theorem State.logEvent_thermtrip (s : State) (h l : Nat) (e : EvRec) : (s.logEvent h l e).thermtrip = s.thermtrip := by
  have h := congrArg State.thermtrip (s.logEvent_off h l e); exact h

@[simp] theorem State.count_pending (s : State) (u ev : Nat) (a : Attr) (k : Nat) : (s.count u ev a k).pending = s.pending := by
  have h := congrArg State.pending (s.count_off u ev a k); exact h
@[simp] theorem State.count_free (s : State) (u ev : Nat) (a : Attr) (k : Nat) : (s.count u ev a k).free = s.free := by
  have h := congrArg State.free (s.count_off u ev a k); exact h
@[simp] theorem State.count_wclk (s : State) (u ev : Nat) (a : Attr) (k : Nat) : (s.count u ev a k).wclk = s.wclk := by
  have h := congrArg State.wclk (s.count_off u ev a k); exact h
@[simp] theorem State.count_tb (s : State) (u ev : Nat) (a : Attr) (k : Nat) : (s.count u ev a k).tb = s.tb := by
  have h := congrArg State.tb (s.count_off u ev a k); exact h
@[simp] theorem State.count_hold (s : State) (u ev : Nat) (a : Attr) (k : Nat) : (s.count u ev a k).hold = s.hold := by
  have h := congrArg State.hold (s.count_off u ev a k); exact h
@[simp] theorem State.count_dramLoss (s : State) (u ev : Nat) (a : Attr) (k : Nat) : (s.count u ev a k).dramLoss = s.dramLoss := by
  have h := congrArg State.dramLoss (s.count_off u ev a k); exact h
@[simp] theorem State.count_dram (s : State) (u ev : Nat) (a : Attr) (k : Nat) : (s.count u ev a k).dram = s.dram := by
  have h := congrArg State.dram (s.count_off u ev a k); exact h
@[simp] theorem State.count_boot (s : State) (u ev : Nat) (a : Attr) (k : Nat) : (s.count u ev a k).boot = s.boot := by
  have h := congrArg State.boot (s.count_off u ev a k); exact h
@[simp] theorem State.count_nv (s : State) (u ev : Nat) (a : Attr) (k : Nat) : (s.count u ev a k).nv = s.nv := by
  have h := congrArg State.nv (s.count_off u ev a k); exact h
@[simp] theorem State.count_cut (s : State) (u ev : Nat) (a : Attr) (k : Nat) : (s.count u ev a k).cut = s.cut := by
  have h := congrArg State.cut (s.count_off u ev a k); exact h
@[simp] theorem State.count_dec (s : State) (u ev : Nat) (a : Attr) (k : Nat) : (s.count u ev a k).dec = s.dec := by
  have h := congrArg State.dec (s.count_off u ev a k); exact h
@[simp] theorem State.count_coh (s : State) (u ev : Nat) (a : Attr) (k : Nat) : (s.count u ev a k).coh = s.coh := by
  have h := congrArg State.coh (s.count_off u ev a k); exact h
@[simp] theorem State.count_chans (s : State) (u ev : Nat) (a : Attr) (k : Nat) : (s.count u ev a k).chans = s.chans := by
  have h := congrArg State.chans (s.count_off u ev a k); exact h
@[simp] theorem State.count_press (s : State) (u ev : Nat) (a : Attr) (k : Nat) : (s.count u ev a k).press = s.press := by
  have h := congrArg State.press (s.count_off u ev a k); exact h
@[simp] theorem State.count_slc (s : State) (u ev : Nat) (a : Attr) (k : Nat) : (s.count u ev a k).slc = s.slc := by
  have h := congrArg State.slc (s.count_off u ev a k); exact h
@[simp] theorem State.count_inl (s : State) (u ev : Nat) (a : Attr) (k : Nat) : (s.count u ev a k).inl = s.inl := by
  have h := congrArg State.inl (s.count_off u ev a k); exact h
@[simp] theorem State.count_drw (s : State) (u ev : Nat) (a : Attr) (k : Nat) : (s.count u ev a k).drw = s.drw := by
  have h := congrArg State.drw (s.count_off u ev a k); exact h
@[simp] theorem State.count_spn (s : State) (u ev : Nat) (a : Attr) (k : Nat) : (s.count u ev a k).spn = s.spn := by
  have h := congrArg State.spn (s.count_off u ev a k); exact h
@[simp] theorem State.count_pwr (s : State) (u ev : Nat) (a : Attr) (k : Nat) : (s.count u ev a k).pwr = s.pwr := by
  have h := congrArg State.pwr (s.count_off u ev a k); exact h
@[simp] theorem State.count_ifc (s : State) (u ev : Nat) (a : Attr) (k : Nat) : (s.count u ev a k).ifc = s.ifc := by
  have h := congrArg State.ifc (s.count_off u ev a k); exact h
@[simp] theorem State.count_wit (s : State) (u ev : Nat) (a : Attr) (k : Nat) : (s.count u ev a k).wit = s.wit := by
  have h := congrArg State.wit (s.count_off u ev a k); exact h
@[simp] theorem State.count_flt (s : State) (u ev : Nat) (a : Attr) (k : Nat) : (s.count u ev a k).flt = s.flt := by
  have h := congrArg State.flt (s.count_off u ev a k); exact h
@[simp] theorem State.count_sec (s : State) (u ev : Nat) (a : Attr) (k : Nat) : (s.count u ev a k).sec = s.sec := by
  have h := congrArg State.sec (s.count_off u ev a k); exact h
@[simp] theorem State.count_pmu (s : State) (u ev : Nat) (a : Attr) (k : Nat) : (s.count u ev a k).pmu = s.pmu := by
  have h := congrArg State.pmu (s.count_off u ev a k); exact h
@[simp] theorem State.count_thermtrip (s : State) (u ev : Nat) (a : Attr) (k : Nat) : (s.count u ev a k).thermtrip = s.thermtrip := by
  have h := congrArg State.thermtrip (s.count_off u ev a k); exact h

@[simp] theorem State.report_pending (s : State) (set code : Nat) (c : Capture) (base : Nat) : (s.report set code c base).pending = s.pending := by
  have h := congrArg State.pending (s.report_off set code c base); exact h
@[simp] theorem State.report_free (s : State) (set code : Nat) (c : Capture) (base : Nat) : (s.report set code c base).free = s.free := by
  have h := congrArg State.free (s.report_off set code c base); exact h
@[simp] theorem State.report_wclk (s : State) (set code : Nat) (c : Capture) (base : Nat) : (s.report set code c base).wclk = s.wclk := by
  have h := congrArg State.wclk (s.report_off set code c base); exact h
@[simp] theorem State.report_tb (s : State) (set code : Nat) (c : Capture) (base : Nat) : (s.report set code c base).tb = s.tb := by
  have h := congrArg State.tb (s.report_off set code c base); exact h
@[simp] theorem State.report_hold (s : State) (set code : Nat) (c : Capture) (base : Nat) : (s.report set code c base).hold = s.hold := by
  have h := congrArg State.hold (s.report_off set code c base); exact h
@[simp] theorem State.report_dramLoss (s : State) (set code : Nat) (c : Capture) (base : Nat) : (s.report set code c base).dramLoss = s.dramLoss := by
  have h := congrArg State.dramLoss (s.report_off set code c base); exact h
@[simp] theorem State.report_dram (s : State) (set code : Nat) (c : Capture) (base : Nat) : (s.report set code c base).dram = s.dram := by
  have h := congrArg State.dram (s.report_off set code c base); exact h
@[simp] theorem State.report_nv (s : State) (set code : Nat) (c : Capture) (base : Nat) : (s.report set code c base).nv = s.nv := by
  have h := congrArg State.nv (s.report_off set code c base); exact h
@[simp] theorem State.report_cut (s : State) (set code : Nat) (c : Capture) (base : Nat) : (s.report set code c base).cut = s.cut := by
  have h := congrArg State.cut (s.report_off set code c base); exact h
@[simp] theorem State.report_dec (s : State) (set code : Nat) (c : Capture) (base : Nat) : (s.report set code c base).dec = s.dec := by
  have h := congrArg State.dec (s.report_off set code c base); exact h
@[simp] theorem State.report_coh (s : State) (set code : Nat) (c : Capture) (base : Nat) : (s.report set code c base).coh = s.coh := by
  have h := congrArg State.coh (s.report_off set code c base); exact h
@[simp] theorem State.report_chans (s : State) (set code : Nat) (c : Capture) (base : Nat) : (s.report set code c base).chans = s.chans := by
  have h := congrArg State.chans (s.report_off set code c base); exact h
@[simp] theorem State.report_press (s : State) (set code : Nat) (c : Capture) (base : Nat) : (s.report set code c base).press = s.press := by
  have h := congrArg State.press (s.report_off set code c base); exact h
@[simp] theorem State.report_slc (s : State) (set code : Nat) (c : Capture) (base : Nat) : (s.report set code c base).slc = s.slc := by
  have h := congrArg State.slc (s.report_off set code c base); exact h
@[simp] theorem State.report_inl (s : State) (set code : Nat) (c : Capture) (base : Nat) : (s.report set code c base).inl = s.inl := by
  have h := congrArg State.inl (s.report_off set code c base); exact h
@[simp] theorem State.report_drw (s : State) (set code : Nat) (c : Capture) (base : Nat) : (s.report set code c base).drw = s.drw := by
  have h := congrArg State.drw (s.report_off set code c base); exact h
@[simp] theorem State.report_pwr (s : State) (set code : Nat) (c : Capture) (base : Nat) : (s.report set code c base).pwr = s.pwr := by
  have h := congrArg State.pwr (s.report_off set code c base); exact h
@[simp] theorem State.report_ifc (s : State) (set code : Nat) (c : Capture) (base : Nat) : (s.report set code c base).ifc = s.ifc := by
  have h := congrArg State.ifc (s.report_off set code c base); exact h
@[simp] theorem State.report_sec (s : State) (set code : Nat) (c : Capture) (base : Nat) : (s.report set code c base).sec = s.sec := by
  have h := congrArg State.sec (s.report_off set code c base); exact h
@[simp] theorem State.report_pmu (s : State) (set code : Nat) (c : Capture) (base : Nat) : (s.report set code c base).pmu = s.pmu := by
  have h := congrArg State.pmu (s.report_off set code c base); exact h
@[simp] theorem State.report_thermtrip (s : State) (set code : Nat) (c : Capture) (base : Nat) : (s.report set code c base).thermtrip = s.thermtrip := by
  have h := congrArg State.thermtrip (s.report_off set code c base); exact h

@[simp] theorem State.goFatal_pending (s : State) : (s.goFatal).pending = s.pending := by
  have h := congrArg State.pending (s.goFatal_off); exact h
@[simp] theorem State.goFatal_free (s : State) : (s.goFatal).free = s.free := by
  have h := congrArg State.free (s.goFatal_off); exact h
@[simp] theorem State.goFatal_wclk (s : State) : (s.goFatal).wclk = s.wclk := by
  have h := congrArg State.wclk (s.goFatal_off); exact h
@[simp] theorem State.goFatal_tb (s : State) : (s.goFatal).tb = s.tb := by
  have h := congrArg State.tb (s.goFatal_off); exact h
@[simp] theorem State.goFatal_hold (s : State) : (s.goFatal).hold = s.hold := by
  have h := congrArg State.hold (s.goFatal_off); exact h
@[simp] theorem State.goFatal_dramLoss (s : State) : (s.goFatal).dramLoss = s.dramLoss := by
  have h := congrArg State.dramLoss (s.goFatal_off); exact h
@[simp] theorem State.goFatal_dram (s : State) : (s.goFatal).dram = s.dram := by
  have h := congrArg State.dram (s.goFatal_off); exact h
@[simp] theorem State.goFatal_nv (s : State) : (s.goFatal).nv = s.nv := by
  have h := congrArg State.nv (s.goFatal_off); exact h
@[simp] theorem State.goFatal_cut (s : State) : (s.goFatal).cut = s.cut := by
  have h := congrArg State.cut (s.goFatal_off); exact h
@[simp] theorem State.goFatal_dec (s : State) : (s.goFatal).dec = s.dec := by
  have h := congrArg State.dec (s.goFatal_off); exact h
@[simp] theorem State.goFatal_coh (s : State) : (s.goFatal).coh = s.coh := by
  have h := congrArg State.coh (s.goFatal_off); exact h
@[simp] theorem State.goFatal_chans (s : State) : (s.goFatal).chans = s.chans := by
  have h := congrArg State.chans (s.goFatal_off); exact h
@[simp] theorem State.goFatal_press (s : State) : (s.goFatal).press = s.press := by
  have h := congrArg State.press (s.goFatal_off); exact h
@[simp] theorem State.goFatal_slc (s : State) : (s.goFatal).slc = s.slc := by
  have h := congrArg State.slc (s.goFatal_off); exact h
@[simp] theorem State.goFatal_inl (s : State) : (s.goFatal).inl = s.inl := by
  have h := congrArg State.inl (s.goFatal_off); exact h
@[simp] theorem State.goFatal_drw (s : State) : (s.goFatal).drw = s.drw := by
  have h := congrArg State.drw (s.goFatal_off); exact h
@[simp] theorem State.goFatal_pwr (s : State) : (s.goFatal).pwr = s.pwr := by
  have h := congrArg State.pwr (s.goFatal_off); exact h
@[simp] theorem State.goFatal_ifc (s : State) : (s.goFatal).ifc = s.ifc := by
  have h := congrArg State.ifc (s.goFatal_off); exact h
@[simp] theorem State.goFatal_sec (s : State) : (s.goFatal).sec = s.sec := by
  have h := congrArg State.sec (s.goFatal_off); exact h
@[simp] theorem State.goFatal_pmu (s : State) : (s.goFatal).pmu = s.pmu := by
  have h := congrArg State.pmu (s.goFatal_off); exact h
@[simp] theorem State.goFatal_thermtrip (s : State) : (s.goFatal).thermtrip = s.thermtrip := by
  have h := congrArg State.thermtrip (s.goFatal_off); exact h

@[simp] theorem State.floodSelf_pending (s : State) (b : Bool) : (s.floodSelf b).pending = s.pending := by
  have h := congrArg State.pending (s.floodSelf_off b); exact h
@[simp] theorem State.floodSelf_free (s : State) (b : Bool) : (s.floodSelf b).free = s.free := by
  have h := congrArg State.free (s.floodSelf_off b); exact h
@[simp] theorem State.floodSelf_wclk (s : State) (b : Bool) : (s.floodSelf b).wclk = s.wclk := by
  have h := congrArg State.wclk (s.floodSelf_off b); exact h
@[simp] theorem State.floodSelf_tb (s : State) (b : Bool) : (s.floodSelf b).tb = s.tb := by
  have h := congrArg State.tb (s.floodSelf_off b); exact h
@[simp] theorem State.floodSelf_hold (s : State) (b : Bool) : (s.floodSelf b).hold = s.hold := by
  have h := congrArg State.hold (s.floodSelf_off b); exact h
@[simp] theorem State.floodSelf_dramLoss (s : State) (b : Bool) : (s.floodSelf b).dramLoss = s.dramLoss := by
  have h := congrArg State.dramLoss (s.floodSelf_off b); exact h
@[simp] theorem State.floodSelf_dram (s : State) (b : Bool) : (s.floodSelf b).dram = s.dram := by
  have h := congrArg State.dram (s.floodSelf_off b); exact h
@[simp] theorem State.floodSelf_nv (s : State) (b : Bool) : (s.floodSelf b).nv = s.nv := by
  have h := congrArg State.nv (s.floodSelf_off b); exact h
@[simp] theorem State.floodSelf_cut (s : State) (b : Bool) : (s.floodSelf b).cut = s.cut := by
  have h := congrArg State.cut (s.floodSelf_off b); exact h
@[simp] theorem State.floodSelf_dec (s : State) (b : Bool) : (s.floodSelf b).dec = s.dec := by
  have h := congrArg State.dec (s.floodSelf_off b); exact h
@[simp] theorem State.floodSelf_coh (s : State) (b : Bool) : (s.floodSelf b).coh = s.coh := by
  have h := congrArg State.coh (s.floodSelf_off b); exact h
@[simp] theorem State.floodSelf_chans (s : State) (b : Bool) : (s.floodSelf b).chans = s.chans := by
  have h := congrArg State.chans (s.floodSelf_off b); exact h
@[simp] theorem State.floodSelf_press (s : State) (b : Bool) : (s.floodSelf b).press = s.press := by
  have h := congrArg State.press (s.floodSelf_off b); exact h
@[simp] theorem State.floodSelf_slc (s : State) (b : Bool) : (s.floodSelf b).slc = s.slc := by
  have h := congrArg State.slc (s.floodSelf_off b); exact h
@[simp] theorem State.floodSelf_inl (s : State) (b : Bool) : (s.floodSelf b).inl = s.inl := by
  have h := congrArg State.inl (s.floodSelf_off b); exact h
@[simp] theorem State.floodSelf_drw (s : State) (b : Bool) : (s.floodSelf b).drw = s.drw := by
  have h := congrArg State.drw (s.floodSelf_off b); exact h
@[simp] theorem State.floodSelf_pwr (s : State) (b : Bool) : (s.floodSelf b).pwr = s.pwr := by
  have h := congrArg State.pwr (s.floodSelf_off b); exact h
@[simp] theorem State.floodSelf_ifc (s : State) (b : Bool) : (s.floodSelf b).ifc = s.ifc := by
  have h := congrArg State.ifc (s.floodSelf_off b); exact h
@[simp] theorem State.floodSelf_sec (s : State) (b : Bool) : (s.floodSelf b).sec = s.sec := by
  have h := congrArg State.sec (s.floodSelf_off b); exact h
@[simp] theorem State.floodSelf_pmu (s : State) (b : Bool) : (s.floodSelf b).pmu = s.pmu := by
  have h := congrArg State.pmu (s.floodSelf_off b); exact h
@[simp] theorem State.floodSelf_thermtrip (s : State) (b : Bool) : (s.floodSelf b).thermtrip = s.thermtrip := by
  have h := congrArg State.thermtrip (s.floodSelf_off b); exact h

end Sys2Proof.Machine
end

