-- ==== Sys2Proof/Laws/Frames.lean ====
section
/-! SUPPORT. Laws of the statements' own terms: an admitted access acts at once, and a fault report stays within its frame. -/

namespace Sys2Proof.Machine

open Sys2Proof

/-- An admitted access runs its effect on the state that the access reaches. -/
theorem access_admits (c : Instr) (p : Path) (f : State → State) (s : State) (h : s.admits p = true) :
    access c p f s.clearOut = f (s.onAccess p) := by
  cases p with
  | head n =>
    have h1 : s.linkReady n.val = true := by simp only [State.admits, Bool.and_eq_true] at h; exact h.1
    have h2 : s.asleep = false := by
      simp only [State.admits, Bool.and_eq_true, Bool.not_eq_true'] at h; exact h.2
    have e1 : s.clearOut.linkReady n.val = s.linkReady n.val := rfl
    have e2 : s.clearOut.asleep = s.asleep := rfl
    simp only [access, State.arrive, e1, e2, h1, h2, if_true, State.onAccess, pathWake]
    rfl
  | sideband =>
    have h1 : s.benchUp = true := by simp only [State.admits, Bool.and_eq_true] at h; exact h.1
    have h2 : s.asleep = false := by
      simp only [State.admits, Bool.and_eq_true, Bool.not_eq_true'] at h; exact h.2
    have e1 : s.clearOut.benchUp = s.benchUp := rfl
    have e2 : s.clearOut.asleep = s.asleep := rfl
    simp only [access, State.arrive, e1, e2, h1, h2, if_true, State.onAccess, pathWake]
    rfl
  | bench =>
    have e : (s.clearOut.benchUp && s.clearOut.fget PWR_STATE.CUR == 0) = true := h
    simp only [access, e, if_true, State.onAccess, pathWake]

/-- An access leaves the registers as they are before its effect. -/
@[simp] theorem State.onAccess_fget (s : State) (p : Path) (f : Fld) (i : Nat) : (s.onAccess p).fget f i = s.fget f i := by
  unfold State.onAccess
  split
  · split <;> rfl
  · rfl

/-- Before its effect an access changes the outputs and the latched trigger, and nothing else. -/
theorem State.onAccess_eq (s : State) (p : Path) :
    s.onAccess p = { s with out := [], pwr := { s.pwr with latched := (s.onAccess p).pwr.latched } } := by
  unfold State.onAccess
  split
  · split <;> rfl
  · rfl

/-- A fault report stays within its frame (16 R382-R393). -/
theorem State.report_frame (s : State) (set code : Nat) (c : Capture) (base : Nat) : FaultFrame s (s.report set code c base) := by
  have h := s.report_off set code c base
  generalize s.report set code c base = t at h ⊢
  have hb : { t.boot with fatal := false } = { s.boot with fatal := false } := congrArg State.boot h
  have hs : { t.spn with withdrawn := false, ageSeq := 0, links := [] } = { s.spn with withdrawn := false, ageSeq := 0, links := [] } :=
    congrArg State.spn h
  have h0 := congrArg (fun x : State => { x with boot := {}, spn := {} }) h
  unfold FaultFrame
  have hb' : t.boot = { s.boot with fatal := t.boot.fatal } :=
    congrArg (fun b : Boot => { b with fatal := t.boot.fatal }) hb
  have hs' : t.spn = { s.spn with withdrawn := t.spn.withdrawn, ageSeq := t.spn.ageSeq, links := t.spn.links } :=
    congrArg (fun b : Span => { b with withdrawn := t.spn.withdrawn, ageSeq := t.spn.ageSeq, links := t.spn.links }) hs
  rw [← hb', ← hs']
  exact congrArg (fun x : State => { x with out := t.out, regs := t.regs, heads := t.heads, flt := t.flt, wit := t.wit
                                            boot := t.boot, spn := t.spn }) h0

/-- A fault report writes the fault and Witness fields only. -/
theorem State.report_regs (s : State) (set code : Nat) (c : Capture) (base : Nat) : RegsSame faultFlds s (s.report set code c base) :=
  fun f i hf hp => s.report_fget set code c base f i hf hp

/-- The state after reset holds its stores in canonical form. -/
theorem reset_storesWf : State.reset.storesWf = true := by decide

end Sys2Proof.Machine
end

