-- ==== Sys2Proof/WellFormed.lean ====
section
/-! DEFINITION. Which commands are well formed: operands within the ranges the spec gives them. A command outside these
ranges is outside what the world can send; its meaning leaves the state as it is, but for its outputs. -/

namespace Sys2Proof

/-- Every byte count and list length of an image or record is within its store (02 R35, 17 R410, 04 R88). -/
def imageOk (image : List Byte) : Bool := decide (image.length ≤ 1048576)

/-- A rank of a channel (07 R163): at most two slots of two ranks of a 3DS stack of eight. -/
def rankOk (r : Nat) : Bool := decide (r < 16)

/-- A bank of a rank: eight groups of four (05 R123). -/
def bankOk (b : Nat) : Bool := decide (b < 32)

/-- A row (05 R123). -/
def rowOk (r : Nat) : Bool := decide (r < 131072)

/-- Operand ranges of a command. -/
def Instr.wf : Instr → Bool
  | .hdmCommit _ _ base size ways gran _ =>
    decide (base < 2 ^ 52) && decide (size ≤ 2 ^ 52) && decide (ways ≤ 16) && decide (gran < 16)
  | .addDcResponse _ _ len _ => decide (0 < len)
  | .pprSoft _ _ _ rank bank row _ => rankOk rank && bankOk bank && rowOk row
  | .pprHard _ _ _ rank bank row _ => rankOk rank && bankOk bank && rowOk row
  | .autoPageIdle _ bank => decide (bank < 1024)
  | .dmcCommandIssue _ _ blocked => blocked.all fun b => decide (b < 1024)
  | .stampVisit blk _ => decide (blk < 2 ^ 24)
  | .cutStream _ image => imageOk image
  | .cutApplyLive _ image => imageOk image
  | .cutWriteSlot _ image _ _ => imageOk image
  | .fwWriteSlot _ image _ _ => imageOk image
  | .boardWrite _ record => decide (record.length = 32)
  | .keyLoad _ w => decide (w.ct.length = 64)
  | .keyRetire _ _ ranges => decide (ranges.length ≤ 4)
  | .configWrite _ off _ _ => decide (off.toNat % 4 = 0)
  | .cxlTableAccess _ _ lenBytes => decide (lenBytes ≤ 32768)
  | .witRead _ _ count => decide (1 ≤ count ∧ count ≤ 1023)
  | .descriptorFetch _ _ ds => decide (ds.length ≤ 4)
  | .lsa _ b => decide (b.links.length = 4)
  | .spdmFlit _ _ _ _ body => decide (body.length ≤ 224)
  | .spanForward _ _ _ _ _ _ tags => decide (tags.length ≤ 4)
  | .hostLinkUp _ _ width _ _ => [1, 2, 4, 8, 16].contains width.val
  | .railOutOfWindow _ mv => decide (mv < 4096)
  | .tjWarn _ degC => decide (degC < 256)
  | .thermtrip _ degC => decide (degC < 256)
  | .regRead _ _ | .regWrite _ _ _ | .registerWrite _ _ _ _ _ | .lowHalfRead _ _ => true
  | _ => true

end Sys2Proof
end

