-- ==== Sys2Proof/Tests/Slice0.lean ====
section
/-! SUPPORT. Our own tests: well-formedness, the spec's worked examples, and for every statement one theorem that shows concrete
states and operands meeting the hypotheses of each of its clauses. -/

namespace Sys2Proof.Tests

open Sys2Proof Sys2Proof.Machine

set_option Elab.async false

/-! ## Well-formedness: one ill-formed command per check, and a well-formed one beside it -/

theorem wf_hdm_base : (Instr.hdmCommit 0 0 (2 ^ 52) 0 1 0 false).wf = false := by decide
theorem wf_hdm_size : (Instr.hdmCommit 0 0 0 (2 ^ 52 + 1) 1 0 false).wf = false := by decide
theorem wf_hdm_ways : (Instr.hdmCommit 0 0 0 0 17 0 false).wf = false := by decide
theorem wf_hdm_gran : (Instr.hdmCommit 0 0 0 0 1 16 false).wf = false := by decide
theorem wf_hdm_ok : (Instr.hdmCommit 0 0 0x10000000 (2 ^ 30) 1 0 false).wf = true := by decide
theorem wf_dc_len : (Instr.addDcResponse 0 0 0 none).wf = false := by decide
theorem wf_ppr_rank : (Instr.pprSoft (.head 0) 0 false 16 0 0 true).wf = false := by decide
theorem wf_ppr_bank : (Instr.pprSoft (.head 0) 0 false 0 32 0 true).wf = false := by decide
theorem wf_ppr_row : (Instr.pprHard (.head 0) 0 false 0 0 131072 true).wf = false := by decide
theorem wf_idle_bank : (Instr.autoPageIdle 0 1024).wf = false := by decide
theorem wf_issue_bank : (Instr.dmcCommandIssue 0 false [1024]).wf = false := by decide
theorem wf_visit : (Instr.stampVisit (2 ^ 24) 0).wf = false := by decide
theorem wf_image (image : List Byte) (h : image.length = 1048577) : (Instr.cutStream .sideband image).wf = false := by
  show decide (image.length ≤ 1048576) = false
  rw [h]; rfl
theorem wf_board : (Instr.boardWrite .sideband []).wf = false := by decide
theorem wf_key : (Instr.keyLoad .sideband ⟨1, 1, 0, 1, 0, 9, [], 0⟩).wf = false := by decide
theorem wf_retire : (Instr.keyRetire .sideband 1 [⟨0, 1⟩, ⟨0, 1⟩, ⟨0, 1⟩, ⟨0, 1⟩, ⟨0, 1⟩]).wf = false := by decide
theorem wf_config : (Instr.configWrite 0 2 0 0).wf = false := by decide
theorem wf_table : (Instr.cxlTableAccess 0 0 32769).wf = false := by decide
theorem wf_witness : (Instr.witRead .sideband 0 1024).wf = false := by decide
theorem wf_links : (Instr.lsa 0 { serial := 5, incarn := 9, ageSeq := 1, node := 3, claimed := true, asleep := false, donor := true, freeGib := 4, links := [] }).wf = false := by
  decide
theorem wf_width : (Instr.hostLinkUp 0 0 3 false 0).wf = false := by decide
theorem wf_rail : (Instr.railOutOfWindow 0 4096).wf = false := by decide
theorem wf_temperature : (Instr.tjWarn 0 256).wf = false ∧ (Instr.thermtrip 0 256).wf = false := by decide
theorem wf_fetch (d : Descriptor) : (Instr.descriptorFetch 0 0 [d, d, d, d, d]).wf = false := rfl
theorem wf_spdm : (Instr.spdmFlit 0 225 0 true (List.replicate 225 0)).wf = false := by decide +kernel
theorem wf_forward : (Instr.spanForward 0 1 2 0 0 0 [0, 1, 2, 3, 4]).wf = false := by decide

/-! ## Helper states -/

/-- Set register fields: field, instance, value. -/
def fs (l : List (Fld × Nat × Nat)) (s : State) : State := s.each l fun e s => s.fset e.1 e.2.1 e.2.2
/-- Change a head, a channel, the boot state. -/
def hd (h : Nat) (f : HeadSt → HeadSt) (s : State) : State := s.modHead h f
def modCh (c : Nat) (f : Channel → Channel) (s : State) : State := { s with chans := smSet s.chans c (f (s.chan c)) }
def modB (f : Boot → Boot) (s : State) : State := { s with boot := f s.boot }
/-- Later. -/
def late (n : Nat) (s : State) : State := { s with wclk := s.wclk + n }
/-- The lifecycle fuses of a state 0 to 5. -/
def lc (n : Nat) (s : State) : State :=
  { s with nv := { s.nv with fM := if 1 ≤ n then 7 else 0, fD := if n = 2 then 7 else 0, fP := if 3 ≤ n then 7 else 0, fT := if 4 ≤ n then 7 else 0, fX := if n = 5 then 7 else 0 } }
/-- Regions, templates and decoders. -/
def mem (rs : List (Nat × Region)) (ts : List (Nat × Template)) (ds : List (Nat × Decoder)) (s : State) : State :=
  { s with dec := { s.dec with regions := rs, templates := ts, decoders := ds } }
def dec1 : Decoder := { committed := true, base := 0x10000000, size := 2^30 }
def tpl1 : Template := { hpaBase := 0x10000000, size := 2^30, region := 0 }

/-- A block in service: two heads up, one channel in one set, a direct region of 1 GiB at H0's HPA 0x10000000, key 0. -/
def live : State :=
  let s := fs [(GLB_HEADS.ENABLED,0,3),(GLB_HEADS.MGMT,0,1),(HP_LINK.UP,0,1),(HP_LINK.LTSSM,0,3),(HP_LINK.UP,1,1),(HP_LINK.LTSSM,1,3),
    (DEC_DPABASE_LO.BASE_L,0,0),(DEC_DPABASE_HI.BASE_H,0,0),(DEC_SET.VALID,0,1),(DEC_SET.WAYS,0,1),(DEC_SET.CHANNELS,0,1),(DEC_SETBASE.SIZE,0,16),
    (DMC_CFG.RANKS,0,2),(DMC_CFG.SLOTS,0,1),(DMC_CFG.HEIGHT,0,1),(DMC_STATUS.STATE,0,2),(DEC_KEYMASK.PERMIT,0,0xFFFFFFFF),(DEC_KEYMASK.PERMIT,4,1),
    (WEIR_EFF.EFFMAX,0,96),(WEIR_EFF.EFFMIN,0,16),(CLK_STATUS.CORE_PLL,0,1),(CLK_STATUS.PCLK_PLL,0,1),(IFC_STATUS.STATE,0,2),(IFC_STATUS.PG,0,1)] State.reset
  let s := mem [(0, { size := 2^30, sharingHeads := 3 })] [(0, tpl1)] [(0, dec1)] s
  let s := { s with boot := { s.boot with step := 13, fwUp := true, cclkMhz := 2000 }, inl := { s.inl with slots := [(0, { state := 1, mode := 0, load := 1 })] }
                    ifc := { s.ifc with armed := true, en := true }, wclk := 1000000, tb := 250000000 }
  s.each [0,1] fun h s => s.modHead h fun x => cfgPut (cfgPut { x with presence := 2, perst := false } 0x004 0x6) 0x29C 0x4

/-! Start-up, resets, clocks -/
def aux3 : State := modB (fun b => { b with step := 3 }) (fs [(IFC_STATUS.STATE,0,1)] State.reset)
def ifcOn : State := fs [(IFC_STATUS.STATE,0,2),(IFC_STATUS.PG,0,1)] (modB (fun b => { b with step := 2 }) State.reset)
def atStep (n : Nat) : State := modB (fun b => { b with step := n }) (fs [(IFC_STATUS.STATE,0,2),(IFC_STATUS.PG,0,1)] State.reset)
def step3 := atStep 3
def step6 := atStep 6
def step7 := atStep 7
def step10 := atStep 10
def railLost := modB (fun b => { b with step := 4, railsLost := true }) live
def fwRe := modB (fun b => { b with fwRestart := true }) live
def railLost3 := modB (fun b => { b with railsLost := true }) step3
def unitsSt := modB (fun b => { b with units := [(0,1),(1,1),(2,2)] }) (fs [(CLK_UNIT.PIN,2,0),(CLK_UNIT.PIN,0,0)] live)
def relocking := modB (fun b => { b with relock := [(0,none),(1,some 5),(2,some 999999)] }) live
def src2 := fs [(CUT_STATUS.SOURCE,0,2)] live
def dev := lc 2 live
def prod := lc 3 live
def margin := modB (fun b => { b with savedMv := 760 }) (fs [(CLK_STATUS.MARGIN,0,1),(CLK_MARGIN.FSTEP,0,2)] dev)

/-! Power -/
def asleep1 := fs [(PWR_STATE.CUR,0,1)] live
def asleep2 := fs [(PWR_STATE.CUR,0,2)] live
def entering (g : Nat) (s : State) := let s := fs [(PWR_STATE.PHASE,0,1),(PWR_STATE.TARGET,0,g)] s; { s with pwr := { s.pwr with goal := g, entryFrom := 10 } }
def ent1 := entering 1 live
def ent2 := entering 2 live
def ent4 := entering 4 live
def entBusy : State := let s := entering 2 live; { s with coh := { s.coh with txns := [(3, { src := .head 0, phase := .credit, ln := 9, since := 999990 })], next := 4 } }
def waking (c step : Nat) (l : List (Fld × Nat × Nat)) : State :=
  let s := fs ([(PWR_STATE.CUR,0,c),(PWR_STATE.PHASE,0,3),(PWR_WSTEP.VALID,c*16+1,1),(PWR_WSTEP.ACTION,c*16+1,2),(PWR_WSTEP.DELAY_NS,c*16+1,2000),
    (PWR_WSTEP.VALID,c*16+2,1),(PWR_WSTEP.ACTION,c*16+2,7),(PWR_WSTEP.DELAY_NS,c*16+2,8000)] ++ l) live
  { s with pwr := { s.pwr with wakeStep := step, stepFrom := 100, goal := c } }
def wake21 := waking 2 1 []
def wake22 := waking 2 2 []
def wakeRe : State := { wake21 with pwr := { wake21.pwr with rerun := true } }
def sclHeld : State := { asleep2 with pwr := { asleep2.pwr with sclHeld := true, sclFrom := 5 } }
def excur := fs [(PWR_STATE.PHASE,0,4),(PWR_STATE.TARGET,0,2)] live
def suspect : State := modCh 0 (fun x => { x with suspect := [3,5] }) (fs [(PWR_RETN.SUSPECT,0,2)] live)

/-! Heads -/
def present := hd 1 (fun x => { x with presence := 1 }) (fs [(HP_LINK.UP,1,0),(HP_CFG.MAX_RATE,0,5),(HP_CFG.FLIT,0,3),(HP_CFG.BIFUR,0,1),(HP_CFG.HEAD_EN,0,3)] live)
def l1 := fs [(HP_LINK.LTSSM,0,5)] live
def notice := hd 0 (fun x => { x with notice := true }) live
def gone := hd 1 (fun x => { x with presence := 3, poisoned := 2 }) (fs [(COH_SCAN.ACTIVE,0,1),(HP_SURPRISE.CLEANUP,1,1)] live)
def tagged := hd 0 (fun x => { x with tags := [(1, (0, 5))], quar := [(2, (5, 0)),(0,(5,1))] }) live
def crs := hd 0 (fun x => { x with crs := true }) live
def ideBad := fs [(HP_CFG.IDE_REQ,0,15)] live
/-! The fuse controller -/
def ifcS (l : List (Fld × Nat × Nat)) (f : Ifc → Ifc) (s : State) : State := let s := fs l s; { s with ifc := f s.ifc }
def ifcOff := ifcS [(IFC_STATUS.MODEL,0,0)] (fun i => { i with armed := false }) State.reset
def ifcChg := ifcS [(IFC_STATUS.STATE,0,1),(IFC_STATUS.PHASE,0,0),(IFC_STATUS.MODEL,0,0),(IFC_TEMP.TFET_MAX,0,250)] (fun i => { i with en := true, armed := true }) aux3
def ifcQual := ifcS [(IFC_STATUS.STATE,0,1),(IFC_STATUS.PHASE,0,1),(IFC_STATUS.MODEL,0,0),(IFC_TEMP.TFET_MAX,0,250)] (fun i => { i with en := true, armed := true, qual := 4000000 }) aux3
def ifcRun := ifcS [(IFC_STATUS.MODEL,0,0),(IFC_TEMP.TFET_MAX,0,250)] (fun i => i) live
def ifcHotS := ifcS [(IFC_STATUS.MODEL,0,0),(IFC_TEMP.TFET_MAX,0,250)] (fun i => { i with tfet := 250 }) live
def ifcDead := ifcS [(IFC_STATUS.MODEL,0,0)] (fun i => { i with diodeBad := 2 }) live
def ifcTripped := ifcS [(IFC_STATUS.STATE,0,4),(IFC_CTL.HOLD,0,1)] (fun i => { i with en := false, lowFrom := some 5 }) live
def ifcRearming := ifcS [(IFC_STATUS.STATE,0,4),(IFC_CTL.REARM,0,1)] (fun i => { i with rearmFrom := some 5 }) live
def ifcLow := ifcS [(IFC_STATUS.STATE,0,0),(IFC_TEMP.TFET_MAX,0,250)] (fun i => { i with en := false, armed := true }) aux3
def held0 := ifcS [(IFC_STATUS.STATE,0,0),(IFC_CTL.HOLD,0,1),(IFC_TEMP.TFET_MAX,0,250)] (fun i => i) live
def held0hot := ifcS [(IFC_STATUS.STATE,0,0),(IFC_CTL.HOLD,0,1),(IFC_TEMP.TFET_MAX,0,30)] (fun i => i) live
def devMv := fs [(CLK_MARGIN.MV,0,700),(CLK_MARGIN.FSTEP,0,2)] dev

/-! The root of trust -/
def nonce (s : State) : State := { s with sec := { s.sec with nonce := some (7, 5) } }
def owned (s : State) : State := { s with nv := { s.nv with owners := [(0, 5)] } }
def nonce3 := nonce (owned prod)
def nonceOld : State := { nonce prod with wclk := 3000000000 }
def dbgS : State := { nonce3 with sec := { nonce3.sec with dbgUntil := some 1000001 } }
def dbgEnd : State := { nonce3 with sec := { nonce3.sec with dbgUntil := some 1000000 } }
def ret := lc 4 live
def manu := lc 1 live
def retN := nonce (owned ret)
def decom := lc 5 live
def spd (n : Nat) (s : State) : State := { s with sec := { s.sec with spdm := [(0,n),(16,n)], sessions := [⟨0,1,true,0⟩,⟨16,2,true,0⟩,⟨0,3,false,0⟩] } }
def spdm1 := spd 1 live
def spdm3 := spd 3 dev
def ideSpdm := hd 0 (fun x => { x with ideKeys := (false, true) }) spdm3
def spdmFull : State := { spdm3 with sec := { spdm3.sec with sessions := [⟨0,1,true,0⟩,⟨0,2,true,0⟩,⟨0,3,false,0⟩,⟨0,4,true,0⟩] } }
def prodP2 := lc 3 (fs [(PWR_STATE.CUR,0,2)] live)

/-! Keys -/
def keyS (l : List (Nat × Slot)) (s : State) : State := { s with inl := { s.inl with slots := l } }
def keys1 := keyS [(0,{state := 1, load := 1}),(1,{state := 1, owner := 0, load := 2}),(2,{state := 4, owner := 0, load := 2})] live
def kwS (w key dk : Nat) : State := keyS [(0,{state := 1, load := 1}),(key,{state := 1, load := 2})] (fs [(DEC_DEFKEY.KEY,0,dk)] (mem [(0, { size := 2^30, sharingHeads := 3 })] [(0, { tpl1 with kw := w })] [(0, dec1)] live))
def kw7 := kwS 7 5 9
def keys0r := keyS [(0,{state := 4, load := 1})] live
def retS (st : Nat) (l : List (Nat × DirEntry)) (w : Option (List Nat)) : State :=
  let s := keyS [(0,{state := 1, load := 1}),(1,{state := 3, owner := 0, load := 2})] (fs [(INL_RETIRE.BUSY,0,1),(INL_RETIRE.STEP,0,st),(INL_RETIRE.KEY,0,1),(COH_KWALK.KEY,0,1)] live)
  { s with coh := { s.coh with dir := l, walk := w }, inl := { s.inl with retirer := some .sideband } }
def ret1 := retS 1 [(0,{ key := 1, ptrs := [0]})] none
def ret2 := retS 2 [] (some [])
def ret3 := retS 3 [] none
def ret4 := retS 4 [] none
def txnS (l : List (Nat × Txn)) (s : State) : State := { s with coh := { s.coh with txns := l, next := l.length } }
def xtsKey (s : State) : State := keyS [(0, { state := 1, mode := 1, load := 1})] s
def xtsR := txnS [(0, { src := .head 0, phase := .xts, ln := 1, mpa := some 1, data := 0xABCD })] (xtsKey live)
def xtsW (n : Nat) := modCh 0 (fun x => { x with wq := [0] }) (txnS [(0, { kind := .write, src := .head 0, phase := .dmcq, ln := 1, mpa := some 1, data := 0xABCD, tries := n })] (xtsKey live))
def xtsW0 := xtsW 0
def xtsW2 := xtsW 2

/-! Faults, the Witness log, the PMU -/

def fltQ : State := late 10000000000 (live.enterClass 3 1 1)
def fltH := fs [(FLT_STATUS.HELD,3,1)] fltQ
def witWin : State := { live with wit := { live.wit with windows := [(0, { from_ := 5 }), (1, { from_ := 5, first := some { kind := 1 }, count := 3 })] } }
def witErasing : State := { live with wit := { live.wit with erasing := some 3 } }
def witRdy : State := { fs [(WIT_STATUS.PRESENT,0,1)] live with wit := { live.wit with staging := [{kind := 1},{kind := 2}], erased := [0] } }
def pmu31 := fs [(PMU_UNITSEL.UNIT,0,31),(PMU_UNITSEL.UNIT,16,31)] live
def pmuTop := fs [(PMU_EVSEL.EN,0,1),(PMU_CTR.COUNT,0,2^48-1)] live

/-! Coherence -/
def shr : State := fs [(DEC_DPABASE_LO.BASE_L,32,0),(DEC_DPABASE_HI.BASE_H,32,0)]
  (mem [(0, { typ := 2, size := 2^30, sharingHeads := 3, sharingNodes := 4 })] [(0, tpl1), (32, tpl1)] [(0, dec1),(32, dec1)] live)
def coh (f : Coh → Coh) (s : State) : State := { s with coh := f s.coh }
def snpSent := coh (fun c => { c with sent := [(0, 1, 5)] }) shr
def tmo := coh (fun c => { c with timeouts := [(0, 1)] }) shr
def lock1 := txnS [(0, { src := .head 0, phase := .lockWait, ln := 1 })] live
def lock2 := txnS [(0, { src := .head 0, phase := .lockWait, ln := 1 }), (1, { src := .head 1, phase := .lockWait, ln := 1 })] live
def evE := coh (fun c => { c with evicts := [(1, {})], dir := [(16, { tag := 0, ptrs := [0], m := true })] }) shr
def evE3 := coh (fun c => { c with evicts := [(1, { snoops := [0] })] }) shr
def retry1 := coh (fun c => { c with retry := [(1, [0])], locks := [(1, { holder := some 0 })] }) (txnS [(0, { src := .head 1, phase := .retryQ, ln := 1, shared := true, mv := .A })] shr)
def miss1 : State := { live with dec := { live.dec with misses := [2^32, 2^32+1] } }
/-! Weir and the DMCs -/
def rTx : Txn := { src := .head 0, phase := .credit, ln := 1, mpa := some 1 }
def wTx : Txn := { kind := .write, src := .head 0, phase := .credit, ln := 1, mpa := some 1, data := 7 }
def wait1 := txnS [(0, rTx)] live
def waitW := txnS [(0, wTx)] live
def inRq := modCh 0 (fun x => { x with rq := [0] }) (txnS [(0, { rTx with phase := .dmcq })] live)
def inWq := modCh 0 (fun x => { x with wq := [0] }) (txnS [(0, { wTx with phase := .dmcq })] live)
def rowOpen (r : Nat) (s : State) : State := modCh 0 (fun x => { x with banks := (List.range 8).map fun b => (512 + 4 * b, { row := some r, hint := 2 }) }) s
def rowHit := rowOpen 0 inRq
def rowHitW := rowOpen 0 inWq
def rowOther := rowOpen 77 inRq
def rowIdle := modCh 0 (fun x => { x with banks := [(0, { row := some 77, hint := 2 })] }) live
def training := fs [(DMC_STATUS.STATE,0,1)] live
def stopC := modCh 0 (fun x => { x with creditStop := true }) live
def flight (l : Line) : State := { modCh 0 (fun x => { x with inflight := [(0, l)] }) (txnS [(0, { rTx with phase := .issued })] live) with dram := [(1, l)] }
def flight1 := flight { data := 5, inst := { slot := 0, load := 1 } }
def flightP := flight { data := 5, inst := { slot := 0, load := 1 }, poison := true }
def therm := fs [(DMC_CFG.SLOTS,0,1),(DMC_REFCTL.HOT_T,0,0)] (modCh 0 (fun x => { x with sensorFails := (2,0) }) live)
def spare := fs [(DMC_SPARE.STATE,0,1),(DMC_CFG.SPARE,0,1)] (modCh 0 (fun x => { x with rows := 0 }) live)
def spare0 := fs [(DMC_CFG.SPARE,0,1),(DMC_RANKMAP.MAP,0,0xFF10)] live
def testS := modCh 0 (fun x => { x with test := some (0, 5) }) live
/-! Tiered pages -/
def tierB : State :=
  let s := mem [(0, { typ := 1, base := 2^44, size := 2^30, sharingHeads := 3 })] [(0, tpl1)] [(0, dec1)] live
  fs [(DEC_DPABASE_HI.BASE_H,0,4096)] { s with slc := { s.slc with pools := [⟨0,0,0,1⟩, ⟨1,0,4,1⟩, ⟨3,0,8,1⟩] } }
def slc (f : Sluice → Sluice) (s : State) : State := { s with slc := f s.slc }
def page0 (p : Pme) (s : State) : State := slc (fun x => { x with dpm := [(2^32, p)] }) s
def moving (m : Move) (s : State) : State := slc (fun x => { x with moves := [(2^32, m)] }) s
def inT0 := page0 { tier := 0 } tierB
def lines (f : Nat → Line) (s : State) : State := { s with dram := (List.range 64).map fun i => (i, f i) }
def zeroes := lines (fun _ => { inst := { slot := 0, load := 1 } }) inT0
def dem0 := moving {} zeroes
def demP := moving {} (lines (fun i => { poison := decide (i = 5) }) inT0)
def demEnd := moving { result := some 1 } zeroes
def demRaw := moving { result := some 0 } zeroes
def inT1 := page0 { tier := 1, slabs := 1, loc := 65536 } tierB
def jobS (j : DecJob) : State := { txnS [(0, { src := .head 0, phase := .press, ln := 2^38+1, mpa := some 1, job := some 0, tiered := true })] inT1 with
  press := { inT1.press with jobs := [(0, { j with loc := 65536, slabs := 1, page := 2^32, txns := [0], ready := true })], next := 1 } }
def job1 := jobS {}
def jobBad := jobS { bad := true }
def jobRaw := jobS { raw := true }
def job2 := jobS { failed := [0, 1] }
/-- A stored page of zeros: a header and sixteen segments of 9 bytes, in one slab. -/
def zeroPage : List Byte := storedPage (List.replicate 4096 0) (encodePage (List.replicate 4096 0) 0xFF)
def jobHit : State := { job1 with
  dram := (List.range 4).map fun i => (65536 * 4 + i, { data := dataOfBytes (sliceBytes zeroPage (64 * i) 64), slab := true, inst := { slot := 0, load := 1 } })
  press := { job1.press with hcache := [(65536 * 64, leNat (zeroPage.take 32))] } }
def promW : State := moving { kind := .promoteOnWrite, dest := some 4, writers := [0] } (txnS [(0, { kind := .write, src := .head 0, phase := .promoting, ln := 2^38+1, tiered := true })] tierB)
def marks (l : List (Fld × Nat × Nat)) (s : State) : State := fs ([(SLC_CTL.DEMOTE_EN,0,1),(SLC_CTL.PROMOTE_EN,0,1)] ++ l) s
def rec16 (r : Rec1G) (s : State) : State := slc (fun x => { x with rec1 := [(0, r)] }) s
def low0 := marks [(SLC_T0MARK.LOW,0,1000),(SLC_T0MARK.HIGH,0,1000)] (slc (fun x => { x with t0used := (List.range 40).map fun i => (i, ()) }) (rec16 { t0 := 1 } inT0))
def promQ := marks [(SLC_T0MARK.HIGH,0,0)] (slc (fun x => { x with promoQ := [2^32] }) inT1)
def donor (s : State) : State := marks [(SLC_TIERCFG.T2_EN,0,1),(SLC_SLABMARK.LOW,0,1000)] (slc (fun x => { x with grants := [(2,4)], slabs := [(0, { cls := 16, used := List.range 20 })] }) s)
def t2s := donor (rec16 { t1 := 1 } inT1)
def t2End := moving { kind := .toT2, peer := some (2, 4), encLen := 4 } inT1
def stallS (pools : List Pool) : State := late 1000 (slc (fun x => { x with pools := pools, stallQ := [(0, 5)] })
  (moving { kind := .promoteOnWrite, writers := [0] } (txnS [(0, { kind := .write, src := .head 0, phase := .stalled, ln := 2^38+1, tiered := true })] tierB)))
def stall0 := stallS [⟨0,0,0,1⟩]
def stall1 := stallS [⟨1,0,4,1⟩]
def stall2 := stallS []
def stamps := slc (fun x => { x with rec2 := [(0,{ stale := true }),(1,{ stamp := 5 })] }) live
def dcd := mem [(0, { typ := 5, base := 2^44, size := 2^30, sharingHeads := 3 })] [(0, tpl1)] [(0, dec1)] tierB
def dcdE : State := fs [(SLC_DCDMARK.RELEASE,0,1024)] { dcd with dec := { dcd.dec with extents := [(2^44, { start := 2^44, len := 1, heads := 1 })] }, slc := { dcd.slc with pools := [] } }
def dcdLow : State := fs [(SLC_DCDMARK.RELEASE,0,1024)] { dcd with dec := { dcd.dec with extents := [(2^44, { start := 2^44, len := 1, heads := 1 })] }, slc := { dcd.slc with pools := [⟨0,0,0,1⟩], t0used := [(0, ())] } }
def dcdU := mem [(0, { typ := 4, size := 2^30, sharingHeads := 3 })] [(0, tpl1)] [(0, dec1)] live
def extS (h : BitVec 16) : State := { dcdU with dec := { dcdU.dec with extents := [(0, { start := 0, len := 1, heads := h })] } }
def ext3 := extS 3
def lost5 := slc (fun x => { x with lost := [5], grants := [(5,2)] }) live
def locked : State := { live with dec := { live.dec with decoders := [(0, { dec1 with locked := true }), (1, { committed := true, base := 0x90000000, size := 2^30 })], templates := [(0, tpl1),(1, { hpaBase := 0x90000000, size := 2^30, region := 0 }),(2, { hpaBase := 0xD0000000, size := 2^30, region := 0 })] } }
/-! Drawers -/
def drw (f : Drawers → Drawers) (s : State) : State := { s with drw := f s.drw }
def d0 : State := hd 0 (fun x => cfgPut x 0x14C (cfgGet x 0x14C ||| 0x10000)) (drw (fun x => { x with maxDrawers := 2 })
  (fs [(DRW_BIND.EN,0,1),(DRW_LIMIT.OPS,0,64),(WEIR_EFF.EFFMAX,4,96),(WEIR_EFF.EFFMIN,4,16),(DRW_RCFG.LOG2,0,6),(DRW_STAGE.ADDR,0,5)] live))
def onDev : OpAttr := { reserved := 0, dpa := true, dev := true, key := 0 }
def onHost : OpAttr := { reserved := 0, dpa := false, dev := false, key := 0 }
def desc (op : Byte) (len : Nat) (da : OpAttr) : Descriptor :=
  { op := op, irq := false, quiet := false, allRings := false, flagsReserved := 0, irqe := 0, reserved3 := 0, id := 7, src := 0x5000, dst := 0x1000,
    len := BitVec.ofNat _ len, dmax := 0, sattr := onHost, dattr := da, reserved24 := 0, pattern := 0x1122334455667788, reserved30 := 0 }
def ringS (r : RingSt) (s : State) : State := drw (fun x => { x with drawers := [(0, { rings := [(0, r)] })] }) s
def ringOn := ringS { state := 1 } d0
def ringSq := ringS { state := 1, sqTail := 4 } d0
def opS (o : Op) (s : State) : State := drw (fun x => { x with ops := [(0, o)], next := 1 }) s
def opOn (d : Descriptor) : State := opS { desc := d } (ringS { state := 1, sqTail := 1, sqHead := 1 } d0)
def opNop := opOn (desc 0 0 onHost)
def opFence := opOn (desc 6 0 onHost)
def opCopy := opOn (desc 1 64 onHost)
def opFill := opOn (desc 2 64 onHost)
def opFillD := opOn (desc 2 64 onDev)
def opBad := opOn { desc 2 64 onHost with reserved24 := 1 }
def opComp := opOn (desc 3 64 onHost)
def opDec := opOn { desc 4 64 onHost with dmax := 4096 }
def opFlush := opOn (desc 5 0 onHost)
def opFlushO := opS { desc := desc 5 0 onHost } (ringS { state := 1, sqTail := 1, sqHead := 1, openBlock := [1, 2, 3] } d0)
def opDone : State := opS { desc := desc 0 0 onHost, started := true, status := some 0 } (ringS { state := 1, sqTail := 1, sqHead := 1 } d0)
def opDoneB : State := hd 0 (fun x => cfgPut x 0x004 0x2) opDone
def opHeld (c : Nat) : State := opS { desc := desc 0 0 onHost, started := true, status := some 0 } (ringS { state := 2, cause := c, sqTail := 1, sqHead := 1, held := [0] } d0)
def opHeld3 := opHeld 3
def paused := ringS { state := 2, cause := 1 } d0
def opOld : State := fs [(DRW_STATE.GEN,0,40000),(DRW_BIND.PRIV,0,0)] opCopy
def resetting (t : Nat) (s : State) : State := drw (fun x => { x with drawers := [(0, { s.drawer 0 with resetting := true, drainFrom := t })] }) s
def rst0 := resetting 0 d0
def rstB := resetting 0 (opS { desc := desc 1 64 onHost, started := true, asked := true, tags := [0] } (ringS { state := 1, sqTail := 1, sqHead := 1 } d0))
def rstN := resetting 1000000 rstB
def irqP := drw (fun x => { x with drawers := [(0, { irqs := [(0, { addr := 0xFEE00000, data := 5, mask := true, pend := true }),(1,{ mask := false })] })] }) d0
/-- A stream block of 64 bytes. -/
def block : List Byte := streamBlock ((List.range 64).map fun i => BitVec.ofNat 8 i) true 0xFF
def opDecOk := opOn { desc 4 block.length onHost with dmax := 4096 }

/-! The Span -/
def link1 : Link := { gotHello := true, lastHello := 999999, peerIncarn := some 9 }
def lsa0 : LsaBody := { serial := 5, incarn := 9, ageSeq := 1, node := 3, claimed := true, asleep := false, donor := true, freeGib := 4, links := [some (0,3)] }
def spnS (f : Span → Span) (s : State) : State := { s with spn := f s.spn }
def sp : State :=
  spnS (fun x => { x with links := [(0, link1)], routes := [(2,0),(3,0)], db := [(5,{ body := { lsa0 with node := 2 }, at_ := 999000 })] })
    (fs [(SPN_CFG.ROLE,0,1),(SPN_CFG.PORT_EN,0,15),(SPN_CFG.NODE_ID,0,1),(SPN_NODE.STATE,0,2),(SPN_NODE.ID,0,1),(SPN_PSTATE.LINK,0,4),(SPN_PSTATE.WIDTH,0,8)]
      (mem [(0, { size := 2^30, sharingHeads := 3, sharingNodes := 0xC, peerHead := some 0 }), (1, { typ := 8, size := 2^30, home := some 2, sharingHeads := 3 })]
        [(0, { tpl1 with region := 1 })] [(0, dec1)] live))
def spS := mem [(0, { typ := 2, size := 2^30, sharingHeads := 3, sharingNodes := 0xC })] [(0, tpl1)] [(0, dec1)] sp
def lk (n : Nat) (f : Link → Link) (s : State) : State := spnS (fun x => { x with links := [(0, f link1)] }) (fs [(SPN_PSTATE.LINK,0,n)] s)
def spP1 := fs [(PWR_STATE.CUR,0,1)] sp
def spP2 := fs [(PWR_STATE.CUR,0,2)] sp
def lk0n := lk 0 (fun l => { l with narrowing := true }) sp
def lk0r := lk 0 (fun l => { l with retraining := true, replays := 4 }) sp
def lk1 := lk 1 (fun _ => {}) sp
def lk1p := lc 3 lk1
def lk2 := lk 2 id sp
def lk2o := late 100000000 lk2
def lk3 := lk 3 id sp
def lk5 := lk 5 id sp
def spW4 := fs [(SPN_PSTATE.WIDTH,0,4),(SPN_PLANES.FAILED,0,3)] sp
def spW2 := fs [(SPN_PSTATE.WIDTH,0,2),(SPN_PLANES.FAILED,0,63)] sp
def spMask := lk 4 (fun l => { l with mask := some 0xFF }) sp
def spSpdm := lk 4 (fun l => { l with spdm := [1], spdmIdx := 1 }) sp
def spReplay (n : Nat) := lk 4 (fun l => { l with replay := [{ seq := 1 }], replays := n }) sp
def spRp4 := spReplay 4
def claim (t : Time) := spnS (fun x => { x with claimFrom := some t }) (fs [(SPN_NODE.STATE,0,1)] sp)
def claim0 := claim 5
def claimN := claim 999999
def backoff := spnS (fun x => { x with backoff := some (5, 100) }) (fs [(SPN_NODE.STATE,0,1)] sp)
def fwdS := spnS (fun x => { x with fwd := [(0, { src := 2, dest := 7, since := 5, tags := [5] }),(1, { src := 2, dest := 8, since := 999999, tags := [5] })], next := 2 }) sp
def tagS (r : SpanReq) (s : State) : State := spnS (fun x => { x with tags := [(2*4096+5, r)] }) s
def tagR := tagS { head := some 0, ln := 9, op := 1, since := 999999 } sp
def tagW := tagS { head := some 0, ln := 9, op := 2, since := 999999 } sp
def tagOld := late 400000000 tagR
def tagF := tagS { head := some 0, ln := 9, op := 1, since := 5, failed := true } (late 400000000 sp)
def lostN := spnS (fun x => { x with lostAt := [(2, 5)] }) (late 400000000 sp)
def runsS := slc (fun x => { x with pools := [⟨2,0,0,2⟩], grants := [(2,4)] }) (spnS (fun x => { x with runs := [(0, (2, 4)),(8, (3, 2))], grantsOut := [(2,1)] }) sp)
def runs0 := spnS (fun x => { x with grantsOut := [(2,1)] }) sp
def spSent := coh (fun c => { c with sent := [(2*16, 1, 5)] }) spS
def p5 := fs [(SPN_PSTATE.LINK,0,5)] (spnS (fun x => { x with fwd := [(0, { src := 5, dest := 2, since := 5 })] }) sp)
def t2Ask := tagS { op := 0x14, page := 2^32, since := 999999 } (moving { kind := .toT2, encLen := 4 } sp)
def msg0 : SpanMsg := { src := 2, port := 0, head := 0, key := 0, shared := false, devload := 0, mv := .A, poison := false, tag := 5, ln := 1, arg := 0, data := 0xBEEF, urgency := 0 }
def hello0 : HelloBody := { serial := 5, fabric := 0, incarn := 9, node := 3, claimed := true, port := 0, role := 1, lc := 0, debug := false }
def tok0 : Token := ⟨0x4B4F544B, 1, 0, 0, 0, 7, 60, 0, 0, 0, 0⟩

/-! ## Accepted images, tokens and keys

A signature's verification and an unwrapped key are uninterpreted (assumption 5): a witness that needs one has it as its hypothesis. -/

/-- A body of records of one size, under its header (02 R38). -/
def sect (typ size : Nat) (recs : List (List Byte)) : Nat × List Byte :=
  (typ, leBytes 2 recs.length ++ leBytes 2 size ++ leBytes 4 typ ++ recs.flatten)
/-- An image: header, section table, bodies and the signature block of the vendor key (02 R35-R39). -/
def mkImg (magic rollback mask flags : Nat) (ss : List (Nat × List Byte)) : List Byte :=
  let b0 := 64 + 16 * ss.length
  let tb := ss.foldl (fun (a : Nat × List Byte) x =>
    (a.1 + x.2.length, a.2 ++ leBytes 4 x.1 ++ leBytes 4 a.1 ++ leBytes 4 x.2.length ++ leBytes 4 (crc32c x.2))) (b0, [])
  let h := leBytes 4 magic ++ leBytes 2 1 ++ leBytes 2 64 ++ leBytes 4 (tb.1 + 200) ++ leBytes 4 rollback ++ leBytes 2 0x9616 ++
    leBytes 1 0x10 ++ leBytes 1 mask ++ leBytes 2 ss.length ++ leBytes 2 flags ++ leBytes 36 0
  h ++ leBytes 4 (crc32c h) ++ tb.2 ++ (ss.map (·.2)).flatten ++ leBytes 4 0x4749534B ++ leBytes 2 1 ++ leBytes 194 0
def rB (l : List Nat) : List Byte := l.map (BitVec.ofNat 8)
def wakeRec (st n a ns : Nat) : List Byte := rB [st, n, a, 0] ++ leBytes 4 ns ++ leBytes 4 ns ++ leBytes 4 (ns + 1000)
def fullSects : List (Nat × List Byte) := [
  sect 1 8 [rB [0,1,3,1,5,3,0,3], rB [1,0,0,0,5,3,0,3], rB [2,0,0,0,5,3,0,3], rB [3,0,0,0,5,3,0,3]],
  sect 2 8 ((List.range 12).map fun c => rB [c, if c < 2 then 1 else 0, 0, 0, if c < 2 then 1 else 0, 4, 255, 0]),
  sect 3 8 [rB [0, 2, 0, 0, 3, 0, 0, 0]],
  sect 4 16 [leBytes 2 512 ++ rB [24, 1] ++ leBytes 4 4 ++ leBytes 8 0],
  sect 8 8 [rB [0,0,0,0,0,0,0,0]],
  sect 9 16 [wakeRec 1 1 4 60, wakeRec 1 2 6 100, wakeRec 2 1 2 1500, wakeRec 2 2 4 300, wakeRec 2 3 5 3000, wakeRec 2 4 7 6000, wakeRec 2 5 9 4000,
    wakeRec 3 1 1 80000, wakeRec 3 2 2 10000, wakeRec 3 3 3 30000, wakeRec 3 4 4 2500, wakeRec 3 5 5 20000, wakeRec 3 6 7 40000, wakeRec 3 7 8 800000,
    wakeRec 3 8 9 500000],
  sect 0xA 8 [rB [0,0,0,0,0,0,0,0], rB [1,0,0,0,0,0,0,0], rB [2,2,0,0,0,0,0,0], rB [3,3,0,0,0,0,0,0], rB [4,3,0,0,0,0,0,0]],
  sect 0xC 8 [rB [0,0] ++ leBytes 2 760 ++ leBytes 2 700 ++ leBytes 2 800, rB [1,0] ++ leBytes 2 860 ++ leBytes 2 800 ++ leBytes 2 900]]
def fullImg : List Byte := mkImg 0x5455434B 3 31 0 fullSects
def patchImg : List Byte := mkImg 0x5455434B 3 31 1 [sect 0xF0 48 [leBytes 48 0], sect 0x101 8 [rB [0,3,32,0,64,0,10,0], rB [1,3,8,0,48,0,10,0]]]
def fwImg : List Byte := mkImg 0x4957464B 2 31 0 [sect 0x200 4 [[1,2,3,4]]]
def boardRec : List Byte :=
  let h := leBytes 4 0x4452424B ++ leBytes 2 1 ++ leBytes 2 32 ++ leBytes 2 0x1234 ++ leBytes 2 0x5678 ++ leBytes 16 0
  h ++ leBytes 4 (crc32c h)
/-- The vendor key's signature of an image verifies. -/
def Signed (b : List Byte) : Prop :=
  Config.ecdsaOk Config.vendorKey (Config.sha384 (b.take (sigOff b))) (be96 b (sigOff b + 0x68)) = true
theorem checkSig_signed (b : List Byte) (h1 : (decide (b.length < 64 + 200) || leAt b (sigOff b) 4 != 0x4749534B ||
    leAt b (sigOff b + 4) 2 != 1 || decide (4 < imgSigner b)) = false) (h2 : imgSigner b = 0) (h3 : be96 b (sigOff b + 8) = 0)
    (hE : Signed b) : checkSig b = none := by
  unfold Signed at hE
  simp [h2] at h1
  simpa [checkSig, h2, h3, hE, failIf] using h1
theorem full_signed (hE : Signed fullImg) : checkSig fullImg = none :=
  checkSig_signed _ (by decide +kernel) (by decide +kernel) (by decide +kernel) hE
theorem patch_signed (hE : Signed patchImg) : checkSig patchImg = none :=
  checkSig_signed _ (by decide +kernel) (by decide +kernel) (by decide +kernel) hE
theorem fw_signed (hE : Signed fwImg) : checkSig fwImg = none :=
  checkSig_signed _ (by decide +kernel) (by decide +kernel) (by decide +kernel) hE
theorem full_streams (hE : Signed fullImg) : checkImage (live.onMailbox (.head 0)) .stream fullImg = none := by
  rw [checkImage, full_signed hE]; decide +kernel
theorem full_fits_slot (hE : Signed fullImg) : checkImage (live.onMailbox (.head 0)) .slot fullImg = none := by
  rw [checkImage, full_signed hE]; decide +kernel
theorem patch_applies (hE : Signed patchImg) : checkImage (live.onMailbox (.head 0)) .live patchImg = none := by
  rw [checkImage, patch_signed hE]; decide +kernel
def fwReA : State := { fwRe with nv := { fwRe.nv with fwA := fwImg } }
theorem fw_passes (hE : Signed fwImg) : checkFirmware live.nv fwImg = none := by
  rw [checkFirmware, fw_signed hE]; decide +kernel
theorem fwRe_passes (hE : Signed fwImg) : checkFirmware fwReA.nv (fwSlotImg fwReA.nv fwReA.boot.fwSlot) = none := by
  show checkFirmware fwReA.nv fwImg = none
  rw [checkFirmware, fw_signed hE]; decide +kernel

/-- A token's signature verifies under a key. -/
def Verified (key : BitVec 768) (t : Token) : Prop := Config.ecdsaOk key (Config.sha384 (tokenBytes t)) t.sig = true
theorem vendor_sig {t : Token} (h0 : t.signer = 0) (hp : t.pubkey = 0) (hE : Verified Config.vendorKey t) : tokenSigBad t = false := by
  unfold Verified at hE
  simp [tokenSigBad, h0, hp, hE]
theorem owner_sig {t : Token} (h0 : t.signer ≠ 0) (hE : Verified t.pubkey t) : tokenSigBad t = false := by
  unfold Verified at hE
  have h0 : ¬ t.signer = 0#16 := h0
  simp [tokenSigBad, h0, hE]
def dbgR : State := { retN with sec := { retN.sec with dbgUntil := some 1000001 } }
def tokDev : Token := { tok0 with kind := 2, arg := 2, duration := 0 }
def tokEnrol : Token := { tok0 with kind := 3, arg := 3, signer := 1, pubkey := 77, duration := 0, digest := 9 }
def tokRevoke : Token := { tok0 with kind := 4, arg := 2, signer := 1, pubkey := 77, duration := 0 }
def ownS : State := nonce { prod with nv := { prod.nv with owners := [(0, Config.sha384 (beBytes 96 (77 : BitVec 768).toNat)), (1, 9)] } }
theorem unlock_ok (hE : Verified Config.vendorKey tok0) : retN.tokenResult 1 tok0 = 0 := by
  rw [State.tokenResult, vendor_sig rfl rfl hE]; decide +kernel
theorem unlock_again (hE : Verified Config.vendorKey tok0) : dbgR.tokenResult 1 tok0 = 0 := by
  rw [State.tokenResult, vendor_sig rfl rfl hE]; decide +kernel
theorem develop_ok (hE : Verified Config.vendorKey tokDev) : (nonce manu).tokenResult 2 tokDev = 0 := by
  rw [State.tokenResult, vendor_sig rfl rfl hE]; decide +kernel
theorem owner_slot (t : Token) (hs : t.signer = 1) (hp : t.pubkey = 77) : tokenSlotBad ownS.nv t = false := by
  have h : smGet ownS.nv.owners 0 0 = Config.sha384 (beBytes 96 (77 : BitVec 768).toNat) := rfl
  have g : ownerGood ownS.nv 1 = true := by decide +kernel
  rw [tokenSlotBad, hs, hp]
  show (_ && (!ownerGood ownS.nv 1 || smGet ownS.nv.owners 0 0 != Config.sha384 (beBytes 96 (77 : BitVec 768).toNat))) = false
  rw [g, h]
  simp only [bne_self_eq_false, Bool.not_true, Bool.or_false, Bool.and_false]
theorem enrol_ok (hE : Verified tokEnrol.pubkey tokEnrol) : ownS.tokenResult 3 tokEnrol = 0 := by
  rw [State.tokenResult, owner_slot tokEnrol rfl rfl, owner_sig (t := tokEnrol) (by decide) hE]; decide +kernel
theorem revoke_ok (hE : Verified tokRevoke.pubkey tokRevoke) : ownS.tokenResult 4 tokRevoke = 0 := by
  rw [State.tokenResult, owner_slot tokRevoke rfl rfl, owner_sig (t := tokRevoke) (by decide) hE]; decide +kernel

def wrap1 : WrappedKey := ⟨1, 1, 0, 1, 0, 9, [], 0⟩
def key64 : List Byte := (List.range 64).map (BitVec.ofNat 8)
/-- The wrapped key unwraps to a key of two different halves. -/
def Unwraps : Prop := Config.unwrapKey 1 0 9 (wrapAad wrap1) [] 0 = some key64
theorem key_ok (hU : Unwraps) : spdm1.keyLoadBad (.head 0) wrap1 = false := by
  have h : Config.unwrapKey wrap1.session wrap1.ivZero wrap1.ivCount (wrapAad wrap1) wrap1.ct wrap1.tag = some key64 := hU
  rw [State.keyLoadBad, h]; decide +kernel

/-- Ingress buffers of 32 entries, a value of the implementation (assumption 4). -/
def Ingress32 : Prop := Config.headIngress = 32 ∧ Config.spanIngress = 32
theorem pick_read (hI : Ingress32) : wait1.urgRefresh.weirPick 0 = some ((0, (wait1.txn? 0).get (by decide +kernel)), true) := by
  rw [State.urgRefresh, hI.1, hI.2]; decide +kernel
theorem pick_write (hI : Ingress32) : waitW.urgRefresh.weirPick 0 = some ((0, (waitW.txn? 0).get (by decide +kernel)), true) := by
  rw [State.urgRefresh, hI.1, hI.2]; decide +kernel

/-! ## Worked examples and tables of the spec -/

/-- 05 R123, the worked example: 12 ways of 256 bytes, chunk 0x2234567A and byte 0xC0 go to way 6, channel-local line 0x0B66C77F. -/
theorem test_interleave_example : localAddr 12 8 0x223456_7AC0 = (6, 0x0B66C77F * 64) := by decide +kernel
/-- 05 R123, the same example: subchannel B, rank 0, bank group 1, bank 0, row 0x5B36, column 0x770. -/
theorem test_dram_fields_example : dramFields false 131072 0x0B66C77F = (1, 0, 1, 0, 0x5B36, 0x770) := by decide +kernel
/-- 11 R286, the table of D. -/
theorem test_derated_table : [derated false 2 true, derated false 0 true, derated false 1 true, derated true 2 true, derated true 0 true,
    derated true 1 true] = [115, 111, 92, 102, 99, 81] := by decide
/-- 11 R289, the worked example: minimums 40, 24, 12, 10, 8, 8, 4, 2 under D 99, 81 and 102. -/
theorem test_shortfall_example : [99, 81, 102].map (reduceByD [40, 24, 12, 10, 8, 8, 4, 2]) =
    [[40, 24, 12, 10, 7, 0, 4, 2], [40, 24, 11, 0, 0, 0, 4, 2], [40, 24, 12, 10, 8, 2, 4, 2]] := by decide +kernel
/-- 08, the example after R200: the temperature trace codes under P1 in 51 bytes; group 0 packs to 08 A1 49. -/
def trace : List Nat :=
  let diffs : List Int := [0,-1,2,0,1,-2,1,1, 1,-1,2,0,1,-2,1,1, 2,-1,3,-2,1,0,-3,2, 3,2,4,1,3,2,3,2] ++ List.replicate 16 0 ++ [0,0,0,40,-40,0,0,0] ++
    [1,0,-1,1,-2,1,0,1, -1,1,0,-2,1,-1,0,1, 1,0,-1,1,-2,1,0,1, 2,-1,3,-2,1,0,-3,2, -1,1,0,-2,1,-1,0,1, 1,0,-1,1,-2,1,0,1,
     1,-1,2,0,1,-2,1,1, -1,1,0,-2,1,-1,0,1, 1,0,-1,1,-2,1,0,1]
  (diffs.foldl (fun (a : List Nat × Int) d => (a.1 ++ [(a.2 + d).toNat], a.2 + d)) ([], 0x0C80)).1
theorem test_press_trace : segSize trace 1 = 51 ∧ choosePred trace 0xFF = 1 ∧ (segBytes trace 1).length = 51 ∧ decodeSeg (segBytes trace 1) = trace := by
  decide +kernel
theorem test_press_group0 : packGroup 3 [0, 1, 4, 0, 2, 3, 2, 2] = [0x08, 0xA1, 0x49] := by decide +kernel
/-- 08, the example after R200: END[1] = 562 and END[0] = 297 read 29 21 23 at 0x06. -/
theorem test_press_header : sliceBytes (headerBytes 0 (297 :: 562 :: List.replicate 14 562)) 6 3 = [0x29, 0x21, 0x23] := by decide +kernel
/-- 02, the example after R56: a patch of C0 and C1 on channel 3 is 0x178 bytes long. -/
theorem test_patch_length : patchImg.length = 0x178 := by decide +kernel
/-- 17 R405: the fuses of each lifecycle state give its code. -/
theorem test_lifecycle_codes : (List.range 6).map (fun n => lifecycle (lc n State.reset).nv) = [0, 1, 2, 3, 4, 5] := by decide +kernel

/-! ## The whole machine -/

theorem witness_StepRunsFrontCommand : ∃ (c : Instr) (rest : List Instr) (s : State), s.pending = c :: rest :=
  ⟨.attnPress, [.curveTrip], { live with pending := [.attnPress, .curveTrip] }, rfl⟩
theorem witness_EmptyQueueTicks : ∃ s : State, s.pending = [] := ⟨live, by decide +kernel⟩
theorem witness_EveryCommandAnswers : ∃ c : Instr, changesFuses c = false := ⟨.attnPress, rfl⟩
theorem witness_FusesOnlyGrow : ∃ n s t, FusesGrow n s.nv ∧ step s = .next t :=
  ⟨live.nv, live, idleTick live, ⟨BitVec.and_self, BitVec.and_self, BitVec.and_self, BitVec.and_self, BitVec.and_self, fun _ _ h => h, BitVec.and_self,
    le_refl _, le_refl _, id, rfl⟩, rfl⟩
theorem witness_LifecycleNeverMovesBack : ∃ s t, step s = .next t := ⟨live, idleTick live, rfl⟩
theorem witness_ResetState : ∃ k : Nat, k ≠ 0 := ⟨1, by decide⟩
theorem witness_StoresReadBack : (∃ (s : State) (f : Fld), f.id < 1024 ∧ smWf s.regs = true) ∧ (∃ (s : State) (m n : Nat), n ≠ m ∧ smWf s.dram = true) :=
  ⟨⟨live, GLB_TJ.NOW, by decide +kernel⟩, flight1, 1, 2, by decide +kernel⟩
theorem witness_Acknowledgement : ∃ (p : Path) (set : Fin 31) (b : BitVec 16) (c : Fin 16) (s : State) (r : Report),
    (if wellSet set.val = true then s.wellPath p = true else s.admits p = true ∧ s.mgmt p = true) ∧ b.getLsbD c.val = true ∧
    (s.classSt set (c.val + 1)).inFault = true ∧ r.set = set ∧ r.cls.val = c.val ∧ set.val ≠ setWIT ∧ (wellSet set.val = true ∨ 6 ≤ s.boot.step) :=
  ⟨.head 0, 3, 1, 0, fltQ, ⟨3, 0, 1, 0, 0, 0, 0⟩, by decide +kernel⟩
theorem witness_RwlFieldsStand :
    (∃ (p : Path) (off : Nat) (x : Site) (f : Fld) (s : State), s.siteAt p off = some x ∧ f ∈ x.reg.flds ∧ f.ty = .rwl) ∧
    (∃ (p : Path) (off : Nat) (s : State), (s.siteAt p off).isSome = true ∧ ∀ x ∈ (s.siteAt p off).toList, ∀ f ∈ x.reg.flds, f.ty = .rwl) :=
  ⟨⟨.head 0, 0x70004, _, SLC_TIERCFG.T2_EN, live, rfl, by decide +kernel⟩, .head 0, 0x70004, live, by decide +kernel⟩
theorem witness_AccessesNotAllowed :
    (∃ (p : Path) (off : Nat) (x : Site) (s : State), s.siteAt p off = some x ∧ ∀ i ∈ s.siteInsts p x, s.mayWrite p off x i = false) ∧
    (∃ (p : Path) (off : Nat) (x : Site) (s : State), s.siteAt p off = some x ∧ x.high = false ∧ ∀ i ∈ (s.siteInsts p x).head?, s.mayRead p off x i = false) ∧
    (∃ (h : Head) (s : State), s.linkReady h.val = true ∧ memSpace (s.head h.val) = false) :=
  ⟨⟨.head 1, 0x70004, _, live, rfl, by decide +kernel⟩, ⟨.head 1, 0x100004, _, live, rfl, by decide +kernel⟩, 0, hd 0 (fun x => cfgPut x 0x004 0x4) live, by decide +kernel⟩
theorem witness_PressIsLossless : ∃ w : List Nat, w.length = 128 ∧ (∀ x ∈ w, x < 65536) ∧ applies w 0 = true := ⟨List.replicate 128 0, by decide +kernel⟩
theorem witness_FuseControllerHold_warm : ∃ s : State, s.wellPath (.head 0) = true ∧ s.ifcSt = 0 ∧ s.ifc.armed = true ∧ s.ifc.en = true ∧ s.ifc.dry = false ∧
    (s.fget IFC_TEMP.TFET_MAX : Int) < s.ifc.tfet + 40 := ⟨held0hot, by decide +kernel⟩
theorem witness_MarginAndTemperature_voltage : ∃ s : State, s.admits .bench = true ∧ s.fget CLK_STATUS.MARGIN = 0 ∧ lifecycle s.nv = 2 ∧ 0 < s.fget CLK_MARGIN.MV :=
  ⟨devMv, by decide +kernel⟩

/-! ## Witnesses: for each statement, a state and operands that meet the hypotheses of each clause -/

theorem witness_StartUpSteps :
    (∃ (s : State), s.boot.step = 0) ∧
    (∃ (s : State), s.boot.step ≠ 0) ∧
    (∃ (s : State), s.boot.step = 3 ∧ s.ifcPg = true ∧ s.boot.railsLost = false) ∧
    (∃ (s : State), s.boot.step = 6) ∧
    (∃ (s : State), s.boot.step = 7) ∧
    (∃ (s : State), s.boot.step = 10 ∧ s.chansIn 1 = []) :=
  ⟨⟨ifcOff, by decide +kernel⟩,
   ⟨live, by decide +kernel⟩,
   ⟨step3, by decide +kernel⟩,
   ⟨step6, by decide +kernel⟩,
   ⟨step7, by decide +kernel⟩,
   ⟨step10, by decide +kernel⟩⟩

theorem witness_StartUpFailures :
    (∃ (s : State), s.boot.step = 3 ∧ s.ifcSt = 2 ∧ s.ifcCause = none ∧ s.boot.railsLost = false) ∧
    (∃ (s : State), s.boot.step = 6 ∧ s.ifcSt = 2 ∧ s.ifcCause = none ∧ s.boot.railsLost = false) :=
  ⟨⟨step3, by decide +kernel⟩,
   ⟨step6, by decide +kernel⟩⟩

theorem witness_ColdResets :
    (∃ (s : State), 6 ≤ s.boot.step ∧ s.ifcPg = true ∧ s.ifc.dry = false ∧ s.boot.railsLost = false) ∧
    (∃ (s : State), s.boot.railsLost = true ∧ s.ifcPg = true) ∧
    (∃ (s : State), s.boot.step = 3 ∧ s.boot.railsLost = true ∧ s.ifcPg = true) ∧
    (∃ (p : Path) (s : State), s.admits p = true ∧ s.admin p = true ∧ s.boot.fwRestart = false) :=
  ⟨⟨live, by decide +kernel⟩,
   ⟨railLost, by decide +kernel⟩,
   ⟨railLost3, by decide +kernel⟩,
   ⟨(.head 0 : Path), live, by decide +kernel⟩⟩

theorem witness_WarmResetAndFirmwareRestart (hW : Signed fwImg) :
    (∃ (p : Path) (s : State), s.admits p = true ∧ s.admin p = true ∧ s.boot.fwRestart = false ∧ s.fone CUT_STATUS.BUSY = false ∧ s.pwr.warmWait = none ∧ s.boot.fatal = false ∧ s.fget PWR_STATE.CUR = 0 ∧ s.fget PWR_STATE.PHASE ≠ 1 ∧ s.fone INL_RETIRE.BUSY = false ∧ s.coh.dir = [] ∧ s.coh.txns = [] ∧ s.coh.evicts = [] ∧ s.coh.sent = [] ∧ s.slc.moves = []) ∧
    (∃ (s : State), s.boot.fwUp = true ∧ s.boot.fwRestart = false) ∧
    (∃ (s : State), s.boot.fwRestart = true ∧ (checkFirmware s.nv (fwSlotImg s.nv s.boot.fwSlot)).isNone) :=
  ⟨⟨(.head 0 : Path), live, by decide +kernel⟩,
   ⟨live, by decide +kernel⟩,
   ⟨fwReA, by decide +kernel, by rw [fwRe_passes hW]; rfl⟩⟩

theorem witness_ClocksAndRelock :
    (∃ (u : Fin 3) (s : State), smGet s.boot.units u.val 0 = 1) ∧
    (∃ (u : Fin 3) (s : State), s.fget CLK_UNIT.PIN u.val = 0 ∧ s.unitRuns u.val = true ∧ s.unitBusy u.val = false ∧ s.elapsed (smGet s.boot.unitIdle u.val 0) ((s.fget CLK_UNIT.IDLE_NS u.val + 249) / 250) = true) ∧
    (∃ (u : Fin 3) (s : State), s.fget CLK_UNIT.PIN u.val = 1) ∧
    (∃ (pll : Fin 5) (s : State), s.pllLocked pll.val = true) ∧
    (∃ (pll : Fin 5) (s : State), smFind? s.boot.relock pll.val = some none) ∧
    (∃ (pll : Fin 5) (s : State) (at_ : Time), smFind? s.boot.relock pll.val = some (some at_) ∧ at_ + 4000 ≤ s.wclk) :=
  ⟨⟨(0 : Fin 3), unitsSt, by decide +kernel⟩,
   ⟨(2 : Fin 3), unitsSt, by decide +kernel⟩,
   ⟨(0 : Fin 3), live, by decide +kernel⟩,
   ⟨(0 : Fin 5), live, by decide +kernel⟩,
   ⟨(0 : Fin 5), relocking, by decide +kernel⟩,
   ⟨(1 : Fin 5), relocking, (5 : Time), by decide +kernel⟩⟩

theorem witness_ClockFaults :
    ∃ (rail : Fin 5) (mv : Nat) (s : State), s.boot.railsLost = false ∧ 5 ≤ s.boot.step ∧ s.railInWindow rail.val mv = false :=
  ⟨(0 : Fin 5), 0, live, by decide +kernel⟩

theorem witness_MarginAndTemperature :
    (∃ (s : State), s.admits .bench = true ∧ s.fget CLK_STATUS.MARGIN = 0 ∧ (lifecycle s.nv = 1 ∨ lifecycle s.nv = 2)) ∧
    (∃ (s : State), s.admits .bench = true ∧ lifecycle s.nv ≠ 1 ∧ lifecycle s.nv ≠ 2) ∧
    (∃ (s : State), s.fget CLK_STATUS.MARGIN = 1) ∧
    (∃ (n : Fin 9) (d : Nat) (s : State), 100 ≤ d ∧ s.sensorOn n.val = true) ∧
    (∃ (n : Fin 9) (d : Nat) (s : State), 120 ≤ d ∧ s.sensorOn n.val = true) ∧
    (∃ (d : Nat), d < 100) ∧
    (∃ (d : Nat), d < 120) :=
  ⟨⟨dev, by decide +kernel⟩,
   ⟨live, by decide +kernel⟩,
   ⟨margin, by decide +kernel⟩,
   ⟨(0 : Fin 9), 100, live, by decide +kernel⟩,
   ⟨(0 : Fin 9), 120, live, by decide +kernel⟩,
   ⟨0, by decide +kernel⟩,
   ⟨0, by decide +kernel⟩⟩

theorem witness_AccessesThatDoNotReachTheBench :
    (∃ (c : Instr) (p : Path) (s : State), c ∈ [.cutRead p, .secNonce p, .cutRecut p, .warmReset p, .keyQuery p 0, .fwAdvance p, .dbgLock p, .cutAdvance p, .pmuClear p, .inlIeWrite p 0, .dyePop p] ∧ p = .sideband ∧ s.benchUp = false) ∧
    (∃ (c : Instr) (h : Head) (s : State), c ∈ [.cutRead (.head h), .witInfo (.head h), .secNonce (.head h), .cutRecut (.head h), .warmReset (.head h), .keyQuery (.head h) 0, .fwAdvance (.head h), .dbgLock (.head h), .cutAdvance (.head h), .pmuClear (.head h), .inlIeWrite (.head h) 0, .dyePop (.head h)] ∧ s.linkReady h.val = false) ∧
    (∃ (c : Instr) (h : Head) (s : State), c ∈ [.cutRead (.head h), .witInfo (.head h), .secNonce (.head h), .cutRecut (.head h), .warmReset (.head h), .keyQuery (.head h) 0, .fwAdvance (.head h), .dbgLock (.head h), .cutAdvance (.head h), .pmuClear (.head h), .inlIeWrite (.head h) 0, .dyePop (.head h)] ∧ s.linkReady h.val = true ∧ s.asleep = true) :=
  ⟨⟨(.cutRead (.sideband) : Instr), (.sideband : Path), aux3, by decide +kernel⟩,
   ⟨(.cutRead (.head 0) : Instr), (0 : Head), aux3, by decide +kernel⟩,
   ⟨(.cutRead (.head 0) : Instr), (0 : Head), asleep1, by decide +kernel⟩⟩

theorem witness_Perst :
    (∃ (h : Head) (s : State), (s.head h).perst = true ∧ s.fget PWR_STATE.CUR = 0 ∧ s.fget PWR_STATE.PHASE ≠ 1 ∧ s.fget PWR_STATE.PHASE ≠ 3) ∧
    (∃ (h : Head) (s : State), (s.head h).perst = false) ∧
    (∃ (h : Head) (s : State), (s.head h).perst = false ∧ s.linkReady h.val = false) ∧
    (∃ (h : Head) (s : State), (s.head h).perst = true) :=
  ⟨⟨(2 : Head), live, by decide +kernel⟩,
   ⟨(0 : Head), live, by decide +kernel⟩,
   ⟨(1 : Head), present, by decide +kernel⟩,
   ⟨(2 : Head), live, by decide +kernel⟩⟩

theorem witness_HostLinks :
    (∃ (h : Head) (r : Fin 6) (w : Fin 32) (f : Bool) (s : State), s.mayTrain h r w f = true) ∧
    (∃ (h : Head) (s : State), s.linkReady h.val = true) ∧
    (∃ (h : Head) (s : State), s.linkReady h.val = true ∧ s.fget HP_LINK.LTSSM h = 3) ∧
    (∃ (h : Head) (s : State), s.linkReady h.val = true ∧ s.fget HP_LINK.LTSSM h = 5 ∧ s.fget PWR_STATE.CUR = 0 ∧ s.fget PWR_STATE.PHASE ≠ 1 ∧ s.fget PWR_STATE.PHASE ≠ 3) :=
  ⟨⟨(1 : Head), (0 : Fin 6), (1 : Fin 32), true, present, by decide +kernel⟩,
   ⟨(0 : Head), live, by decide +kernel⟩,
   ⟨(0 : Head), live, by decide +kernel⟩,
   ⟨(0 : Head), l1, by decide +kernel⟩⟩

theorem witness_LinkLossAndTurnOff :
    (∃ (h : Head) (s : State), s.linkReady h.val = true ∧ (s.head h).notice = true) ∧
    (∃ (h : Head) (s : State), s.linkReady h.val = true ∧ (s.head h).notice = false) ∧
    (∃ (h : Head) (s : State), (s.head h).presence = 3 ∧ (s.head h).draining = [] ∧ s.scanOver = true) ∧
    (∃ (h : Head) (s : State), s.admits (.head h) = true ∧ (s.head h).turnOff = none ∧ s.linesNaming (s.localPtr h) = [] ∧ s.sentTo (s.localPtr h) = 0) ∧
    (∃ (h : Head) (s : State), s.admits (.head h) = true ∧ (s.head h).turnOff = none ∧ s.linesNaming (s.localPtr h) ≠ []) :=
  ⟨⟨(0 : Head), notice, by decide +kernel⟩,
   ⟨(0 : Head), live, by decide +kernel⟩,
   ⟨(1 : Head), gone, by decide +kernel⟩,
   ⟨(0 : Head), live, by decide +kernel⟩,
   ⟨(0 : Head), ret1, by decide +kernel⟩⟩

theorem witness_HostCompletions :
    (∃ (h : Head) (tag : BitVec 14) (o : Nat) (at_ : Time) (s : State), smFind? (s.head h).tags tag.toNat = some (o, at_) ∧ (cfgGet (s.head h) 0x078).getLsbD 4 = false ∧ s.elapsed at_ (usT (s.cto h).1) = true) ∧
    (∃ (h : Head) (tag : BitVec 14) (at_ : Time) (why : Nat) (s : State), smFind? (s.head h).quar tag.toNat = some (at_, why) ∧ s.elapsed at_ (usT (4 * (s.cto h).2)) = true) ∧
    (∃ (h : Head) (tag : BitVec 14) (o : Nat) (at_ : Time) (s : State), s.linkReady h.val = true ∧ smFind? (s.head h).tags tag.toNat = some (o, at_)) ∧
    (∃ (h : Head) (tag : BitVec 14) (at_ : Time) (s : State), s.linkReady h.val = true ∧ smFind? (s.head h).tags tag.toNat = none ∧ smFind? (s.head h).quar tag.toNat = some (at_, 0)) ∧
    (∃ (h : Head) (tag : BitVec 14) (s : State), s.linkReady h.val = true ∧ smFind? (s.head h).tags tag.toNat = none ∧ smFind? (s.head h).quar tag.toNat = none) :=
  ⟨⟨(0 : Head), (1 : BitVec 14), 0, (5 : Time), tagged, by decide +kernel⟩,
   ⟨(0 : Head), (0 : BitVec 14), (5 : Time), 1, tagged, by decide +kernel⟩,
   ⟨(0 : Head), (1 : BitVec 14), 0, (5 : Time), tagged, by decide +kernel⟩,
   ⟨(0 : Head), (2 : BitVec 14), (5 : Time), tagged, by decide +kernel⟩,
   ⟨(0 : Head), (0 : BitVec 14), live, by decide +kernel⟩⟩

theorem witness_FunctionResetAndBusMaster :
    (∃ (h : Head) (s : State), s.admits (.head h) = true ∧ (s.head h).perst = false) ∧
    (∃ (h : Head) (s : State), s.admits (.head h) = true ∧ busMaster (s.head h) = true) :=
  ⟨⟨(0 : Head), live, by decide +kernel⟩,
   ⟨(0 : Head), live, by decide +kernel⟩⟩

theorem witness_ConfigurationWrites :
    (∃ (h : Head) (off : BitVec 12) (s : State), s.admits (.head h) = true ∧ off.toNat % 4 = 0 ∧ (s.head h).crs = true) ∧
    (∃ (h : Head) (s : State), s.admits (.head h) = true ∧ (s.head h).crs = false) ∧
    (∃ (h : Head) (off : BitVec 12) (s : State), s.admits (.head h) = true ∧ (s.head h).crs = false ∧ off.toNat % 4 = 0 ∧ off.toNat ∉ [0x004, 0x044, 0x058, 0x090, 0x238, 0x240] ∧ (off.toNat < 0x33C ∨ 0x358 ≤ off.toNat)) ∧
    (∃ (h : Head) (st : Fin 4) (s : State), s.admits (.head h) = true ∧ (st = 0 ∨ st = 3)) ∧
    (∃ (h : Head) (st : Fin 4) (s : State), s.admits (.head h) = true ∧ (st = 1 ∨ st = 2)) :=
  ⟨⟨(0 : Head), (0 : BitVec 12), crs, by decide +kernel⟩,
   ⟨(0 : Head), live, by decide +kernel⟩,
   ⟨(0 : Head), (0 : BitVec 12), live, by decide +kernel⟩,
   ⟨(0 : Head), (0 : Fin 4), live, by decide +kernel⟩,
   ⟨(0 : Head), (1 : Fin 4), live, by decide +kernel⟩⟩

theorem witness_MsixDoeAttention :
    (∃ (h : Head) (s : State), s.admits (.head h) = true ∧ memSpace (s.head h) = true) ∧
    (∃ (h : Head) (s : State), s.admits (.head h) = true) ∧
    (∃ (h : Head) (len : Nat) (s : State), s.admits (.head h) = true ∧ len ≤ 32768) ∧
    (∃ (h : Head) (len : Nat) (s : State), s.admits (.head h) = true ∧ 32768 < len) :=
  ⟨⟨(0 : Head), live, by decide +kernel⟩,
   ⟨(0 : Head), live, by decide +kernel⟩,
   ⟨(0 : Head), 0, live, by decide +kernel⟩,
   ⟨(0 : Head), 40000, live, by decide +kernel⟩⟩

theorem witness_FuseControllerRamp :
    (∃ (s : State), s.ifc.armed = false ∧ s.fget IFC_STATUS.MODEL = 0) ∧
    (∃ (x : IfcSample) (s : State), s.ifc.armed = true ∧ s.ifcHot = false ∧ s.ifcSt = 1 ∧ s.fget IFC_STATUS.PHASE = 0 ∧ s.fget IFC_STATUS.MODEL = 0 ∧ s.fget IFC_PGCFG.PG_MV ≤ x.voutMv) ∧
    (∃ (s : State), s.ifcCause = none ∧ s.ifcSt = 1 ∧ s.fget IFC_STATUS.PHASE = 1 ∧ s.ifc.timers.all (· == 0) = true ∧ 4 * max 1 (s.fget IFC_PGCFG.PG_QUAL_US) ≤ s.ifc.qual) ∧
    (∃ (s : State), s.ifc.armed = true ∧ s.ifcHot = false ∧ s.ifcSt = 2 ∧ s.ifcPg = true ∧ s.fget IFC_STATUS.MODEL = 0) :=
  ⟨⟨ifcOff, by decide +kernel⟩,
   ⟨({ ma := 1000, vinMv := 12000, voutMv := 12000, refHalfC := 50 } : IfcSample), ifcChg, by decide +kernel⟩,
   ⟨ifcQual, by decide +kernel⟩,
   ⟨ifcRun, by decide +kernel⟩⟩

theorem witness_FuseControllerTrips :
    (∃ (c : Instr) (n : Nat) (s : State), (c, n) ∈ [(Instr.curveTrip, 3), (.rampTimerExpiry, 4), (.undervoltTrip, 5), (.fastTrip, 1), (.pgQualified, 9)] ∧ s.ifcOn = true ∧ s.boot.railsLost = false ∧ (n = 3 → s.ifcCurve = true) ∧ (n = 4 → s.ifcRampOver = true) ∧ (n = 5 → s.ifcUnder = true) ∧ (n = 9 → s.ifcCause ≠ none)) ∧
    (∃ (s : State), s.ifc.armed = true ∧ s.ifcHot = true ∧ s.fget IFC_STATUS.MODEL = 0 ∧ s.boot.railsLost = false) :=
  ⟨⟨(.fastTrip : Instr), 1, live, by decide +kernel⟩,
   ⟨ifcHotS, by decide +kernel⟩⟩

theorem witness_FetTemperature :
    (∃ (s : State), s.fget IFC_STATUS.MODEL = 0) ∧
    (∃ (s : State), s.fget IFC_STATUS.MODEL = 0 ∧ s.ifc.diodeBad < 2) ∧
    (∃ (s : State), s.fget IFC_STATUS.MODEL = 0 ∧ 2 ≤ s.ifc.diodeBad) :=
  ⟨⟨ifcOff, by decide +kernel⟩,
   ⟨ifcOff, by decide +kernel⟩,
   ⟨ifcDead, by decide +kernel⟩⟩

theorem witness_FuseControllerEnableAndRearm :
    (∃ (s : State), s.ifc.en = true ∧ s.ifcCause = none ∧ s.ifcOn = true ∧ s.boot.railsLost = false) ∧
    (∃ (s : State), s.ifc.en = false ∧ s.ifc.lowFrom = none ∧ s.ifc.armed = true ∧ s.ifcSt = 0 ∧ s.fget IFC_CTL.HOLD = 0 ∧ s.ifc.dry = false ∧ s.ifc.tfet + 40 ≤ (s.fget IFC_TEMP.TFET_MAX : Int)) ∧
    (∃ (at_ : Time) (s : State), s.ifc.en = false ∧ s.ifc.lowFrom = some at_ ∧ at_ + 4000 ≤ s.wclk ∧ s.ifcSt = 4) ∧
    (∃ (p : Path) (s : State), s.admin p = true ∧ s.wellPath p = true ∧ s.ifcSt = 4 ∧ s.ifc.rearmFrom = none) ∧
    (∃ (s : State), s.ifcSt ≠ 4) ∧
    (∃ (at_ : Time) (s : State), s.ifc.rearmFrom = some at_ ∧ at_ + 4000 ≤ s.wclk ∧ s.ifcSt = 4) :=
  ⟨⟨live, by decide +kernel⟩,
   ⟨ifcLow, by decide +kernel⟩,
   ⟨(5 : Time), ifcTripped, by decide +kernel⟩,
   ⟨(.head 0 : Path), ifcTripped, by decide +kernel⟩,
   ⟨live, by decide +kernel⟩,
   ⟨(5 : Time), ifcRearming, by decide +kernel⟩⟩

theorem witness_FuseControllerHold :
    (∃ (p : Path) (s : State), s.wellPath p = true ∧ s.ifcOn = true ∧ s.boot.railsLost = false) ∧
    (∃ (p : Path) (s : State), s.wellPath p = true ∧ s.ifcSt ≠ 0) ∧
    (∃ (p : Path) (s : State), s.wellPath p = true ∧ s.ifcSt = 0 ∧ s.ifc.armed = true ∧ s.ifc.en = true ∧ s.ifc.dry = false) ∧
    (∃ (p : Path) (s : State), s.admits p = true ∧ s.admin p = true ∧ s.ifcOn = true ∧ s.ifc.offFrom = none) ∧
    (∃ (p : Path) (s : State), s.admin p = true ∧ s.wellPath p = true ∧ s.fget PWR_STATE.CUR ≠ 4 ∧ s.ifcSt = 4 ∧ s.ifc.rearmFrom = none) :=
  ⟨⟨(.head 0 : Path), live, by decide +kernel⟩,
   ⟨(.head 0 : Path), live, by decide +kernel⟩,
   ⟨(.head 0 : Path), held0, by decide +kernel⟩,
   ⟨(.head 0 : Path), live, by decide +kernel⟩,
   ⟨(.head 0 : Path), ifcTripped, by decide +kernel⟩⟩

theorem witness_PowerVotes :
    (∃ (h : Head) (v : BitVec 3) (s : State), s.linkReady h.val = true ∧ v.toNat ≤ 2) ∧
    (∃ (v : BitVec 3), 2 < v.toNat) ∧
    (∃ (v : BitVec 3), v ≠ 5 ∧ v ≠ 6) ∧
    (∃ (p : Path) (v : BitVec 3), (p ≠ .sideband ∨ v = 5 ∨ v = 6)) :=
  ⟨⟨(0 : Head), (0 : BitVec 3), live, by decide +kernel⟩,
   ⟨(3 : BitVec 3), by decide +kernel⟩,
   ⟨(0 : BitVec 3), by decide +kernel⟩,
   ⟨(.head 0 : Path), (0 : BitVec 3), by decide +kernel⟩⟩

theorem witness_PowerEntry :
    (∃ (s : State), s.fget PWR_STATE.PHASE = 1 ∧ s.entryDrained = true ∧ s.pwr.goal = 1) ∧
    (∃ (s : State), s.fget PWR_STATE.PHASE = 1 ∧ s.entryDrained = true ∧ (s.pwr.goal = 2 ∨ s.pwr.goal = 3)) ∧
    (∃ (s : State), s.fget PWR_STATE.PHASE = 1 ∧ s.entryDrained = true ∧ s.pwr.goal = 4 ∧ s.boot.railsLost = false) ∧
    (∃ (s : State), s.fget PWR_STATE.PHASE = 1 ∧ s.entryDrained = false) ∧
    (∃ (s : State), s.fget PWR_STATE.PHASE = 1 ∧ s.elapsed s.pwr.entryFrom (4 * max 10 (s.fget PWR_CTL.ENTRY_MAX_US)) = true) ∧
    (∃ (s : State), s.fget PWR_STATE.PHASE = 1 ∧ s.elapsed s.pwr.entryFrom (16 * max 10 (s.fget PWR_CTL.ENTRY_MAX_US)) = true) :=
  ⟨⟨ent1, by decide +kernel⟩,
   ⟨ent2, by decide +kernel⟩,
   ⟨ent4, by decide +kernel⟩,
   ⟨entBusy, by decide +kernel⟩,
   ⟨ent1, by decide +kernel⟩,
   ⟨ent1, by decide +kernel⟩⟩

theorem witness_WakeTriggers :
    (∃ (src : Fin 7) (s : State), src ≠ 0 ∧ (s.fget PWR_STATE.CUR = 2 ∨ s.fget PWR_STATE.CUR = 3) ∧ s.fget PWR_STATE.PHASE = 0 ∧ s.pwr.failed = false) ∧
    (∃ (src : Fin 7) (s : State), s.fget PWR_STATE.CUR = 1 ∧ s.fget PWR_STATE.PHASE = 0 ∧ s.pwr.failed = false ∧ src ≠ 0 ∧ src ≠ 3) ∧
    (∃ (src : Fin 7) (s : State), s.fget PWR_STATE.CUR = 1 ∧ s.fget PWR_STATE.PHASE = 0 ∧ s.pwr.failed = false ∧ (src = 0 ∨ src = 3)) ∧
    (∃ (src : Fin 7) (s : State), src ≠ 0 ∧ s.fget PWR_STATE.PHASE = 1) ∧
    (∃ (s : State), s.fget PWR_STATE.CUR = 0 ∧ s.fget PWR_STATE.PHASE ≠ 1 ∧ s.fget PWR_STATE.PHASE ≠ 3) ∧
    (∃ (s : State), s.fget PWR_STATE.CUR < 2) ∧
    (∃ (s : State), (s.fget PWR_STATE.CUR = 2 ∨ s.fget PWR_STATE.CUR = 3) ∧ s.fget PWR_STATE.PHASE = 0 ∧ s.pwr.failed = false) ∧
    (∃ (s : State), s.pwr.sclHeld = true ∧ s.pwr.sclFrom + 8400 ≤ s.wclk) :=
  ⟨⟨(1 : Fin 7), asleep2, by decide +kernel⟩,
   ⟨(1 : Fin 7), asleep1, by decide +kernel⟩,
   ⟨(0 : Fin 7), asleep1, by decide +kernel⟩,
   ⟨(1 : Fin 7), ent1, by decide +kernel⟩,
   ⟨live, by decide +kernel⟩,
   ⟨live, by decide +kernel⟩,
   ⟨asleep2, by decide +kernel⟩,
   ⟨sclHeld, by decide +kernel⟩⟩

theorem witness_WakeStepsAndReentry :
    (∃ (s : State), s.fget PWR_STATE.PHASE = 3 ∧ s.pwr.failed = false ∧ s.pwr.rerun = false ∧ s.elapsed s.pwr.stepFrom ((s.fget PWR_WSTEP.DELAY_NS s.wakeIdx + 249) / 250) = true) ∧
    (∃ (s : State), s.fget PWR_STATE.PHASE = 3 ∧ s.pwr.failed = false ∧ s.pwr.rerun = true ∧ s.elapsed s.pwr.stepFrom ((s.fget PWR_WMAX.NS s.wakeIdx + 249) / 250) = true) ∧
    (∃ (s : State), s.fget PWR_STATE.PHASE = 3 ∧ s.pwr.failed = false ∧ s.pwr.rerun = false ∧ s.pwr.wakeStep < 15 ∧ s.fone PWR_WSTEP.VALID (s.wakeIdx + 1) = true ∧ s.elapsed s.pwr.stepFrom ((s.fget PWR_WSTEP.DELAY_NS s.wakeIdx + 249) / 250) = true) ∧
    (∃ (s : State), s.fget PWR_STATE.PHASE = 3 ∧ s.pwr.failed = false ∧ s.pwr.rerun = false ∧ s.fone PWR_WSTEP.VALID (s.wakeIdx + 1) = false ∧ s.pwr.held = [] ∧ s.elapsed s.pwr.stepFrom ((s.fget PWR_WSTEP.DELAY_NS s.wakeIdx + 249) / 250) = true) ∧
    (∃ (s : State), s.fget PWR_STATE.PHASE = 4 ∧ s.fget PWR_STATE.TARGET ≠ 0 ∧ s.idle = true ∧ s.slc.moves = [] ∧ s.mayEnter = true ∧ s.elapsed s.pwr.idleFrom (4 * max 1 (s.fget PWR_CTL.REENTRY_US)) = true) ∧
    (∃ (c : Chan) (b : Nat) (s : State), (s.chan c).suspect.contains b = true) :=
  ⟨⟨wake21, by decide +kernel⟩,
   ⟨wakeRe, by decide +kernel⟩,
   ⟨wake21, by decide +kernel⟩,
   ⟨wake22, by decide +kernel⟩,
   ⟨excur, by decide +kernel⟩,
   ⟨(0 : Chan), 3, suspect, by decide +kernel⟩⟩

theorem witness_ManagementCommandsTurnedAway :
    (∃ (c : Instr) (p : Path) (s : State), adminPath c = some p ∧ s.admits p = true ∧ s.boot.fwRestart = true) ∧
    (∃ (c : Instr) (p : Path) (s : State), adminPath c = some p ∧ s.admits p = true ∧ s.boot.fwRestart = false ∧ s.admin p = false) :=
  ⟨⟨(.cutRead (.sideband) : Instr), (.sideband : Path), fwRe, by decide +kernel⟩,
   ⟨(.cutRead (.head 1) : Instr), (.head 1 : Path), live, by decide +kernel⟩⟩

theorem witness_CutListCommands (hF : Signed fullImg) (hP : Signed patchImg) :
    (∃ (p : Path) (img : List Byte) (f : CutFail) (s : State), s.adminReady p = true ∧ checkImage (s.onMailbox p) .stream img = some f) ∧
    (∃ (p : Path) (img : List Byte) (s : State), s.adminReady p = true ∧ checkImage (s.onMailbox p) .stream img = none) ∧
    (∃ (p : Path) (img : List Byte) (f : CutFail) (s : State), s.adminReady p = true ∧ checkImage (s.onMailbox p) .live img = some f) ∧
    (∃ (p : Path) (img : List Byte) (s : State), s.adminReady p = true ∧ checkImage (s.onMailbox p) .live img = none) ∧
    (∃ (p : Path) (img : List Byte) (f : CutFail) (s : State), s.adminReady p = true ∧ checkImage (s.onMailbox p) .slot img = some f) ∧
    (∃ (p : Path) (img : List Byte) (s : State), s.adminReady p = true ∧ checkImage (s.onMailbox p) .slot img = none) ∧
    (∃ (p : Path) (s : State), s.adminReady p = true ∧ s.fget CUT_STATUS.SOURCE < 2) ∧
    (∃ (p : Path) (s : State), s.adminReady p = true ∧ 2 ≤ s.fget CUT_STATUS.SOURCE) ∧
    (∃ (p : Path) (s : State), s.adminReady p = true) :=
  ⟨⟨.head 0, [], (checkImage (live.onMailbox (.head 0)) .stream []).get (by decide +kernel), live, by decide +kernel⟩,
   ⟨.head 0, fullImg, live, by decide +kernel, full_streams hF⟩,
   ⟨.head 0, [], (checkImage (live.onMailbox (.head 0)) .live []).get (by decide +kernel), live, by decide +kernel⟩,
   ⟨.head 0, patchImg, live, by decide +kernel, patch_applies hP⟩,
   ⟨.head 0, [], (checkImage (live.onMailbox (.head 0)) .slot []).get (by decide +kernel), live, by decide +kernel⟩,
   ⟨.head 0, fullImg, live, by decide +kernel, full_fits_slot hF⟩,
   ⟨(.head 0 : Path), live, by decide +kernel⟩,
   ⟨(.head 0 : Path), src2, by decide +kernel⟩,
   ⟨(.head 0 : Path), live, by decide +kernel⟩⟩

theorem witness_BoardAndFirmwareCommands (hW : Signed fwImg) :
    (∃ (p : Path) (rec_ : List Byte) (s : State), s.adminReady p = true ∧ lifecycle s.nv ≤ 2 ∧ (boardIds rec_).isSome = true) ∧
    (∃ (p : Path) (rec_ : List Byte) (s : State), s.adminReady p = true ∧ lifecycle s.nv ≤ 2 ∧ boardIds rec_ = none) ∧
    (∃ (p : Path) (s : State), s.adminReady p = true ∧ 2 < lifecycle s.nv) ∧
    (∃ (p : Path) (s : State), s.adminReady p = true ∧ s.boot.fwUp = true) ∧
    (∃ (p : Path) (img : List Byte) (s : State), s.adminReady p = true ∧ checkFirmware s.nv img = none ∧ s.boot.fwUp = true) ∧
    (∃ (p : Path) (img : List Byte) (s : State), s.adminReady p = true ∧ (checkFirmware s.nv img).isSome = true) :=
  ⟨⟨.head 0, boardRec, live, by decide +kernel⟩,
   ⟨.head 0, [], live, by decide +kernel⟩,
   ⟨.head 0, prod, by decide +kernel⟩,
   ⟨(.head 0 : Path), live, by decide +kernel⟩,
   ⟨.head 0, fwImg, live, by decide +kernel, fw_passes hW, by decide +kernel⟩,
   ⟨.head 0, [], live, by decide +kernel⟩⟩

theorem witness_DebugSession (hU : Verified Config.vendorKey tok0) :
    (∃ (p : Path) (s : State), s.adminReady p = true) ∧
    (∃ (n : BitVec 256) (at_ : Time) (s : State), s.sec.nonce = some (n, at_) ∧ at_ + secT 600 ≤ s.wclk) ∧
    (∃ (n : BitVec 256) (at_ : Time) (s : State), s.sec.nonce = some (n, at_) ∧ s.wclk < at_ + secT 600) ∧
    (∃ (p : Path) (tok : Token) (s : State), s.adminReady p = true ∧ s.tokenResult 1 tok = 0 ∧ s.sec.dbgUntil = none) ∧
    (∃ (p : Path) (tok : Token) (u : Time) (s : State), s.adminReady p = true ∧ s.tokenResult 1 tok = 0 ∧ s.sec.dbgUntil = some u) ∧
    (∃ (p : Path) (tok : Token) (s : State), s.adminReady p = true ∧ s.tokenResult 1 tok ≠ 0) ∧
    (∃ (p : Path) (u : Time) (s : State), s.adminReady p = true ∧ s.sec.dbgUntil = some u) ∧
    (∃ (p : Path) (u : Time) (s : State), s.admits p = true ∧ s.mgmt p = true ∧ s.sec.dbgUntil = some u) ∧
    (∃ (u : Time) (s : State), s.sec.dbgUntil = some u ∧ u ≤ s.wclk) ∧
    (∃ (u : Time) (s : State), s.sec.dbgUntil = some u ∧ s.wclk < u) ∧
    (∃ (s : State), s.admits .bench = true) ∧
    (∃ (p : Path) (s : State), p ≠ .bench ∧ s.admits p = true) :=
  ⟨⟨(.head 0 : Path), live, by decide +kernel⟩,
   ⟨(7 : BitVec 256), (5 : Time), nonceOld, by decide +kernel⟩,
   ⟨(7 : BitVec 256), (5 : Time), nonce3, by decide +kernel⟩,
   ⟨.head 0, tok0, retN, by decide +kernel, unlock_ok hU, by decide +kernel⟩,
   ⟨.head 0, tok0, 1000001, dbgR, by decide +kernel, unlock_again hU, by decide +kernel⟩,
   ⟨(.head 0 : Path), ({ tok0 with nonce := 0 } : Token), live, by decide +kernel⟩,
   ⟨(.head 0 : Path), (1000001 : Time), dbgS, by decide +kernel⟩,
   ⟨(.head 0 : Path), (1000001 : Time), dbgS, by decide +kernel⟩,
   ⟨(1000000 : Time), dbgEnd, by decide +kernel⟩,
   ⟨(1000001 : Time), dbgS, by decide +kernel⟩,
   ⟨live, by decide +kernel⟩,
   ⟨(.head 0 : Path), live, by decide +kernel⟩⟩

theorem witness_LifecycleAndOwnerKeys (hD : Verified Config.vendorKey tokDev) (hN : Verified tokEnrol.pubkey tokEnrol) (hR : Verified tokRevoke.pubkey tokRevoke) :
    (∃ (s : State), s.admits .sideband = true ∧ s.boot.fwRestart = false ∧ lifecycle s.nv = 0) ∧
    (∃ (h : Head) (s : State), s.admits (.head h) = true ∧ s.boot.fwRestart = false) ∧
    (∃ (p : Path) (tok : Token) (s : State), s.adminReady p = true ∧ s.tokenResult 2 tok = 0) ∧
    (∃ (p : Path) (tok : Token) (s : State), s.adminReady p = true ∧ s.tokenResult 2 tok ≠ 0) ∧
    (∃ (p : Path) (slot : Fin 4) (s : State), s.adminReady p = true ∧ (lifecycle s.nv = 1 ∨ lifecycle s.nv = 2) ∧ ownerIn s.nv (slot.val + 1) = false) ∧
    (∃ (p : Path) (s : State), s.adminReady p = true ∧ lifecycle s.nv = 3) ∧
    (∃ (p : Path) (tok : Token) (s : State), s.adminReady p = true ∧ s.tokenResult 3 tok = 0) ∧
    (∃ (p : Path) (tok : Token) (s : State), s.adminReady p = true ∧ s.tokenResult 4 tok = 0) ∧
    (∃ (p : Path) (tok : Token) (s : State), s.adminReady p = true ∧ s.tokenResult 4 tok ≠ 0) :=
  ⟨⟨live, by decide +kernel⟩,
   ⟨(0 : Head), live, by decide +kernel⟩,
   ⟨.head 0, tokDev, nonce manu, by decide +kernel, develop_ok hD⟩,
   ⟨(.head 0 : Path), ({ tok0 with nonce := 0 } : Token), live, by decide +kernel⟩,
   ⟨(.head 0 : Path), (0 : Fin 4), dev, by decide +kernel⟩,
   ⟨(.head 0 : Path), prod, by decide +kernel⟩,
   ⟨.head 0, tokEnrol, ownS, by decide +kernel, enrol_ok hN⟩,
   ⟨.head 0, tokRevoke, ownS, by decide +kernel, revoke_ok hR⟩,
   ⟨(.head 0 : Path), ({ tok0 with nonce := 0 } : Token), live, by decide +kernel⟩⟩

theorem witness_TapInstructions :
    (∃ (c : Instr) (n : Nat) (s : State), tapCode c = some n ∧ s.tapGate n = .refuse) ∧
    (∃ (c : Instr) (n : Nat) (s : State), tapCode c = some n ∧ s.tapGate n = .wait) ∧
    (∃ (c : Instr) (n : Nat) (s : State), tapCode c = some n ∧ s.tapGate n = .wake) ∧
    (∃ (s : State), s.tapGate 0x02 = .serve) ∧
    (∃ (s : State), s.tapGate 0x03 = .serve) ∧
    (∃ (s : State), s.tapGate 0x04 = .serve) ∧
    (∃ (c : Instr) (n : Nat) (s : State), ((c = .extest ∧ n = 0) ∨ (c = .samplePreload ∧ n = 1) ∨ ∃ code : Fin 16, c = .tapPrivate code ∧ n = 0x30 + code.val) ∧ s.tapGate n = .serve) ∧
    (∃ (s : State), s.tapGate 0x12 = .serve) ∧
    (∃ (s : State), s.tapGate 0x20 = .serve) ∧
    (∃ (s : State), s.tapGate 0x11 = .serve) ∧
    (∃ (s : State), s.tapGate 0x10 = .serve) :=
  ⟨⟨(.extest : Instr), 0, live, by decide +kernel⟩,
   ⟨(.token { magic := 0x4B4F544B, kind := 1, arg := 0, signer := 0, serial := 0, nonce := 0, duration := 60, reserved := 0, digest := 0, pubkey := 0, sig := 0 } : Instr), 16, prodP2, by decide +kernel⟩,
   ⟨(.bdbg : Instr), 32, asleep2, by decide +kernel⟩,
   ⟨live, by decide +kernel⟩,
   ⟨step6, by decide +kernel⟩,
   ⟨step6, by decide +kernel⟩,
   ⟨(.samplePreload : Instr), 1, live, by decide +kernel⟩,
   ⟨live, by decide +kernel⟩,
   ⟨live, by decide +kernel⟩,
   ⟨live, by decide +kernel⟩,
   ⟨live, by decide +kernel⟩⟩

theorem witness_SpdmResponder :
    (∃ (p : Path) (r : SpdmReq) (s : State), s.spdmReady p = true ∧ r.version = 0x10) ∧
    (∃ (p : Path) (r : SpdmReq) (s : State), s.spdmReady p = true ∧ r.version ≠ 0x10) ∧
    (∃ (p : Path) (r : SpdmReq) (s : State), s.spdmReady p = true ∧ lifecycle s.nv ≠ 5 ∧ r.version = 0x12 ∧ 1 ≤ s.spdmStage p) ∧
    (∃ (p : Path) (r : SpdmReq) (s : State), s.spdmReady p = true ∧ lifecycle s.nv ≠ 5 ∧ r.version = 0x12 ∧ 2 ≤ s.spdmStage p) ∧
    (∃ (p : Path) (r : SpdmReq) (s : State), s.spdmReady p = true ∧ lifecycle s.nv ≠ 5 ∧ r.version = 0x12 ∧ 3 ≤ s.spdmStage p) ∧
    (∃ (p : Path) (r : SpdmReq) (s : State), s.spdmReady p = true ∧ lifecycle s.nv ≠ 5 ∧ r.version = 0x12 ∧ 3 ≤ s.spdmStage p ∧ r.param1 = 0) ∧
    (∃ (p : Path) (r : SpdmReq) (s : State), s.spdmReady p = true ∧ lifecycle s.nv ≠ 5 ∧ r.version = 0x12 ∧ 3 ≤ s.spdmStage p ∧ r.param1 ≠ 0) ∧
    (∃ (p : Path) (r : SpdmReq) (s : State), s.spdmReady p = true ∧ lifecycle s.nv ≠ 5 ∧ r.version = 0x12 ∧ 3 ≤ s.spdmStage p ∧ r.param2 = 0 ∧ (s.sessionsOf p).length < 4) ∧
    (∃ (p : Path) (r : SpdmReq) (s : State), s.spdmReady p = true ∧ lifecycle s.nv ≠ 5 ∧ r.version = 0x12 ∧ 3 ≤ s.spdmStage p ∧ r.param2 = 0 ∧ 4 ≤ (s.sessionsOf p).length) ∧
    (∃ (p : Path) (sid : Word) (r : SpdmReq) (s : State), s.spdmReady p = true ∧ lifecycle s.nv ≠ 5 ∧ r.version = 0x12 ∧ 3 ≤ s.spdmStage p ∧ ((s.sessionsOf p).any fun x => x.id == sid && !x.live) = true) ∧
    (∃ (p : Path) (sid : Word) (s : State), s.spdmReady p = true ∧ lifecycle s.nv ≠ 5 ∧ s.sessionLive p sid = true) ∧
    (∃ (h : Head) (sid : Word) (s : State), s.spdmReady (.head h) = true ∧ lifecycle s.nv ≠ 5 ∧ s.sessionLive (.head h) sid = true) ∧
    (∃ (h : Head) (sid : Word) (s : State), s.spdmReady (.head h) = true ∧ lifecycle s.nv ≠ 5 ∧ s.sessionLive (.head h) sid = true ∧ (s.head h).ideKeys.2 = true) ∧
    (∃ (p : Path) (s : State), s.spdmReady p = true ∧ lifecycle s.nv = 5) ∧
    (∃ (p : Path) (r : SpdmReq) (s : State), s.spdmReady p = true ∧ lifecycle s.nv ≠ 5 ∧ r.version ≠ 0x12) :=
  ⟨⟨(.head 0 : Path), ({ version := 16, param1 := 0, param2 := 0, body := [] } : SpdmReq), live, by decide +kernel⟩,
   ⟨(.head 0 : Path), ({ version := 18, param1 := 0, param2 := 0, body := [] } : SpdmReq), live, by decide +kernel⟩,
   ⟨(.head 0 : Path), ({ version := 18, param1 := 0, param2 := 0, body := [] } : SpdmReq), spdm1, by decide +kernel⟩,
   ⟨(.head 0 : Path), ({ version := 18, param1 := 0, param2 := 0, body := [] } : SpdmReq), spdm3, by decide +kernel⟩,
   ⟨(.head 0 : Path), ({ version := 18, param1 := 0, param2 := 0, body := [] } : SpdmReq), spdm3, by decide +kernel⟩,
   ⟨(.head 0 : Path), ({ version := 18, param1 := 0, param2 := 0, body := [] } : SpdmReq), spdm3, by decide +kernel⟩,
   ⟨(.head 0 : Path), ({ version := 18, param1 := 1, param2 := 0, body := [1] } : SpdmReq), spdm3, by decide +kernel⟩,
   ⟨(.head 0 : Path), ({ version := 18, param1 := 0, param2 := 0, body := [] } : SpdmReq), spdm3, by decide +kernel⟩,
   ⟨(.head 0 : Path), ({ version := 18, param1 := 0, param2 := 0, body := [] } : SpdmReq), spdmFull, by decide +kernel⟩,
   ⟨(.head 0 : Path), (3 : Word), ({ version := 18, param1 := 0, param2 := 0, body := [] } : SpdmReq), spdm3, by decide +kernel⟩,
   ⟨(.head 0 : Path), (1 : Word), spdm1, by decide +kernel⟩,
   ⟨(0 : Head), (1 : Word), spdm1, by decide +kernel⟩,
   ⟨(0 : Head), (1 : Word), ideSpdm, by decide +kernel⟩,
   ⟨(.head 0 : Path), decom, by decide +kernel⟩,
   ⟨(.head 0 : Path), ({ version := 16, param1 := 0, param2 := 0, body := [] } : SpdmReq), live, by decide +kernel⟩⟩

theorem witness_KeySlots (hK : Unwraps) :
    (∃ (p : Path) (w : WrappedKey) (s : State), s.admits p = true ∧ s.boot.fwRestart = false ∧ s.keyPath p w.keyId.toNat = true ∧ lifecycle s.nv < 4 ∧ (w.mode = 2 → lifecycle s.nv = 2) ∧ s.sec.dbgUntil = none ∧ s.keyLoadBad p w = false ∧ (s.slot w.keyId.toNat).state = 0) ∧
    (∃ (p : Path) (s : State), s.admits p = true ∧ s.boot.fwRestart = false ∧ s.sec.dbgUntil.isSome = true) ∧
    (∃ (p : Path) (k : KeyId) (rs : List FillRange) (s : State), s.admits p = true ∧ s.boot.fwRestart = false ∧ s.keyOwner p k.toNat = true ∧ k ≠ 0 ∧ rs.length ≤ 4 ∧ s.fone INL_RETIRE.BUSY = false ∧ (s.slot k.toNat).state ≠ 0 ∧ (s.slot k.toNat).state ≠ 4) ∧
    (∃ (p : Path) (k : KeyId) (rs : List FillRange) (s : State), s.admits p = true ∧ s.boot.fwRestart = false ∧ s.keyOwner p k.toNat = true ∧ k ≠ 0 ∧ rs.length ≤ 4 ∧ s.fone INL_RETIRE.BUSY = true) ∧
    (∃ (s : State), s.admits .bench = true ∧ s.coh.walk = none) ∧
    (∃ (l : List Nat) (s : State), s.coh.walk = some l ∧ (∀ ln ∈ l, s.walkWaits (s.fget COH_KWALK.KEY) ln = false)) ∧
    (∃ (s : State), s.retireAt 3 = true ∧ s.inFlightUnder (s.fget INL_RETIRE.KEY) = false ∧ s.inl.aborted = false) ∧
    (∃ (s : State), s.retireAt 4 = true) ∧
    (∃ (p : Path) (k : KeyId) (s : State), s.admits p = true ∧ s.boot.fwRestart = false ∧ k ≠ 0 ∧ s.keyOwner p k.toNat = true ∧ (s.slot k.toNat).state = 4) ∧
    (∃ (p : Path) (s : State), s.admits p = true ∧ s.boot.fwRestart = false ∧ s.mgmt p = true ∧ s.sec.dbgUntil = none ∧ (s.slot 0).state = 4) ∧
    (∃ (p : Path) (k : KeyId) (s : State), s.admits p = true ∧ s.boot.fwRestart = false ∧ (s.mgmt p = true ∨ s.keyPath p k.toNat = true)) :=
  ⟨⟨.head 0, wrap1, spdm1, by decide +kernel, by decide +kernel, by decide +kernel, by decide +kernel, by decide +kernel, by decide +kernel, key_ok hK, by decide +kernel⟩,
   ⟨(.head 0 : Path), dbgS, by decide +kernel⟩,
   ⟨(.head 0 : Path), (1 : KeyId), ([] : List FillRange), keys1, by decide +kernel⟩,
   ⟨(.head 0 : Path), (1 : KeyId), ([] : List FillRange), ret1, by decide +kernel⟩,
   ⟨live, by decide +kernel⟩,
   ⟨([] : List Nat), ret2, by decide +kernel⟩,
   ⟨ret3, by decide +kernel⟩,
   ⟨ret4, by decide +kernel⟩,
   ⟨(.head 0 : Path), (2 : KeyId), keys1, by decide +kernel⟩,
   ⟨(.head 0 : Path), keys0r, by decide +kernel⟩,
   ⟨(.head 0 : Path), (0 : KeyId), live, by decide +kernel⟩⟩

theorem witness_XtsEngines :
    (∃ (n : Nat) (e : Fin 4) (x : Txn) (h : Head) (s : State), s.txn? n = some x ∧ x.phase = .xts ∧ x.job = none ∧ x.src = .head h ∧ s.unitRuns 0 = true ∧ s.fbitAt INL_XTS.DEC_FENCED 0 e = false) ∧
    (∃ (n : Nat) (e : Fin 4) (x : Txn) (s : State), s.txn? n = some x ∧ x.phase = .xts ∧ x.tries < 2 ∧ s.unitRuns 0 = true ∧ s.fbitAt INL_XTS.DEC_FENCED 0 e = false) ∧
    (∃ (ch : Chan) (n : Nat) (x : Txn) (e : Fin 4) (s : State), s.toEncrypt ch = some (n, x) ∧ s.unitRuns 0 = true ∧ s.fbitAt INL_XTS.ENC_FENCED 0 e = false) ∧
    (∃ (ch : Chan) (n : Nat) (x : Txn) (e : Fin 4) (s : State), s.toEncrypt ch = some (n, x) ∧ 2 ≤ x.tries ∧ s.unitRuns 0 = true ∧ s.fbitAt INL_XTS.ENC_FENCED 0 e = false) ∧
    (∃ (p : Path) (s : State), s.admits p = true ∧ s.mgmt p = true) :=
  ⟨⟨0, (0 : Fin 4), ((xtsR.txn? 0).get (by decide +kernel)), (0 : Head), xtsR, by decide +kernel⟩,
   ⟨0, (0 : Fin 4), ((xtsR.txn? 0).get (by decide +kernel)), xtsR, by decide +kernel⟩,
   ⟨(0 : Chan), 0, ((xtsW0.toEncrypt (0 : Chan)).get (by decide +kernel)).2, (0 : Fin 4), xtsW0, by decide +kernel⟩,
   ⟨(0 : Chan), 0, ((xtsW2.toEncrypt (0 : Chan)).get (by decide +kernel)).2, (0 : Fin 4), xtsW2, by decide +kernel⟩,
   ⟨(.head 0 : Path), live, by decide +kernel⟩⟩

theorem witness_FaultReports :
    (∃ (r : Report) (s : State), (wellSet r.set.val = true ∨ 6 ≤ s.boot.step) ∧ r.set.val ≠ setWIT) ∧
    (∃ (r : Report) (s : State), wellSet r.set.val = false ∧ s.boot.step < 6) ∧
    (∃ (p : Path) (set : Fin 31) (s : State), wellSet set.val = false ∧ s.admits p = true ∧ s.mgmt p = true) ∧
    (∃ (p : Path) (set : Fin 31) (s : State), wellSet set.val = true ∧ s.wellPath p = true) ∧
    (∃ (p : Path) (set : Fin 31) (s : State), wellSet set.val = false ∧ s.admits p = true ∧ s.mgmt p = false) ∧
    (∃ (set : Fin 31) (cls : Fin 16) (at_ : Time) (s : State), set.val ≠ setWIT ∧ smFind? s.flt.quiet (set.val * 16 + cls.val) = some at_ ∧ (s.classSt set (cls.val + 1)).inFault = true ∧ (s.classSt set (cls.val + 1)).level ≠ 3 ∧ s.fone FLT_STATUS.HELD set = false ∧ s.mayRecover set (cls.val + 1) = true ∧ s.elapsed at_ (msT (s.fget FLT_POLICY0.QUIET_MS set)) = true) ∧
    (∃ (set : Fin 31) (cls : Fin 16) (s : State), ((s.classSt set (cls.val + 1)).level = 3 ∨ s.fone FLT_STATUS.HELD set = true)) :=
  ⟨⟨({ set := 5, cls := 0, base := 0, syndrome := 1, addr := 2, aux := 3, unit := 4 } : Report), live, by decide +kernel⟩,
   ⟨({ set := 5, cls := 0, base := 0, syndrome := 1, addr := 2, aux := 3, unit := 4 } : Report), aux3, by decide +kernel⟩,
   ⟨(.head 0 : Path), (3 : Fin 31), live, by decide +kernel⟩,
   ⟨(.head 0 : Path), (23 : Fin 31), live, by decide +kernel⟩,
   ⟨(.head 1 : Path), (3 : Fin 31), live, by decide +kernel⟩,
   ⟨(3 : Fin 31), (0 : Fin 16), (1000000 : Time), fltQ, by decide +kernel⟩,
   ⟨(3 : Fin 31), (0 : Fin 16), fltH, by decide +kernel⟩⟩

theorem witness_WitnessLog :
    (∃ (set : Fin 31) (cls : Fin 16) (w : WitWin) (s : State), smFind? s.wit.windows (blockOf set.val * 32 + cls.val) = some w ∧ w.first = none ∧ s.elapsed w.from_ (msT 1) = true) ∧
    (∃ (set : Fin 31) (cls : Fin 16) (w : WitWin) (r : WitRec) (s : State), smFind? s.wit.windows (blockOf set.val * 32 + cls.val) = some w ∧ w.first = some r ∧ s.elapsed w.from_ (msT 1) = true ∧ s.wit.staging.length < 128) ∧
    (∃ (n : Nat) (s : State), s.wit.erasing = some n) ∧
    (∃ (s : State), s.witReady = true ∧ s.wit.lost = []) ∧
    (∃ (s : State), s.witReady = true) ∧
    (∃ (p : Path) (first : Word) (n : Nat) (from_ : Nat) (l : List WitRec) (s : State), s.adminReady p = true ∧ 1 ≤ n ∧ n ≤ 1023 ∧ from_ = (if first = 0xFFFFFFFF#32 then s.witOldest else max first.toNat s.witOldest) ∧ l = (s.witAll.filter fun r => decide (from_ ≤ r.seq)).take n) ∧
    (∃ (p : Path) (n : Nat) (s : State), s.adminReady p = true ∧ (n = 0 ∨ 1023 < n)) ∧
    (∃ (p : Path) (s : State), s.adminReady p = true) ∧
    (∃ (s : State), s.benchUp = false) ∧
    (∃ (s : State), s.admits .sideband = true ∧ s.boot.fwRestart = false ∧ lifecycle s.nv ≤ 1) ∧
    (∃ (h : Head) (s : State), s.admits (.head h) = true ∧ s.boot.fwRestart = false) :=
  ⟨⟨(0 : Fin 31), (0 : Fin 16), ((smFind? witWin.wit.windows (blockOf (0 : Fin 31).val * 32 + (0 : Fin 16).val)).get (by decide +kernel)), witWin, by decide +kernel⟩,
   ⟨(0 : Fin 31), (1 : Fin 16), ((smFind? witWin.wit.windows (blockOf (0 : Fin 31).val * 32 + (1 : Fin 16).val)).get (by decide +kernel)), ((((smFind? witWin.wit.windows (blockOf (0 : Fin 31).val * 32 + (1 : Fin 16).val)).get (by decide +kernel)).first).get (by decide +kernel)), witWin, by decide +kernel⟩,
   ⟨3, witErasing, by decide +kernel⟩,
   ⟨witRdy, by decide +kernel⟩,
   ⟨witRdy, by decide +kernel⟩,
   ⟨(.head 0 : Path), (0 : Word), 1, 0, ((live.witAll.filter fun r => decide (0 ≤ r.seq)).take 1), live, by decide +kernel⟩,
   ⟨(.head 0 : Path), 0, live, by decide +kernel⟩,
   ⟨(.head 0 : Path), live, by decide +kernel⟩,
   ⟨aux3, by decide +kernel⟩,
   ⟨live, by decide +kernel⟩,
   ⟨(0 : Head), live, by decide +kernel⟩⟩

theorem witness_CountersAndDye :
    (∃ (p : Path) (u : Nat) (s : State), s.admits p = true ∧ s.mgmt p = true ∧ s.fget PMU_UNITSEL.UNIT (pathNo p) = u ∧ u < 12) ∧
    (∃ (p : Path) (s : State), s.admits p = true ∧ s.mgmt p = true ∧ s.fget PMU_UNITSEL.UNIT (pathNo p) = 31) ∧
    (∃ (h : Head) (s : State), s.admits (.head h) = true ∧ s.headMgmt h.val = false) ∧
    (∃ (u : Fin 12) (n : Fin 8) (s : State), s.fone PMU_EVSEL.EN (u.val * 8 + n.val) = true ∧ s.fone PMU_CTL.FREEZE u = false ∧ s.fget PMU_CTR.COUNT (u.val * 8 + n.val) = 2 ^ 48 - 1) ∧
    (∃ (p : Path) (s : State), s.admits p = true ∧ s.mgmt p = true) :=
  ⟨⟨(.head 0 : Path), 0, live, by decide +kernel⟩,
   ⟨(.head 0 : Path), pmu31, by decide +kernel⟩,
   ⟨(1 : Head), live, by decide +kernel⟩,
   ⟨(0 : Fin 12), (0 : Fin 8), pmuTop, by decide +kernel⟩,
   ⟨(.head 0 : Path), live, by decide +kernel⟩⟩

theorem witness_RegisterAccesses :
    (∃ (h : Head) (off : Nat) (x : Site) (s : State), s.admits (.head h) = true ∧ memSpace (s.head h) = true ∧ wellOff off = false ∧ off % 4 = 0 ∧ s.siteAt (.head h) off = some x ∧ x.reg.wide = false ∧ x.high = false) ∧
    (∃ (h : Head) (off : Nat) (x : Site) (s : State), s.admits (.head h) = true ∧ memSpace (s.head h) = true ∧ wellOff off = false ∧ off % 4 = 0 ∧ s.siteAt (.head h) off = some x ∧ x.reg.wide = true ∧ x.high = false) ∧
    (∃ (h : Head) (off : Nat) (x : Site) (s : State), s.admits (.head h) = true ∧ memSpace (s.head h) = true ∧ wellOff off = false ∧ off % 4 = 0 ∧ s.siteAt (.head h) off = some x ∧ x.high = true) ∧
    (∃ (off : Nat) (x : Site) (s : State), s.admits .sideband = true ∧ s.fget PWR_STATE.CUR = 0 ∧ wellOff off = false ∧ off % 8 = 0 ∧ off < 0x00130000 ∧ s.siteAt .sideband off = some x ∧ x.reg.wide = true) ∧
    (∃ (off : Nat) (s : State), s.admits .sideband = true ∧ s.boot.fwRestart = false ∧ 0x00130000 ≤ off) ∧
    (∃ (off : Nat) (s : State), s.admits .sideband = true ∧ s.fget PWR_STATE.CUR = 0 ∧ wellOff off = false ∧ off % 8 = 0 ∧ off < 0x00130000) ∧
    (∃ (off : Nat) (wide : Bool) (full : Bool), (full = false ∨ alignedOff off wide = false)) ∧
    (∃ (h : Head) (v : Word64) (s : State), s.admits (.head h) = true ∧ memSpace (s.head h) = true ∧ s.headMgmt h.val = true ∧ v.toNat % 2 ^ 8 < v.toNat / 2 ^ 8 % 2 ^ 8 ∧ v.toNat / 2 ^ 8 % 2 ^ 8 < v.toNat / 2 ^ 16 % 2 ^ 8) ∧
    (∃ (h : Head) (v : Word64) (s : State), s.admits (.head h) = true ∧ memSpace (s.head h) = true ∧ (s.headMgmt h.val = false ∨ v.toNat / 2 ^ 8 % 2 ^ 8 ≤ v.toNat % 2 ^ 8 ∨ v.toNat / 2 ^ 16 % 2 ^ 8 ≤ v.toNat / 2 ^ 8 % 2 ^ 8)) :=
  ⟨⟨(0 : Head), 0, ((live.siteAt (.head (0 : Head)) 0).get (by decide +kernel)), live, by decide +kernel⟩,
   ⟨(0 : Head), 65552, ((live.siteAt (.head (0 : Head)) 65552).get (by decide +kernel)), live, by decide +kernel⟩,
   ⟨(0 : Head), 65556, ((live.siteAt (.head (0 : Head)) 65556).get (by decide +kernel)), live, by decide +kernel⟩,
   ⟨65552, ((live.siteAt .sideband 65552).get (by decide +kernel)), live, by decide +kernel⟩,
   ⟨1245184, live, by decide +kernel⟩,
   ⟨0, live, by decide +kernel⟩,
   ⟨0, true, false, by decide +kernel⟩,
   ⟨(0 : Head), (0x30201000 : Word64), live, by decide +kernel⟩,
   ⟨(0 : Head), (0 : Word64), live, by decide +kernel⟩⟩

theorem witness_HostRequests :
    (∃ (h : Head) (hpa : Hpa) (m : Match) (s : State), s.hitsDirect h hpa.toNat m) ∧
    (∃ (h : Head) (hpa : Hpa) (m : Match) (s : State), s.hitsDirect h hpa.toNat m ∧ (s.region m.tpl.region).shared = false ∧ s.ttRoom1 = true ∧ (s.localPtr h, s.dpaOf m / 64) ∉ s.coh.timeouts ∧ s.onChannel (s.dpaOf m / 64) = true) ∧
    (∃ (h : Head) (hpa : Hpa) (m : Match) (s : State), s.memServed h = true ∧ s.decode h hpa.toNat = some m ∧ (s.region m.tpl.region).home = none ∧ (s.region m.tpl.region).shared = false) ∧
    (∃ (h : Head) (hpa : Hpa) (s : State), s.memServed h = true ∧ s.decode h hpa.toNat = none) ∧
    (∃ (h : Head) (s : State), s.admits (.head h) = true ∧ s.fget PWR_STATE.CUR = 0 ∧ s.ideRefused h = true) ∧
    (∃ (h : Head) (s : State), s.admits (.head h) = true ∧ s.fget PWR_STATE.CUR = 0 ∧ s.ideRefused h = false) ∧
    (∃ (h : Head) (hpa : Hpa) (m : Match) (home : NodeId) (tag : Nat) (s : State), s.decodes h hpa.toNat m ∧ (s.region m.tpl.region).home = some home ∧ s.freeTag home.toNat = some tag) :=
  ⟨⟨(0 : Head), (0x10000040 : Hpa), ((live.decode (0 : Head) (0x10000040 : Hpa).toNat).get (by decide +kernel)), live, by decide +kernel⟩,
   ⟨(0 : Head), (0x10000040 : Hpa), ((live.decode (0 : Head) (0x10000040 : Hpa).toNat).get (by decide +kernel)), live, by decide +kernel⟩,
   ⟨(0 : Head), (0x10000040 : Hpa), ((live.decode (0 : Head) (0x10000040 : Hpa).toNat).get (by decide +kernel)), live, by decide +kernel⟩,
   ⟨(0 : Head), (64 : Hpa), live, by decide +kernel⟩,
   ⟨(0 : Head), ideBad, by decide +kernel⟩,
   ⟨(0 : Head), live, by decide +kernel⟩,
   ⟨(0 : Head), (0x10000040 : Hpa), ((sp.decode (0 : Head) (0x10000040 : Hpa).toNat).get (by decide +kernel)), (2 : NodeId), 0, sp, by decide +kernel⟩⟩

theorem witness_KeyIdOfRequest :
    (∃ (h : Head) (hpa : Hpa) (m : Match) (k : BitVec 7) (s : State), s.hitsDirect h hpa.toNat m ∧ m.tpl.kw ≤ 7 ∧ k = ((BitVec.ofNat 7 (s.fget DEC_DEFKEY.KEY m.idx) &&& ~~~BitVec.ofNat 7 (2 ^ m.tpl.kw - 1)) ||| BitVec.ofNat 7 (hpa.toNat / 2 ^ 45 % 2 ^ m.tpl.kw)) ∧ m.tpl.kw = 0) ∧
    (∃ (h : Head) (hpa : Hpa) (m : Match) (k : BitVec 7) (s : State), s.hitsDirect h hpa.toNat m ∧ m.tpl.kw ≤ 7 ∧ k = ((BitVec.ofNat 7 (s.fget DEC_DEFKEY.KEY m.idx) &&& ~~~BitVec.ofNat 7 (2 ^ m.tpl.kw - 1)) ||| BitVec.ofNat 7 (hpa.toNat / 2 ^ 45 % 2 ^ m.tpl.kw)) ∧ m.tpl.kw = 7) ∧
    (∃ (h : Head) (hpa : Hpa) (m : Match) (k : BitVec 7) (s : State), s.hitsDirect h hpa.toNat m ∧ m.tpl.kw ≤ 7 ∧ k = ((BitVec.ofNat 7 (s.fget DEC_DEFKEY.KEY m.idx) &&& ~~~BitVec.ofNat 7 (2 ^ m.tpl.kw - 1)) ||| BitVec.ofNat 7 (hpa.toNat / 2 ^ 45 % 2 ^ m.tpl.kw))) ∧
    (∃ (h : Head) (hpa : Hpa) (m : Match) (k : BitVec 7) (s : State), s.hitsDirect h hpa.toNat m ∧ m.tpl.kw ≤ 7 ∧ k = ((BitVec.ofNat 7 (s.fget DEC_DEFKEY.KEY m.idx) &&& ~~~BitVec.ofNat 7 (2 ^ m.tpl.kw - 1)) ||| BitVec.ofNat 7 (hpa.toNat / 2 ^ 45 % 2 ^ m.tpl.kw)) ∧ (s.region m.tpl.region).shared = false ∧ s.ttRoom1 = true ∧ (s.localPtr h, s.dpaOf m / 64) ∉ s.coh.timeouts ∧ s.onChannel (s.dpaOf m / 64) = true) ∧
    (∃ (h : Head) (hpa : Hpa) (m : Match) (home : NodeId) (tag : Nat) (s : State), s.decodes h hpa.toNat m ∧ (s.region m.tpl.region).home = some home ∧ s.freeTag home.toNat = some tag ∧ m.tpl.kw ≤ 7) ∧
    (∃ (d : DrawerId) (r : RingId) (n : Nat) (rn : Nat) (dpa : Nat) (rg : Region) (o : Op) (s : State), s.freshOp d r 2 n o ∧ s.badKey o = none ∧ o.desc.dattr.dev = true ∧ o.desc.len = 64 ∧ o.desc.dst.toNat % 64 = 0 ∧ s.opDec d o.desc.dattr o.desc.dst.toNat = some (rn, rg, dpa) ∧ rg.home = none ∧ rg.tiered = false ∧ (s.slot o.desc.dattr.key.toNat).state = 1) :=
  ⟨⟨(0 : Head), (0x10000040 : Hpa), ((live.decode (0 : Head) (0x10000040 : Hpa).toNat).get (by decide +kernel)), (0 : BitVec 7), live, by decide +kernel⟩,
   ⟨(0 : Head), (0x10000040 : Hpa), ((kw7.decode (0 : Head) (0x10000040 : Hpa).toNat).get (by decide +kernel)), (0 : BitVec 7), kw7, by decide +kernel⟩,
   ⟨(0 : Head), (0x10000040 : Hpa), ((live.decode (0 : Head) (0x10000040 : Hpa).toNat).get (by decide +kernel)), (0 : BitVec 7), live, by decide +kernel⟩,
   ⟨(0 : Head), (0x10000040 : Hpa), ((live.decode (0 : Head) (0x10000040 : Hpa).toNat).get (by decide +kernel)), (0 : BitVec 7), live, by decide +kernel⟩,
   ⟨(0 : Head), (0x10000040 : Hpa), ((sp.decode (0 : Head) (0x10000040 : Hpa).toNat).get (by decide +kernel)), (2 : NodeId), 0, sp, by decide +kernel⟩,
   ⟨(0 : DrawerId), (0 : RingId), 0, 0, 4096, ((opFillD.opDec (0 : DrawerId) ((opFillD.opPick (0 : DrawerId) (0 : RingId) 2).get (by decide +kernel)).2.desc.dattr ((opFillD.opPick (0 : DrawerId) (0 : RingId) 2).get (by decide +kernel)).2.desc.dst.toNat).get (by decide +kernel)).2.1, ((opFillD.opPick (0 : DrawerId) (0 : RingId) 2).get (by decide +kernel)).2, opFillD, by decide +kernel⟩⟩

theorem witness_CoherenceEvents :
    (∃ (h : Head) (ln : BitVec 40) (at_ : Time) (s : State), (s.localPtr h, ln.toNat, at_) ∈ s.coh.sent ∧ (s.localPtr h, ln.toNat) ∉ s.coh.timeouts ∧ (∀ e ∈ s.coh.txns, e.2.ln ≠ ln.toNat)) ∧
    (∃ (h : Head) (ln : BitVec 40) (s : State), (s.localPtr h, ln.toNat) ∈ s.coh.timeouts) ∧
    (∃ (h : Head) (s : State), s.accepts h = true ∧ s.spn.tags = []) ∧
    (∃ (ln : BitVec 40) (n : Nat) (r : Nat) (x : Txn) (s : State), smFind? s.coh.locks ln.toNat = none ∧ s.contenders ln.toNat = [(n, r)] ∧ s.txn? n = some x ∧ x.shared = false ∧ x.tiered = false ∧ x.ln = ln.toNat ∧ x.dyed = false ∧ s.onChannel ln.toNat = true) ∧
    (∃ (ln : BitVec 40) (a : Nat) (ra : Nat) (b : Nat) (rb : Nat) (x : Txn) (s : State), smFind? s.coh.locks ln.toNat = none ∧ (s.contenders ln.toNat = [(a, ra), (b, rb)] ∨ s.contenders ln.toNat = [(b, rb), (a, ra)]) ∧ rotScore (s.fget COH_ROT.ROT) ra < rotScore (s.fget COH_ROT.ROT) rb ∧ s.txn? a = some x ∧ x.shared = false ∧ x.tiered = false ∧ x.ln = ln.toNat ∧ x.dyed = false ∧ s.onChannel ln.toNat = true) ∧
    (∃ (ln : BitVec 40) (v : Evict) (s : State), smFind? s.coh.evicts ln.toNat = some v ∧ v.snoops = [] ∧ v.forTxn = none ∧ v.poisonIfNoWb = false ∧ s.coh.txns = []) ∧
    (∃ (ln : BitVec 40) (v : Evict) (s : State), smFind? s.coh.evicts ln.toNat = some v ∧ v.snoops ≠ []) ∧
    (∃ (set : BitVec 16) (n : Nat) (w : Nat) (rest : List Nat) (x : Txn) (e : DirEntry) (s : State), smGet s.coh.retry set.toNat [] = n :: rest ∧ s.txn? n = some x ∧ s.pickWay x.ln = .free w ∧ s.dirFind x.ln = none ∧ s.entryAfter x none = some e ∧ x.unkLost = false ∧ x.tiered = false ∧ x.dyed = false ∧ s.onChannel x.ln = true) ∧
    (∃ (node : NodeId) (h : Head) (ln : BitVec 40) (q : Nat) (at_ : Time) (s : State), s.coh.sent.find? (fun e => (e.1 == node.toNat * 16 + h.val || e.1 == 1024 + node.toNat && h.val == 0) && e.2.1 == ln.toNat) = some (q, ln.toNat, at_) ∧ s.elapsed at_ (usT (max 100 (s.fget COH_CTL.SNPTO))) = true) ∧
    (∃ (page : BitVec 33) (s : State), page.toNat + 2 ^ 32 ∈ s.dec.misses ∧ s.coh.txns = []) ∧
    (∃ (page : BitVec 33) (s : State), page.toNat + 2 ^ 32 ∈ s.dec.misses ∧ s.coh.txns = [] ∧ s.pmeCached (page.toNat + 2 ^ 32) = false) ∧
    (∃ (page : BitVec 33) (s : State), page.toNat + 2 ^ 32 ∉ s.dec.misses) :=
  ⟨⟨(0 : Head), (1 : BitVec 40), (5 : Time), snpSent, by decide +kernel⟩,
   ⟨(0 : Head), (1 : BitVec 40), tmo, by decide +kernel⟩,
   ⟨(0 : Head), live, by decide +kernel⟩,
   ⟨(1 : BitVec 40), 0, 0, ((lock1.txn? 0).get (by decide +kernel)), lock1, by decide +kernel⟩,
   ⟨(1 : BitVec 40), 0, 0, 1, 1, ((lock2.txn? 0).get (by decide +kernel)), lock2, by decide +kernel⟩,
   ⟨(1 : BitVec 40), ((smFind? evE.coh.evicts (1 : BitVec 40).toNat).get (by decide +kernel)), evE, by decide +kernel⟩,
   ⟨(1 : BitVec 40), ((smFind? evE3.coh.evicts (1 : BitVec 40).toNat).get (by decide +kernel)), evE3, by decide +kernel⟩,
   ⟨(1 : BitVec 16), 0, 16, ([] : List Nat), ((retry1.txn? 0).get (by decide +kernel)), ((retry1.entryAfter ((retry1.txn? 0).get (by decide +kernel)) none).get (by decide +kernel)), retry1, by decide +kernel⟩,
   ⟨(0 : NodeId), (0 : Head), (1 : BitVec 40), 0, (5 : Time), snpSent, by decide +kernel⟩,
   ⟨(0 : BitVec 33), miss1, by decide +kernel⟩,
   ⟨(0 : BitVec 33), miss1, by decide +kernel⟩,
   ⟨(0 : BitVec 33), live, by decide +kernel⟩⟩

theorem witness_WeirGrants (hI : Ingress32) :
    (∃ (ch : Chan) (n : Nat) (x : Txn) (aged : Bool) (s : State), s.grants ch = true ∧ s.urgRefresh.weirPick ch = some ((n, x), aged) ∧ s.txn? n = some x ∧ x.kind = .read) ∧
    (∃ (ch : Chan) (n : Nat) (h : Head) (x : Txn) (aged : Bool) (s : State), s.grants ch = true ∧ s.urgRefresh.weirPick ch = some ((n, x), aged) ∧ s.txn? n = some x ∧ x.kind = .write ∧ x.src = .head h ∧ s.mergeInto ch x = none) ∧
    (∃ (ch : Chan) (s : State), (s.grants ch = false ∨ s.urgRefresh.weirPick ch = none)) ∧
    (∃ (cls : Fin 8) (ch : Chan) (s : State), smGet (s.chan ch).winStart cls 0 / (max 1 (s.fget WEIR_WINDOW.US (ch.val * 8 + cls.val)) * 1000) < s.tb / (max 1 (s.fget WEIR_WINDOW.US (ch.val * 8 + cls.val)) * 1000)) ∧
    (∃ (ch : Chan) (s : State), (s.chan ch).creditStop = true ∧ (s.chan ch).rq = [] ∧ (s.chan ch).wq = []) ∧
    (∃ (ch : Chan) (s : State), ((s.chan ch).rq ≠ [] ∨ (s.chan ch).wq ≠ [])) :=
  ⟨⟨0, 0, (wait1.txn? 0).get (by decide +kernel), true, wait1, by decide +kernel, pick_read hI, by decide +kernel, by decide +kernel⟩,
   ⟨0, 0, 0, (waitW.txn? 0).get (by decide +kernel), true, waitW, by decide +kernel, pick_write hI, by decide +kernel, by decide +kernel, by decide +kernel, by decide +kernel⟩,
   ⟨(0 : Chan), live, by decide +kernel⟩,
   ⟨(0 : Fin 8), (0 : Chan), live, by decide +kernel⟩,
   ⟨(0 : Chan), stopC, by decide +kernel⟩,
   ⟨(0 : Chan), xtsW0, by decide +kernel⟩⟩

theorem witness_DramCommands :
    (∃ (ch : Chan) (s : State), s.fget DMC_STATUS.STATE ch ≠ 2) ∧
    (∃ (ch : Chan) (sub : Bool) (b : List Nat) (i : Item) (s : State), s.fget DMC_STATUS.STATE ch = 2 ∧ s.owing ch sub = [] ∧ s.choose ch b (s.slate ch sub) = some i ∧ s.need ch i = .act) ∧
    (∃ (ch : Chan) (sub : Bool) (b : List Nat) (i : Item) (s : State), s.fget DMC_STATUS.STATE ch = 2 ∧ s.owing ch sub = [] ∧ s.choose ch b (s.slate ch sub) = some i ∧ s.need ch i = .pre) ∧
    (∃ (ch : Chan) (sub : Bool) (b : List Nat) (i : Item) (m : Nat) (s : State), s.fget DMC_STATUS.STATE ch = 2 ∧ s.owing ch sub = [] ∧ s.choose ch b (s.slate ch sub) = some i ∧ s.need ch i = .column ∧ i.x.kind ≠ .write ∧ i.x.mpa = some m) ∧
    (∃ (ch : Chan) (sub : Bool) (b : List Nat) (i : Item) (m : Nat) (s : State), s.fget DMC_STATUS.STATE ch = 2 ∧ s.owing ch sub = [] ∧ s.choose ch b (s.slate ch sub) = some i ∧ s.need ch i = .column ∧ i.x.kind = .write ∧ i.x.mpa = some m) ∧
    (∃ (ch : Chan) (n : Nat) (m : Nat) (l : Line) (rest : List (Nat × Line)) (x : Txn) (p : Place) (h : Head) (s : State), (s.chan ch).inflight = (n, l) :: rest ∧ s.txn? n = some x ∧ x.mpa = some m ∧ s.placeOf m = some p ∧ x.kind = .read ∧ x.src = .head h ∧ x.job = none ∧ x.retired = false ∧ (s.slot x.key.toNat).mode ≠ 1 ∧ (s.seen l m x.key x.slab).bad = false) ∧
    (∃ (ch : Chan) (n : Nat) (m : Nat) (l : Line) (rest : List (Nat × Line)) (x : Txn) (p : Place) (h : Head) (s : State), (s.chan ch).inflight = (n, l) :: rest ∧ s.txn? n = some x ∧ x.mpa = some m ∧ s.placeOf m = some p ∧ x.kind = .read ∧ x.src = .head h ∧ x.job = none ∧ l.poison = true) ∧
    (∃ (ch : Chan) (n : Nat) (m : Nat) (l : Line) (rest : List (Nat × Line)) (x : Txn) (p : Place) (h : Head) (s : State), (s.chan ch).inflight = (n, l) :: rest ∧ s.txn? n = some x ∧ x.mpa = some m ∧ s.placeOf m = some p ∧ x.kind = .read ∧ x.src = .head h ∧ x.job = none ∧ s.rawLine m = l ∧ s.inMeta m = false) ∧
    (∃ (ch : Chan) (s : State), s.fget DMC_STATUS.STATE ch = 2) ∧
    (∃ (ch : Chan) (b : Nat) (s : State), (s.bank ch b).hint = 2 ∧ (s.bank ch b).row.isSome = true ∧ (s.chan ch).rq = [] ∧ (s.chan ch).wq = []) :=
  ⟨⟨(1 : Chan), live, by decide +kernel⟩,
   ⟨(0 : Chan), true, ([] : List Nat), ((inRq.choose (0 : Chan) ([] : List Nat) (inRq.slate (0 : Chan) true)).get (by decide +kernel)), inRq, by decide +kernel⟩,
   ⟨(0 : Chan), true, ([] : List Nat), ((rowOther.choose (0 : Chan) ([] : List Nat) (rowOther.slate (0 : Chan) true)).get (by decide +kernel)), rowOther, by decide +kernel⟩,
   ⟨(0 : Chan), true, ([] : List Nat), ((rowHit.choose (0 : Chan) ([] : List Nat) (rowHit.slate (0 : Chan) true)).get (by decide +kernel)), 1, rowHit, by decide +kernel⟩,
   ⟨(0 : Chan), true, ([] : List Nat), ((rowHitW.choose (0 : Chan) ([] : List Nat) (rowHitW.slate (0 : Chan) true)).get (by decide +kernel)), 1, rowHitW, by decide +kernel⟩,
   ⟨(0 : Chan), 0, 1, (((flight1.chan (0 : Chan)).inflight).head (by decide +kernel)).2, (((flight1.chan (0 : Chan)).inflight).tail), ((flight1.txn? 0).get (by decide +kernel)), ((flight1.placeOf 1).get (by decide +kernel)), (0 : Head), flight1, by decide +kernel⟩,
   ⟨(0 : Chan), 0, 1, (((flightP.chan (0 : Chan)).inflight).head (by decide +kernel)).2, (((flightP.chan (0 : Chan)).inflight).tail), ((flightP.txn? 0).get (by decide +kernel)), ((flightP.placeOf 1).get (by decide +kernel)), (0 : Head), flightP, by decide +kernel⟩,
   ⟨(0 : Chan), 0, 1, (((flight1.chan (0 : Chan)).inflight).head (by decide +kernel)).2, (((flight1.chan (0 : Chan)).inflight).tail), ((flight1.txn? 0).get (by decide +kernel)), ((flight1.placeOf 1).get (by decide +kernel)), (0 : Head), flight1, by decide +kernel⟩,
   ⟨(0 : Chan), live, by decide +kernel⟩,
   ⟨(0 : Chan), 0, rowIdle, by decide +kernel⟩⟩

theorem witness_DramUpkeep :
    (∃ (ch : Chan) (spd : Spd) (s : State), s.fget DMC_STATUS.STATE ch = 1 ∧ spd.matchesCut = true) ∧
    (∃ (ch : Chan) (ok : Bool) (spd : Spd) (s : State), s.fget DMC_STATUS.STATE ch = 1 ∧ (ok = false ∨ spd.matchesCut = false)) ∧
    (∃ (ch : Chan) (s : State), s.fget DMC_STATUS.STATE ch ≠ 1) ∧
    (∃ (ch : Chan) (r : BitVec 16) (s : State), s.fget DMC_CFG.SLOTS ch = 1 ∧ (4 * s.fget DMC_REFCTL.HOT_T ch : Int) < r.toInt) ∧
    (∃ (ch : Chan) (s : State), s.fget DMC_CFG.SLOTS ch = 1 ∧ (s.chan ch).sensorFails.1 = 2) ∧
    (∃ (ch : Chan) (s : State), s.fget DMC_STATUS.STATE ch = 2) ∧
    (∃ (ch : Chan) (m : Nat) (p : Place) (s : State), s.fone DMC_SCRUB.EN ch = true ∧ s.fget DMC_STATUS.STATE ch = 2 ∧ s.placeOf m = some p ∧ p.chan = ch.val ∧ s.lineBusy m = false) ∧
    (∃ (ch : Chan) (s : State), s.fget DMC_SPARE.STATE ch = 1 ∧ s.rankUnits ch ≤ s.sparePos ch) ∧
    (∃ (ch : Chan) (s : State), (s.chan ch).test.isSome = true) ∧
    (∃ (p : Path) (c : Nat) (s : State), s.admits p = true ∧ s.mgmt p = true ∧ s.chSel p = [c] ∧ c < 12 ∧ s.fone DMC_CAL.RECAL c = false ∧ s.fget DMC_STATUS.STATE c = 2) ∧
    (∃ (p : Path) (c : Nat) (rk : Fin 16) (s : State), s.admits p = true ∧ s.mgmt p = true ∧ s.chSel p = [c] ∧ c < 12 ∧ s.rankExists c rk = true ∧ (s.chan c).test = none ∧ s.fget DMC_SPARE.STATE c ≠ 1 ∧ s.fget DMC_STATUS.STATE c = 2) ∧
    (∃ (p : Path) (c : Nat) (s : State), s.admits p = true ∧ s.mgmt p = true ∧ s.chSel p = [c] ∧ c < 12) ∧
    (∃ (p : Path) (c : Nat) (rk : Fin 16) (s : State), s.admits p = true ∧ s.mgmt p = true ∧ s.chSel p = [c] ∧ c < 12 ∧ s.fget DMC_SPARE.STATE c = 0 ∧ s.fget DMC_CFG.SPARE c ≠ 15 ∧ s.rankMapped c rk = true ∧ (s.chan c).test = none) ∧
    (∃ (p : Path) (s : State), s.adminReady p = true) :=
  ⟨⟨(0 : Chan), ({ matchesCut := true, height := 1, rfm := true, drfm := true, raaimt := 32, rows := 65536 } : Spd), training, by decide +kernel⟩,
   ⟨(0 : Chan), true, ({ matchesCut := false, height := 1, rfm := false, drfm := false, raaimt := 0, rows := 65536 } : Spd), training, by decide +kernel⟩,
   ⟨(0 : Chan), live, by decide +kernel⟩,
   ⟨(0 : Chan), (1 : BitVec 16), therm, by decide +kernel⟩,
   ⟨(0 : Chan), therm, by decide +kernel⟩,
   ⟨(0 : Chan), live, by decide +kernel⟩,
   ⟨(0 : Chan), 0, ((live.placeOf 0).get (by decide +kernel)), live, by decide +kernel⟩,
   ⟨(0 : Chan), spare, by decide +kernel⟩,
   ⟨(0 : Chan), testS, by decide +kernel⟩,
   ⟨(.head 0 : Path), 0, live, by decide +kernel⟩,
   ⟨(.head 0 : Path), 0, (0 : Fin 16), live, by decide +kernel⟩,
   ⟨(.head 0 : Path), 0, live, by decide +kernel⟩,
   ⟨(.head 0 : Path), 0, (0 : Fin 16), spare0, by decide +kernel⟩,
   ⟨(.head 0 : Path), live, by decide +kernel⟩⟩

theorem witness_PressAndSluice :
    (∃ (job : Nat) (n : Nat) (p : Fin 6) (j : DecJob) (x : Txn) (h : Head) (s : State), smFind? s.press.jobs job = some j ∧ j.ready = true ∧ s.unitRuns 0 = true ∧ s.mayTake false p j.failed = true ∧ j.txns = [n] ∧ s.txn? n = some x ∧ x.src = .head h ∧ j.bad = true) ∧
    (∃ (job : Nat) (n : Nat) (p : Fin 6) (j : DecJob) (x : Txn) (h : Head) (s : State), smFind? s.press.jobs job = some j ∧ j.ready = true ∧ s.unitRuns 0 = true ∧ s.mayTake false p j.failed = true ∧ j.txns = [n] ∧ s.txn? n = some x ∧ x.src = .head h ∧ j.bad = false ∧ j.raw = true) ∧
    (∃ (job : Nat) (n : Nat) (p : Fin 6) (j : DecJob) (x : Txn) (h : Head) (s : State) (hd : _) (b : _) (w : _), smFind? s.press.jobs job = some j ∧ j.ready = true ∧ s.unitRuns 0 = true ∧ s.mayTake false p j.failed = true ∧ j.txns = [n] ∧ s.txn? n = some x ∧ x.src = .head h ∧ j.bad = false ∧ j.raw = false ∧ j.failed = [] ∧ s.hcacheGet j.loc j.node.toNat = some hd ∧ s.runBytes j.loc j.page j.key (if j.node.toNat = 0 ∧ j.got.isEmpty then none else some j.got) (4 * j.slabs) (segLines hd j.seg) = (b, false) ∧ segPlain hd b j.seg = some w) ∧
    (∃ (job : Nat) (n : Nat) (p : Fin 6) (j : DecJob) (x : Txn) (h : Head) (s : State), smFind? s.press.jobs job = some j ∧ j.ready = true ∧ s.unitRuns 0 = true ∧ s.mayTake false p j.failed = true ∧ j.txns = [n] ∧ s.txn? n = some x ∧ x.src = .head h ∧ j.bad = false ∧ j.failed = []) ∧
    (∃ (job : Nat) (n : Nat) (p : Fin 6) (j : DecJob) (x : Txn) (h : Head) (s : State), smFind? s.press.jobs job = some j ∧ j.ready = true ∧ s.unitRuns 0 = true ∧ s.mayTake false p j.failed = true ∧ j.txns = [n] ∧ s.txn? n = some x ∧ x.src = .head h ∧ j.bad = false ∧ 2 ≤ j.failed.length) ∧
    (∃ (s : State), s.unitRuns 0 = false) ∧
    (∃ (page : BitVec 33) (p : Fin 4) (m : Move) (s : State) (c : _), smFind? s.slc.moves (page.toNat + 2 ^ 32) = some m ∧ m.kind = .demote ∧ m.result = none ∧ m.snoops = [] ∧ m.late = [] ∧ s.unitRuns 0 = true ∧ s.mayTake true p m.failed = true ∧ m.failed = [] ∧ (s.pme (page.toNat + 2 ^ 32)).tier = 0 ∧ s.encodeLines (overlay (s.pageLines (s.pme (page.toNat + 2 ^ 32)) (page.toNat + 2 ^ 32) m.key [] []).1 m.buffer) = some c) ∧
    (∃ (page : BitVec 33) (p : Fin 4) (m : Move) (s : State), smFind? s.slc.moves (page.toNat + 2 ^ 32) = some m ∧ m.kind = .demote ∧ m.result = none ∧ m.snoops = [] ∧ m.late = [] ∧ s.unitRuns 0 = true ∧ s.mayTake true p m.failed = true ∧ m.failed = [] ∧ (s.pme (page.toNat + 2 ^ 32)).tier = 0 ∧ s.encodeLines (overlay (s.pageLines (s.pme (page.toNat + 2 ^ 32)) (page.toNat + 2 ^ 32) m.key [] []).1 m.buffer) = none) ∧
    (∃ (page : BitVec 33) (p : Fin 4) (m : Move) (s : State), smFind? s.slc.moves (page.toNat + 2 ^ 32) = some m ∧ m.kind = .demote ∧ m.result = none ∧ m.snoops = [] ∧ m.late = [] ∧ s.unitRuns 0 = true ∧ s.mayTake true p m.failed = true ∧ m.failed = [] ∧ (s.pme (page.toNat + 2 ^ 32)).tier = 0) ∧
    (∃ (p : Path) (s : State), s.admits p = true ∧ s.mgmt p = true) ∧
    (∃ (p : Path) (s : State), s.admits p = true ∧ s.mgmt p = false) ∧
    (∃ (s : State), s.admits .bench = true) ∧
    (∃ (p : Path) (s : State), s.admits p = true ∧ p ≠ .bench) ∧
    (∃ (page : BitVec 33) (m : Move) (d : Nat) (n : Nat) (x : Txn) (h : Head) (s : State), smFind? s.slc.moves (page.toNat + 2 ^ 32) = some m ∧ m.kind = .promoteOnWrite ∧ m.dest = some d ∧ m.snoops = [] ∧ m.late = [] ∧ m.want = [] ∧ m.buffer = [] ∧ m.writers = [n] ∧ s.txn? n = some x ∧ x.kind = .write ∧ x.src = .head h ∧ (s.pme (page.toNat + 2 ^ 32)).tier = 3 ∧ (s.pme (page.toNat + 2 ^ 32)).poison = false ∧ (∀ e ∈ s.coh.txns, e.2.phase = .promoting → e.2.ln / 64 = page.toNat + 2 ^ 32 → e.1 = n)) ∧
    (∃ (page : BitVec 33) (s : State), smFind? s.slc.moves (page.toNat + 2 ^ 32) = none) ∧
    (∃ (s : State), s.slc.epochStart + max 1 (s.fget SLC_EPOCH.US) * 1000 ≤ s.tb ∧ s.fget PWR_STATE.CUR = 0) ∧
    (∃ (s : State), s.slc.epochStart + max 1 (s.fget SLC_EPOCH.US) * 1000 ≤ s.tb ∧ s.fget PWR_STATE.CUR ≠ 0) ∧
    (∃ (s : State), s.tb < s.slc.epochStart + max 1 (s.fget SLC_EPOCH.US) * 1000) ∧
    (∃ (blk : Nat) (s : State), (s.rec2 blk).stale = false ∧ 16 ≤ (BitVec.ofNat 16 s.epoch - (s.rec2 blk).stamp).toNat) ∧
    (∃ (blk : Nat) (s : State), (s.rec2 blk).stale = true ∧ (BitVec.ofNat 16 s.epoch - (s.rec2 blk).stamp).toNat < 16) ∧
    (∃ (pn : Nat) (d : Nat) (rest : List Nat) (s1 : State) (s : State), s.slc.promoQ = pn :: rest ∧ (s.pme pn).tier = 1 ∧ smHas s.slc.moves pn = false ∧ s.t0Mark SLC_T0MARK.HIGH ≤ s.f0 ∧ s.moveRoom = true ∧ s.movable pn = true ∧ s.fone SLC_CTL.PROMOTE_EN = true ∧ s.drawT0 = some (d, s1)) ∧
    (∃ (s : State), s.slc.promoQ = []) ∧
    (∃ (pn : Nat) (s : State), s.f0 < s.t0Mark SLC_T0MARK.LOW ∧ s.fone SLC_CTL.DEMOTE_EN = true ∧ s.canEncode = true ∧ s.moveRoom = true ∧ s.choosePage 0 = some pn) ∧
    (∃ (s : State), s.t0Mark SLC_T0MARK.LOW ≤ s.f0 ∧ (s.slc.demoting = false ∨ s.t0Mark SLC_T0MARK.HIGH ≤ s.f0)) ∧
    (∃ (page : BitVec 33) (m : Move) (r : Nat) (loc : Nat) (c : Coded) (s1 : State) (s : State), smFind? s.slc.moves (page.toNat + 2 ^ 32) = some m ∧ m.kind = .demote ∧ m.result = some r ∧ 0 < r ∧ r < 16 ∧ m.buffer = [] ∧ m.encLen = 0 ∧ (s.pme (page.toNat + 2 ^ 32)).tier = 0 ∧ s.encodeLines (s.pageLines (s.pme (page.toNat + 2 ^ 32)) (page.toNat + 2 ^ 32) m.key [] []).1 = some c ∧ s.drawRun r = some (loc, s1) ∧ (∀ e ∈ s.coh.txns, e.2.phase = .promoting → e.2.ln / 64 ≠ page.toNat + 2 ^ 32) ∧ s.slc.stallQ = []) ∧
    (∃ (page : BitVec 33) (m : Move) (s : State), smFind? s.slc.moves (page.toNat + 2 ^ 32) = some m ∧ m.kind = .demote ∧ m.result = some 0 ∧ m.buffer = [] ∧ (∀ e ∈ s.coh.txns, e.2.phase = .promoting → e.2.ln / 64 ≠ page.toNat + 2 ^ 32)) ∧
    (∃ (pn : Nat) (tag : Nat) (node : Nat) (s : State), s.fs < s.slabMark SLC_SLABMARK.LOW ∧ s.fone SLC_TIERCFG.T2_EN = true ∧ s.fone SLC_CTL.DEMOTE_EN = true ∧ s.moveRoom = true ∧ s.donorNode = some node ∧ s.choosePage 1 = some pn ∧ s.freeTag node = some tag ∧ (s.lineRegion (pn * 64)).shared = false) ∧
    (∃ (s : State), s.slabMark SLC_SLABMARK.LOW ≤ s.fs ∧ s.slc.toT2 = false) ∧
    (∃ (page : BitVec 33) (m : Move) (node : NodeId) (loc : Nat) (s : State), smFind? s.slc.moves (page.toNat + 2 ^ 32) = some m ∧ m.kind = .toT2 ∧ m.peer = some (node, loc) ∧ m.want = [] ∧ m.snoops = [] ∧ m.late = [] ∧ m.buffer = [] ∧ (s.pme (page.toNat + 2 ^ 32)).tier = 1 ∧ (∀ e ∈ s.coh.txns, e.2.phase = .promoting → e.2.ln / 64 ≠ page.toNat + 2 ^ 32)) ∧
    (∃ (n : Nat) (at_ : Nat) (rest : List (Nat × Nat)) (x : Txn) (m : Move) (s : State) (d : _) (s1 : _), s.slc.stallQ = (n, at_) :: rest ∧ (at_ = 0 ∨ s.elapsed (at_ - 1) (usT (s.fget SLC_PROMO.STALL_US)) = true) ∧ s.txn? n = some x ∧ smFind? s.slc.moves (x.ln / 64) = some m ∧ s.drawT0 = some (d, s1)) ∧
    (∃ (n : Nat) (at_ : Nat) (rest : List (Nat × Nat)) (x : Txn) (m : Move) (s : State) (d : _) (s1 : _), s.slc.stallQ = (n, at_) :: rest ∧ (at_ = 0 ∨ s.elapsed (at_ - 1) (usT (s.fget SLC_PROMO.STALL_US)) = true) ∧ s.txn? n = some x ∧ smFind? s.slc.moves (x.ln / 64) = some m ∧ s.drawT0 = none ∧ s.donorNode = none ∧ s.drawRsv = some (d, s1)) ∧
    (∃ (n : Nat) (at_ : Nat) (rest : List (Nat × Nat)) (x : Txn) (m : Move) (s : State) (h : _), s.slc.stallQ = (n, at_) :: rest ∧ (at_ = 0 ∨ s.elapsed (at_ - 1) (usT (s.fget SLC_PROMO.STALL_US)) = true) ∧ s.txn? n = some x ∧ smFind? s.slc.moves (x.ln / 64) = some m ∧ s.drawT0 = none ∧ s.donorNode = none ∧ s.drawRsv = none ∧ (s.pme (x.ln / 64)).tier = 3 ∧ m.writers = [n] ∧ x.src = .head h ∧ (∀ e ∈ s.coh.txns, e.2.phase = .promoting → e.2.ln / 64 ≠ x.ln / 64)) ∧
    (∃ (s : State), s.slc.stallQ = []) ∧
    (∃ (a : Nat) (e : Extent) (s : State), s.f0 + s.fs / 16 < s.fget SLC_DCDMARK.RELEASE * (512 * s.poolFrames 0 + 512 * s.poolFrames 3) / 1024 ∧ s.slc.lastAsk = none ∧ s.dec.extents = [(a, e)] ∧ 2 ^ 44 ≤ e.start ∧ e.asked = false) ∧
    (∃ (s : State), s.fget SLC_DCDMARK.RELEASE * (512 * s.poolFrames 0 + 512 * s.poolFrames 3) / 1024 ≤ s.f0 + s.fs / 16) ∧
    (∃ (node : NodeId) (s : State), node.toNat ∈ s.slc.lost) ∧
    (∃ (node : NodeId) (s : State), node.toNat ∉ s.slc.lost) ∧
    (∃ (h : Head) (n : Fin 32) (s : State), s.admits (.head h) = true ∧ s.fget PWR_STATE.CUR = 0 ∧ memSpace (s.head h) = true ∧ (s.decoder (h.val * 32 + n.val)).committed = false ∧ (s.decoder (h.val * 32 + n.val)).locked = false) ∧
    (∃ (h : Head) (n : Fin 32) (s : State), s.admits (.head h) = true ∧ s.fget PWR_STATE.CUR = 0 ∧ memSpace (s.head h) = true ∧ ((s.decoder (h.val * 32 + n.val)).committed = true ∨ (s.decoder (h.val * 32 + n.val)).locked = true)) ∧
    (∃ (h : Head) (n : Fin 32) (s : State), s.admits (.head h) = true ∧ s.fget PWR_STATE.CUR = 0 ∧ memSpace (s.head h) = true ∧ (s.decoder (h.val * 32 + n.val)).committed = true ∧ (s.decoder (h.val * 32 + n.val)).locked = false) ∧
    (∃ (h : Head) (n : Fin 32) (s : State), s.admits (.head h) = true ∧ s.fget PWR_STATE.CUR = 0 ∧ memSpace (s.head h) = true ∧ (s.decoder (h.val * 32 + n.val)).locked = true) ∧
    (∃ (h : Head) (n : Nat) (m : Nat) (base : Nat) (size : Nat) (ways : Nat) (gran : Nat) (s : State), s.hdmFits h n base size ways gran = true ∧ m ≠ n ∧ m < 32 ∧ (s.decoder (h.val * 32 + m)).committed = true) ∧
    (∃ (h : Head) (a : Dpa) (s : State), s.admits (.head h) = true ∧ s.fget PWR_STATE.CUR = 0 ∧ memSpace (s.head h) = true ∧ s.boot.fwRestart = false ∧ smFind? s.dec.extents a.toNat = none) ∧
    (∃ (h : Head) (a : Dpa) (len : Nat) (drawer : Option DrawerId) (s : State), s.admits (.head h) = true ∧ s.fget PWR_STATE.CUR = 0 ∧ memSpace (s.head h) = true ∧ s.boot.fwRestart = false ∧ smFind? s.dec.extents a.toNat = none ∧ s.extentOffered h a.toNat len (drawer.map Fin.val) = true) ∧
    (∃ (h : Head) (a : Dpa) (len : Nat) (drawer : Option DrawerId) (s : State), s.admits (.head h) = true ∧ s.fget PWR_STATE.CUR = 0 ∧ memSpace (s.head h) = true ∧ s.boot.fwRestart = false ∧ smFind? s.dec.extents a.toNat = none ∧ s.extentOffered h a.toNat len (drawer.map Fin.val) = false) ∧
    (∃ (h : Head) (a : Dpa) (e : Extent) (s : State), s.admits (.head h) = true ∧ s.fget PWR_STATE.CUR = 0 ∧ memSpace (s.head h) = true ∧ s.boot.fwRestart = false ∧ smFind? s.dec.extents a.toNat = some e ∧ e.heads.getLsbD h = true ∧ e.heads &&& ~~~(1#16 <<< h.val) ≠ 0) ∧
    (∃ (h : Head) (a : Dpa) (e : Extent) (s : State), s.admits (.head h) = true ∧ s.fget PWR_STATE.CUR = 0 ∧ memSpace (s.head h) = true ∧ s.boot.fwRestart = false ∧ smFind? s.dec.extents a.toNat = some e ∧ e.heads.getLsbD h = true ∧ e.heads &&& ~~~(1#16 <<< h.val) = 0) :=
  ⟨⟨0, 0, (0 : Fin 6), ((smFind? jobBad.press.jobs 0).get (by decide +kernel)), ((jobBad.txn? 0).get (by decide +kernel)), (0 : Head), jobBad, by decide +kernel⟩,
   ⟨0, 0, (0 : Fin 6), ((smFind? jobRaw.press.jobs 0).get (by decide +kernel)), ((jobRaw.txn? 0).get (by decide +kernel)), (0 : Head), jobRaw, by decide +kernel⟩,
   ⟨0, 0, (0 : Fin 6), ((smFind? jobHit.press.jobs 0).get (by decide +kernel)), ((jobHit.txn? 0).get (by decide +kernel)), (0 : Head), jobHit, [167, 94, 33, 0, 0, 0, 41, 32, 3, 59, 64, 4, 77, 96, 5, 95, 128, 6, 113, 160, 7, 131, 192, 8, 149, 224, 9, 167, 0, 11, 131, 62], [167, 94, 33, 0, 0, 0, 41, 32, 3, 59, 64, 4, 77, 96, 5, 95, 128, 6, 113, 160, 7, 131, 192, 8, 149, 224, 9, 167, 0, 11, 131, 62, 0, 0, 0, 0, 0, 0, 0, 0, 0, 0, 0, 0, 0, 0, 0, 0, 0, 0, 0, 0, 0, 0, 0, 0, 0, 0, 0, 0, 0, 0, 0, 0, 0, 0, 0, 0, 0, 0, 0, 0, 0, 0, 0, 0, 0, 0, 0, 0, 0, 0, 0, 0, 0, 0, 0, 0, 0, 0, 0, 0, 0, 0, 0, 0, 0, 0, 0, 0, 0, 0, 0, 0, 0, 0, 0, 0, 0, 0, 0, 0, 0, 0, 0, 0, 0, 0, 0, 0, 0, 0, 0, 0, 0, 0, 0, 0, 0, 0, 0, 0, 0, 0, 0, 0, 0, 0, 0, 0, 0, 0, 0, 0, 0, 0, 0, 0, 0, 0, 0, 0, 0, 0, 0, 0, 0, 0, 0, 0, 0, 0, 0, 0, 0, 0, 0, 0, 0, 0, 0, 0, 0, 0, 0, 0, 0, 0, 0, 0, 0, 0, 0, 0, 0, 0, 0, 0, 0, 0, 0, 0, 0, 0, 0, 0, 0, 0, 0, 0, 0, 0, 0, 0, 0, 0, 0, 0, 0, 0, 0, 0, 0, 0, 0, 0, 0, 0, 0, 0, 0, 0, 0, 0, 0, 0, 0, 0, 0, 0, 0, 0, 0, 0, 0, 0, 0, 0, 0, 0, 0, 0, 0, 0, 0, 0, 0, 0, 0, 0, 0, 0, 0, 0, 0, 0], [0, 0, 0, 0, 0, 0, 0, 0, 0, 0, 0, 0, 0, 0, 0, 0, 0, 0, 0, 0, 0, 0, 0, 0, 0, 0, 0, 0, 0, 0, 0, 0, 0, 0, 0, 0, 0, 0, 0, 0, 0, 0, 0, 0, 0, 0, 0, 0, 0, 0, 0, 0, 0, 0, 0, 0, 0, 0, 0, 0, 0, 0, 0, 0, 0, 0, 0, 0, 0, 0, 0, 0, 0, 0, 0, 0, 0, 0, 0, 0, 0, 0, 0, 0, 0, 0, 0, 0, 0, 0, 0, 0, 0, 0, 0, 0, 0, 0, 0, 0, 0, 0, 0, 0, 0, 0, 0, 0, 0, 0, 0, 0, 0, 0, 0, 0, 0, 0, 0, 0, 0, 0, 0, 0, 0, 0, 0, 0, 0, 0, 0, 0, 0, 0, 0, 0, 0, 0, 0, 0, 0, 0, 0, 0, 0, 0, 0, 0, 0, 0, 0, 0, 0, 0, 0, 0, 0, 0, 0, 0, 0, 0, 0, 0, 0, 0, 0, 0, 0, 0, 0, 0, 0, 0, 0, 0, 0, 0, 0, 0, 0, 0, 0, 0, 0, 0, 0, 0, 0, 0, 0, 0, 0, 0, 0, 0, 0, 0, 0, 0, 0, 0, 0, 0, 0, 0, 0, 0, 0, 0, 0, 0, 0, 0, 0, 0, 0, 0, 0, 0, 0, 0, 0, 0, 0, 0, 0, 0, 0, 0, 0, 0, 0, 0, 0, 0, 0, 0, 0, 0, 0, 0, 0, 0, 0, 0, 0, 0, 0, 0, 0, 0, 0, 0, 0, 0], by decide +kernel⟩,
   ⟨0, 0, (0 : Fin 6), ((smFind? job1.press.jobs 0).get (by decide +kernel)), ((job1.txn? 0).get (by decide +kernel)), (0 : Head), job1, by decide +kernel⟩,
   ⟨0, 0, (4 : Fin 6), ((smFind? job2.press.jobs 0).get (by decide +kernel)), ((job2.txn? 0).get (by decide +kernel)), (0 : Head), job2, by decide +kernel⟩,
   ⟨unitsSt, by decide +kernel⟩,
   ⟨(0 : BitVec 33), (0 : Fin 4), ((smFind? dem0.slc.moves ((0 : BitVec 33).toNat + 2 ^ 32)).get (by decide +kernel)), dem0, ((dem0.encodeLines (overlay (dem0.pageLines (dem0.pme ((0 : BitVec 33).toNat + 2 ^ 32)) ((0 : BitVec 33).toNat + 2 ^ 32) ((smFind? dem0.slc.moves ((0 : BitVec 33).toNat + 2 ^ 32)).get (by decide +kernel)).key [] []).1 ((smFind? dem0.slc.moves ((0 : BitVec 33).toNat + 2 ^ 32)).get (by decide +kernel)).buffer)).get (by decide +kernel)), by decide +kernel⟩,
   ⟨(0 : BitVec 33), (0 : Fin 4), ((smFind? demP.slc.moves ((0 : BitVec 33).toNat + 2 ^ 32)).get (by decide +kernel)), demP, by decide +kernel⟩,
   ⟨(0 : BitVec 33), (0 : Fin 4), ((smFind? dem0.slc.moves ((0 : BitVec 33).toNat + 2 ^ 32)).get (by decide +kernel)), dem0, by decide +kernel⟩,
   ⟨(.head 0 : Path), live, by decide +kernel⟩,
   ⟨(.head 1 : Path), live, by decide +kernel⟩,
   ⟨live, by decide +kernel⟩,
   ⟨(.head 0 : Path), live, by decide +kernel⟩,
   ⟨(0 : BitVec 33), ((smFind? promW.slc.moves ((0 : BitVec 33).toNat + 2 ^ 32)).get (by decide +kernel)), 4, 0, ((promW.txn? 0).get (by decide +kernel)), (0 : Head), promW, by decide +kernel⟩,
   ⟨(0 : BitVec 33), live, by decide +kernel⟩,
   ⟨live, by decide +kernel⟩,
   ⟨asleep1, by decide +kernel⟩,
   ⟨aux3, by decide +kernel⟩,
   ⟨1, stamps, by decide +kernel⟩,
   ⟨0, stamps, by decide +kernel⟩,
   ⟨4294967296, 0, ([] : List Nat), ((promQ.drawT0).get (by decide +kernel)).2, promQ, by decide +kernel⟩,
   ⟨live, by decide +kernel⟩,
   ⟨4294967296, low0, by decide +kernel⟩,
   ⟨live, by decide +kernel⟩,
   ⟨(0 : BitVec 33), ((smFind? demEnd.slc.moves ((0 : BitVec 33).toNat + 2 ^ 32)).get (by decide +kernel)), 1, 65536, ((demEnd.encodeLines (demEnd.pageLines (demEnd.pme ((0 : BitVec 33).toNat + 2 ^ 32)) ((0 : BitVec 33).toNat + 2 ^ 32) ((smFind? demEnd.slc.moves ((0 : BitVec 33).toNat + 2 ^ 32)).get (by decide +kernel)).key [] []).1).get (by decide +kernel)), ((demEnd.drawRun 1).get (by decide +kernel)).2, demEnd, by decide +kernel⟩,
   ⟨(0 : BitVec 33), ((smFind? demRaw.slc.moves ((0 : BitVec 33).toNat + 2 ^ 32)).get (by decide +kernel)), demRaw, by decide +kernel⟩,
   ⟨4294967296, 0, 2, t2s, by decide +kernel⟩,
   ⟨live, by decide +kernel⟩,
   ⟨(0 : BitVec 33), ((smFind? t2End.slc.moves ((0 : BitVec 33).toNat + 2 ^ 32)).get (by decide +kernel)), (2 : NodeId), 4, t2End, by decide +kernel⟩,
   ⟨0, 5, ([] : List (Nat × Nat)), ((stall0.txn? 0).get (by decide +kernel)), ((smFind? stall0.slc.moves (((stall0.txn? 0).get (by decide +kernel)).ln / 64)).get (by decide +kernel)), stall0, 0, ((stall0.drawT0).get (by decide +kernel)).2, by decide +kernel⟩,
   ⟨0, 5, ([] : List (Nat × Nat)), ((stall1.txn? 0).get (by decide +kernel)), ((smFind? stall1.slc.moves (((stall1.txn? 0).get (by decide +kernel)).ln / 64)).get (by decide +kernel)), stall1, 2048, ((stall1.drawRsv).get (by decide +kernel)).2, by decide +kernel⟩,
   ⟨0, 5, ([] : List (Nat × Nat)), ((stall2.txn? 0).get (by decide +kernel)), ((smFind? stall2.slc.moves (((stall2.txn? 0).get (by decide +kernel)).ln / 64)).get (by decide +kernel)), stall2, 0, by decide +kernel⟩,
   ⟨live, by decide +kernel⟩,
   ⟨17592186044416, ((dcdLow.dec.extents).head (by decide +kernel)).2, dcdLow, by decide +kernel⟩,
   ⟨live, by decide +kernel⟩,
   ⟨(5 : NodeId), lost5, by decide +kernel⟩,
   ⟨(0 : NodeId), live, by decide +kernel⟩,
   ⟨(0 : Head), (1 : Fin 32), live, by decide +kernel⟩,
   ⟨(0 : Head), (0 : Fin 32), live, by decide +kernel⟩,
   ⟨(0 : Head), (0 : Fin 32), live, by decide +kernel⟩,
   ⟨(0 : Head), (0 : Fin 32), locked, by decide +kernel⟩,
   ⟨(0 : Head), 0, 1, 268435456, 1073741824, 1, 8, locked, by decide +kernel⟩,
   ⟨(0 : Head), (0 : Dpa), live, by decide +kernel⟩,
   ⟨(0 : Head), (0x100000000000 : Dpa), 1, (none : Option DrawerId), dcd, by decide +kernel⟩,
   ⟨(0 : Head), (0 : Dpa), 0, (none : Option DrawerId), live, by decide +kernel⟩,
   ⟨(0 : Head), (0 : Dpa), ((smFind? ext3.dec.extents (0 : Dpa).toNat).get (by decide +kernel)), ext3, by decide +kernel⟩,
   ⟨(0 : Head), (0x100000000000 : Dpa), ((smFind? dcdE.dec.extents (0x100000000000 : Dpa).toNat).get (by decide +kernel)), dcdE, by decide +kernel⟩⟩

theorem witness_DrawerControl :
    (∃ (p : Path) (d : DrawerId) (h : Head) (pasid : BitVec 20) (s : State), s.drwOpen p d = true ∧ s.bindBad d h pasid.toNat = false) ∧
    (∃ (p : Path) (d : DrawerId) (h : Head) (pasid : BitVec 20) (s : State), s.drwOpen p d = true ∧ s.bindBad d h pasid.toNat = true) ∧
    (∃ (p : Path) (d : DrawerId) (s : State), s.drwOpen p d = true ∧ d ≠ 0 ∧ s.ringsOff d = true) ∧
    (∃ (p : Path) (d : DrawerId) (s : State), s.drwOpen p d = true ∧ (d = 0 ∨ s.ringsOff d = false)) ∧
    (∃ (p : Path) (s : State), s.admits p = true ∧ s.drwAdmin p = false) ∧
    (∃ (p : Path) (d : DrawerId) (v : Word) (s : State), s.drwOpen p d = true ∧ s.opsSum d (bits v.toNat 16 13) ≤ 4096) ∧
    (∃ (p : Path) (d : DrawerId) (v : Word) (s : State), s.drwOpen p d = true ∧ 4096 < s.opsSum d (bits v.toNat 16 13)) ∧
    (∃ (d : DrawerId) (v : Word) (s : State), s.pageOpen d = true ∧ (bits v.toNat 16 11 = 0 ∨ (64 ≤ bits v.toNat 0 11 ∧ bits v.toNat 0 11 + bits v.toNat 16 11 ≤ 2048 ∧ ∀ e ∈ s.boundTo (s.drwHead d), e ≠ d.val → overlaps (bits v.toNat 0 11) (bits v.toNat 16 11) (s.fget DRW_VEC.BASE e) (s.fget DRW_VEC.COUNT e) = false))) ∧
    (∃ (d : DrawerId) (v : Word) (s : State), s.pageOpen d = true ∧ bits v.toNat 16 11 ≠ 0 ∧ (bits v.toNat 0 11 < 64 ∨ 2048 < bits v.toNat 0 11 + bits v.toNat 16 11)) ∧
    (∃ (p : Option Path) (q : Path) (d : DrawerId) (s : State), ((p = none ∧ s.pageOpen d = true ∧ q = s.pagePath d) ∨ (p = some q ∧ s.drwOpen q d = true)) ∧ (s.drawer d).resetting = false ∧ s.drwPriv d = false ∧ (s.drawer d).unbindAfter = false ∧ s.tooOld d ((s.fget DRW_STATE.GEN d + 1) % 65536) = []) ∧
    (∃ (p : Option Path) (q : Path) (d : DrawerId) (s : State), ((p = none ∧ s.pageOpen d = true ∧ q = s.pagePath d) ∨ (p = some q ∧ s.drwOpen q d = true)) ∧ (s.drawer d).resetting = false ∧ s.drwPriv d = false ∧ s.tooOld d ((s.fget DRW_STATE.GEN d + 1) % 65536) ≠ []) ∧
    (∃ (p : Option Path) (q : Path) (d : DrawerId) (s : State), ((p = none ∧ s.pageOpen d = true ∧ q = s.pagePath d) ∨ (p = some q ∧ s.drwOpen q d = true)) ∧ (s.drawer d).resetting = false ∧ s.drwPriv d = true) ∧
    (∃ (d : DrawerId) (s : State), (s.drawer d).resetting = true ∧ s.elapsed (s.drawer d).drainFrom (usT s.drainMax) = true) ∧
    (∃ (d : DrawerId) (s : State), (s.drawer d).resetting = true ∧ s.elapsed (s.drawer d).drainFrom (usT s.drainMax) = false) ∧
    (∃ (d : DrawerId) (s : State), (s.drawer d).resetting = true ∧ s.drained d = true) ∧
    (∃ (d : DrawerId) (s : State), (s.drawer d).resetting = true ∧ s.drained d = false) ∧
    (∃ (p : Path) (d : DrawerId) (s : State), s.admits p = true ∧ s.drwExists d = true ∧ (s.drwAdmin p = true ∨ s.pageOwner p d = true)) ∧
    (∃ (d : DrawerId) (r : RingId) (s : State), s.pageOpen d = true ∧ (s.ring d r).state = 0 ∧ (s.drawer d).resetting = false ∧ s.ringValid d r = true) ∧
    (∃ (d : DrawerId) (r : RingId) (s : State), s.pageOpen d = true ∧ (s.ring d r).state = 0 ∧ (s.drawer d).resetting = false ∧ s.ringValid d r = false) ∧
    (∃ (d : DrawerId) (r : RingId) (s : State), s.pageOpen d = true ∧ (s.ring d r).state ≠ 0) ∧
    (∃ (d : DrawerId) (r : RingId) (s : State), s.pageOpen d = true ∧ (s.ring d r).state = 2 ∧ ((s.ring d r).cause ≠ 3 ∨ s.hostReach d = true) ∧ (s.ring d r).held = []) ∧
    (∃ (d : DrawerId) (r : RingId) (s : State) (n : _) (o : _) (st : _), s.pageOpen d = true ∧ (s.ring d r).state = 2 ∧ s.hostReach d = true ∧ (s.ring d r).held = [n] ∧ smFind? s.drw.ops n = some o ∧ o.status = some st ∧ o.drawer = d.val ∧ o.ring = r.val ∧ o.desc.quiet = false) ∧
    (∃ (d : DrawerId) (r : RingId) (s : State) (v : Word), s.pageOpen d = true ∧ (s.ring d r).state ≠ 0 ∧ ringAhead (s.ringLog2 d r) (ringIdx (s.ringLog2 d r) v.toNat) (s.ring d r).sqHead ≤ 2 ^ s.ringLog2 d r) ∧
    (∃ (d : DrawerId) (r : RingId) (s : State) (v : Word), s.pageOpen d = true ∧ ((s.ring d r).state = 0 ∨ 2 ^ s.ringLog2 d r < ringAhead (s.ringLog2 d r) (ringIdx (s.ringLog2 d r) v.toNat) (s.ring d r).sqHead)) ∧
    (∃ (d : DrawerId) (r : RingId) (s : State) (v : Word), s.pageOpen d = true ∧ (s.ring d r).state ≠ 0 ∧ ringAhead (s.ringLog2 d r) (s.ring d r).cqTail (ringIdx (s.ringLog2 d r) v.toNat) ≤ 2 ^ s.ringLog2 d r) ∧
    (∃ (d : DrawerId) (r : RingId) (s : State) (v : Word), s.pageOpen d = true ∧ ((s.ring d r).state = 0 ∨ 2 ^ s.ringLog2 d r < ringAhead (s.ringLog2 d r) (s.ring d r).cqTail (ringIdx (s.ringLog2 d r) v.toNat))) ∧
    (∃ (d : DrawerId) (s : State) (k : Fin 64) (x : IrqEntry), s.pageOpen d = true ∧ smGet (s.drawer d).irqs k {} = x ∧ (x.pend = false ∨ entryHeld (s.head (s.drwHead d)) = true)) ∧
    (∃ (d : DrawerId) (s : State) (k : Fin 64) (x : IrqEntry), s.pageOpen d = true ∧ smGet (s.drawer d).irqs k {} = x ∧ x.pend = true ∧ x.vec = false ∧ entryHeld (s.head (s.drwHead d)) = false) :=
  ⟨⟨(.head 0 : Path), (0 : DrawerId), (0 : Head), (0 : BitVec 20), live, by decide +kernel⟩,
   ⟨(.head 0 : Path), (0 : DrawerId), (1 : Head), (0 : BitVec 20), live, by decide +kernel⟩,
   ⟨(.head 0 : Path), (1 : DrawerId), live, by decide +kernel⟩,
   ⟨(.head 0 : Path), (0 : DrawerId), live, by decide +kernel⟩,
   ⟨(.head 1 : Path), live, by decide +kernel⟩,
   ⟨(.head 0 : Path), (0 : DrawerId), (0 : Word), live, by decide +kernel⟩,
   ⟨(.head 0 : Path), (0 : DrawerId), (0xFFFFFFFF : Word), live, by decide +kernel⟩,
   ⟨(0 : DrawerId), (0 : Word), live, by decide +kernel⟩,
   ⟨(0 : DrawerId), (0xFFFFFFFF : Word), live, by decide +kernel⟩,
   ⟨(some (.head 0) : Option Path), (.head 0 : Path), (1 : DrawerId), live, by decide +kernel⟩,
   ⟨(none : Option Path), (.head 0 : Path), (0 : DrawerId), opOld, by decide +kernel⟩,
   ⟨(none : Option Path), (.head 0 : Path), (0 : DrawerId), live, by decide +kernel⟩,
   ⟨(0 : DrawerId), rst0, by decide +kernel⟩,
   ⟨(0 : DrawerId), rstN, by decide +kernel⟩,
   ⟨(0 : DrawerId), rst0, by decide +kernel⟩,
   ⟨(0 : DrawerId), rstB, by decide +kernel⟩,
   ⟨(.head 0 : Path), (0 : DrawerId), live, by decide +kernel⟩,
   ⟨(0 : DrawerId), (0 : RingId), d0, by decide +kernel⟩,
   ⟨(0 : DrawerId), (0 : RingId), live, by decide +kernel⟩,
   ⟨(0 : DrawerId), (0 : RingId), ringOn, by decide +kernel⟩,
   ⟨(0 : DrawerId), (0 : RingId), paused, by decide +kernel⟩,
   ⟨(0 : DrawerId), (0 : RingId), opHeld3, 0, ((smFind? opHeld3.drw.ops 0).get (by decide +kernel)), 0, by decide +kernel⟩,
   ⟨(0 : DrawerId), (0 : RingId), ringOn, (0 : Word), by decide +kernel⟩,
   ⟨(0 : DrawerId), (0 : RingId), live, (0 : Word), by decide +kernel⟩,
   ⟨(0 : DrawerId), (0 : RingId), ringOn, (0 : Word), by decide +kernel⟩,
   ⟨(0 : DrawerId), (0 : RingId), live, (0 : Word), by decide +kernel⟩,
   ⟨(0 : DrawerId), live, (0 : Fin 64), ({ addr := 0, data := 0, mask := true, pend := false, vec := false } : IrqEntry), by decide +kernel⟩,
   ⟨(0 : DrawerId), irqP, (0 : Fin 64), ({ addr := 0xFEE00000, data := 5, mask := true, pend := true, vec := false } : IrqEntry), by decide +kernel⟩⟩

theorem witness_DrawerOperations :
    (∃ (d : DrawerId) (r : RingId) (ds : List Descriptor) (s : State), s.fetchable d r = true ∧ s.drwRuns = true ∧ s.hostReach d = true ∧ ds ≠ [] ∧ ds.length ≤ s.fetchRoom d r) ∧
    (∃ (d : DrawerId) (r : RingId) (s : State), (s.fetchable d r = false ∨ s.drwRuns = false ∨ s.hostReach d = false ∨ s.fetchRoom d r = 0)) ∧
    (∃ (d : DrawerId) (r : RingId) (n : Nat) (f : Nat) (o : Op) (s : State), s.opPick d r 2 = some (n, o) ∧ smFind? s.drw.ops n = some o ∧ o.started = false ∧ o.plan = none ∧ s.badField o = some f ∧ s.hostReach d = true) ∧
    (∃ (d : DrawerId) (r : RingId) (n : Nat) (o : Op) (s : State), s.freshOp d r 0 n o) ∧
    (∃ (d : DrawerId) (r : RingId) (n : Nat) (o : Op) (s : State), s.freshOp d r 6 n o) ∧
    (∃ (d : DrawerId) (r : RingId) (n : Nat) (o : Op) (s : State), s.hostOp d r 1 n o) ∧
    (∃ (d : DrawerId) (r : RingId) (n : Nat) (o : Op) (s : State) (tag : _), s.hostOp d r 1 n o ∧ s.freeHostTag (s.drwHead d) = some tag) ∧
    (∃ (d : DrawerId) (r : RingId) (n : Nat) (o : Op) (s : State), s.hostOp d r 2 n o) ∧
    (∃ (d : DrawerId) (r : RingId) (n : Nat) (rn : Nat) (dpa : Nat) (rg : Region) (o : Op) (s : State), s.freshOp d r 2 n o ∧ s.badKey o = none ∧ o.desc.dattr.dev = true ∧ o.desc.len = 64 ∧ o.desc.dst.toNat % 64 = 0 ∧ s.opDec d o.desc.dattr o.desc.dst.toNat = some (rn, rg, dpa) ∧ rg.home = none ∧ rg.tiered = false ∧ (s.slot o.desc.dattr.key.toNat).state = 1) ∧
    (∃ (d : DrawerId) (r : RingId) (n : Nat) (o : Op) (s : State), s.hostOp d r 3 n o ∧ s.canEncode = true ∧ (s.ring d r).openBlock.length + o.desc.len.toNat < 65536) ∧
    (∃ (d : DrawerId) (r : RingId) (n : Nat) (o : Op) (s : State), s.hostOp d r 3 n o ∧ s.canEncode = true) ∧
    (∃ (d : DrawerId) (r : RingId) (n : Nat) (used : Nat) (o : Op) (b : List Byte) (out : List Byte) (s : State), s.hostOp d r 4 n o ∧ s.pipes false ≠ [] ∧ jobBlocks o.desc.dmax.toNat none (o.desc.len.toNat + 1) 0 0 (hostRead b o.desc.len.toNat) 0 [] = (out, used, none) ∧ out ≠ []) ∧
    (∃ (d : DrawerId) (r : RingId) (n : Nat) (used : Nat) (o : Op) (b : List Byte) (out : List Byte) (s : State) (i : _), s.hostOp d r 4 n o ∧ s.pipes false ≠ [] ∧ jobBlocks o.desc.dmax.toNat none (o.desc.len.toNat + 1) 0 0 (hostRead b o.desc.len.toNat) 0 [] = (out, used, some (7, i))) ∧
    (∃ (d : DrawerId) (r : RingId) (n : Nat) (o : Op) (s : State), s.freshOp d r 5 n o ∧ o.desc.dattr.dev = false ∧ s.hostReach d = true ∧ (s.ring d r).openBlock = []) ∧
    (∃ (d : DrawerId) (r : RingId) (n : Nat) (o : Op) (s : State), s.freshOp d r 5 n o ∧ o.desc.dattr.dev = false ∧ s.hostReach d = true ∧ (s.ring d r).openBlock ≠ [] ∧ s.canEncode = true ∧ o.desc.dmax = 0) ∧
    (∃ (n : Nat) (st : Nat) (o : Op) (s : State), smFind? s.drw.ops n = some o ∧ o.status = some st ∧ s.opCurrent o = true ∧ o.outst = 0 ∧ o.tags = [] ∧ s.fget PWR_STATE.CUR = 0 ∧ s.hostReach o.drawer = true ∧ ((s.ring o.drawer o.ring).state ≠ 2 ∨ (s.ring o.drawer o.ring).cause ≠ 3)) ∧
    (∃ (n : Nat) (st : Nat) (o : Op) (s : State), smFind? s.drw.ops n = some o ∧ o.status = some st ∧ s.opCurrent o = true ∧ o.outst = 0 ∧ o.tags = [] ∧ s.fget PWR_STATE.CUR = 0 ∧ s.hostReach o.drawer = false ∧ n ∉ (s.ring o.drawer o.ring).held) ∧
    (∃ (n : Nat) (o : Op) (s : State), smFind? s.drw.ops n = some o ∧ o.status = none) :=
  ⟨⟨(0 : DrawerId), (0 : RingId), ([{ op := 0, irq := false, quiet := false, allRings := false, flagsReserved := 0, irqe := 0, reserved3 := 0, id := 7, src := 0, dst := 0, len := 0, dmax := 0, sattr := { reserved := 0, dpa := false, dev := false, key := 0 }, dattr := { reserved := 0, dpa := false, dev := false, key := 0 }, reserved24 := 0, pattern := 0, reserved30 := 0 }] : List Descriptor), ringSq, by decide +kernel⟩,
   ⟨(0 : DrawerId), (0 : RingId), live, by decide +kernel⟩,
   ⟨(0 : DrawerId), (0 : RingId), 0, 36, ((opBad.opPick (0 : DrawerId) (0 : RingId) 2).get (by decide +kernel)).2, opBad, by decide +kernel⟩,
   ⟨(0 : DrawerId), (0 : RingId), 0, ((opNop.opPick (0 : DrawerId) (0 : RingId) 0).get (by decide +kernel)).2, opNop, by decide +kernel⟩,
   ⟨(0 : DrawerId), (0 : RingId), 0, ((opFence.opPick (0 : DrawerId) (0 : RingId) 6).get (by decide +kernel)).2, opFence, by decide +kernel⟩,
   ⟨(0 : DrawerId), (0 : RingId), 0, ((opCopy.opPick (0 : DrawerId) (0 : RingId) 1).get (by decide +kernel)).2, opCopy, by decide +kernel⟩,
   ⟨(0 : DrawerId), (0 : RingId), 0, ((opCopy.opPick (0 : DrawerId) (0 : RingId) 1).get (by decide +kernel)).2, opCopy, 0, by decide +kernel⟩,
   ⟨(0 : DrawerId), (0 : RingId), 0, ((opFill.opPick (0 : DrawerId) (0 : RingId) 2).get (by decide +kernel)).2, opFill, by decide +kernel⟩,
   ⟨(0 : DrawerId), (0 : RingId), 0, 0, 4096, ((opFillD.opDec (0 : DrawerId) ((opFillD.opPick (0 : DrawerId) (0 : RingId) 2).get (by decide +kernel)).2.desc.dattr ((opFillD.opPick (0 : DrawerId) (0 : RingId) 2).get (by decide +kernel)).2.desc.dst.toNat).get (by decide +kernel)).2.1, ((opFillD.opPick (0 : DrawerId) (0 : RingId) 2).get (by decide +kernel)).2, opFillD, by decide +kernel⟩,
   ⟨(0 : DrawerId), (0 : RingId), 0, ((opComp.opPick (0 : DrawerId) (0 : RingId) 3).get (by decide +kernel)).2, opComp, by decide +kernel⟩,
   ⟨(0 : DrawerId), (0 : RingId), 0, ((opComp.opPick (0 : DrawerId) (0 : RingId) 3).get (by decide +kernel)).2, opComp, by decide +kernel⟩,
   ⟨(0 : DrawerId), (0 : RingId), 0, 254, ((opDecOk.opPick (0 : DrawerId) (0 : RingId) 4).get (by decide +kernel)).2, ([183, 94, 1, 1, 238, 0, 0, 0, 0, 0, 64, 0, 127, 252, 85, 56, 167, 94, 33, 0, 0, 0, 103, 0, 7, 121, 32, 8, 139, 64, 9, 157, 96, 10, 175, 128, 11, 193, 160, 12, 211, 192, 13, 229, 224, 14, 166, 82, 1, 187, 187, 15, 0, 0, 0, 0, 0, 0, 1, 0, 32, 32, 1, 9, 72, 64, 2, 18, 144, 128, 4, 36, 32, 1, 9, 72, 64, 2, 18, 144, 128, 4, 36, 32, 1, 9, 72, 64, 2, 18, 144, 128, 4, 36, 32, 1, 9, 72, 64, 2, 18, 144, 128, 123, 126, 0, 0, 0, 0, 0, 0, 0, 0, 0, 0, 0, 0, 0, 0, 0, 0, 0, 0, 0, 0, 0, 0, 0, 0, 0, 0, 0, 0, 0, 0, 0, 0, 0, 0, 0, 0, 0, 0, 0, 0, 0, 0, 0, 0, 0, 0, 0, 0, 0, 0, 0, 0, 0, 0, 0, 0, 0, 0, 0, 0, 0, 0, 0, 0, 0, 0, 0, 0, 0, 0, 0, 0, 0, 0, 0, 0, 0, 0, 0, 0, 0, 0, 0, 0, 0, 0, 0, 0, 0, 0, 0, 0, 0, 0, 0, 0, 0, 0, 0, 0, 0, 0, 0, 0, 0, 0, 0, 0, 0, 0, 0, 0, 0, 0, 0, 0, 0, 0, 0, 0, 0, 0, 0, 0, 0, 0, 0, 0, 0, 0, 0, 0, 0, 0, 0, 0, 0, 0, 0, 0, 0, 0, 0, 0, 0, 0, 0, 0, 0] : List Byte), ([0, 1, 2, 3, 4, 5, 6, 7, 8, 9, 10, 11, 12, 13, 14, 15, 16, 17, 18, 19, 20, 21, 22, 23, 24, 25, 26, 27, 28, 29, 30, 31, 32, 33, 34, 35, 36, 37, 38, 39, 40, 41, 42, 43, 44, 45, 46, 47, 48, 49, 50, 51, 52, 53, 54, 55, 56, 57, 58, 59, 60, 61, 62, 63] : List Byte), opDecOk, by decide +kernel⟩,
   ⟨(0 : DrawerId), (0 : RingId), 0, 0, ((opDec.opPick (0 : DrawerId) (0 : RingId) 4).get (by decide +kernel)).2, ([] : List Byte), ([] : List Byte), opDec, 0, by decide +kernel⟩,
   ⟨(0 : DrawerId), (0 : RingId), 0, ((opFlush.opPick (0 : DrawerId) (0 : RingId) 5).get (by decide +kernel)).2, opFlush, by decide +kernel⟩,
   ⟨(0 : DrawerId), (0 : RingId), 0, ((opFlushO.opPick (0 : DrawerId) (0 : RingId) 5).get (by decide +kernel)).2, opFlushO, by decide +kernel⟩,
   ⟨0, 0, ((smFind? opDone.drw.ops 0).get (by decide +kernel)), opDone, by decide +kernel⟩,
   ⟨0, 0, ((smFind? opDoneB.drw.ops 0).get (by decide +kernel)), opDoneB, by decide +kernel⟩,
   ⟨0, ((smFind? opNop.drw.ops 0).get (by decide +kernel)), opNop, by decide +kernel⟩⟩

theorem witness_SpanLink :
    (∃ (p : Path) (port : Port) (s : State), s.admits p = true ∧ s.mgmt p = true ∧ s.linkSt port = 3) ∧
    (∃ (p : Path) (port : Port) (s : State), s.admits p = true ∧ s.mgmt p = true ∧ s.linkUp port = true ∧ s.fget SPN_PSTATE.WIDTH port ≠ 8) ∧
    (∃ (p : Path) (port : Port) (s : State), s.admits p = true ∧ s.mgmt p = true ∧ s.linkSt port ≠ 0) ∧
    (∃ (p : Path) (s : State), s.admits p = true ∧ s.mgmt p = true) ∧
    (∃ (p : Path) (s : State), s.admits p = true ∧ s.mgmt p = false) ∧
    (∃ (port : Port) (s : State), s.portMay port = true ∧ s.linkSt port = 0 ∧ (s.link port).narrowing = false ∧ (s.link port).retraining = false) ∧
    (∃ (port : Port) (s : State), s.portMay port = true ∧ (s.link port).narrowing = true) ∧
    (∃ (port : Port) (s : State), s.portMay port = true ∧ (s.link port).narrowing = false ∧ (s.link port).retraining = true) ∧
    (∃ (port : Port) (s : State), s.portMay port = false) ∧
    (∃ (port : Port) (b : HelloBody) (s : State), s.linkSt port = 1 ∧ b.fabric.toNat = s.fget SPN_FABRIC.ID ∧ s.lcAccepts b = true ∧ b.serial ≠ s.nv.serial) ∧
    (∃ (port : Port) (b : HelloBody) (s : State), s.linkSt port = 1 ∧ b.fabric.toNat ≠ s.fget SPN_FABRIC.ID) ∧
    (∃ (port : Port) (b : HelloBody) (s : State), s.linkSt port = 1 ∧ b.fabric.toNat = s.fget SPN_FABRIC.ID ∧ s.lcAccepts b = false) ∧
    (∃ (port : Port) (b : HelloBody) (s : State), s.linkSt port = 5 ∧ (s.link port).peerIncarn = some b.incarn) ∧
    (∃ (port : Port) (s : State), s.linkSt port = 0) ∧
    (∃ (port : Port) (s : State), s.linkUp port = true) ∧
    (∃ (port : Port) (s : State), s.linkUp port = false) ∧
    (∃ (port : Port) (s : State), s.linkUp port = true ∧ s.elapsed (s.link port).lastHello (msT 300) = true) ∧
    (∃ (port : Port) (s : State), s.elapsed (s.link port).lastHello (msT 300) = false) ∧
    (∃ (port : Port) (s : State), ((s.link port).retraining = true ∨ (s.link port).narrowing = true)) ∧
    (∃ (port : Port) (s : State), (s.link port).retraining = false ∧ (s.link port).narrowing = false) ∧
    (∃ (port : Port) (s : State), s.linkSt port = 2 ∧ s.elapsed (s.link port).authFrom (msT 500) = true) ∧
    (∃ (port : Port) (s : State), (s.linkSt port ≠ 2 ∨ s.elapsed (s.link port).authFrom (msT 500) = false)) ∧
    (∃ (port : Port) (s : State), s.linkSt port = 2) ∧
    (∃ (port : Port) (db : List LsaBody) (s : State), s.linkSt port = 2 ∧ s.idConflict db = true) ∧
    (∃ (port : Port) (db : List LsaBody) (s : State), s.linkSt port = 2 ∧ s.idConflict db = false) ∧
    (∃ (port : Port) (s : State), s.linkSt port ≠ 2) ∧
    (∃ (port : Port) (idx : Byte) (body : List Byte) (s : State), 2 ≤ s.linkSt port ∧ s.linkSt port ≤ 4 ∧ body.length ≤ 224 ∧ idx = 0) ∧
    (∃ (port : Port) (idx : Byte) (body : List Byte) (s : State), 2 ≤ s.linkSt port ∧ s.linkSt port ≤ 4 ∧ body.length ≤ 224 ∧ idx.toNat ≠ 0 ∧ idx.toNat = (s.link port).spdmIdx) ∧
    (∃ (port : Port) (idx : Byte) (body : List Byte) (s : State), 2 ≤ s.linkSt port ∧ s.linkSt port ≤ 4 ∧ body.length ≤ 224 ∧ idx.toNat ≠ 0 ∧ idx.toNat ≠ (s.link port).spdmIdx) ∧
    (∃ (t0 : Time) (s : State), s.fget SPN_NODE.STATE = 1 ∧ s.spn.claimFrom = some t0 ∧ s.elapsed t0 (msT 2) = true) ∧
    (∃ (t0 : Time) (s : State), s.fget SPN_NODE.STATE = 1 ∧ s.spn.claimFrom = some t0 ∧ s.elapsed t0 (msT 2) = false) ∧
    (∃ (t0 : Time) (us : Nat) (s : State), s.spn.backoff = some (t0, us) ∧ s.elapsed t0 (usT us) = true) ∧
    (∃ (n : Nat) (s : State), n < 63 ∧ (∀ e ∈ s.spn.db, e.2.body.node.toNat ≠ (s.fget SPN_NODE.ID + 1 + n) % 64)) ∧
    (∃ (port : Port) (b : LsaBody) (s : State), s.linkSt port = 4 ∧ b.serial ≠ s.nv.serial ∧ smFind? s.spn.db b.serial.toNat = none) ∧
    (∃ (port : Port) (b : LsaBody) (s : State) (r : _), s.linkSt port = 4 ∧ b.serial ≠ s.nv.serial ∧ smFind? s.spn.db b.serial.toNat = some r ∧ newer b.ageSeq r.body.ageSeq = false ∧ r.body.incarn = b.incarn) ∧
    (∃ (s : State), s.fget SPN_CFG.ROLE ≠ 0 ∧ s.spn.withdrawn = false) ∧
    (∃ (s : State), (s.fget SPN_CFG.ROLE = 0 ∨ s.spn.withdrawn = true)) ∧
    (∃ (serial : Word64) (r : LsaRec) (s : State), smFind? s.spn.db serial.toNat = some r ∧ s.elapsed r.at_ (secT 3) = true) ∧
    (∃ (serial : Word64) (r : LsaRec) (s : State), smFind? s.spn.db serial.toNat = some r ∧ s.elapsed r.at_ (secT 3) = false) ∧
    (∃ (port : Port) (seq : Byte) (s : State), s.linkUp port = true ∧ ((s.link port).replay.head?.any fun f => f.seq == seq) = false) ∧
    (∃ (port : Port) (seq : Byte) (s : State), s.linkUp port = true ∧ ((s.link port).replay.head?.any fun f => f.seq == seq) = true ∧ 4 ≤ (s.link port).replays) ∧
    (∃ (port : Port) (lane : Fin 8) (s : State) (f : _) (n : _), s.linkUp port = true ∧ s.fbitAt SPN_PLANES.FAILED port lane.val = false ∧ soundLanes (withBit (s.fget SPN_PLANES.FAILED port) lane.val true % 256) (s.fget SPN_PSTATE.WIDTH port) = some (f, n)) ∧
    (∃ (port : Port) (lane : Fin 8) (s : State), s.linkUp port = true ∧ s.fbitAt SPN_PLANES.FAILED port lane.val = false ∧ soundLanes (withBit (s.fget SPN_PLANES.FAILED port) lane.val true % 256) (s.fget SPN_PSTATE.WIDTH port) = none) ∧
    (∃ (port : Port) (keep : Byte) (s : State), s.linkUp port = true ∧ (popCount keep.toNat 8 = 4 ∨ popCount keep.toNat 8 = 2) ∧ popCount keep.toNat 8 < s.fget SPN_PSTATE.WIDTH port) ∧
    (∃ (port : Port) (keep : Byte) (s : State), s.fget SPN_PSTATE.WIDTH port ≤ popCount keep.toNat 8) ∧
    (∃ (port : Port) (dest : NodeId) (s : State), s.spanOpen port = true ∧ dest.toNat ≠ s.fget SPN_NODE.ID ∧ s.spn.fwd.length < 1024 ∧ s.asleep = true) ∧
    (∃ (port : Port) (dest : NodeId) (hop : Fin 6) (s : State) (p : _), s.spanOpen port = true ∧ dest.toNat ≠ s.fget SPN_NODE.ID ∧ s.spn.fwd.length < 1024 ∧ s.asleep = false ∧ hop.val + 1 < s.fget SPN_CFG.MAX_HOPS ∧ smFind? s.spn.routes dest.toNat = some p ∧ s.linkSt p = 4) ∧
    (∃ (port : Port) (dest : NodeId) (hop : Fin 6) (s : State), s.spanOpen port = true ∧ dest.toNat ≠ s.fget SPN_NODE.ID ∧ s.spn.fwd.length < 1024 ∧ s.asleep = false ∧ hop.val + 1 < s.fget SPN_CFG.MAX_HOPS ∧ smFind? s.spn.routes dest.toNat = none) ∧
    (∃ (port : Port) (dest : NodeId) (hop : Fin 6) (s : State), s.spanOpen port = true ∧ dest.toNat ≠ s.fget SPN_NODE.ID ∧ s.spn.fwd.length < 1024 ∧ s.asleep = false ∧ s.fget SPN_CFG.MAX_HOPS ≤ hop.val + 1) ∧
    (∃ (entry : Nat) (e : FwdEntry) (s : State), smFind? s.spn.fwd entry = some e ∧ e.wake = false ∧ s.elapsed e.since (msT 1) = true) ∧
    (∃ (entry : Nat) (s : State), smFind? s.spn.fwd entry = none) ∧
    (∃ (dest : NodeId) (tag : BitVec 12) (r : SpanReq) (s : State) (h : _), smFind? s.spn.tags (dest.toNat * 4096 + tag.toNat) = some r ∧ r.failed = false ∧ s.elapsed r.since (usT (s.fmin SPN_CTL.E2E_US 1000)) = true ∧ r.op = 1 ∧ r.drw = none ∧ r.head = some h ∧ s.linkReady h.val = true) ∧
    (∃ (dest : NodeId) (tag : BitVec 12) (r : SpanReq) (s : State), smFind? s.spn.tags (dest.toNat * 4096 + tag.toNat) = some r ∧ (r.failed = true ∨ s.elapsed r.since (usT (s.fmin SPN_CTL.E2E_US 1000)) = false)) ∧
    (∃ (dest : NodeId) (tag : BitVec 12) (r : SpanReq) (s : State), smFind? s.spn.tags (dest.toNat * 4096 + tag.toNat) = some r ∧ r.failed = true ∧ s.elapsed r.since (usT (4 * s.fmin SPN_CTL.E2E_US 1000)) = true) ∧
    (∃ (dest : NodeId) (tag : BitVec 12) (r : SpanReq) (s : State), smFind? s.spn.tags (dest.toNat * 4096 + tag.toNat) = some r ∧ r.failed = false) ∧
    (∃ (n : NodeId) (t0 : Time) (s : State), smFind? s.spn.lostAt n.toNat = some t0 ∧ s.elapsed t0 (msT (s.fmin SPN_CTL.LOSS_MS 10)) = true ∧ s.wakePending n.toNat = false ∧ n.toNat ∉ s.spn.unreach) ∧
    (∃ (n : NodeId) (s : State), (smFind? s.spn.lostAt n.toNat = none ∨ n.toNat ∈ s.spn.unreach)) ∧
    (∃ (port : Port) (s : State), s.fget SPN_CFG.ROLE ≠ 0 ∧ s.linkSt port ≠ 0 ∧ (s.fget PWR_STATE.CUR = 2 ∨ s.fget PWR_STATE.CUR = 3) ∧ s.fget PWR_STATE.PHASE = 0 ∧ s.pwr.failed = false) ∧
    (∃ (port : Port) (s : State), (s.fget SPN_CFG.ROLE = 0 ∨ s.linkSt port = 0)) ∧
    (∃ (port : Port) (s : State), s.linkSt port = 5 ∧ s.portWaits port = true) ∧
    (∃ (port : Port) (s : State), (s.linkSt port ≠ 5 ∨ s.portWaits port = false)) :=
  ⟨⟨(.head 0 : Path), (0 : Port), lk3, by decide +kernel⟩,
   ⟨(.head 0 : Path), (0 : Port), spW4, by decide +kernel⟩,
   ⟨(.head 0 : Path), (0 : Port), sp, by decide +kernel⟩,
   ⟨(.head 0 : Path), live, by decide +kernel⟩,
   ⟨(.head 1 : Path), live, by decide +kernel⟩,
   ⟨(1 : Port), sp, by decide +kernel⟩,
   ⟨(0 : Port), lk0n, by decide +kernel⟩,
   ⟨(0 : Port), lk0r, by decide +kernel⟩,
   ⟨(0 : Port), live, by decide +kernel⟩,
   ⟨(0 : Port), (hello0 : HelloBody), lk1, by decide +kernel⟩,
   ⟨(0 : Port), ({ hello0 with fabric := 7 } : HelloBody), lk1, by decide +kernel⟩,
   ⟨(0 : Port), (hello0 : HelloBody), lk1p, by decide +kernel⟩,
   ⟨(0 : Port), (hello0 : HelloBody), lk5, by decide +kernel⟩,
   ⟨(0 : Port), live, by decide +kernel⟩,
   ⟨(0 : Port), sp, by decide +kernel⟩,
   ⟨(0 : Port), live, by decide +kernel⟩,
   ⟨(0 : Port), lk2o, by decide +kernel⟩,
   ⟨(0 : Port), live, by decide +kernel⟩,
   ⟨(0 : Port), lk0n, by decide +kernel⟩,
   ⟨(0 : Port), live, by decide +kernel⟩,
   ⟨(0 : Port), lk2o, by decide +kernel⟩,
   ⟨(0 : Port), live, by decide +kernel⟩,
   ⟨(0 : Port), lk2, by decide +kernel⟩,
   ⟨(0 : Port), ([{ lsa0 with serial := 77, node := 1 }] : List LsaBody), lk2, by decide +kernel⟩,
   ⟨(0 : Port), ([] : List LsaBody), lk2, by decide +kernel⟩,
   ⟨(0 : Port), live, by decide +kernel⟩,
   ⟨(0 : Port), (0 : Byte), ([] : List Byte), sp, by decide +kernel⟩,
   ⟨(0 : Port), (1 : Byte), ([] : List Byte), spSpdm, by decide +kernel⟩,
   ⟨(0 : Port), (1 : Byte), ([] : List Byte), sp, by decide +kernel⟩,
   ⟨(5 : Time), claim0, by decide +kernel⟩,
   ⟨(999999 : Time), claimN, by decide +kernel⟩,
   ⟨(5 : Time), 100, backoff, by decide +kernel⟩,
   ⟨0, live, by decide +kernel⟩,
   ⟨(0 : Port), ({ lsa0 with serial := 77, node := 5 } : LsaBody), sp, by decide +kernel⟩,
   ⟨(0 : Port), (lsa0 : LsaBody), sp, ((smFind? sp.spn.db (lsa0 : LsaBody).serial.toNat).get (by decide +kernel)), by decide +kernel⟩,
   ⟨sp, by decide +kernel⟩,
   ⟨live, by decide +kernel⟩,
   ⟨(5 : Word64), ((smFind? lk2o.spn.db (5 : Word64).toNat).get (by decide +kernel)), lk2o, by decide +kernel⟩,
   ⟨(5 : Word64), ((smFind? sp.spn.db (5 : Word64).toNat).get (by decide +kernel)), sp, by decide +kernel⟩,
   ⟨(0 : Port), (0 : Byte), sp, by decide +kernel⟩,
   ⟨(0 : Port), (1 : Byte), spRp4, by decide +kernel⟩,
   ⟨(0 : Port), (0 : Fin 8), sp, 4, 4, by decide +kernel⟩,
   ⟨(0 : Port), (7 : Fin 8), spW2, by decide +kernel⟩,
   ⟨(0 : Port), (5 : Byte), sp, by decide +kernel⟩,
   ⟨(0 : Port), (0 : Byte), live, by decide +kernel⟩,
   ⟨(0 : Port), (0 : NodeId), spP1, by decide +kernel⟩,
   ⟨(0 : Port), (2 : NodeId), (0 : Fin 6), sp, 0, by decide +kernel⟩,
   ⟨(0 : Port), (0 : NodeId), (0 : Fin 6), sp, by decide +kernel⟩,
   ⟨(0 : Port), (0 : NodeId), (5 : Fin 6), sp, by decide +kernel⟩,
   ⟨0, ((smFind? fwdS.spn.fwd 0).get (by decide +kernel)), fwdS, by decide +kernel⟩,
   ⟨0, live, by decide +kernel⟩,
   ⟨(2 : NodeId), (5 : BitVec 12), ((smFind? tagOld.spn.tags ((2 : NodeId).toNat * 4096 + (5 : BitVec 12).toNat)).get (by decide +kernel)), tagOld, 0, by decide +kernel⟩,
   ⟨(2 : NodeId), (5 : BitVec 12), ((smFind? tagR.spn.tags ((2 : NodeId).toNat * 4096 + (5 : BitVec 12).toNat)).get (by decide +kernel)), tagR, by decide +kernel⟩,
   ⟨(2 : NodeId), (5 : BitVec 12), ((smFind? tagF.spn.tags ((2 : NodeId).toNat * 4096 + (5 : BitVec 12).toNat)).get (by decide +kernel)), tagF, by decide +kernel⟩,
   ⟨(2 : NodeId), (5 : BitVec 12), ((smFind? tagR.spn.tags ((2 : NodeId).toNat * 4096 + (5 : BitVec 12).toNat)).get (by decide +kernel)), tagR, by decide +kernel⟩,
   ⟨(2 : NodeId), (5 : Time), lostN, by decide +kernel⟩,
   ⟨(0 : NodeId), live, by decide +kernel⟩,
   ⟨(0 : Port), spP2, by decide +kernel⟩,
   ⟨(0 : Port), live, by decide +kernel⟩,
   ⟨(0 : Port), p5, by decide +kernel⟩,
   ⟨(0 : Port), live, by decide +kernel⟩⟩

theorem witness_SpanMessages :
    (∃ (m : SpanMsg) (s : State), s.spanOpen m.port = false) ∧
    (∃ (m : SpanMsg) (s : State), s.spanOpen m.port = true ∧ s.asleep = true) ∧
    (∃ (m : SpanMsg) (r : Region) (s : State), s.peerHits m r) ∧
    (∃ (m : SpanMsg) (r : Region) (s : State) (be : _), s.peerHits m r ∧ (s.link m.port).mask = some be) ∧
    (∃ (m : SpanMsg) (r : Region) (s : State), s.peerHits m r ∧ r.shared = false ∧ s.ttRoom1 = true ∧ (peerPtr m, m.ln.toNat) ∉ s.coh.timeouts ∧ s.onChannel m.ln.toNat = true) ∧
    (∃ (m : SpanMsg) (s : State), s.spanReady m = true ∧ (s.regionAt (m.ln.toNat * 64)).all (fun e => !s.peerMay m e.2) = true) ∧
    (∃ (m : SpanMsg) (s : State), s.spanReady m = true ∧ (s.link m.port).mask = none) ∧
    (∃ (port : Port) (s : State), s.spanOpen port = true ∧ s.asleep = false) ∧
    (∃ (port : Port) (s : State), s.spanOpen port = true ∧ s.asleep = true) ∧
    (∃ (m : SpanMsg) (s : State), s.spanReady m = true) ∧
    (∃ (m : SpanMsg) (s : State), s.spanReady m = true ∧ s.holdsLine m.src.toNat m.ln.toNat = true ∧ s.boot.fatal = false) ∧
    (∃ (m : SpanMsg) (s : State), s.spanReady m = true ∧ s.holdsLine m.src.toNat m.ln.toNat = false) ∧
    (∃ (m : SpanMsg) (s : State) (slab : _) (fr : _), s.spanReady m = true ∧ 1 ≤ m.arg.toNat ∧ m.arg.toNat ≤ 16 ∧ s.slabsHeldFor m.src.toNat + m.arg.toNat ≤ s.slabsGrantedTo m.src.toNat ∧ takeRun (s.frameCands 2 s.slc.donor) m.arg.toNat s.slc.donor = some (slab, fr)) ∧
    (∃ (m : SpanMsg) (s : State), s.spanReady m = true ∧ 1 ≤ m.arg.toNat ∧ m.arg.toNat ≤ 16 ∧ s.slabsHeldFor m.src.toNat + m.arg.toNat ≤ s.slabsGrantedTo m.src.toNat ∧ takeRun (s.frameCands 2 s.slc.donor) m.arg.toNat s.slc.donor = none) ∧
    (∃ (m : SpanMsg) (s : State), s.spanReady m = true ∧ 1 ≤ m.arg.toNat ∧ m.arg.toNat ≤ 16 ∧ s.slabsGrantedTo m.src.toNat < s.slabsHeldFor m.src.toNat + m.arg.toNat) ∧
    (∃ (m : SpanMsg) (s : State) (h : _), s.spanReady m = true ∧ s.snoopedHeads m = [h] ∧ h < 16) ∧
    (∃ (m : SpanMsg) (s : State), s.spanReady m = true ∧ s.snoopedHeads m = [] ∧ s.wbPending m.src.toNat m.ln.toNat = false) ∧
    (∃ (m : SpanMsg) (r : SpanReq) (h : Head) (s : State), s.headAwaits m r h ∧ r.op = 1) ∧
    (∃ (m : SpanMsg) (r : SpanReq) (h : Head) (s : State), s.headAwaits m r h ∧ (r.op = 2 ∨ r.op = 3 ∨ r.op = 5)) ∧
    (∃ (m : SpanMsg) (r : SpanReq) (h : Head) (s : State), s.headAwaits m r h) ∧
    (∃ (m : SpanMsg) (s : State), s.spanReady m = true ∧ (∀ r, smFind? s.spn.tags (m.src.toNat * 4096 + m.tag.toNat) = some r → r.failed = true)) ∧
    (∃ (m : SpanMsg) (at_ : Time) (s : State), s.spanReady m = true ∧ (peerPtr m, m.ln.toNat, at_) ∈ s.coh.sent ∧ (peerPtr m, m.ln.toNat) ∉ s.coh.timeouts ∧ (∀ e ∈ s.coh.txns, e.2.ln ≠ m.ln.toNat)) ∧
    (∃ (m : SpanMsg) (r : SpanReq) (v : Move) (s : State), s.awaits m r ∧ smFind? s.slc.moves r.page = some v ∧ v.kind = .toT2 ∧ v.peer = none ∧ m.arg = 0) ∧
    (∃ (m : SpanMsg) (r : SpanReq) (v : Move) (s : State), s.awaits m r ∧ smFind? s.slc.moves r.page = some v ∧ v.kind = .toT2 ∧ v.peer = none ∧ m.arg ≠ 0 ∧ (∀ e ∈ s.coh.txns, e.2.phase = .promoting → e.2.ln / 64 ≠ r.page)) ∧
    (∃ (m : SpanMsg) (r : SpanReq) (s : State), s.awaits m r) :=
  ⟨⟨(msg0 : SpanMsg), live, by decide +kernel⟩,
   ⟨(msg0 : SpanMsg), spP1, by decide +kernel⟩,
   ⟨(msg0 : SpanMsg), (((sp.regionAt ((msg0 : SpanMsg).ln.toNat * 64)).map (·.2)).get (by decide +kernel)), sp, by decide +kernel⟩,
   ⟨(msg0 : SpanMsg), (((spMask.regionAt ((msg0 : SpanMsg).ln.toNat * 64)).map (·.2)).get (by decide +kernel)), spMask, 255, by decide +kernel⟩,
   ⟨(msg0 : SpanMsg), (((sp.regionAt ((msg0 : SpanMsg).ln.toNat * 64)).map (·.2)).get (by decide +kernel)), sp, by decide +kernel⟩,
   ⟨({ msg0 with mv := MetaValue.S, ln := 0x4000000001 } : SpanMsg), sp, by decide +kernel⟩,
   ⟨(msg0 : SpanMsg), sp, by decide +kernel⟩,
   ⟨(0 : Port), sp, by decide +kernel⟩,
   ⟨(0 : Port), spP1, by decide +kernel⟩,
   ⟨(msg0 : SpanMsg), sp, by decide +kernel⟩,
   ⟨(msg0 : SpanMsg), runsS, by decide +kernel⟩,
   ⟨(msg0 : SpanMsg), sp, by decide +kernel⟩,
   ⟨({ msg0 with arg := 1 } : SpanMsg), runsS, 0, [(0, { cls := 1, used := [0] })], by decide +kernel⟩,
   ⟨({ msg0 with arg := 1 } : SpanMsg), runs0, by decide +kernel⟩,
   ⟨({ msg0 with arg := 1 } : SpanMsg), sp, by decide +kernel⟩,
   ⟨(msg0 : SpanMsg), sp, 0, by decide +kernel⟩,
   ⟨({ msg0 with arg := 1 } : SpanMsg), sp, by decide +kernel⟩,
   ⟨(msg0 : SpanMsg), ((smFind? tagR.spn.tags ((msg0 : SpanMsg).src.toNat * 4096 + (msg0 : SpanMsg).tag.toNat)).get (by decide +kernel)), (0 : Head), tagR, by decide +kernel⟩,
   ⟨(msg0 : SpanMsg), ((smFind? tagW.spn.tags ((msg0 : SpanMsg).src.toNat * 4096 + (msg0 : SpanMsg).tag.toNat)).get (by decide +kernel)), (0 : Head), tagW, by decide +kernel⟩,
   ⟨(msg0 : SpanMsg), ((smFind? tagR.spn.tags ((msg0 : SpanMsg).src.toNat * 4096 + (msg0 : SpanMsg).tag.toNat)).get (by decide +kernel)), (0 : Head), tagR, by decide +kernel⟩,
   ⟨(msg0 : SpanMsg), sp, by decide +kernel⟩,
   ⟨(msg0 : SpanMsg), (5 : Time), spSent, by decide +kernel⟩,
   ⟨(msg0 : SpanMsg), ((smFind? t2Ask.spn.tags ((msg0 : SpanMsg).src.toNat * 4096 + (msg0 : SpanMsg).tag.toNat)).get (by decide +kernel)), ((smFind? t2Ask.slc.moves ((smFind? t2Ask.spn.tags ((msg0 : SpanMsg).src.toNat * 4096 + (msg0 : SpanMsg).tag.toNat)).get (by decide +kernel)).page).get (by decide +kernel)), t2Ask, by decide +kernel⟩,
   ⟨({ msg0 with arg := 1 } : SpanMsg), ((smFind? t2Ask.spn.tags (({ msg0 with arg := 1 } : SpanMsg).src.toNat * 4096 + ({ msg0 with arg := 1 } : SpanMsg).tag.toNat)).get (by decide +kernel)), ((smFind? t2Ask.slc.moves ((smFind? t2Ask.spn.tags (({ msg0 with arg := 1 } : SpanMsg).src.toNat * 4096 + ({ msg0 with arg := 1 } : SpanMsg).tag.toNat)).get (by decide +kernel)).page).get (by decide +kernel)), t2Ask, by decide +kernel⟩,
   ⟨(msg0 : SpanMsg), ((smFind? tagR.spn.tags ((msg0 : SpanMsg).src.toNat * 4096 + (msg0 : SpanMsg).tag.toNat)).get (by decide +kernel)), tagR, by decide +kernel⟩⟩

end Sys2Proof.Tests
end

section
/-! PROOF. CXL.mem requests of the heads: the front checks, DEC, the key slot, and where each request ends. -/

namespace Sys2Proof.Machine

open Sys2Proof

/-! ## What a counted event keeps (18 R426-R429) -/

/-- What every member of a list of updates keeps, the list keeps. -/
theorem State.each_keeps {α : Type} (P : State → Prop) (l : List α) (f : α → State → State) (h : ∀ a s, P s → P (f a s)) {s : State}
    (hs : P s) : P (s.each l f) := by
  induction l generalizing s with
  | nil => exact hs
  | cons a l ih => exact ih (h a s hs)

/-- A counter writes register fields and signals causes: what these two keep, it keeps. -/
theorem State.ctrAdd_keeps (P : State → Prop) (hset : ∀ s f i v, P s → P (s.fset f i v)) (hsig : ∀ s v, P s → P (s.signal v))
    {s : State} (u fuel n k : Nat) (hs : P s) : P (s.ctrAdd u fuel n k) := by
  induction fuel generalizing s n k with
  | zero => exact hs
  | succ fuel ih =>
    unfold State.ctrAdd
    dsimp only [State.fputBit]
    generalize hc : s.fset PMU_CTR.COUNT (u * 8 + n) _ = c
    have h1 : P c := hc ▸ hset _ _ _ _ hs
    split
    · exact h1
    · generalize ho : c.fset PMU_OVF.OVF u _ = o
      have h2 : P o := ho ▸ hset _ _ _ _ h1
      split
      · split
        · exact ih _ _ h2
        · exact h2
      · have frz (t : State) (ht : P t) : P (if t.fone PMU_CTL.FRZ_OVF u = true then t.fset PMU_CTL.FREEZE u 1 else t) := by
          split
          · exact hset _ _ _ _ ht
          · exact ht
        split
        · exact frz _ (hsig _ _ h2)
        · exact frz _ h2

/-- A counted event keeps what register writes and a head's signalled causes keep. -/
theorem State.count_keeps (P : State → Prop) (hset : ∀ s f i v, P s → P (s.fset f i v))
    (hsig : ∀ s v h, P s → P (s.signalHead v h)) {s : State} (u ev : Nat) (a : Attr) (k : Nat) (hs : P s) : P (s.count u ev a k) := by
  unfold State.count
  split
  · exact hs
  · refine State.each_keeps P _ _ (fun n s hs => ?_) hs
    split
    · exact State.ctrAdd_keeps P hset (fun _ v => State.each_keeps P _ _ fun h s => hsig s v h) _ _ _ _ hs
    · exact hs

theorem State.signalHead_out (s : State) (v h : Nat) {o : Out} (ho : o ∈ s.out) : o ∈ (s.signalHead v h).out := by
  unfold State.signalHead
  dsimp only
  split
  · exact ho
  · split
    · exact ho
    · exact List.mem_append_left _ ho

/-- What has been sent stays sent when an event is counted. -/
theorem State.count_out (s : State) (u ev : Nat) (a : Attr) (k : Nat) {o : Out} (ho : o ∈ s.out) : o ∈ (s.count u ev a k).out :=
  State.count_keeps (fun s => o ∈ s.out) (fun _ _ _ _ h => h) (fun s v h ho => s.signalHead_out v h ho) u ev a k ho

theorem State.signalHead_cfg (s : State) (v h k : Nat) : ((s.signalHead v h).head k).cfg = (s.head k).cfg := by
  have hm (t : State) (p : BitVec 2048 → BitVec 2048) : ((t.modHead h fun x => { x with pba := p x.pba }).head k).cfg = (t.head k).cfg := by
    by_cases hk : k = h
    · subst hk; rw [State.modHead_head_self]
    · rw [State.modHead_head_ne _ _ hk]
  unfold State.signalHead
  dsimp only
  split
  · rfl
  · split
    · exact hm s (· ||| pbaBit v)
    · exact hm (s.emit _) (· &&& ~~~(pbaBit v))

/-- A counted event leaves the heads' configuration space alone. -/
theorem State.count_cfg (s : State) (u ev : Nat) (a : Attr) (k h : Nat) : ((s.count u ev a k).head h).cfg = (s.head h).cfg :=
  State.count_keeps (fun t => (t.head h).cfg = (s.head h).cfg) (fun _ _ _ _ e => e) (fun t v n e => (t.signalHead_cfg v n h).trans e)
    u ev a k rfl

/-! ## A reported class is in fault state (16 R382) -/

theorem testBit_withBit_true {n i j w : Nat} (hj : j < w) (h : i = j ∨ n.testBit j = true) :
    (withBit n i true % 2 ^ w).testBit j = true := by
  rcases h with rfl | h <;> simp [withBit, Nat.testBit_mod_two_pow, *]

/-- The fault bit of a class of a set. -/
def State.inFault (s : State) (set code : Nat) : Bool := (s.classSt set code).inFault

theorem State.inFault_congr {s t : State} {set : Nat} (h : t.fget FLT_STATUS.CLASS set = s.fget FLT_STATUS.CLASS set) (code : Nat) :
    t.inFault set code = s.inFault set code := congrArg (fun v => v.testBit (code - 1)) h

@[simp] theorem State.count_inFault (s : State) (u ev : Nat) (a : Attr) (k set code : Nat) :
    (s.count u ev a k).inFault set code = s.inFault set code :=
  State.inFault_congr (s.count_fget u ev a k _ _ (by decide) (by decide)) code

@[simp] theorem State.emit_inFault (s : State) (o : Out) (set code : Nat) : (s.emit o).inFault set code = s.inFault set code := rfl

theorem State.captureFirst_class (s : State) (set code level : Nat) (esc : Bool) (c : Capture) (i : Nat) :
    (s.captureFirst set code level esc c).fget FLT_STATUS.CLASS i = s.fget FLT_STATUS.CLASS i := by
  unfold State.captureFirst State.fbit
  split
  · rfl
  · simp (disch := decide) only [State.fget_fset_ne]

theorem State.countReport_class (s : State) (set i : Nat) :
    (s.countReport set).fget FLT_STATUS.CLASS i = s.fget FLT_STATUS.CLASS i := by
  unfold State.countReport State.finc State.fadd State.fbit
  dsimp only
  split <;> simp (disch := decide) only [State.fget_fset_ne]

/-- Entering a class sets its fault bit and clears none. -/
theorem State.enterClass_inFault (s : State) (set code level : Nat) {set' code' : Nat} (hc : code' - 1 < 16)
    (h : (set', code') = (set, code) ∨ s.inFault set' code' = true) : (s.enterClass set code level).inFault set' code' = true := by
  have e (u : State) (x : Faults) : ({ u with flt := x } : State).fget FLT_STATUS.CLASS set' = u.fget FLT_STATUS.CLASS set' := rfl
  have hb (u : State) : u.inFault set' code' = (u.fget FLT_STATUS.CLASS set').testBit (code' - 1) := rfl
  rw [hb] at h ⊢
  unfold State.enterClass State.fputBit
  dsimp only
  rw [e, State.fget_fset_ne _ _ _ _ (by decide) (by decide) (by decide)]
  by_cases hs : set' = set
  · subst hs
    rw [State.fget_fset_self, State.fget_fset_ne _ _ _ _ (by decide) (by decide) (by decide)]
    exact testBit_withBit_true hc (h.imp (fun h => by rw [(Prod.mk.inj h).2]) id)
  · rw [State.fget_fset_inst _ _ hs, State.fget_fset_ne _ _ _ _ (by decide) (by decide) (by decide)]
    exact h.resolve_left fun h => hs (Prod.mk.inj h).1

theorem State.reportRegs_inFault (s : State) (set code level : Nat) (esc : Bool) (c : Capture) {set' code' : Nat} (hc : code' - 1 < 16)
    (h : (set', code') = (set, code) ∨ s.inFault set' code' = true) : (s.reportRegs set code level esc c).inFault set' code' = true := by
  have off {t u : State} (h : t.offHeads = u.offHeads) : t.inFault set' code' = u.inFault set' code' :=
    State.inFault_congr (State.regs_fget (congrArg State.regs h : _) _ _) _
  have hr : s.inFault set' code' = ((s.captureFirst set code level esc c).countReport set).inFault set' code' :=
    (State.inFault_congr ((State.countReport_class ..).trans (State.captureFirst_class ..)) _).symm
  unfold State.reportRegs
  dsimp only
  rw [off (State.eventOf_off ..)]
  rw [hr] at h
  have he := State.enterClass_inFault _ set code level hc h
  generalize State.enterClass _ set code level = t at he ⊢
  split
  · split
    · exact (off (State.each_inv State.offHeads _ _ (fun h s => s.signalHead_off 2 h) _)).trans he
    · exact (off (State.signal_off ..)).trans he
  · exact he

theorem State.witWrite_class (s : State) (r : WitRec) (i : Nat) : (s.witWrite r).1.fget FLT_STATUS.CLASS i = s.fget FLT_STATUS.CLASS i := by
  have k (l : List WitRec) : (s.witStage r l).fget FLT_STATUS.CLASS i = s.fget FLT_STATUS.CLASS i :=
    State.fget_fset_ne (g := WIT_SEQ.SEQ) s i 0 _ (by decide) (by decide) (by decide)
  unfold State.witWrite
  dsimp only
  split
  · exact k _
  · split
    · rfl
    · split
      · exact k _
      · rfl

theorem State.witLost_class (s : State) (set i : Nat) : (s.witLost set).fget FLT_STATUS.CLASS i = s.fget FLT_STATUS.CLASS i := by
  unfold State.witLost State.finc State.fadd State.fbit
  simp (disch := decide) only [State.fget_fset_ne]
  rfl

theorem State.witReport_class (s : State) (set : Nat) (r : WitRec) (i : Nat) :
    (s.witReport set r).1.fget FLT_STATUS.CLASS i = s.fget FLT_STATUS.CLASS i := by
  have k (t : State) (ht : t.fget FLT_STATUS.CLASS i = s.fget FLT_STATUS.CLASS i) :
      (match t.witWrite r with
        | (s, true) => (s, true)
        | (s, false) => (s.witLost set, false)).1.fget FLT_STATUS.CLASS i = s.fget FLT_STATUS.CLASS i := by
    have w := (t.witWrite_class r i).trans ht
    generalize t.witWrite r = p at w ⊢
    obtain ⟨u, _ | _⟩ := p
    · exact (u.witLost_class set i).trans w
    · exact w
  unfold State.witReport
  dsimp only
  split
  · split
    · exact k s rfl
    · rfl
  · split
    · exact s.witLost_class set i
    · exact k _ rfl

/-- A report puts its class in fault state, whatever becomes of its record. -/
theorem State.report_inFault (s : State) (set code : Nat) (c : Capture) (base : Nat) (hc : code - 1 < 16) :
    (s.report set code c base).inFault set code = true := by
  have fatal (t : State) : t.goFatal.inFault set code = t.inFault set code := State.inFault_congr (State.regs_fget t.goFatal_regs _ _) _
  unfold State.report
  dsimp only
  generalize nextLevel _ _ _ = l
  have h1 := s.reportRegs_inFault set code l.1 l.2 c hc (.inl rfl)
  generalize s.reportRegs set code l.1 l.2 c = t at h1 ⊢
  generalize hu : t.witReport set _ = u
  have h2 : u.1.inFault set code = true := by rw [← hu, State.inFault_congr (State.witReport_class ..)]; exact h1
  have h3 : (if u.2 = true then u.1 else
      u.1.reportRegs setWIT 5 (nextLevel (u.1.classSt setWIT 5) 1 false).1 (nextLevel (u.1.classSt setWIT 5) 1 false).2 {}).inFault
        set code = true := by
    split
    · exact h2
    · exact State.reportRegs_inFault _ _ _ _ _ _ hc (.inr h2)
  split
  · exact (fatal _).trans h3
  · exact h3

/-! ## The front of a CXL.mem request (01 R17; 04 R89, R95; 05 R114-R120) -/

@[simp] theorem State.onAccess_coh (s : State) (p : Path) : (s.onAccess p).coh = s.coh := (congrArg State.coh (s.onAccess_eq p) :)
@[simp] theorem State.onAccess_dec (s : State) (p : Path) : (s.onAccess p).dec = s.dec := (congrArg State.dec (s.onAccess_eq p) :)
@[simp] theorem State.onAccess_heads (s : State) (p : Path) : (s.onAccess p).heads = s.heads := (congrArg State.heads (s.onAccess_eq p) :)
@[simp] theorem State.onAccess_boot (s : State) (p : Path) : (s.onAccess p).boot = s.boot := (congrArg State.boot (s.onAccess_eq p) :)
@[simp] theorem State.onAccess_inl (s : State) (p : Path) : (s.onAccess p).inl = s.inl := (congrArg State.inl (s.onAccess_eq p) :)
@[simp] theorem State.onAccess_dram (s : State) (p : Path) : (s.onAccess p).dram = s.dram := (congrArg State.dram (s.onAccess_eq p) :)
@[simp] theorem State.onAccess_chans (s : State) (p : Path) : (s.onAccess p).chans = s.chans := (congrArg State.chans (s.onAccess_eq p) :)
@[simp] theorem State.onAccess_slc (s : State) (p : Path) : (s.onAccess p).slc = s.slc := (congrArg State.slc (s.onAccess_eq p) :)
@[simp] theorem State.onAccess_spn (s : State) (p : Path) : (s.onAccess p).spn = s.spn := (congrArg State.spn (s.onAccess_eq p) :)
@[simp] theorem State.onAccess_wclk (s : State) (p : Path) : (s.onAccess p).wclk = s.wclk := (congrArg State.wclk (s.onAccess_eq p) :)

/-- The state t with the fuses, flash images and queue of s: where a command ends that has no path to them. -/
def State.kept (s t : State) : State := { t with nv := s.nv, pending := s.pending }

section
variable (s t : State)
@[simp] theorem State.kept_nv : (s.kept t).nv = s.nv := rfl
@[simp] theorem State.kept_out : (s.kept t).out = t.out := rfl
@[simp] theorem State.kept_coh : (s.kept t).coh = t.coh := rfl
@[simp] theorem State.kept_dram : (s.kept t).dram = t.dram := rfl
@[simp] theorem State.kept_dec : (s.kept t).dec = t.dec := rfl
@[simp] theorem State.kept_inl : (s.kept t).inl = t.inl := rfl
@[simp] theorem State.kept_spn : (s.kept t).spn = t.spn := rfl
@[simp] theorem State.kept_fget (f : Fld) (i : Nat) : (s.kept t).fget f i = t.fget f i := rfl
@[simp] theorem State.kept_inFault (set code : Nat) : ((s.kept t).classSt set code).inFault = t.inFault set code := rfl
end

/-- An admitted access with no path to the fuses ends in the state that its effect leaves. -/
theorem volatile_access_admits (c : Instr) (p : Path) (f : State → State) (s : State) (h : s.admits p = true) :
    volatile (access c p f) s = .next (s.kept (f (s.onAccess p))) := by
  unfold volatile
  rw [access_admits c p f s h]
  rfl

/-- The state on which an admitted CXL.mem request is checked: the access registered, the device not idle, the request counted. -/
def State.onMem (s : State) (h : Head) : State := (s.onAccess (.head h)).active.count 0 1 { head := some h.val }

/-- The state on which DEC decodes a served request: counted in DEC as well. -/
def State.onDec (s : State) (h : Head) : State := (s.onMem h).count 1 1 { head := some h.val }

@[simp] theorem State.onMem_coh (s : State) (h : Head) : (s.onMem h).coh = s.coh := by simp [State.onMem]
@[simp] theorem State.onMem_dec (s : State) (h : Head) : (s.onMem h).dec = s.dec := by simp [State.onMem]
@[simp] theorem State.onMem_boot (s : State) (h : Head) : (s.onMem h).boot = s.boot := by simp [State.onMem]
@[simp] theorem State.onMem_dram (s : State) (h : Head) : (s.onMem h).dram = s.dram := by simp [State.onMem]
@[simp] theorem State.onDec_coh (s : State) (h : Head) : (s.onDec h).coh = s.coh := by simp [State.onDec]
@[simp] theorem State.onDec_dec (s : State) (h : Head) : (s.onDec h).dec = s.dec := by simp [State.onDec]
@[simp] theorem State.onDec_inl (s : State) (h : Head) : (s.onDec h).inl = s.inl := by simp [State.onDec, State.onMem]
@[simp] theorem State.onDec_dram (s : State) (h : Head) : (s.onDec h).dram = s.dram := by simp [State.onDec]
@[simp] theorem State.onDec_chans (s : State) (h : Head) : (s.onDec h).chans = s.chans := by simp [State.onDec, State.onMem]
@[simp] theorem State.onDec_slc (s : State) (h : Head) : (s.onDec h).slc = s.slc := by simp [State.onDec, State.onMem]
@[simp] theorem State.onDec_spn (s : State) (h : Head) : (s.onDec h).spn = s.spn := by simp [State.onDec, State.onMem]
@[simp] theorem State.onDec_wclk (s : State) (h : Head) : (s.onDec h).wclk = s.wclk := by simp [State.onDec, State.onMem]

/-- The checks of a request write counters only. -/
theorem State.onMem_regs (s : State) (h : Head) : RegsSame pmuFlds s (s.onMem h) := fun f i hf hp => by
  simp only [State.onMem, State.count_fget _ _ _ _ _ f i hf hp, State.active_fget, State.onAccess_fget]

theorem State.onDec_regs (s : State) (h : Head) : RegsSame pmuFlds s (s.onDec h) := fun f i hf hp =>
  (State.count_fget _ _ _ _ _ f i hf hp).trans (s.onMem_regs h f i hf hp)

theorem State.memServed_iff {s : State} {h : Head} : s.memServed h = true ↔
    s.admits (.head h) = true ∧ s.fget PWR_STATE.CUR = 0 ∧ s.ideRefused h = false ∧ memEnable (s.head h) = true ∧ s.boot.fatal = false := by
  simp [State.memServed, and_assoc]

/-- An admitted head's requests arrive in P0. -/
theorem State.accepts_onAccess {s : State} {h : Head} (ha : s.admits (.head h) = true) (hp : s.fget PWR_STATE.CUR = 0) :
    (s.onAccess (.head h)).accepts h = true := by
  have hl : s.linkReady h = true := by simp only [State.admits, Bool.and_eq_true] at ha; exact ha.1
  simpa [State.accepts, State.linkReady, State.headOn, State.fbitAt, State.fone, State.head, hp] using hl

theorem State.ideRefused_onMem (s : State) (h : Head) : (s.onMem h).ideRefused h = s.ideRefused h := by
  have k (f : Fld) (i : Nat) (hf : f.id < 1024) (hp : f.id ∉ pmuFlds.map (·.id)) := s.onMem_regs h f i hf hp
  simp only [State.ideRefused, State.fone, k HP_CFG.IDE_REQ _ (by decide) (by decide), k HP_IDE.MEM_ACTIVE _ (by decide) (by decide),
    k HP_IDE.INSECURE _ (by decide) (by decide)]

theorem State.memEnable_onMem (s : State) (h : Head) (n : Nat) : memEnable ((s.onMem h).head n) = memEnable (s.head n) := by
  have hc : ((s.onMem h).head n).cfg = (s.head n).cfg := by
    rw [State.onMem, State.count_cfg]
    simp [State.head]
  simp [memEnable, cfgGet, hc]

/-- A request that lacks IDE is dropped, counted and answered as refused (04 R95, R96). -/
theorem State.hostReq_ideRefused {s : State} {h : Head} (ha : s.admits (.head h) = true) (hp : s.fget PWR_STATE.CUR = 0)
    (hi : s.ideRefused h = true) (hpa : Nat) (x : Txn) (a : Access) (ok : Bool) (go : Txn → State → State) :
    (s.onAccess (.head h)).hostReq h hpa x a ok go = ((s.onMem h).finc HP_IDE.DROPS h).turnAway x := by
  have h1 := State.accepts_onAccess ha hp
  have h2 := (s.ideRefused_onMem h).trans hi
  unfold State.onMem at h2 ⊢
  simp [State.hostReq, h1, h2]

/-- A request that fails its IDE check ends the stream (04 R96). -/
theorem State.hostReq_ideBad {s : State} {h : Head} (ha : s.admits (.head h) = true) (hp : s.fget PWR_STATE.CUR = 0)
    (hi : s.ideRefused h = false) (hpa : Nat) (x : Txn) (a : Access) (go : Txn → State → State) :
    (s.onAccess (.head h)).hostReq h hpa x a false go = (s.onMem h).ideFail h := by
  have h1 := State.accepts_onAccess ha hp
  have h2 := (s.ideRefused_onMem h).trans hi
  unfold State.onMem at h2 ⊢
  simp [State.hostReq, h1, h2]

/-- A served request reaches DEC. -/
theorem State.hostReq_served {s : State} {h : Head} (hs : s.memServed h = true) (hpa : Nat) (x : Txn) (a : Access)
    (go : Txn → State → State) : (s.onAccess (.head h)).hostReq h hpa x a true go = (s.onMem h).hostDec h hpa x a go := by
  obtain ⟨ha, hp, hi, hm, hf⟩ := State.memServed_iff.mp hs
  have h1 := State.accepts_onAccess ha hp
  have h2 := (s.ideRefused_onMem h).trans hi
  have h3 := (s.memEnable_onMem h h).trans hm
  have h4 : (s.onMem h).boot.fatal = false := by rw [State.onMem_boot]; exact hf
  unfold State.onMem at h2 h3 h4 ⊢
  simp only [State.hostReq, h1, h2, h3, h4, Bool.not_true, Bool.false_eq_true, if_false, or_self]

/-! ## Decoding (05 R111-R120) -/

theorem State.decode_congr {s t : State} (hd : t.dec = s.dec) (h hpa : Nat) : t.decode h hpa = s.decode h hpa := by
  unfold State.decode State.decoder
  rw [hd]

/-- A decode reads the same after the counts before it. -/
theorem State.decode_onDec (s : State) (h : Head) (n hpa : Nat) : (s.onDec h).decode n hpa = s.decode n hpa :=
  State.decode_congr (s.onDec_dec h) n hpa

theorem State.region_onDec (s : State) (h : Head) (n : Nat) : (s.onDec h).region n = s.region n := by
  simp only [State.region, State.onDec_dec]

theorem State.defkey_onDec (s : State) (h : Head) (i : Nat) : (s.onDec h).fget DEC_DEFKEY.KEY i = s.fget DEC_DEFKEY.KEY i :=
  s.onDec_regs h _ _ (by decide) (by decide)

theorem State.dpaBase_onDec (s : State) (h : Head) (i : Nat) : (s.onDec h).dpaBase i = s.dpaBase i := by
  simp only [State.dpaBase, s.onDec_regs h DEC_DPABASE_LO.BASE_L i (by decide) (by decide),
    s.onDec_regs h DEC_DPABASE_HI.BASE_H i (by decide) (by decide)]

theorem State.keyPermitted_onDec (s : State) (h : Head) (n k : Nat) : (s.onDec h).keyPermitted n k = s.keyPermitted n k := by
  simp only [State.keyPermitted, State.fbitAt, s.onDec_regs h DEC_KEYMASK.PERMIT _ (by decide) (by decide)]

/-- A request that matches no decoder is turned away with a DEC class 1 report (05 R114). -/
theorem State.hostDec_noMatch {s : State} {h : Head} {hpa : Nat} (hd : s.decode h hpa = none) (x : Txn) (a : Access)
    (go : Txn → State → State) :
    (s.onMem h).hostDec h hpa x a go = (((s.onDec h).decFault 1 hpa h).count 1 4 { head := some h.val }).turnAway x := by
  have hd' := (s.decode_onDec h h hpa).trans hd
  unfold State.onDec at hd' ⊢
  simp only [State.hostDec, hd']

/-- A request to a remote home leaves on the Span (05 R119; 13 R338). -/
theorem State.hostDec_remote {s : State} {h : Head} {hpa : Nat} {m : Match} (hm : s.decodes h hpa m) {home : NodeId}
    (hh : (s.region m.tpl.region).home = some home) (x : Txn) (a : Access) (go : Txn → State → State) :
    (s.onMem h).hostDec h hpa x a go = (s.onDec h).toHome { x with key := BitVec.ofNat 7 (s.keyOf m hpa) } h home.toNat (s.dpaOf m / 64)
      (s.region m.tpl.region).shared := by
  obtain ⟨-, hd, hk⟩ := hm
  rw [← s.decode_onDec h] at hd
  rw [← s.keyPermitted_onDec h] at hk
  rw [← s.region_onDec h] at hh ⊢
  simp only [State.dpaOf, State.keyOf, ← s.dpaBase_onDec h, ← s.defkey_onDec h] at hk ⊢
  unfold State.onDec at hd hk hh ⊢
  simp only [State.hostDec, hd, hk, hh, Bool.not_true, Bool.false_eq_true, if_false]

theorem State.slot_congr {s t : State} (h : t.inl = s.inl) (k : Nat) : t.slot k = s.slot k := by
  unfold State.slot
  rw [h]

/-- The transaction of a request that matched a decoder of a local region: its line, key ID, and what the region gives it. -/
def State.reqTxn (s : State) (m : Match) (hpa : Nat) (x : Txn) : Txn :=
  s.localTxn (s.region m.tpl.region) m.tpl.region { x with key := BitVec.ofNat 7 (s.keyOf m hpa) } (s.dpaOf m)

/-- A request to an untiered local region under an ACTIVE key slot goes on; a write is counted under its key (10 R263, R268). -/
theorem State.hostDec_direct {s : State} {h : Head} {hpa : Nat} {m : Match} (hm : s.hitsDirect h hpa m) (x : Txn) (a : Access)
    (go : Txn → State → State) :
    (s.onMem h).hostDec h hpa x a go =
      go (s.reqTxn m hpa x) (if a = .read then s.onDec h else (s.onDec h).countWrite (s.keyOf m hpa % 128)) := by
  obtain ⟨⟨-, hd, hk⟩, hh, hdcd, -, hs⟩ := hm
  have hs' := State.slot_congr (s.onDec_inl h)
  have hl : (s.onDec h).localTxn = s.localTxn := by
    funext r n x dpa
    simp only [State.localTxn, hs']
  rw [← s.decode_onDec h] at hd
  rw [← s.keyPermitted_onDec h] at hk
  rw [← s.region_onDec h] at hh hdcd
  rw [← hs'] at hs
  simp only [State.reqTxn, ← hl, State.dpaOf, State.keyOf, ← s.dpaBase_onDec h, ← s.defkey_onDec h, ← s.region_onDec h] at hk hs ⊢
  unfold State.onDec at hd hk hh hdcd hs ⊢
  simp only [State.hostDec, State.keyAdmit, hd, hk, hh, hdcd, BitVec.toNat_ofNat, Nat.reducePow, hs, verdict, Bool.not_true,
    Bool.false_eq_true, if_false, false_and]

/-! ## Entering the transaction table (06 R138, R139) -/

theorem State.ttFree_congr {s t : State} (h : t.coh = s.coh) : t.ttFree = s.ttFree := by
  unfold State.ttFree State.ttUsed State.ttUsed2
  rw [h]

theorem State.queueFull_congr {s t : State} (h : t.coh = s.coh) (ln : Nat) : t.queueFull ln = s.queueFull ln := by
  unfold State.queueFull
  rw [h]

/-- Storing a value that a test refuses adds none that meet it. -/
theorem smSet_filter_length_le {α : Type} (m : SMap α) (k : Nat) (v : α) (p : Nat × α → Bool) (hv : p (k, v) = false) :
    ((smSet m k v).filter p).length ≤ (m.filter p).length := by
  induction m with
  | nil => simp [smSet, hv]
  | cons e m ih =>
    obtain ⟨k', v'⟩ := e
    unfold smSet
    split
    · simp [hv]
    · split
      · next hk =>
        rw [List.filter_cons_of_neg (by simp [hv])]
        exact (List.sublist_cons_self _ _).filter p |>.length_le
      · by_cases hp : p (k', v') = true
        · simpa [hp] using ih
        · simpa [hp] using ih

/-- A transaction that holds no table entry takes none of the free ones. -/
theorem State.ttFree_smSet_le (s : State) (n k : Nat) (x : Txn) (hx : x.holds = false) :
    s.ttFree ≤ ({ s with coh := { s.coh with txns := smSet s.coh.txns n x, next := k } } : State).ttFree := by
  have hu (mc : Nat) := smSet_filter_length_le s.coh.txns n x (fun e => e.2.mc == mc && e.2.holds) (by simp [hx])
  have h1 := hu 1
  have h3 := hu 3
  unfold State.ttFree State.ttUsed State.ttUsed2
  dsimp only
  omega

/-! ## Class-3 requests up to their entry and lock (18 R433-R434; 06 R138, R139) -/

theorem State.fpeak_eq (s : State) (f : Fld) (i v : Nat) : s.fpeak f i v = { s with regs := (s.fpeak f i v).regs } := by
  unfold State.fpeak
  split <;> rfl

theorem State.unitStart_eq (s : State) (u : Nat) : s.unitStart u = { s with boot := (s.unitStart u).boot } := by
  unfold State.unitStart
  dsimp only
  split
  · rfl
  · split <;> rfl

theorem State.dyeCandidate_eq (s : State) :
    s.dyeCandidate.2 = { s with regs := s.dyeCandidate.2.regs, pmu := s.dyeCandidate.2.pmu } := by
  unfold State.dyeCandidate
  dsimp only
  split
  · rfl
  · split
    · rfl
    · split <;> rfl

/-- A dye candidate's transaction may be dyed and stamped; the PMU and its registers alone change. -/
theorem State.dye_eq (s : State) (x : Txn) :
    ∃ d st r p, s.dye x = ({ x with dyed := d, stamps := st }, { s with regs := r, pmu := p }) := by
  unfold State.dye
  dsimp only
  rw [s.dyeCandidate_eq]
  split
  · exact ⟨_, _, _, _, rfl⟩
  · exact ⟨x.dyed, x.stamps, _, _, rfl⟩

/-- A transaction that asks for its entry and lock takes them up where both are free, or stays in its ingress buffer (06 R138, R139). -/
theorem State.enterCoh_eq {s : State} {n : Nat} {y : Txn} (hy : s.txn? n = some y) :
    ∃ ph r, s.enterCoh n = { s with regs := r, coh := { s.coh with txns := smAdj s.coh.txns n fun x => { x with phase := ph } } } ∧
      (s.ttFree ≠ 0 → s.queueFull y.ln = false → ph = .lockWait) := by
  unfold State.enterCoh
  simp only [hy]
  split
  · next h => exact ⟨.ingress, _, rfl, fun h1 h2 => by simp [h1, h2] at h⟩
  · exact ⟨.lockWait, _, State.fpeak_eq .., fun _ _ => rfl⟩

/-- Stamping a transaction changes nothing of it but its stamps (18 R434). -/
theorem State.stampTxn_eq {s : State} {n : Nat} {y : Txn} (hy : s.txn? n = some y) (stage : Nat) :
    ∃ st, s.stampTxn n stage = { s with coh := { s.coh with txns := smSet s.coh.txns n { y with stamps := st } } } := by
  have hy' : smFind? s.coh.txns n = some y := hy
  simp only [State.stampTxn, State.modTxn, smAdj, hy']
  split
  · exact ⟨_, rfl⟩
  · exact ⟨y.stamps, rfl⟩

/-- A class-3 transaction of an untiered line passes DEC: it is stamped, and asks for its entry and lock. -/
theorem State.decoded_untiered {s : State} {n : Nat} {y : Txn} (hy : s.txn? n = some y) (ht : y.tiered = false)
    (hh : y.holds = false) :
    ∃ ph st r b tx, s.decoded n = { s with regs := r, boot := b, coh := { s.coh with txns := tx } } ∧
      smFind? tx n = some { y with phase := ph, stamps := st } ∧
      (s.ttFree ≠ 0 → s.queueFull y.ln = false → ph = .lockWait) := by
  obtain ⟨b, hb⟩ : ∃ b, (if (s.slot y.key.toNat).mode = 1 then s.unitStart 0 else s) = { s with boot := b } := by
    split
    · exact ⟨_, s.unitStart_eq 0⟩
    · exact ⟨s.boot, rfl⟩
  obtain ⟨st, hst⟩ := State.stampTxn_eq (s := { s with boot := b }) hy 1
  generalize hz : ({ y with stamps := st } : Txn) = z at hst
  have hzh : z.holds = false := by subst hz; exact hh
  have hfree := s.ttFree_smSet_le n s.coh.next z hzh
  obtain ⟨ph, r, he, hp⟩ := State.enterCoh_eq (s := { s with boot := b, coh := { s.coh with txns := smSet s.coh.txns n z } })
    (smFind?_set_self ..)
  have hd : s.decoded n = ({ s with boot := b, coh := { s.coh with txns := smSet s.coh.txns n z } } : State).enterCoh n := by
    simp only [State.decoded, hy, ht, hb, hst, Bool.false_eq_true, if_false]
  refine ⟨ph, st, r, b, _, hd.trans he, ?_, fun h1 h2 => hp (fun h3 => h1 ?_) ?_⟩
  · rw [smFind?_adj_self, smFind?_set_self, ← hz]; rfl
  · exact Nat.le_zero.mp (h3 ▸ hfree)
  · rw [← hz]; exact h2

/-- A class-3 request of an untiered line enters the transaction table under the next number, and asks for its entry and lock; of the
rest of the state only PMU and dye, the unit clocks and the peak of the table change. -/
theorem enterReq_untiered (u : State) (h : Nat) (x : Txn) (ht : x.tiered = false) (hp : x.phase = .ingress) :
    ∃ ph d st r b p tx, enterReq h x u = { u with
        regs := r, boot := b, pmu := p, coh := { u.coh with txns := tx, next := u.coh.next + 1 } } ∧
      smFind? tx u.coh.next = some { x with phase := ph, dyed := d, stamps := st } ∧
      (u.ttFree ≠ 0 → u.queueFull x.ln = false → ph = .lockWait) := by
  obtain ⟨d, st, r, p, hd⟩ : ∃ d st r p, (if u.fbitAt PMU_DYECTL.HEADS 0 h then u.dye x else (x, u)) =
      ({ x with dyed := d, stamps := st }, { u with regs := r, pmu := p }) := by
    split
    · exact u.dye_eq x
    · exact ⟨x.dyed, x.stamps, u.regs, u.pmu, rfl⟩
  generalize hy : ({ x with dyed := d, stamps := st } : Txn) = y at hd
  have hyh : y.holds = false := by subst hy; simp only [Txn.holds, hp]
  generalize hv : ({ u with regs := r, pmu := p, coh := { u.coh with
    txns := smSet u.coh.txns u.coh.next y, next := u.coh.next + 1 } } : State) = v
  have he : enterReq h x u = v.decoded u.coh.next := by unfold enterReq; simp only [hd, State.newTxn, hv]
  have hfind : v.txn? u.coh.next = some y := by subst hv; exact smFind?_set_self ..
  have hfree : u.ttFree ≤ v.ttFree := by subst hv; exact u.ttFree_smSet_le _ _ y hyh
  have hq : v.queueFull x.ln = u.queueFull x.ln := by subst hv; rfl
  obtain ⟨ph, st', r', b, tx, hdec, hfind', hlock⟩ := State.decoded_untiered hfind (by subst hy; exact ht) hyh
  refine ⟨ph, d, st', r', b, p, tx, ?_, ?_, fun h1 h2 => hlock (by omega) ?_⟩
  · rw [he, hdec, ← hv]
  · rw [hfind', ← hy]
  · rw [← hy, ← h2, ← hq]

/-! ## Counting a write under its key (10 R268, R269) -/

/-- Identities of the register fields that Inlay's events write. -/
def inlEvtIds : List Nat := [INL_EVT.ADVISE.id, INL_EVT.END.id, INL_ADVISE.ADV.id]

/-- After a key's write counter has moved, only Inlay's events, what they signal and log, and the slot's state and ADVISE mark follow: what
these keep, a counted write keeps. -/
theorem State.countWrite_keeps (P : State → Prop) (s : State) (k : Nat)
    (hset : ∀ s f i v, f.id ∈ inlEvtIds → P s → P (s.fset f i v)) (hoff : ∀ s t : State, t.offHeads = s.offHeads → P s → P t)
    (hadv : ∀ s, P s → P (s.modSlot k fun x => { x with advised := true })) (hst : ∀ s n, P s → P (s.slotTo k n))
    (hs : P (s.modSlot k fun x => { x with count := min (2 ^ 52 - 1) ((s.slot k).count + 1) })) : P (s.countWrite k) := by
  have hevt (t : State) (n : Nat) (hn : (evtFld n).id ∈ inlEvtIds) (ht : P t) : P (t.inlEvent n) := by
    unfold State.inlEvent
    dsimp only
    split
    · exact ht
    · split
      · exact hoff _ _ (State.signal_off ..) (hset _ _ _ _ hn ht)
      · exact hset _ _ _ _ hn ht
  have hadvise (t : State) (ht : P t) : P (t.advise k) := by
    unfold State.advise
    dsimp only
    split
    · exact ht
    · exact State.each_keeps P _ _ (fun h s => hoff _ _ (State.logEvent_off ..))
        (hevt _ 0 (by decide) (hset _ _ _ _ (by decide) (hadv _ ht)))
  unfold State.countWrite
  dsimp only
  generalize s.modSlot k _ = t at hs ⊢
  have h1 : P (if 2 ^ 51 ≤ min (2 ^ 52 - 1) ((s.slot k).count + 1) then t.advise k else t) := by
    split
    · exact hadvise t hs
    · exact hs
  generalize (if 2 ^ 51 ≤ min (2 ^ 52 - 1) ((s.slot k).count + 1) then t.advise k else t) = u at h1 ⊢
  split
  · exact hevt _ 1 (by decide) (hst u 2 h1)
  · exact h1

/-- The state without what a counted write reaches: registers, heads, outputs and Inlay. -/
def State.offWrite (s : State) : State := { s with regs := [], heads := [], out := [], inl := {} }

theorem State.countWrite_off (s : State) (k : Nat) : (s.countWrite k).offWrite = s.offWrite :=
  State.countWrite_keeps (fun t => t.offWrite = s.offWrite) s k (fun _ _ _ _ _ h => h)
    (fun _ _ h e => (congrArg (fun x : State => { x with regs := [], inl := {} }) h : _).trans e) (fun _ h => h) (fun _ _ h => h) rfl

@[simp] theorem State.countWrite_coh (s : State) (k : Nat) : (s.countWrite k).coh = s.coh := (congrArg State.coh (s.countWrite_off k) :)
@[simp] theorem State.countWrite_dram (s : State) (k : Nat) : (s.countWrite k).dram = s.dram := (congrArg State.dram (s.countWrite_off k) :)
@[simp] theorem State.countWrite_chans (s : State) (k : Nat) : (s.countWrite k).chans = s.chans :=
  (congrArg State.chans (s.countWrite_off k) :)
@[simp] theorem State.countWrite_slc (s : State) (k : Nat) : (s.countWrite k).slc = s.slc := (congrArg State.slc (s.countWrite_off k) :)

/-- A counted write writes no register but Inlay's events. -/
theorem State.countWrite_fget (s : State) (k : Nat) (f : Fld) (i : Nat) (hf : f.id < 1024) (hp : f.id ∉ inlEvtIds) :
    (s.countWrite k).fget f i = s.fget f i := by
  have hlt : ∀ n ∈ inlEvtIds, n < 1024 := by decide
  exact State.countWrite_keeps (fun t => t.fget f i = s.fget f i) s k
    (fun t g j v hg e => (t.fget_fset_ne i j v hf (hlt _ hg) fun h => hp (h ▸ hg)).trans e)
    (fun _ _ h e => (State.regs_fget (congrArg State.regs h :) f i).trans e) (fun _ e => e) (fun _ _ e => e) rfl

/-- A counted write adds 1 to the slot's counter, which holds at its end. -/
theorem State.countWrite_count (s : State) (k : Nat) :
    ((s.countWrite k).slot k).count = min (2 ^ 52 - 1) ((s.slot k).count + 1) := by
  have hslot {t u : State} (h : t.offHeads = u.offHeads) : t.slot k = u.slot k := (congrArg (fun x : State => x.slot k) h :)
  generalize hc : min (2 ^ 52 - 1) ((s.slot k).count + 1) = c
  refine State.countWrite_keeps (fun t => (t.slot k).count = c) s k (fun _ _ _ _ _ e => e)
    (fun t u h e => by rw [hslot h]; exact e) (fun t e => ?_) (fun t n e => ?_) ?_
  · rw [State.modSlot_slot_self]; exact e
  · rw [State.slotTo, State.modSlot_slot_self]; exact e
  · rw [State.modSlot_slot_self]; exact hc

/-! ## Class-1 writes towards memory (06 R141; 01 R17) -/

/-- Where a line of an interleave set lies, of the set's registers and the channels' module width and rows (05 R121-R123). -/
def placeIn (base ways gran chs : Nat) (x8 : Nat → Bool) (rows : Nat → Nat) (mpa : Nat) : Place :=
  let o := mpa * 64 - base * 2 ^ 30
  let (way, l) := localAddr ways (granLog2 gran) o
  let c := (bitList chs 12).getD way 0
  let (sub, rank, bg, bank, row, col) := dramFields (x8 c) (rows c) (l / 64)
  ⟨c, sub, rank, bg, bank, row, col⟩

theorem State.placeOf_eq (s : State) (mpa : Nat) : s.placeOf mpa = (s.setOfMpa mpa).map fun i =>
    placeIn (s.fget DEC_SETBASE.BASE i) (s.fget DEC_SET.WAYS i) (s.fget DEC_SET.GRAN i) (s.fget DEC_SET.CHANNELS i)
      (fun c => s.fone DMC_CFG.X8 c) (fun c => (s.chan c).rows) mpa := by
  unfold State.placeOf
  cases s.setOfMpa mpa <;> rfl

/-- Register fields that say where a line lies and whether its channel serves (05 R121; 07 R190). -/
def placeFlds : List Fld :=
  [DEC_SET.VALID, DEC_SET.WAYS, DEC_SET.GRAN, DEC_SET.CHANNELS, DEC_SETBASE.BASE, DEC_SETBASE.SIZE, DMC_CFG.X8, DMC_STATUS.STATE]

/-- Where a line lies, and whether its channel serves, is read from these fields and the channels' geometry. -/
theorem State.onChannel_congr {s t : State} (hc : t.chans = s.chans)
    (hr : ∀ f ∈ placeFlds, ∀ i, t.fget f i = s.fget f i) (mpa : Nat) : t.onChannel mpa = s.onChannel mpa := by
  simp only [placeFlds, List.forall_mem_cons] at hr
  obtain ⟨hv, hw, hg, hch, hb, hsz, hx, hst, -⟩ := hr
  have hset : t.setOfMpa mpa = s.setOfMpa mpa := by simp only [State.setOfMpa, State.fone, hv, hb, hsz]
  have hpl : t.placeOf mpa = s.placeOf mpa := by
    simp only [State.placeOf_eq, hset, hb, hw, hg, hch, State.fone, hx, State.chan, hc]
  simp only [State.onChannel, State.chanFailed, hpl, hst]

/-- On a channel that serves, a transaction asks Weir for its credit. -/
theorem State.toCredit_onChannel {s : State} {n : Nat} {y : Txn} {mpa : Nat} (hy : s.txn? n = some y) (hc : s.onChannel mpa = true) :
    s.toCredit n mpa = s.modTxn n fun x => { x with phase := .credit, mpa := some mpa, since := s.wclk } := by
  unfold State.onChannel at hc
  unfold State.toCredit
  cases hp : s.placeOf mpa with
  | none => simp [hp] at hc
  | some p =>
    have hf : s.chanFailed p.chan = false := by simpa [hp] using hc
    simp [hy, hf]

/-- The data of an untiered writeback goes on to its channel as a class-1 write, under the next number. -/
theorem State.wbData_untiered {s : State} {x : Txn} (ht : x.tiered = false) (hc : s.onChannel x.ln = true) :
    ∃ tx, s.wbData x = { s with coh := { s.coh with txns := tx, next := s.coh.next + 1 } } ∧
      smFind? tx s.coh.next = some { x with mc := 1, phase := .credit, mpa := some x.ln, since := s.wclk } := by
  generalize hy : ({ x with mc := 1, phase := .lockWait } : Txn) = y
  have hwb : s.wbData x =
      ({ s with coh := { s.coh with txns := smSet s.coh.txns s.coh.next y, next := s.coh.next + 1 } } : State).toCredit s.coh.next x.ln := by
    unfold State.wbData
    rw [if_pos (by simp [ht]), hy]
    rfl
  have hfind := smFind?_set_self s.coh.txns s.coh.next y
  have hcred := State.toCredit_onChannel (s := { s with coh := { s.coh with
    txns := smSet s.coh.txns s.coh.next y, next := s.coh.next + 1 } }) hfind hc
  rw [hwb, hcred]
  refine ⟨_, rfl, ?_⟩
  rw [smFind?_adj_self, hfind, ← hy]
  rfl

/-- A writeback of an untiered line that is not shared is accepted, whatever snoop or eviction it answers. -/
theorem State.acceptWb_untiered {u : State} {x : Txn} {p : Target} (ht : x.tiered = false) (hsh : x.shared = false)
    (hto : (p, x.ln) ∉ u.coh.timeouts) (hc : u.onChannel x.ln = true) :
    ∃ c ev tx, u.acceptWb x p = { u with coh := { u.coh with evicts := ev, txns := tx, next := u.coh.next + 1 } } ∧
      smFind? tx u.coh.next = some { x with cls := c, mc := 1, phase := .credit, mpa := some x.ln, since := u.wclk } := by
  obtain ⟨c, hcls⟩ : ∃ c,
      (if u.coh.sent.any (fun e => e.1 == p && e.2.1 == x.ln) then { x with cls := 2 } else x) = { x with cls := c } := by
    split
    · exact ⟨2, rfl⟩
    · exact ⟨x.cls, rfl⟩
  have hto' : u.coh.timeouts.contains (p, x.ln) = false := by simpa using hto
  generalize hev : smAdj u.coh.evicts x.ln (fun v => { v with poisonIfNoWb := false }) = ev
  generalize htx : smMap u.coh.txns (fun _ y => if y.ln = x.ln then { y with unkLost := false } else y) = tx
  have hacc : u.acceptWb x p = ({ u with coh := { u.coh with evicts := ev, txns := tx } } : State).wbData { x with cls := c } := by
    unfold State.acceptWb
    simp only [hto', hcls, hev, htx, Bool.false_eq_true, if_false]
    rw [if_neg (by simp [hsh])]
  obtain ⟨tx', he, hf⟩ := State.wbData_untiered (s := { u with coh := { u.coh with evicts := ev, txns := tx } })
    (x := { x with cls := c }) ht hc
  exact ⟨c, ev, tx', hacc.trans he, hf⟩

/-! ## Answers and Span messages (01 R17; 13 R324, R336) -/

theorem State.answerRead_head {x : Txn} {h : Head} (hx : x.src = .head h) (s : State) (d : Data) (po : Bool) :
    s.answerRead x d po = (s.emit (.drs h x.ln d po x.devload)).count 0 2 { head := some h.val } := by
  simp only [State.answerRead, hx]

theorem State.answerWrite_head {x : Txn} {h : Head} (hx : x.src = .head h) (s : State) (po : Bool) :
    s.answerWrite x po = (s.emit (.ndr h x.ln po x.devload)).count 0 2 { head := some h.val } := by
  simp only [State.answerWrite, hx]

/-- What is put on the pins or links and then counted is sent. -/
theorem State.emit_count_out (s : State) (o : Out) (u ev : Nat) (a : Attr) (k : Nat) : o ∈ ((s.emit o).count u ev a k).out :=
  State.count_out _ _ _ _ _ (List.mem_append_right _ (List.mem_singleton_self o))

/-- A Span message reaches what a fault report may reach: links, outputs, heads and registers. -/
theorem State.sendSpan_off (s : State) (dest op : Nat) (m : SpanMsg) : (s.sendSpan dest op m).offFault = s.offFault := by
  unfold State.sendSpan
  dsimp only
  refine (offFault_of_offCount (State.count_off ..)).trans ?_
  split
  · split <;> rfl
  · rfl

@[simp] theorem State.sendSpan_coh (s : State) (dest op : Nat) (m : SpanMsg) : (s.sendSpan dest op m).coh = s.coh :=
  (congrArg State.coh (s.sendSpan_off dest op m) :)
@[simp] theorem State.sendSpan_dram (s : State) (dest op : Nat) (m : SpanMsg) : (s.sendSpan dest op m).dram = s.dram :=
  (congrArg State.dram (s.sendSpan_off dest op m) :)
@[simp] theorem State.sendSpan_tags (s : State) (dest op : Nat) (m : SpanMsg) : (s.sendSpan dest op m).spn.tags = s.spn.tags :=
  (congrArg (fun t : State => t.spn.tags) (s.sendSpan_off dest op m) :)

theorem State.sendSpan_out (s : State) (dest : NodeId) (op : Nat) (m : SpanMsg) :
    .span dest op m ∈ (s.sendSpan dest.toNat op m).out := by
  have hd : BitVec.ofNat 6 dest.toNat = dest := by simp
  unfold State.sendSpan
  rw [hd]
  exact State.emit_count_out ..

/-- With a free TAG a request is noted under it and leaves. -/
theorem State.sendReq_free {s : State} {dest t : Nat} (ht : s.freeTag dest = some t) (op : Nat) (r : SpanReq) (mk : Nat → SpanMsg) :
    (s.sendReq dest op r mk).2 = ({ s with spn := { s.spn with
      tags := smSet s.spn.tags (dest * 4096 + t) { r with op := op, since := s.wclk } } } : State).sendSpan dest op (mk t) := by
  simp only [State.sendReq, ht]

/-! ## The requests' outcomes -/

/-- The state on which a request that its key slot admits goes on: a write is counted under its key (10 R268). -/
def State.onKey (s : State) (h : Head) (m : Match) (hpa : Nat) (a : Access) : State :=
  if a = .read then s.onDec h else (s.onDec h).countWrite (s.keyOf m hpa % 128)

section
variable (s : State) (h : Head) (m : Match) (hpa : Nat) (a : Access)

@[simp] theorem State.onKey_coh : (s.onKey h m hpa a).coh = s.coh := by unfold State.onKey; split <;> simp
@[simp] theorem State.onKey_dram : (s.onKey h m hpa a).dram = s.dram := by unfold State.onKey; split <;> simp
@[simp] theorem State.onKey_chans : (s.onKey h m hpa a).chans = s.chans := by unfold State.onKey; split <;> simp
@[simp] theorem State.onKey_slc : (s.onKey h m hpa a).slc = s.slc := by unfold State.onKey; split <;> simp

theorem State.onKey_fget (f : Fld) (i : Nat) (hf : f.id < 1024) (hp : f.id ∉ pmuFlds.map (·.id)) (hk : f.id ∉ inlEvtIds) :
    (s.onKey h m hpa a).fget f i = s.fget f i := by
  unfold State.onKey
  split
  · exact s.onDec_regs h f i hf hp
  · exact (State.countWrite_fget _ _ f i hf hk).trans (s.onDec_regs h f i hf hp)

theorem State.onKey_localPtr (n : Nat) : (s.onKey h m hpa a).localPtr n = s.localPtr n := by
  simp only [State.localPtr, State.selfNode, s.onKey_fget h m hpa a SPN_NODE.STATE _ (by decide) (by decide) (by decide),
    s.onKey_fget h m hpa a SPN_NODE.ID _ (by decide) (by decide) (by decide)]

theorem State.onKey_onChannel (mpa : Nat) : (s.onKey h m hpa a).onChannel mpa = s.onChannel mpa := by
  have hall : ∀ f ∈ placeFlds, f.id < 1024 ∧ f.id ∉ pmuFlds.map (·.id) ∧ f.id ∉ inlEvtIds := by decide
  refine State.onChannel_congr (s.onKey_chans h m hpa a) (fun f hf i => ?_) mpa
  obtain ⟨h1, h2, h3⟩ := hall f hf
  exact s.onKey_fget h m hpa a f i h1 h2 h3

end

theorem State.onKey_write_count (s : State) (h : Head) (m : Match) (hpa : Nat) :
    ((s.onKey h m hpa .write).slot (s.keyOf m hpa % 128)).count = min (2 ^ 52 - 1) ((s.slot (s.keyOf m hpa % 128)).count + 1) := by
  unfold State.onKey
  rw [if_neg (by decide), State.countWrite_count, State.slot_congr (s.onDec_inl h)]

theorem exec_memRead {s : State} {h : Head} (ha : s.admits (.head h) = true) (hpa : Hpa) (mv : MetaValue) (ok : Bool) :
    exec (.memRead h hpa mv ok) s = .next (s.kept ((s.onAccess (.head h)).hostReq h hpa.toNat
      { src := .head h, kind := .read, mv := mv } .read ok (enterReq h))) :=
  volatile_access_admits _ _ _ s ha

theorem exec_memWrite {s : State} {h : Head} (ha : s.admits (.head h) = true) (hpa : Hpa) (mv : MetaValue) (d : Data) (ok : Bool) :
    exec (.memWrite h hpa mv d ok) s = .next (s.kept ((s.onAccess (.head h)).hostReq h hpa.toNat
      { src := .head h, kind := .write, mv := mv, data := d, be := BitVec.allOnes 64 } .write ok (enterReq h))) :=
  volatile_access_admits _ _ _ s ha

theorem exec_partialWrite {s : State} {h : Head} (ha : s.admits (.head h) = true) (hpa : Hpa) (mv : MetaValue) (d : Data) (be : ByteEn)
    (ok : Bool) : exec (.partialWrite h hpa mv d be ok) s = .next (s.kept ((s.onAccess (.head h)).hostReq h hpa.toNat
      { src := .head h, kind := .part, mv := mv, data := d, be := be } .write ok (enterReq h))) :=
  volatile_access_admits _ _ _ s ha

/-- With room for a class-1 operation a writeback is a request like the others (06 R138). -/
theorem exec_memWriteback {s : State} {h : Head} (ha : s.admits (.head h) = true) (hr : s.ttRoom1 = true) (hpa : Hpa) (mv : MetaValue)
    (d : Data) : exec (.memWriteback h hpa mv d) s = .next (s.kept ((s.onAccess (.head h)).hostReq h hpa.toNat
      { src := .head h, kind := .write, mv := mv, data := d, be := BitVec.allOnes 64, mc := 1 } .writeback true
      (fun x u => u.acceptWb x (u.localPtr h)))) := by
  have hr' : (s.onAccess (.head h)).ttRoom1 = true := by
    rw [← hr]
    unfold State.ttRoom1 State.ttUsed
    rw [State.ttFree_congr (State.onAccess_coh ..), State.onAccess_coh]
  refine (volatile_access_admits _ _ _ s ha).trans ?_
  unfold memWriteback
  rw [hr']
  rfl

theorem exec_memClnEvct {s : State} {h : Head} (ha : s.admits (.head h) = true) (hpa : Hpa) :
    exec (.memClnEvct h hpa) s = .next (s.kept (memClnEvct h hpa (s.onAccess (.head h)))) :=
  volatile_access_admits _ _ _ s ha

/-- Placing a transaction in a region changes neither who asked nor what for. -/
theorem Txn.placed_same (x : Txn) (k : KeyId) (ln rg cls hint : Nat) (sh ti re : Bool) {y : Txn} (hy : { x with
    key := k, ln := ln, shared := sh, tiered := ti, region := rg, cls := cls, hint := hint, retired := re } = y) :
    y.src = x.src ∧ y.kind = x.kind ∧ y.mv = x.mv ∧ y.data = x.data ∧ y.be = x.be ∧ y.phase = x.phase ∧ y.ln = ln ∧ y.key = k ∧
      y.shared = sh ∧ y.tiered = ti := by
  subst hy
  exact ⟨rfl, rfl, rfl, rfl, rfl, rfl, rfl, rfl, rfl, rfl⟩

/-- The transaction of a request has its operands, and the line, key ID and region that it decoded to. -/
theorem State.reqTxn_fields (s : State) (m : Match) (hpa : Nat) (x : Txn) {y : Txn} (hy : s.reqTxn m hpa x = y) :
    y.src = x.src ∧ y.kind = x.kind ∧ y.mv = x.mv ∧ y.data = x.data ∧ y.be = x.be ∧ y.phase = x.phase ∧ y.ln = s.dpaOf m / 64 ∧
      y.key = BitVec.ofNat 7 (s.keyOf m hpa) ∧ y.shared = (s.region m.tpl.region).shared ∧ y.tiered = (s.region m.tpl.region).tiered :=
  Txn.placed_same x _ _ _ _ _ _ _ _ hy

/-- What a request x that decoded to an untiered local region has become of a state s: in t the transaction y stands under the next number,
with the request's operands and what its region gives it. Inlay is left as counting the request leaves it. -/
structure Entered (s : State) (h : Head) (m : Match) (hpa : Nat) (a : Access) (x y : Txn) (t : State) : Prop where
  txn : t.txn? s.coh.next = some y
  src : y.src = x.src
  kind : y.kind = x.kind
  mv : y.mv = x.mv
  data : y.data = x.data
  be : y.be = x.be
  ln : y.ln = s.dpaOf m / 64
  key : y.key = BitVec.ofNat 7 (s.keyOf m hpa)
  shared : y.shared = (s.region m.tpl.region).shared
  next : t.coh.next = s.coh.next + 1
  dir : t.coh.dir = s.coh.dir
  nv : t.nv = s.nv
  dram : t.dram = s.dram
  chans : t.chans = s.chans
  slc : t.slc = s.slc
  inl : t.inl = (s.onKey h m hpa a).inl

/-- A class-3 request that decodes to an untiered local region enters the transaction table, and asks for its line's lock. -/
theorem State.hostReq_enters {s : State} {h : Head} {hpa : Nat} {m : Match} (hm : s.hitsDirect h hpa m) (x : Txn) (hx : x.phase = .ingress)
    (a : Access) : ∃ y, Entered s h m hpa a x y
        (s.kept ((s.onAccess (.head h)).hostReq h hpa x a true (enterReq h))) ∧
      (s.ttFree ≠ 0 → s.queueFull (s.dpaOf m / 64) = false → y.phase = .lockWait) := by
  rw [State.hostReq_served hm.1.1, State.hostDec_direct hm, ← State.onKey]
  have hcoh := s.onKey_coh h m hpa a
  have hdram := s.onKey_dram h m hpa a
  have hchans := s.onKey_chans h m hpa a
  have hslc := s.onKey_slc h m hpa a
  obtain ⟨-, -, -, ht, -⟩ := hm
  generalize hz : s.reqTxn m hpa x = z
  obtain ⟨hsrc, hkind, hmv, hdata, hbe, hph, hln, hkey, hsh, hti⟩ := s.reqTxn_fields m hpa x hz
  generalize hu : s.onKey h m hpa a = u at *
  obtain ⟨ph, d, st, r, b, p, tx, he, hf, hl⟩ := enterReq_untiered u h z (hti.trans ht) (hph.trans hx)
  rw [State.ttFree_congr hcoh, State.queueFull_congr hcoh, hln] at hl
  rw [hcoh] at he hf
  rw [he]
  exact ⟨_, ⟨hf, hsrc, hkind, hmv, hdata, hbe, hln, hkey, hsh, rfl, rfl, rfl, hdram, hchans, hslc, by rw [hu]; rfl⟩, hl⟩

/-- A writeback that decodes to an untiered local region and is not shared goes on towards memory at once, as a class-1 write. -/
theorem State.hostReq_writeback {s : State} {h : Head} {hpa : Nat} {m : Match} (hm : s.hitsDirect h hpa m)
    (hns : (s.region m.tpl.region).shared = false) (hto : (s.localPtr h, s.dpaOf m / 64) ∉ s.coh.timeouts)
    (hc : s.onChannel (s.dpaOf m / 64) = true) (x : Txn) :
    ∃ y, Entered s h m hpa .writeback x y (s.kept ((s.onAccess (.head h)).hostReq h hpa x .writeback true
        (fun x u => u.acceptWb x (u.localPtr h)))) ∧
      y.mc = 1 ∧ y.phase = .credit ∧ y.mpa = some (s.dpaOf m / 64) := by
  rw [State.hostReq_served hm.1.1, State.hostDec_direct hm, ← State.onKey]
  have hcoh := s.onKey_coh h m hpa .writeback
  have hdram := s.onKey_dram h m hpa .writeback
  have hchans := s.onKey_chans h m hpa .writeback
  have hslc := s.onKey_slc h m hpa .writeback
  rw [← s.onKey_onChannel h m hpa .writeback] at hc
  rw [← s.onKey_localPtr h m hpa .writeback, ← hcoh] at hto
  obtain ⟨-, -, -, ht, -⟩ := hm
  generalize hz : s.reqTxn m hpa x = z
  obtain ⟨hsrc, hkind, hmv, hdata, hbe, -, hln, hkey, hsh, hti⟩ := s.reqTxn_fields m hpa x hz
  generalize hu : s.onKey h m hpa .writeback = u at *
  rw [← hln] at hc hto ⊢
  obtain ⟨c, ev, tx, he, hf⟩ := State.acceptWb_untiered (hti.trans ht) (hsh.trans hns) hto hc
  rw [hcoh] at he hf
  rw [he]
  exact ⟨_, ⟨hf, hsrc, hkind, hmv, hdata, hbe, hln, hkey, hsh, rfl, rfl, rfl, hdram, hchans, hslc, by rw [hu]; rfl⟩, rfl, rfl, rfl⟩

/-- A clean eviction notice of a local line that is not shared is completed, and changes nothing else (06 R132). -/
theorem memClnEvct_local {s : State} {h : Head} {hpa : Hpa} {m : Match} (hs : s.memServed h = true)
    (hd : s.decode h hpa.toNat = some m) (hh : (s.region m.tpl.region).home = none) (hsh : (s.region m.tpl.region).shared = false) :
    memClnEvct h hpa (s.onAccess (.head h)) =
      ((s.onAccess (.head h)).emit (.ndr h (s.dpaOf m / 64) false 0)).count 0 2 { head := some h.val } := by
  obtain ⟨ha, hp, -⟩ := State.memServed_iff.mp hs
  have h1 := State.accepts_onAccess ha hp
  have h2 := (State.decode_congr (State.onAccess_dec s (.head h)) h hpa.toNat).trans hd
  have hr : (s.onAccess (.head h)).region m.tpl.region = s.region m.tpl.region := by simp only [State.region, State.onAccess_dec]
  have hdpa : (s.onAccess (.head h)).dpaBase m.idx = s.dpaBase m.idx := by simp only [State.dpaBase, State.onAccess_fget]
  unfold memClnEvct
  simp only [h1, h2, hr, hh, hdpa, Bool.not_true, Bool.false_eq_true, if_false]
  unfold State.cleanEvict
  rw [if_neg (by simp [State.localTxn, hsh])]
  exact State.answerWrite_head (h := h) rfl _ false

theorem State.turnAway_read {x : Txn} {h : Head} (hx : x.src = .head h) (hk : x.kind = .read) (s : State) :
    s.turnAway x = (s.emit (.drs h x.ln 0 true x.devload)).count 0 2 { head := some h.val } := by
  unfold State.turnAway
  rw [if_pos hk, State.answerRead_head hx]

theorem State.turnAway_write {x : Txn} {h : Head} (hx : x.src = .head h) (hk : x.kind = .write) (s : State) :
    s.turnAway x = (s.emit (.ndr h x.ln false x.devload)).count 0 2 { head := some h.val } := by
  unfold State.turnAway
  rw [if_neg (by simp [hk]), State.answerWrite_head hx]

/-- The state in which a request that matches no decoder has been answered with an output. -/
def State.unmatched (s : State) (h : Head) (hpa : Nat) (o : Out) : State :=
  ((((s.onDec h).decFault 1 hpa h).count 1 4 { head := some h.val }).emit o).count 0 2 { head := some h.val }

/-- The answer is sent, and the class of the DEC fault is in fault state; the rest of what requests and DRAM hold stands. -/
theorem State.kept_unmatched (s : State) (h : Head) (hpa : Nat) (o : Out) :
    o ∈ (s.kept (s.unmatched h hpa o)).out ∧ ((s.kept (s.unmatched h hpa o)).classSt setDEC 1).inFault = true ∧
      (s.kept (s.unmatched h hpa o)).coh = s.coh ∧ (s.kept (s.unmatched h hpa o)).dram = s.dram ∧
      (s.kept (s.unmatched h hpa o)).nv = s.nv := by
  have hr : ((s.onDec h).decFault 1 hpa h).inFault setDEC 1 = true := State.report_inFault _ _ _ _ _ (by decide)
  rw [State.kept_out, State.kept_inFault, State.kept_coh, State.kept_dram, State.unmatched]
  refine ⟨State.emit_count_out .., ?_, ?_, ?_, State.kept_nv ..⟩
  · rwa [State.count_inFault, State.emit_inFault, State.count_inFault]
  · simp [State.decFault]
  · simp [State.decFault]

/-- A request that matches no decoder raises DEC class 1; a read is answered with poison (05 R114). -/
theorem State.hostReq_read_noMatch {s : State} {h : Head} {hpa : Nat} (hs : s.memServed h = true) (hd : s.decode h hpa = none) {x : Txn}
    (hx : x.src = .head h) (hk : x.kind = .read) (a : Access) (go : Txn → State → State) :
    (s.onAccess (.head h)).hostReq h hpa x a true go = s.unmatched h hpa (.drs h x.ln 0 true x.devload) :=
  (State.hostReq_served hs ..).trans ((State.hostDec_noMatch hd ..).trans (State.turnAway_read hx hk _))

/-- A write that matches no decoder is completed normally (05 R114). -/
theorem State.hostReq_write_noMatch {s : State} {h : Head} {hpa : Nat} (hs : s.memServed h = true) (hd : s.decode h hpa = none) {x : Txn}
    (hx : x.src = .head h) (hk : x.kind = .write) (a : Access) (go : Txn → State → State) :
    (s.onAccess (.head h)).hostReq h hpa x a true go = s.unmatched h hpa (.ndr h x.ln false x.devload) :=
  (State.hostReq_served hs ..).trans ((State.hostDec_noMatch hd ..).trans (State.turnAway_write hx hk _))

/-- A saturating counter that counts one event. -/
theorem State.finc_fget_self (s : State) (f : Fld) (i : Nat) : (s.finc f i).fget f i = min (2 ^ f.width - 1) (s.fget f i + 1) := by
  have := Nat.two_pow_pos f.width
  rw [State.finc, State.fadd, State.fget_fset_self, Nat.mod_eq_of_lt (by omega)]

/-- An IDE failure ends the head's stream, and reports HP class 1 (04 R96). -/
theorem State.kept_ideFail {s : State} {h : Head} (hi : s.ideRefused h = false) :
    (s.kept ((s.onMem h).ideFail h)).fget HP_IDE.INSECURE h = 1 ∧ (s.kept ((s.onMem h).ideFail h)).fget HP_IDE.MEM_ACTIVE h = 0 ∧
      ((s.kept ((s.onMem h).ideFail h)).classSt setHP 1).inFault = true ∧ (s.kept ((s.onMem h).ideFail h)).coh = s.coh ∧
      (s.kept ((s.onMem h).ideFail h)).dram = s.dram ∧ (s.kept ((s.onMem h).ideFail h)).nv = s.nv := by
  have hsec : (s.onMem h).fone HP_IDE.INSECURE h = false := by
    have hi' := (s.ideRefused_onMem h).trans hi
    simp only [State.ideRefused, Bool.or_eq_false_iff] at hi'
    exact hi'.2
  have he : (s.onMem h).ideFail h = ((((s.onMem h).fset HP_IDE.INSECURE h 1).fset HP_IDE.MEM_ACTIVE h 0).modHead h fun x =>
      { x with ideKeys := (x.ideKeys.1, false) }).report setHP 1 { unit := h } := by
    unfold State.ideFail
    rw [if_neg (by simp [hsec])]
  rw [State.kept_fget, State.kept_fget, State.kept_inFault, State.kept_coh, State.kept_dram, he]
  refine ⟨?_, ?_, State.report_inFault _ _ _ _ _ (by decide), by simp, by simp, State.kept_nv ..⟩
  · rw [State.report_fget _ _ _ _ _ _ _ (by decide) (by decide), State.modHead_fget,
      State.fget_fset_ne _ _ _ _ (by decide) (by decide) (by decide), State.fget_fset_self]
    rfl
  · rw [State.report_fget _ _ _ _ _ _ _ (by decide) (by decide), State.modHead_fget, State.fget_fset_self]
    rfl

/-- A read to a remote home leaves under the lowest free TAG (13 R336, R338). -/
theorem State.toHome_read {s : State} {x : Txn} {home ln t : Nat} (hk : x.kind = .read) (ht : s.freeTag home = some t) (h : Nat)
    (sh : Bool) : s.toHome x h home ln sh = ({ s with spn := { s.spn with
      tags := smSet s.spn.tags (home * 4096 + t) { head := some (Fin.ofNat 16 h), ln := ln, op := 1, since := s.wclk } } } : State).sendSpan
      home 1 (spanMsg s h x.key.toNat t ln 0 x.mv x.data false sh 0 (s.fget WEIR_URGH.LEVEL >>> (2 * h) % 4)) := by
  unfold State.toHome
  simp only [hk]
  exact State.sendReq_free ht ..

/-! ## Requests of the heads -/

/-- Settles O49: an admitted request is followed through its front checks, DEC and its key slot to the table, the channel, the Span or its
answer. -/
theorem hostRequests : Obligations.HostRequests := by
  unfold Obligations.HostRequests
  refine ⟨fun h hpa mv m s hm => ?read, fun h hpa mv d m s hm => ?write, fun h hpa mv d be m s hm => ?part,
    fun h hpa mv d m s hm hsh hr hto hc => ?writeback, fun h hpa m s hs hd hh hsh => ?evict, fun h hpa mv d s hs hd => ?noMatch,
    fun h hpa mv ok s ha hp hi => ?noIde, fun h hpa mv s ha hp hi => ?badIde, fun h hpa mv m home tag s hm hh ht => ?remote⟩
  case read =>
    obtain ⟨ha, -⟩ := State.memServed_iff.mp hm.1.1
    obtain ⟨y, e, hl⟩ := State.hostReq_enters hm { src := .head h, kind := .read, mv := mv } rfl .read
    exact ⟨_, y, exec_memRead ha hpa mv true, e.txn, e.src, e.kind, e.mv, e.ln, e.key, e.shared, hl, e.next, e.nv, e.dram, e.chans, e.slc,
      e.inl.trans (s.onDec_inl h), e.dir⟩
  case write =>
    obtain ⟨ha, -⟩ := State.memServed_iff.mp hm.1.1
    obtain ⟨y, e, hl⟩ := State.hostReq_enters hm
      { src := .head h, kind := .write, mv := mv, data := d, be := BitVec.allOnes 64 } rfl .write
    have hcount := (congrArg Slot.count (State.slot_congr e.inl _)).trans (s.onKey_write_count h m hpa.toNat)
    exact ⟨_, y, exec_memWrite ha hpa mv d true, e.txn, e.src, e.kind, e.data, e.be, e.ln, e.key, hl, hcount, e.nv, e.dram, e.chans, e.slc,
      e.dir⟩
  case part =>
    obtain ⟨ha, -⟩ := State.memServed_iff.mp hm.1.1
    obtain ⟨y, e, hl⟩ := State.hostReq_enters hm { src := .head h, kind := .part, mv := mv, data := d, be := be } rfl .write
    exact ⟨_, y, exec_partialWrite ha hpa mv d be true, e.txn, e.src, e.kind, e.data, e.be, e.ln, e.key, hl, e.nv, e.dram, e.chans, e.slc,
      e.dir⟩
  case writeback =>
    obtain ⟨ha, -⟩ := State.memServed_iff.mp hm.1.1
    obtain ⟨y, e, hmc, hph, hmpa⟩ := State.hostReq_writeback hm hsh hto hc
      { src := .head h, kind := .write, mv := mv, data := d, be := BitVec.allOnes 64, mc := 1 }
    exact ⟨_, y, exec_memWriteback ha hr hpa mv d, e.txn, e.src, e.kind, hmc, e.data, e.ln, hph, hmpa, e.nv, e.dram, e.chans, e.slc, e.dir⟩
  case evict =>
    obtain ⟨ha, -⟩ := State.memServed_iff.mp hs
    have hx := exec_memClnEvct ha hpa
    rw [memClnEvct_local hs hd hh hsh] at hx
    refine ⟨_, hx, ?_, ?_, ?_, State.kept_nv .., ?_⟩
    · rw [State.kept_out]
      exact State.emit_count_out ..
    · simp
    · simp
    · simp
  case noMatch =>
    obtain ⟨ha, -⟩ := State.memServed_iff.mp hs
    have hr := exec_memRead ha hpa mv true
    have hw := exec_memWrite ha hpa mv d true
    rw [State.hostReq_read_noMatch hs hd rfl rfl] at hr
    rw [State.hostReq_write_noMatch hs hd rfl rfl] at hw
    exact ⟨⟨_, hr, s.kept_unmatched ..⟩, ⟨_, hw, s.kept_unmatched ..⟩⟩
  case noIde =>
    have hx := exec_memRead ha hpa mv ok
    rw [State.hostReq_ideRefused ha hp hi, State.turnAway_read (h := h) rfl rfl] at hx
    refine ⟨_, hx, ?_, ?_, ?_, ?_, ?_, State.kept_nv ..⟩
    · rw [State.kept_out]
      exact State.emit_count_out ..
    · rw [State.kept_fget, State.count_fget _ _ _ _ _ _ _ (by decide) (by decide), State.emit_fget, State.finc_fget_self,
        s.onMem_regs h HP_IDE.DROPS h (by decide) (by decide)]
    · simp [State.finc, State.fadd]
    · simp [State.finc, State.fadd]
    · simp [State.finc, State.fadd]
  case badIde =>
    have hx := exec_memRead ha hpa mv false
    rw [State.hostReq_ideBad ha hp hi] at hx
    exact ⟨_, hx, State.kept_ideFail hi⟩
  case remote =>
    obtain ⟨ha, -⟩ := State.memServed_iff.mp hm.1
    have ht' : (s.onDec h).freeTag home.toNat = some tag := by simpa only [State.freeTag, State.onDec_spn] using ht
    have hx := exec_memRead ha hpa mv true
    rw [State.hostReq_served hm.1, State.hostDec_remote hm hh, State.toHome_read rfl ht'] at hx
    refine ⟨_, _, hx, (State.kept_out ..).symm ▸ State.sendSpan_out _ home 1 _, ?_, rfl, rfl, rfl, ?_, ?_, ?_, State.kept_nv ..⟩
    · simp [spanMsg]
    · simp
    · simp
    · simp

end Sys2Proof.Machine
end

section
/-! PROOF. What every command keeps, by the two kinds of outcome, and the management commands that the Bench turns away. -/

namespace Sys2Proof.Machine

open Sys2Proof

/-! ## The two kinds of outcome (02 R51-R52; 04 R88; 14 R358; 17 R406, R410, R416) -/

/-- A command that is not named to change fuses or flash has an effect with no path to them. -/
theorem exec_volatile {c : Instr} (h : changesFuses c = false) (s : State) : ∃ f, exec c s = volatile f s := by
  cases c with
  | cutWriteSlot | cutAdvance | boardWrite | lcTransition | ownerEnroll | ownerRevoke | fwAdvance | fwWriteSlot | wakeStepEnd => cases h
  | _ => exact ⟨_, rfl⟩

/-- A command that is named to change fuses or flash has an effect with no path to the queue. -/
theorem exec_lasting {c : Instr} (h : changesFuses c = true) (s : State) : ∃ f, exec c s = lasting f s := by
  cases c with
  | cutWriteSlot | cutAdvance | boardWrite | lcTransition | ownerEnroll | ownerRevoke | fwAdvance | fwWriteSlot | wakeStepEnd =>
    exact ⟨_, rfl⟩
  | _ => cases h

/-- A command that is not named answers a next state with the same queue, fuses and flash. -/
theorem exec_keeps_nv {c : Instr} (h : changesFuses c = false) (s : State) :
    ∃ t, exec c s = .next t ∧ t.pending = s.pending ∧ t.nv = s.nv := by
  obtain ⟨f, hf⟩ := exec_volatile h s
  exact ⟨_, hf, rfl, rfl⟩

/-- Every command answers a next state with the same queue. -/
theorem exec_keeps_pending (c : Instr) (s : State) : ∃ t, exec c s = .next t ∧ t.pending = s.pending := by
  cases h : changesFuses c with
  | false =>
    obtain ⟨t, hx, hp, -⟩ := exec_keeps_nv h s
    exact ⟨t, hx, hp⟩
  | true =>
    obtain ⟨f, hf⟩ := exec_lasting h s
    exact ⟨_, hf, rfl⟩

/-- Settles O3: every outcome is volatile, or, for the named commands alone, lasting;
both leave the queue, the first also fuses and flash. -/
theorem everyCommandAnswers : Obligations.EveryCommandAnswers := by
  unfold Obligations.EveryCommandAnswers
  refine ⟨exec_keeps_pending, fun c s h => ?_⟩
  obtain ⟨t, hx, -, hn⟩ := exec_keeps_nv h s
  exact ⟨t, hx, hn⟩

/-! ## The state on which the Bench serves a command (18 R427; 20 R465) -/

@[simp] theorem State.onAccess_nv (s : State) (p : Path) : (s.onAccess p).nv = s.nv := (congrArg State.nv (s.onAccess_eq p) :)
@[simp] theorem State.onAccess_pending (s : State) (p : Path) : (s.onAccess p).pending = s.pending :=
  (congrArg State.pending (s.onAccess_eq p) :)

/-- Serving a command writes counters only. -/
theorem State.onMailbox_regs (s : State) (p : Path) : RegsSame pmuFlds s (s.onMailbox p) := fun f i hf hp => by
  simp only [State.onMailbox, State.count_fget _ _ _ _ _ f i hf hp, State.active_fget, State.onAccess_fget]

@[simp] theorem State.onMailbox_boot (s : State) (p : Path) : (s.onMailbox p).boot = s.boot := by simp [State.onMailbox]
@[simp] theorem State.onMailbox_pending (s : State) (p : Path) : (s.onMailbox p).pending = s.pending := by
  simp [State.onMailbox]
@[simp] theorem State.onMailbox_nv (s : State) (p : Path) : (s.onMailbox p).nv = s.nv := by simp [State.onMailbox]

@[simp] theorem State.onMailbox_admin (s : State) (p q : Path) : (s.onMailbox p).admin q = s.admin q := by
  cases q with
  | head h => simp only [State.admin, State.headMgmt, State.fbitAt, s.onMailbox_regs p GLB_HEADS.MGMT 0 (by decide) (by decide)]
  | sideband | bench => rfl

/-- A counted event changes outputs, registers and heads, and nothing else. -/
theorem State.count_eq (s : State) (u ev : Nat) (a : Attr) (k : Nat) : s.count u ev a k =
    { s with out := (s.count u ev a k).out, regs := (s.count u ev a k).regs, heads := (s.count u ev a k).heads } :=
  congrArg (fun x : State => { x with
    out := (s.count u ev a k).out, regs := (s.count u ev a k).regs, heads := (s.count u ev a k).heads }) (s.count_off u ev a k)

/-- The access and its count change outputs, registers, heads, the latched trigger and the idle time, and nothing else. -/
theorem State.onMailbox_eq (s : State) (p : Path) : s.onMailbox p =
    { s with
      out := (s.onMailbox p).out, regs := (s.onMailbox p).regs, heads := (s.onMailbox p).heads
      pwr := { s.pwr with latched := (s.onMailbox p).pwr.latched, idleFrom := s.wclk } } := by
  have hl : (s.onMailbox p).pwr.latched = (s.onAccess p).pwr.latched := by simp [State.onMailbox, State.active]
  have ha := congrArg State.active (s.onAccess_eq p)
  rw [hl]
  unfold State.onMailbox
  refine (State.count_eq ..).trans ?_
  exact congrArg (fun x : State => { x with
    out := (s.onMailbox p).out, regs := (s.onMailbox p).regs, heads := (s.onMailbox p).heads }) ha

/-! ## Management commands turned away (02 R50; 20 R465) -/

/-- While the firmware restarts, a management command is answered Busy. -/
theorem State.adminCmd_busy {s : State} (hr : s.boot.fwRestart = true) (p : Path) (go : State → State) :
    (s.onAccess p).adminCmd p go = (s.onMailbox p).reply p .busy :=
  if_pos ((congrArg Boot.fwRestart (s.onMailbox_boot p)).trans hr)

/-- Of a path that is neither a management head nor the sideband, a management command is answered Unsupported. -/
theorem State.adminCmd_unsupported {s : State} {p : Path} (hr : s.boot.fwRestart = false) (ha : s.admin p = false) (go : State → State) :
    (s.onAccess p).adminCmd p go = (s.onMailbox p).reply p .unsupported := by
  have hr' : ¬ (s.onMailbox p).boot.fwRestart = true := by simp [hr]
  have ha' : ¬ (s.onMailbox p).admin p = true := by simp [ha]
  exact (if_neg hr').trans (if_neg ha')

/-- Every management command is an access on its path that runs an effect behind the Bench's checks. -/
theorem exec_adminPath {c : Instr} {p : Path} (h : adminPath c = some p) (s : State) :
    ∃ go, exec c s = volatile (access c p (State.adminCmd · p go)) s ∨ exec c s = lasting (access c p (State.adminCmd · p go)) s := by
  cases c with
  | warmReset | cutStream | cutApplyLive | cutRecut | cutRead | secNonce | dbgUnlock | dbgLock | pprSoft | pprHard =>
    cases h
    exact ⟨_, .inl rfl⟩
  | cutWriteSlot | cutAdvance | boardWrite | ownerEnroll | ownerRevoke | fwAdvance | fwWriteSlot =>
    cases h
    exact ⟨_, .inr rfl⟩
  | _ => cases h

/-- An admitted access of either kind whose effect leaves fuses, flash and queue alone ends in the state that its effect leaves. -/
theorem access_ends {c : Instr} {p : Path} {f : State → State} {s t : State} (ha : s.admits p = true) (ht : f (s.onAccess p) = t)
    (hn : t.nv = s.nv) (hp : t.pending = s.pending) :
    volatile (access c p f) s = .next t ∧ lasting (access c p f) s = .next t := by
  unfold volatile lasting
  rw [access_admits c p f s ha, ht, ← hn, ← hp]
  exact ⟨rfl, rfl⟩

/-- A management command that the Bench's checks answer, whatever its effect, ends in that answer. -/
theorem exec_adminPath_reply {c : Instr} {p : Path} {s : State} (hc : adminPath c = some p) (ha : s.admits p = true) {rc : Rc}
    (h : ∀ go, (s.onAccess p).adminCmd p go = (s.onMailbox p).reply p rc) : exec c s = .next ((s.onMailbox p).reply p rc) := by
  obtain ⟨go, hx⟩ := exec_adminPath hc s
  obtain ⟨hv, hl⟩ := access_ends (c := c) (f := (State.adminCmd · p go)) ha (h go) (by simp) (by simp)
  exact hx.elim (·.trans hv) (·.trans hl)

/-- Settles O33: the Bench's checks stand before every management command's effect, and change what the access and its count change. -/
theorem managementCommandsTurnedAway : Obligations.ManagementCommandsTurnedAway := by
  unfold Obligations.ManagementCommandsTurnedAway
  refine ⟨fun c p s hc ha hr => ?busy, fun c p s hc ha hr hp => ?unsupported, fun p s => ⟨s.onMailbox_eq p, s.onMailbox_regs p⟩⟩
  case busy => exact exec_adminPath_reply hc ha (State.adminCmd_busy hr p)
  case unsupported => exact exec_adminPath_reply hc ha (State.adminCmd_unsupported hr hp)

end Sys2Proof.Machine
end

section
/-! PROOF. Clocks, rails and junction temperature: what each event reports and writes, and the tick of an empty queue. -/

namespace Sys2Proof.Machine

open Sys2Proof

/-! ## Outcomes and register frames -/

/-- A command with no path to fuses or queue ends where its effect ends, if that effect leaves both alone. -/
theorem volatile_ends {f : State → State} {s t : State} (ht : f s.clearOut = t) (hn : t.nv = s.nv) (hp : t.pending = s.pending) :
    volatile f s = .next t := by
  unfold volatile
  rw [ht, ← hn, ← hp]

theorem RegsSame.refl {l : List Fld} {s : State} : RegsSame l s s := fun _ _ _ _ => rfl

theorem RegsSame.clearOut {l : List Fld} {s : State} : RegsSame l s s.clearOut := RegsSame.refl (s := s)

theorem RegsSame.trans {l : List Fld} {s t u : State} (h : RegsSame l s t) (k : RegsSame l t u) : RegsSame l s u :=
  fun f i hf hp => (k f i hf hp).trans (h f i hf hp)

/-- A longer list of fields allows more. -/
theorem RegsSame.mono {l m : List Fld} {s t : State} (h : RegsSame l s t) (hm : ∀ n ∈ l.map (·.id), n ∈ m.map (·.id)) : RegsSame m s t :=
  fun f i hf hp => h f i hf fun hl => hp (hm _ hl)

/-- A field of the list may be written. -/
theorem RegsSame.fset {l : List Fld} {s t : State} (h : RegsSame l s t) {g : Fld} (j v : Nat) (hg : g.id < 1024 ∧ g.id ∈ l.map (·.id)) :
    RegsSame l s (t.fset g j v) := fun f i hf hp =>
  (State.fget_fset_ne t i j v hf hg.1 fun e => hp (e ▸ hg.2)).trans (h f i hf hp)

/-- A report adds the fault fields to what has been written before it. -/
theorem RegsSame.report {l : List Fld} {s t : State} (h : RegsSame l s t) (set code : Nat) (c : Capture) (base : Nat) :
    RegsSame (l ++ faultFlds) s (t.report set code c base) :=
  (h.mono (by simp +contextual)).trans ((t.report_regs set code c base).mono (by simp +contextual))

/-- A bit set in a field of enough bits reads as set. -/
theorem State.fbitAt_fputBit (s : State) (f : Fld) (i n : Nat) (h : n < f.width) : (s.fputBit f i n true).fbitAt f i n = true := by
  rw [State.fbitAt, State.fputBit, State.fget_fset_self]
  exact testBit_withBit_true h (.inl rfl)

theorem State.fbitAt_congr {s t : State} {f : Fld} {i : Nat} (h : t.fget f i = s.fget f i) (n : Nat) : t.fbitAt f i n = s.fbitAt f i n :=
  congrArg (·.testBit n) h

/-! ## The tick of an empty queue (assumption 2) -/

/-- Settles O2: with an empty queue a step is the tick of time by its definition, and the tick puts back queue, fuses and flash. -/
theorem emptyQueueTicks : Obligations.EmptyQueueTicks := by
  unfold Obligations.EmptyQueueTicks
  intro s hs
  have hstep : step s = .next (idleTick s) := by
    unfold step
    rw [hs]
  exact ⟨_, hstep, rfl, hs, rfl⟩

/-! ## Events that write registers and report -/

/-- An event that writes register fields, drives `THERMTRIP_N` or leaves it, and then reports: the class is in fault state, a field that no
fault set holds reads as written, and nothing else changes but what a report may change. -/
theorem volatile_reports {f : State → State} {s x : State} {set code : Nat} {c : Capture} {base : Nat} {l : List Fld}
    (hf : f s.clearOut = x.report set code c base) (hx : x = { s.clearOut with regs := x.regs, thermtrip := x.thermtrip })
    (hr : RegsSame l s x) (hc : code - 1 < 16) :
    ∃ t, volatile f s = .next t ∧ (∀ (g : Fld) (j : Nat), g.id < 1024 → g.id ∉ faultFlds.map (·.id) → t.fget g j = x.fget g j) ∧
      (t.classSt set code).inFault = true ∧ t = { s with
        out := t.out, regs := t.regs, heads := t.heads, wit := t.wit, flt := t.flt, thermtrip := x.thermtrip
        boot := { s.boot with fatal := t.boot.fatal }
        spn := { s.spn with withdrawn := t.spn.withdrawn, ageSeq := t.spn.ageSeq, links := t.spn.links } } ∧
      RegsSame (l ++ faultFlds) s t := by
  have hn : x.nv = s.nv := (congrArg State.nv hx :)
  have hp : x.pending = s.pending := (congrArg State.pending hx :)
  refine ⟨_, volatile_ends hf ((State.report_nv ..).trans hn) ((State.report_pending ..).trans hp), x.report_regs set code c base,
    x.report_inFault set code c base hc, ?_, hr.report _ _ _ _⟩
  have ht := x.report_frame set code c base
  generalize x.report set code c base = t at ht ⊢
  rw [FaultFrame, hx] at ht
  exact ht

/-! ## Crossing, AVSBus and rail faults (03 R67, R70, R81, R83; 19 R441) -/

/-- Settles O14: each event writes its own bits, and then reports its class. -/
theorem clockFaults : Obligations.ClockFaults := by
  unfold Obligations.ClockFaults
  refine ⟨fun i v s => ?stuck, fun i s => ?overrun, fun rail s => ?avs, fun rail mv s hl hs hw => ?window⟩
  case stuck =>
    have hbit := s.clearOut.fbitAt_fputBit CLK_XSTUCK.STUCK 0 i.val i.isLt
    have hr : RegsSame [CLK_XSTUCK.COUNT, CLK_XSTUCK.STUCK] s
        ((s.clearOut.fputBit CLK_XSTUCK.STUCK 0 i.val true).finc CLK_XSTUCK.COUNT) :=
      (RegsSame.clearOut.fset _ _ (by decide)).fset _ _ (by decide)
    obtain ⟨t, ht, hg, hrest⟩ := volatile_reports (f := crossingStuck i v) rfl rfl hr (by decide)
    refine ⟨t, ht, (State.fbitAt_congr ?_ _).trans hbit, hrest⟩
    rw [hg _ _ (by decide) (by decide), State.finc, State.fadd, State.fget_fset_ne _ _ _ _ (by decide) (by decide) (by decide)]
  case overrun =>
    have hbit := s.clearOut.fbitAt_fputBit CLK_XOVRN.OVRN 0 i.val i.isLt
    have hr : RegsSame [CLK_XOVRN.OVRN] s (s.clearOut.fputBit CLK_XOVRN.OVRN 0 i.val true) := RegsSame.clearOut.fset _ _ (by decide)
    obtain ⟨t, ht, hg, hrest⟩ := volatile_reports (f := eventCrossingOverrun i) rfl rfl hr (by decide)
    exact ⟨t, ht, (State.fbitAt_congr (hg _ _ (by decide) (by decide)) _).trans hbit, hrest⟩
  case avs =>
    have hr : RegsSame [CLK_AVS.BUSY, CLK_AVS.ERR] s ((s.clearOut.fset CLK_AVS.ERR 0 1).fset CLK_AVS.BUSY 0 0) :=
      (RegsSame.clearOut.fset _ _ (by decide)).fset _ _ (by decide)
    obtain ⟨t, ht, hg, hrest⟩ := volatile_reports (f := avsTimeout rail) rfl rfl hr (by decide)
    refine ⟨t, ht, ?_, ?_, hrest⟩
    · rw [hg _ _ (by decide) (by decide), State.fget_fset_ne _ _ _ _ (by decide) (by decide) (by decide), State.fget_fset_self]
      rfl
    · rw [hg _ _ (by decide) (by decide), State.fget_fset_self]
      rfl
  case window =>
    have he : railOutOfWindow rail mv s.clearOut = s.clearOut.clkFault 4 rail.val mv := by
      have hw' : s.clearOut.railInWindow rail.val mv = false := hw
      rw [railOutOfWindow, if_neg]
      simp only [State.clearOut_boot, hl, hw']
      simpa using hs
    obtain ⟨t, ht, -, hrest⟩ := volatile_reports he rfl (RegsSame.clearOut (l := [])) (by decide)
    exact ⟨t, ht, hrest⟩

/-! ## Margin tests (03 R80, R82) -/

theorem State.elastic_of_margin {s : State} (h : s.fget CLK_STATUS.MARGIN = 1) (i : Nat) : s.elastic i = true := by
  simp [State.elastic, State.fone, h]

/-- The crossings' registers alone follow their modes. -/
theorem State.xmode_eq (s : State) : s.xmode = { s with regs := s.xmode.regs } :=
  have h (m : Nat) (b : Bool) : (s.fset CLK_XMODE.ELASTIC 0 m).fbit CLK_STATUS.FORCE_ELASTIC 0 b =
    { s with regs := ((s.fset CLK_XMODE.ELASTIC 0 m).fbit CLK_STATUS.FORCE_ELASTIC 0 b).regs } := rfl
  h _ _

theorem State.xmode_regs (s : State) : RegsSame [CLK_XMODE.ELASTIC, CLK_STATUS.FORCE_ELASTIC] s s.xmode :=
  (RegsSame.refl.fset _ _ (by decide)).fset _ _ (by decide)

/-- A margin test has begun: CCLK at the new frequency, the core's voltage noted, GO and MARGIN set (03 R82). -/
def State.marginBegun (s : State) (mhz : Nat) : State :=
  let s := { s with boot := { s.boot with cclkMhz := mhz, savedMv := s.fget CLK_AVS.CORE_MV } }
  ((s.fset CLK_MARGIN.GO 0 1).fset CLK_MARGIN.DONE 0 0).fset CLK_STATUS.MARGIN 0 1

/-- A margin test has begun, and its voltage is left, held at the fuses' minimum, or set (03 R82). -/
def State.marginVolts (s : State) : State :=
  let mhz := 2000 - 25 * s.fget CLK_MARGIN.FSTEP
  let mv := s.fget CLK_MARGIN.MV
  let s := s.marginBegun mhz
  if mv = 0 then s else if mv < Config.minMv 0 mhz then s.fset CLK_AVS.HELD 0 1 else s.avsSet 0 mv

/-- The state in which the start of a margin test leaves the device. -/
def State.marginRuns (s : State) : State := s.marginVolts.xmode

/-- Where a margin test may start: none runs, and the lifecycle is MANUFACTURE or DEVELOP. -/
theorem State.marginStart_eq {s : State} (hm : s.fget CLK_STATUS.MARGIN = 0) (hl : lifecycle s.nv = 1 ∨ lifecycle s.nv = 2) :
    s.marginStart = s.marginRuns := by
  have hgo : ¬ (s.fone CLK_STATUS.MARGIN = true ∨ lifecycle s.nv ≠ 1 ∧ lifecycle s.nv ≠ 2) := by
    rcases hl with hl | hl <;> simp [State.fone, hm, hl]
  exact if_neg hgo

theorem State.marginBegun_regs (s : State) (mhz : Nat) :
    RegsSame [CLK_MARGIN.GO, CLK_MARGIN.DONE, CLK_STATUS.MARGIN] s (s.marginBegun mhz) :=
  ((RegsSame.refl.fset (t := { s with boot := _ }) _ _ (by decide)).fset _ _ (by decide)).fset _ _ (by decide)

section
variable {s : State}

theorem State.marginVolts_none (h : s.fget CLK_MARGIN.MV = 0) :
    s.marginVolts = s.marginBegun (2000 - 25 * s.fget CLK_MARGIN.FSTEP) := if_pos h

theorem State.marginVolts_held (h : 0 < s.fget CLK_MARGIN.MV)
    (hm : s.fget CLK_MARGIN.MV < Config.minMv 0 (2000 - 25 * s.fget CLK_MARGIN.FSTEP)) :
    s.marginVolts = (s.marginBegun (2000 - 25 * s.fget CLK_MARGIN.FSTEP)).fset CLK_AVS.HELD 0 1 :=
  (if_neg h.ne').trans (if_pos hm)

theorem State.marginVolts_set (h : 0 < s.fget CLK_MARGIN.MV)
    (hm : Config.minMv 0 (2000 - 25 * s.fget CLK_MARGIN.FSTEP) ≤ s.fget CLK_MARGIN.MV) :
    s.marginVolts = (s.marginBegun (2000 - 25 * s.fget CLK_MARGIN.FSTEP)).avsSet 0 (s.fget CLK_MARGIN.MV) :=
  (if_neg h.ne').trans (if_neg (Nat.not_lt.mpr hm))

end

/-- The three ways of a margin test's voltage. -/
theorem State.marginVolts_cases (s : State) {P : State → Prop} (h0 : P (s.marginBegun (2000 - 25 * s.fget CLK_MARGIN.FSTEP)))
    (h1 : P ((s.marginBegun (2000 - 25 * s.fget CLK_MARGIN.FSTEP)).fset CLK_AVS.HELD 0 1))
    (h2 : ∀ mv, P ((s.marginBegun (2000 - 25 * s.fget CLK_MARGIN.FSTEP)).avsSet 0 mv)) : P s.marginVolts := by
  unfold State.marginVolts
  dsimp only
  split
  · exact h0
  · split
    · exact h1
    · exact h2 _

theorem State.marginVolts_eq (s : State) : s.marginVolts = { s with
    out := s.marginVolts.out, regs := s.marginVolts.regs
    boot := { s.boot with cclkMhz := 2000 - 25 * s.fget CLK_MARGIN.FSTEP, savedMv := s.fget CLK_AVS.CORE_MV } } :=
  s.marginVolts_cases (P := fun t => t = { s with
    out := t.out, regs := t.regs
    boot := { s.boot with cclkMhz := 2000 - 25 * s.fget CLK_MARGIN.FSTEP, savedMv := s.fget CLK_AVS.CORE_MV } }) rfl rfl fun _ => rfl

/-- The voltage alone follows the start of a test. -/
theorem State.marginVolts_regs (s : State) :
    RegsSame [CLK_AVS.HELD, CLK_AVS.CORE_MV] (s.marginBegun (2000 - 25 * s.fget CLK_MARGIN.FSTEP)) s.marginVolts :=
  s.marginVolts_cases RegsSame.refl (RegsSame.refl.fset _ _ (by decide)) fun _ =>
    RegsSame.refl.fset (t := State.emit _ _) _ _ (by decide)

theorem State.marginRuns_eq (s : State) :
    s.marginRuns = { s with out := s.marginRuns.out, regs := s.marginRuns.regs, boot := s.marginRuns.boot } := by
  unfold State.marginRuns
  rw [State.xmode_eq, State.marginVolts_eq]

theorem State.marginRuns_boot (s : State) : s.marginRuns.boot =
    { s.boot with cclkMhz := 2000 - 25 * s.fget CLK_MARGIN.FSTEP, savedMv := s.fget CLK_AVS.CORE_MV } := by
  unfold State.marginRuns
  rw [State.xmode_eq, State.marginVolts_eq]

theorem State.marginRuns_out (s : State) : s.marginRuns.out = s.marginVolts.out := (congrArg State.out s.marginVolts.xmode_eq :)

theorem State.marginRuns_regs (s : State) : RegsSame [CLK_AVS.CORE_MV, CLK_AVS.HELD, CLK_MARGIN.GO, CLK_MARGIN.DONE, CLK_STATUS.MARGIN,
    CLK_STATUS.FORCE_ELASTIC, CLK_XMODE.ELASTIC] s s.marginRuns :=
  (((s.marginBegun_regs _).mono (by decide)).trans (s.marginVolts_regs.mono (by decide))).trans
    (s.marginVolts.xmode_regs.mono (by decide))

/-- A field that the crossing modes do not write reads as the voltage has left it. -/
theorem State.marginRuns_fget (s : State) {f : Fld} (i : Nat) (hf : f.id < 1024)
    (hx : f.id ∉ [CLK_XMODE.ELASTIC, CLK_STATUS.FORCE_ELASTIC].map (·.id)) : s.marginRuns.fget f i = s.marginVolts.fget f i :=
  s.marginVolts.xmode_regs f i hf hx

/-- A field that neither voltage nor crossing modes write reads as the start of the test has set it. -/
theorem State.marginRuns_fget_begun (s : State) {f : Fld} (i : Nat) (hf : f.id < 1024)
    (hx : f.id ∉ [CLK_XMODE.ELASTIC, CLK_STATUS.FORCE_ELASTIC].map (·.id)) (hv : f.id ∉ [CLK_AVS.HELD, CLK_AVS.CORE_MV].map (·.id)) :
    s.marginRuns.fget f i = (s.marginBegun (2000 - 25 * s.fget CLK_MARGIN.FSTEP)).fget f i :=
  (s.marginRuns_fget i hf hx).trans (s.marginVolts_regs f i hf hv)

theorem State.marginBegun_go (s : State) (mhz : Nat) : (s.marginBegun mhz).fget CLK_MARGIN.GO = 1 := by
  unfold State.marginBegun
  simp (disch := decide) only [State.fget_fset_ne, State.fget_fset_self]
  rfl

theorem State.marginBegun_done (s : State) (mhz : Nat) : (s.marginBegun mhz).fget CLK_MARGIN.DONE = 0 := by
  unfold State.marginBegun
  simp (disch := decide) only [State.fget_fset_ne, State.fget_fset_self]
  rfl

theorem State.marginBegun_margin (s : State) (mhz : Nat) : (s.marginBegun mhz).fget CLK_STATUS.MARGIN = 1 :=
  State.fget_fset_self ..

theorem State.marginBegun_coreMv (s : State) (mhz : Nat) : (s.marginBegun mhz).fget CLK_AVS.CORE_MV = s.fget CLK_AVS.CORE_MV :=
  s.marginBegun_regs mhz _ _ (by decide) (by decide)

theorem exec_marginGo {s : State} (ha : s.admits .bench = true) (hm : s.fget CLK_STATUS.MARGIN = 0)
    (hl : lifecycle s.nv = 1 ∨ lifecycle s.nv = 2) : exec (.marginGo .bench) s = .next s.clearOut.marginRuns :=
  volatile_ends ((access_admits _ .bench _ s ha).trans (State.marginStart_eq (s := s.clearOut) hm hl))
    (congrArg State.nv (State.marginRuns_eq _) :) (congrArg State.pending (State.marginRuns_eq _) :)

/-- Of the Bench in another lifecycle a margin test does not start. -/
theorem exec_marginGo_refused {s : State} (ha : s.admits .bench = true) (h1 : lifecycle s.nv ≠ 1) (h2 : lifecycle s.nv ≠ 2) :
    exec (.marginGo .bench) s = .next s.clearOut :=
  have hs : s.clearOut.marginStart = s.clearOut := if_pos (Or.inr ⟨h1, h2⟩)
  volatile_ends ((access_admits _ .bench _ s ha).trans hs) rfl rfl

/-- The core's voltage before a margin test, on AVSBus where the test has changed it (03 R82). -/
def State.voltsBack (s : State) : State := if s.fget CLK_AVS.CORE_MV = s.boot.savedMv then s else s.avsSet 0 s.boot.savedMv

theorem State.voltsBack_eq (s : State) : s.voltsBack = { s with out := s.voltsBack.out, regs := s.voltsBack.regs } := by
  unfold State.voltsBack
  split <;> rfl

theorem State.voltsBack_regs (s : State) : RegsSame [CLK_AVS.CORE_MV] s s.voltsBack := by
  unfold State.voltsBack
  split
  · exact RegsSame.refl
  · exact RegsSame.refl.fset (t := s.emit _) _ _ (by decide)

theorem State.voltsBack_coreMv {s : State} (h : s.boot.savedMv < 4096) : s.voltsBack.fget CLK_AVS.CORE_MV = s.boot.savedMv := by
  unfold State.voltsBack
  split
  · assumption
  · exact (State.fget_fset_self ..).trans (Nat.mod_eq_of_lt h)

/-- Nominal is restored before the crossings' modes are (03 R80, R82). -/
def State.marginBack (s : State) : State :=
  let s := { s.voltsBack with boot := { s.voltsBack.boot with cclkMhz := 2000 } }
  ((s.fset CLK_AVS.HELD 0 0).fset CLK_MARGIN.GO 0 0).fset CLK_STATUS.MARGIN 0 0

/-- The state in which the end of a margin test leaves the device. -/
def State.marginOver (s : State) : State := s.marginBack.xmode.fset CLK_MARGIN.DONE 0 1

theorem marginEnd_eq {s : State} (hm : s.fget CLK_STATUS.MARGIN = 1) : marginEnd s = s.marginOver := by
  have hf : s.fone CLK_STATUS.MARGIN = true := by simp [State.fone, hm]
  unfold marginEnd State.marginStop
  rw [if_pos hf, if_neg (by simp [hf])]
  rfl

theorem State.marginBack_eq (s : State) : s.marginBack = { s with
    out := s.marginBack.out, regs := s.marginBack.regs, boot := { s.boot with cclkMhz := 2000 } } := by
  unfold State.marginBack
  dsimp only
  rw [State.voltsBack_eq]
  rfl

theorem State.marginBack_regs (s : State) :
    RegsSame [CLK_AVS.CORE_MV, CLK_AVS.HELD, CLK_MARGIN.GO, CLK_STATUS.MARGIN] s s.marginBack :=
  (((s.voltsBack_regs.mono (by decide)).fset (t := { s.voltsBack with boot := _ }) _ _ (by decide)).fset _ _ (by decide)).fset _ _
    (by decide)

theorem State.marginBack_fget (s : State) : s.marginBack.fget CLK_STATUS.MARGIN = 0 ∧ s.marginBack.fget CLK_MARGIN.GO = 0 ∧
    s.marginBack.fget CLK_AVS.HELD = 0 ∧ (s.boot.savedMv < 4096 → s.marginBack.fget CLK_AVS.CORE_MV = s.boot.savedMv) := by
  unfold State.marginBack
  refine ⟨State.fget_fset_self .., ?_, ?_, fun h => ?_⟩
  · rw [State.fget_fset_ne _ _ _ _ (by decide) (by decide) (by decide), State.fget_fset_self]
    rfl
  · rw [State.fget_fset_ne _ _ _ _ (by decide) (by decide) (by decide), State.fget_fset_ne _ _ _ _ (by decide) (by decide) (by decide),
      State.fget_fset_self]
    rfl
  · rw [State.fget_fset_ne _ _ _ _ (by decide) (by decide) (by decide), State.fget_fset_ne _ _ _ _ (by decide) (by decide) (by decide),
      State.fget_fset_ne _ _ _ _ (by decide) (by decide) (by decide)]
    exact State.voltsBack_coreMv h

theorem State.marginOver_eq (s : State) :
    s.marginOver = { s with out := s.marginOver.out, regs := s.marginOver.regs, boot := s.marginOver.boot } := by
  unfold State.marginOver
  rw [State.xmode_eq, State.marginBack_eq]
  rfl

theorem State.marginOver_boot (s : State) : s.marginOver.boot = { s.boot with cclkMhz := 2000 } := by
  unfold State.marginOver
  rw [State.xmode_eq, State.marginBack_eq]
  rfl

theorem State.marginOver_regs (s : State) : RegsSame [CLK_AVS.CORE_MV, CLK_AVS.HELD, CLK_MARGIN.GO, CLK_MARGIN.DONE, CLK_STATUS.MARGIN,
    CLK_STATUS.FORCE_ELASTIC, CLK_XMODE.ELASTIC] s s.marginOver :=
  ((s.marginBack_regs.mono (by decide)).trans (s.marginBack.xmode_regs.mono (by decide))).fset _ _ (by decide)

/-- A field that neither DONE nor the crossing modes write reads as it was restored. -/
theorem State.marginOver_fget (s : State) {f : Fld} (i : Nat) (hf : f.id < 1024)
    (hx : f.id ∉ [CLK_XMODE.ELASTIC, CLK_STATUS.FORCE_ELASTIC].map (·.id)) (hd : f.id ≠ CLK_MARGIN.DONE.id) :
    s.marginOver.fget f i = s.marginBack.fget f i :=
  (State.fget_fset_ne _ _ _ _ hf (by decide) hd).trans (s.marginBack.xmode_regs f i hf hx)

/-! ## Junction temperature (19 R453, R454) -/

theorem State.tjRead_eq (s : State) (n d : Nat) : s.tjRead n d = { s with regs := (s.tjRead n d).regs } := by
  unfold State.tjRead
  dsimp only
  rw [State.fpeak_eq]
  rfl

/-- The high-water field alone may rise. -/
theorem RegsSame.fpeak {l : List Fld} {s t : State} (h : RegsSame l s t) {g : Fld} (j v : Nat) (hg : g.id < 1024 ∧ g.id ∈ l.map (·.id)) :
    RegsSame l s (t.fpeak g j v) := by
  unfold State.fpeak
  split
  · exact h.fset j v hg
  · exact h

theorem State.tjRead_regs (s : State) (n d : Nat) : RegsSame [GLB_TJ.NOW, GLB_TJ.SENSOR, GLB_TJ.PEAK] s (s.tjRead n d) :=
  ((RegsSame.refl.fset _ _ (by decide)).fset _ _ (by decide)).fpeak _ _ (by decide)

theorem State.tjRead_fget (s : State) (n d : Nat) (hn : n < 9) :
    (s.tjRead n d).fget GLB_TJ.NOW = min 255 d ∧ (s.tjRead n d).fget GLB_TJ.SENSOR = n := by
  have hpeak (t : State) (v : Nat) : RegsSame [GLB_TJ.PEAK] t (t.fpeak GLB_TJ.PEAK 0 v) :=
    RegsSame.refl.fpeak _ _ (by decide)
  unfold State.tjRead
  constructor
  · rw [hpeak _ _ _ _ (by decide) (by decide), State.fget_fset_ne _ _ _ _ (by decide) (by decide) (by decide), State.fget_fset_self]
    exact Nat.mod_eq_of_lt (show _ < 256 by omega)
  · rw [hpeak _ _ _ _ (by decide) (by decide), State.fget_fset_self]
    exact Nat.mod_eq_of_lt (show _ < 2 ^ GLB_TJ.SENSOR.width by simp only [GLB_TJ.SENSOR]; omega)

/-- A reading taken, with WARN set: what a warning and a thermal trip share. -/
def State.tjHot (s : State) (n d : Nat) : State := (s.tjRead n d).fset GLB_TJ.WARN 0 1

theorem State.tjHot_eq (s : State) (n d : Nat) : s.tjHot n d = { s with regs := (s.tjHot n d).regs } := by
  unfold State.tjHot
  rw [State.tjRead_eq]
  rfl

theorem State.tjHot_regs (s : State) (n d : Nat) : RegsSame [GLB_TJ.NOW, GLB_TJ.PEAK, GLB_TJ.SENSOR, GLB_TJ.WARN] s (s.tjHot n d) :=
  ((s.tjRead_regs n d).mono (by decide)).fset _ _ (by decide)

theorem State.tjHot_fget (s : State) (n d : Nat) (hn : n < 9) : (s.tjHot n d).fget GLB_TJ.NOW = min 255 d ∧
    (s.tjHot n d).fget GLB_TJ.SENSOR = n ∧ (s.tjHot n d).fget GLB_TJ.WARN = 1 := by
  unfold State.tjHot
  rw [State.fget_fset_ne _ _ _ _ (by decide) (by decide) (by decide), State.fget_fset_ne _ _ _ _ (by decide) (by decide) (by decide)]
  exact ⟨(s.tjRead_fget n d hn).1, (s.tjRead_fget n d hn).2, State.fget_fset_self ..⟩

/-- Settles O15: a margin test's start and end, and the readings of 19 R453 and R454, by what each writes. -/
theorem marginAndTemperature : Obligations.MarginAndTemperature := by
  unfold Obligations.MarginAndTemperature
  refine ⟨fun s ha hm hl => ?start, fun s ha h1 h2 => exec_marginGo_refused ha h1 h2, fun s hm => ?stop, fun n d s hd hs => ?warn,
    fun s => ?clear, fun n d s hd hs => ?trip, fun n d s hd => volatile_ends (if_pos (Or.inl hd)) rfl rfl,
    fun n d s hd => volatile_ends (if_pos (Or.inl hd)) rfl rfl⟩
  case start =>
    have hgo := (s.clearOut.marginRuns_fget_begun 0 (by decide) (by decide) (by decide)).trans (s.clearOut.marginBegun_go _)
    have hdone := (s.clearOut.marginRuns_fget_begun 0 (by decide) (by decide) (by decide)).trans (s.clearOut.marginBegun_done _)
    have hrun := (s.clearOut.marginRuns_fget_begun 0 (by decide) (by decide) (by decide)).trans (s.clearOut.marginBegun_margin _)
    have hmv := s.clearOut.marginRuns_fget (f := CLK_AVS.CORE_MV) 0 (by decide) (by decide)
    have hheld := s.clearOut.marginRuns_fget (f := CLK_AVS.HELD) 0 (by decide) (by decide)
    refine ⟨_, exec_marginGo ha hm hl, s.clearOut.marginRuns_boot, hrun, hgo, hdone, State.elastic_of_margin hrun,
      fun h0 => ?none, fun h0 h1 => ?held, fun h0 h1 => ?set, s.clearOut.marginRuns_eq, s.clearOut.marginRuns_regs⟩
    case none =>
      rw [State.marginRuns_out, hmv, State.marginVolts_none (s := s.clearOut) h0]
      exact ⟨rfl, s.clearOut.marginBegun_coreMv _⟩
    case held =>
      rw [State.marginRuns_out, hheld, hmv, State.marginVolts_held (s := s.clearOut) h0 h1, State.fget_fset_self,
        State.fget_fset_ne _ _ _ _ (by decide) (by decide) (by decide)]
      exact ⟨rfl, rfl, s.clearOut.marginBegun_coreMv _⟩
    case set =>
      rw [State.marginRuns_out, hmv, State.marginVolts_set (s := s.clearOut) h0 h1]
      exact ⟨rfl, State.fget_fset_self ..⟩
  case stop =>
    obtain ⟨hrun, hgo, hheld, hmv⟩ := s.clearOut.marginBack_fget
    have he : exec .marginEnd s = .next s.clearOut.marginOver := volatile_ends (marginEnd_eq (s := s.clearOut) hm)
      (congrArg State.nv s.clearOut.marginOver_eq :) (congrArg State.pending s.clearOut.marginOver_eq :)
    exact ⟨_, he, s.clearOut.marginOver_boot,
      (s.clearOut.marginOver_fget 0 (by decide) (by decide) (by decide)).trans hrun,
      (s.clearOut.marginOver_fget 0 (by decide) (by decide) (by decide)).trans hgo, State.fget_fset_self ..,
      (s.clearOut.marginOver_fget 0 (by decide) (by decide) (by decide)).trans hheld,
      fun h => (s.clearOut.marginOver_fget 0 (by decide) (by decide) (by decide)).trans (hmv h),
      s.clearOut.marginOver_eq, s.clearOut.marginOver_regs⟩
  case warn =>
    have he : tjWarn n d s.clearOut = (s.clearOut.tjHot n.val d).report setGLB 1 { unit := n.val, syn := d } := if_neg (by
      have hs' : s.clearOut.sensorOn n.val = true := hs
      simp [hs', hd])
    obtain ⟨h1, h2, h3⟩ := s.clearOut.tjHot_fget n.val d n.isLt
    have hx := s.clearOut.tjHot_eq n.val d
    obtain ⟨t, ht, hg, hf, hfr, hr⟩ := volatile_reports he (by rw [hx]) (s.clearOut.tjHot_regs n.val d) (by decide)
    refine ⟨t, ht, (hg _ _ (by decide) (by decide)).trans h1, (hg _ _ (by decide) (by decide)).trans h2,
      (hg _ _ (by decide) (by decide)).trans h3, hf, ?_, hr⟩
    rw [hx] at hfr
    exact hfr
  case clear =>
    generalize hv : (s.freeVal 8).toNat % 95 = v
    have hlt : v < 95 := hv ▸ Nat.mod_lt _ (by decide)
    have hr : RegsSame [GLB_TJ.NOW, GLB_TJ.WARN] s ((s.clearOut.fset GLB_TJ.NOW 0 v).fset GLB_TJ.WARN 0 0) :=
      (RegsSame.clearOut.fset _ _ (by decide)).fset _ _ (by decide)
    have he : tjWarnClear s.clearOut = { (s.clearOut.fset GLB_TJ.NOW 0 v).fset GLB_TJ.WARN 0 0 with
        free := s.free + 1, flt := { s.flt with quiet := smSet s.flt.quiet (setGLB * 16) s.wclk } } := hv ▸ rfl
    have hwarn : ((s.clearOut.fset GLB_TJ.NOW 0 v).fset GLB_TJ.WARN 0 0).fget GLB_TJ.WARN = 0 := State.fget_fset_self ..
    have hnow : ((s.clearOut.fset GLB_TJ.NOW 0 v).fset GLB_TJ.WARN 0 0).fget GLB_TJ.NOW = v % 256 := by
      rw [State.fget_fset_ne _ _ _ _ (by decide) (by decide) (by decide), State.fget_fset_self]
      rfl
    exact ⟨_, volatile_ends he rfl rfl, hwarn, lt_of_eq_of_lt hnow (by omega), rfl, hr⟩
  case trip =>
    have he : thermtrip n d s.clearOut = ({ s.clearOut.tjHot n.val d with
        thermtrip := (s.clearOut.tjHot n.val d).thermtrip || smGet (s.clearOut.tjHot n.val d).cut.balls 2 1 == 1 } : State).report setGLB 2
          { unit := n.val, syn := d } := if_neg (by
      have hs' : s.clearOut.sensorOn n.val = true := hs
      simp [hs', hd])
    obtain ⟨h1, -, h3⟩ := s.clearOut.tjHot_fget n.val d n.isLt
    have hx := s.clearOut.tjHot_eq n.val d
    have hr := s.clearOut.tjHot_regs n.val d
    generalize s.clearOut.tjHot n.val d = y at he h1 h3 hx hr
    rw [hx] at he 
    obtain ⟨t, ht, hg, hf, hfr, hr⟩ := volatile_reports he rfl hr (by decide)
    have hpin : t.thermtrip = (s.thermtrip || smGet s.cut.balls 2 1 == 1) := congrArg State.thermtrip hfr
    refine ⟨t, ht, (hg _ _ (by decide) (by decide)).trans h1, (hg _ _ (by decide) (by decide)).trans h3, hf, hpin, ?_, hr⟩
    rw [hpin]
    exact hfr

end Sys2Proof.Machine
end

section
/-! PROOF. `PERSTn_N` of a head: what a report and a drawer's reset leave of the heads' pins, and the head's function at reset. -/

namespace Sys2Proof.Machine

open Sys2Proof

/-! ## A head's pins under a report -/

/-- `PERSTn_N` of a head, and whether it has been deasserted with the link not trained since. -/
def State.pins (s : State) (h : Nat) : Bool × Bool := ((s.head h).perst, (s.head h).waking)

theorem State.heads_pins {s t : State} (e : t.heads = s.heads) (h : Nat) : t.pins h = s.pins h := by
  unfold State.pins State.head
  rw [e]

/-- A head's change that leaves the pins alone leaves those of every head alone. -/
theorem State.modHead_pins (s : State) (k : Nat) (f : HeadSt → HeadSt) (h : Nat)
    (hf : ∀ x, (f x).perst = x.perst ∧ (f x).waking = x.waking := by exact fun _ => ⟨rfl, rfl⟩) : (s.modHead k f).pins h = s.pins h := by
  unfold State.pins
  by_cases hk : h = k
  · subst hk
    rw [State.modHead_head_self, (hf _).1, (hf _).2]
  · rw [State.modHead_head_ne _ _ hk]

theorem State.signalHead_pins (s : State) (v k h : Nat) : (s.signalHead v k).pins h = s.pins h := by
  unfold State.signalHead
  dsimp only
  split
  · rfl
  · split
    · exact State.modHead_pins ..
    · exact State.modHead_pins (State.emit _ _) _ _ _

theorem State.logEvent_pins (s : State) (k l : Nat) (e : EvRec) (h : Nat) : (s.logEvent k l e).pins h = s.pins h := by
  unfold State.logEvent
  dsimp only
  split
  · split
    · exact (State.signalHead_pins ..).trans (State.modHead_pins ..)
    · exact State.modHead_pins ..
  · exact State.modHead_pins ..

/-- The state without what a fault set's registers and quiet timers hold. -/
def State.offSet (s : State) : State := { s with regs := [], flt := {} }

theorem State.fset_offSet (s : State) (f : Fld) (i v : Nat) : (s.fset f i v).offSet = s.offSet := rfl

/-- The first part of a report: captured, counted, its class entered. -/
def State.reportSet (s : State) (set code level : Nat) (esc : Bool) (c : Capture) : State :=
  ((s.captureFirst set code level esc c).countReport set).enterClass set code level

/-- Capture, count and class write the fault set alone. -/
theorem State.reportSet_off (s : State) (set code level : Nat) (esc : Bool) (c : Capture) :
    (s.reportSet set code level esc c).offSet = s.offSet := by
  have hcap : (s.captureFirst set code level esc c).offSet = s.offSet := by
    unfold State.captureFirst
    split
    · rfl
    · simp only [State.fbit, State.fset_offSet]
  have hcount (t : State) : (t.countReport set).offSet = t.offSet := by
    unfold State.countReport
    dsimp only [State.finc, State.fadd, State.fbit]
    split <;> simp only [State.fset_offSet]
  have henter (t : State) : (t.enterClass set code level).offSet = t.offSet := by
    have e (u : State) (x : Faults) : ({ u with flt := x } : State).offSet = u.offSet := rfl
    unfold State.enterClass
    dsimp only [State.fputBit]
    rw [e]
    simp only [State.fset_offSet]
  exact (henter _).trans ((hcount _).trans hcap)

/-- What the fault set's fields, its quiet timers, signalled causes and event records keep, a report's effect on its set keeps. -/
theorem State.reportRegs_keeps (P : State → Prop) (hset : ∀ s t : State, t.offSet = s.offSet → P s → P t)
    (hsig : ∀ s v h, P s → P (s.signalHead v h)) (hlog : ∀ s h l e, P s → P (s.logEvent h l e)) {s : State} (set code level : Nat)
    (esc : Bool) (c : Capture) (hs : P s) : P (s.reportRegs set code level esc c) := by
  have hev (t : State) (ht : P t) : P (t.eventOf set code level c.unit c.dpa) := by
    have k (l : List Nat) (n : Nat) (e : EvRec) : P (t.each l fun h s => s.logEvent h n e) :=
      State.each_keeps P _ _ (fun h s => hlog s h n e) ht
    unfold State.eventOf
    dsimp only
    split
    · exact k ..
    · split
      · exact k ..
      · split
        · exact k ..
        · split
          · exact ht
          · exact k ..
  have h1 := hset _ _ (s.reportSet_off set code level esc c) hs
  unfold State.reportSet at h1
  unfold State.reportRegs
  refine hev _ ?_
  split
  · split
    · exact State.each_keeps P _ _ (fun k s => hsig s 2 k) h1
    · exact State.each_keeps P _ _ (fun k s => hsig s _ k) h1
  · exact h1

/-- What a report's effect on its set, its record and the device-fatal state keep, a report keeps. -/
theorem State.report_keeps (P : State → Prop) (hregs : ∀ s set code level esc c, P s → P (s.reportRegs set code level esc c))
    (hwit : ∀ s set r, P s → P (s.witReport set r).1) (hfatal : ∀ s, P s → P s.goFatal) {s : State} (set code : Nat) (c : Capture)
    (base : Nat) (hs : P s) : P (s.report set code c base) := by
  unfold State.report
  dsimp only
  generalize nextLevel _ _ _ = l
  have h1 := hregs _ set code l.1 l.2 c hs
  generalize s.reportRegs set code l.1 l.2 c = t at h1 ⊢
  generalize hu : t.witReport set _ = u
  have h2 : P u.1 := hu ▸ hwit _ _ _ h1
  have h3 : P (if u.2 = true then u.1 else
      u.1.reportRegs setWIT 5 (nextLevel (u.1.classSt setWIT 5) 1 false).1 (nextLevel (u.1.classSt setWIT 5) 1 false).2 {}) := by
    split
    · exact h2
    · exact hregs _ _ _ _ _ _ h2
  split
  · exact hfatal _ h3
  · exact h3

/-- What a staged record and a lost one keep, the Witness engine's taking of a report keeps. -/
theorem State.witReport_keeps (P : State → Prop) (hwin : ∀ s x, P s → P { s with wit := { s.wit with windows := x } })
    (hstage : ∀ s r l, P s → P (s.witStage r l)) (hlost : ∀ s set, P s → P (s.witLost set)) {s : State} (set : Nat) (r : WitRec)
    (hs : P s) : P (s.witReport set r).1 := by
  have hwrite (t : State) (ht : P t) : P (t.witWrite r).1 := by
    unfold State.witWrite
    dsimp only
    split
    · exact hstage _ _ _ ht
    · split
      · exact ht
      · split
        · exact hstage _ _ _ ht
        · exact ht
  have k (t : State) (ht : P t) :
      P (match t.witWrite r with
        | (s, true) => (s, true)
        | (s, false) => (s.witLost set, false)).1 := by
    have w := hwrite t ht
    generalize t.witWrite r = p at w ⊢
    obtain ⟨u, _ | _⟩ := p
    · exact hlost _ _ w
    · exact w
  unfold State.witReport
  dsimp only
  split
  · split
    · exact k s hs
    · exact hwin _ _ hs
  · split
    · exact hlost _ _ hs
    · exact k _ (hwin _ _ hs)

/-- The device's becoming fatal changes the start-up state, the Span and the outputs. -/
theorem State.goFatal_keeps (P : State → Prop) (hboot : ∀ s x, P s → P { s with boot := x }) (hspn : ∀ s x, P s → P { s with spn := x })
    (hout : ∀ s o, P s → P (s.emit o)) {s : State} (hs : P s) : P s.goFatal := by
  have hflood (t : State) (ht : P t) : P t.floodSelf := by
    unfold State.floodSelf
    dsimp only
    split
    · exact hspn _ _ ht
    · exact State.each_keeps P _ _ (fun p s h => hspn _ _ h) (hout _ _ (hspn _ _ ht))
  unfold State.goFatal
  dsimp only
  split
  · exact hs
  · exact hflood _ (hspn _ _ (State.each_keeps P _ _ (fun h s => hout s _) (hboot _ _ hs)))

/-- A report leaves the heads' pins alone. -/
theorem State.report_pins (s : State) (set code : Nat) (c : Capture) (base h : Nat) :
    (s.report set code c base).pins h = s.pins h := by
  refine State.report_keeps (fun t => t.pins h = s.pins h) (fun t set code level esc c e => ?set) (fun t set r e => ?wit)
    (fun t e => ?fatal)
    set code c base rfl
  case set =>
    exact State.reportRegs_keeps (fun t => t.pins h = s.pins h)
      (fun t u ho e => (State.heads_pins (congrArg State.heads ho :) h).trans e) (fun t v k e => (t.signalHead_pins v k h).trans e)
      (fun t k l r e => (t.logEvent_pins k l r h).trans e) set code level esc c e
  case wit =>
    exact State.witReport_keeps (fun t => t.pins h = s.pins h) (fun _ _ e => e) (fun _ _ _ e => e) (fun _ _ e => e) set r e
  case fatal =>
    exact State.goFatal_keeps (fun t => t.pins h = s.pins h) (fun _ _ e => e) (fun _ _ e => e) (fun _ _ e => e) e

/-! ## What a drawer's reset keeps (12 R312-R316) -/

/-- What every member of a list of updates keeps of a state that the list has reached, the list keeps. -/
theorem State.each_keeps_mem {α : Type} (P : State → Prop) (l : List α) (f : α → State → State) (h : ∀ a ∈ l, ∀ s, P s → P (f a s))
    {s : State} (hs : P s) : P (s.each l f) := by
  induction l generalizing s with
  | nil => exact hs
  | cons a l ih => exact ih (fun b hb => h b (List.mem_cons_of_mem a hb)) (h a List.mem_cons_self s hs)

/-- Fields of a ring that a drawer's reset returns to their reset values (12 R312). -/
def ringResetFlds : List Fld :=
  [DRW_SQBASE.ADDR, DRW_CQBASE.ADDR, DRW_STAGE.ADDR, DRW_RCFG.EN, DRW_RCFG.STOP, DRW_RCFG.EIE, DRW_RCFG.EIRQ, DRW_RCFG.LOG2,
    DRW_RSTATE.RESUME]

/-- Fields that a drawer's reset writes. -/
def drwResetFlds : List Fld :=
  ringResetFlds ++ [DRW_VEC.COUNT, DRW_VEC.BASE, DRW_STATE.GEN, DRW_RESET.GO, DRW_RESET.DONE, DRW_RESET.RESULT, DRW_BIND.EN, DRW_BIND.HEAD]

section
variable (P : State → Prop) (hset : ∀ s, ∀ f ∈ drwResetFlds, ∀ i v, P s → P (s.fset f i v)) (hdrw : ∀ s x, P s → P { s with drw := x })
include hset hdrw

theorem State.clearDrawer_keeps {s : State} (d : Nat) (hs : P s) : P (s.clearDrawer d) := by
  have hring (r : Nat) (s : State) (hs : P s) : P (s.each ringResetFlds fun f s => s.fset f (4 * d + r) (fldReset f (4 * d + r))) :=
    State.each_keeps_mem P _ _ (fun f hf s => hset s f (List.mem_append_left _ hf) _ _) hs
  unfold State.clearDrawer
  exact State.each_keeps P _ _ hring (hset _ _ (by decide) _ _ (hset _ _ (by decide) _ _ (hdrw _ _ hs)))

omit hdrw in
theorem State.unbindDrawer_keeps {s : State} (d : Nat) (hs : P s) : P (s.unbindDrawer d) := by
  unfold State.unbindDrawer
  split
  · exact hset _ _ (by decide) _ _ hs
  · split
    · exact hset _ _ (by decide) _ _ (hset _ _ (by decide) _ _ hs)
    · exact hset _ _ (by decide) _ _ hs

theorem State.advanceGen_keeps {s : State} (d result : Nat) (hs : P s) : P (s.advanceGen d result) := by
  have hdrop (e : Nat × Op) (s : State) (hs : P s) : P (if e.2.tags.isEmpty && e.2.outst == 0 then s.dropOp e.1 else s) := by
    split
    · exact hdrw _ _ hs
    · exact hs
  have hdone (s : State) (hs : P s) :
      P (if s.fone DRW_RESET.GO d then ((s.fset DRW_RESET.GO d 0).fset DRW_RESET.DONE d 1).fset DRW_RESET.RESULT d result else s) := by
    split
    · exact hset _ _ (by decide) _ _ (hset _ _ (by decide) _ _ (hset _ _ (by decide) _ _ hs))
    · exact hs
  have hbind (s : State) (hs : P s) : P (if (s.drawer d).unbindAfter then s.unbindDrawer d else s) := by
    split
    · exact State.unbindDrawer_keeps P hset d hs
    · exact hs
  unfold State.advanceGen
  exact hdrw _ _ (hbind _ (hdone _ (State.clearDrawer_keeps P hset hdrw d
    (State.each_keeps P _ _ hdrop (hset _ _ (by decide) _ _ hs)))))

/-- A drawer's reset writes its registers and drawer state, quarantines its operations' tags and reports those that were too old; what
these keep, it keeps. -/
theorem State.resetDrawer_keeps (htag : ∀ s h t w, P s → P (s.quarantine h t w)) (hrep : ∀ s code c, P s → P (s.report setDRW code c))
    {s : State} (d : Nat) (unbind : Bool) (hs : P s) : P (s.resetDrawer d unbind) := by
  have hsquash (e : Nat × Op) (s : State) (hs : P s) : P (s.squashOp e.1 e.2) :=
    hdrw _ _ (hdrw _ _ (State.each_keeps P _ _ (fun t s => htag s _ t _) hs))
  have hgen (s : State) (hs : P s) : P (s.resetGen d) := by
    have hold := State.each_keeps P (s.tooOld d ((s.fget DRW_STATE.GEN d + 1) % 65536)) _ hsquash hs
    unfold State.resetGen
    refine State.advanceGen_keeps P hset hdrw d 0 ?_
    split
    · exact hold
    · exact hrep _ _ _ hold
  have hun := hdrw _ (s.modDrawer d fun x => { x with unbindAfter := x.unbindAfter || unbind }).drw hs
  unfold State.resetDrawer
  dsimp only
  split
  · exact hun
  · split
    · exact hdrw _ _ hun
    · exact hgen _ hun

/-- The reset of a head's drawers keeps what each reset keeps, and a head's list of drawers that drain. -/
theorem State.resetBound_keeps (htag : ∀ s h t w, P s → P (s.quarantine h t w)) (hrep : ∀ s code c, P s → P (s.report setDRW code c))
    (hdrain : ∀ s h l, P s → P (s.modHead h fun x => { x with draining := l })) {s : State} (h : Nat) (unbind : Bool) (hs : P s) :
    P (s.resetBound h unbind) := by
  unfold State.resetBound
  exact hdrain _ _ _ (State.each_keeps P _ _ (fun d s => State.resetDrawer_keeps P hset hdrw htag hrep d unbind) hs)

end

/-! ## `PERSTn_N` asserted and released (03 R71, R78; 14 R345; 20 R466) -/

/-- Keeping the entries whose keys meet a test keeps what those keys hold, and nothing else. -/
theorem smFind?_filter {α : Type} (m : SMap α) (q : Nat → Bool) (k : Nat) :
    smFind? (m.filter fun e => q e.1) k = if q k then smFind? m k else none := by
  induction m with
  | nil => simp [smFind?]
  | cons e m ih =>
    obtain ⟨j, v⟩ := e
    by_cases hk : k = j
    · subst hk
      by_cases hq : q k = true <;> simp [hq, smFind?, ih]
    · by_cases hq : q j = true <;> simp [hq, smFind?, hk, ih]

/-- Source 0 triggers no wake and aborts no entry (14 R349, R357). -/
theorem State.wakeTrigger_none (s : State) (h : Nat) : s.wakeTrigger 0 h = s := by
  have hw (cur : Nat) : wakes cur 0 = false := by
    unfold wakes
    split
    · rfl
    · split <;> rfl
  simp [State.wakeTrigger, hw]

/-- In P0, with no entry and no wake under way, a trigger does nothing (14 R349, R357). -/
theorem State.wakeTrigger_awake {s : State} (hc : s.fget PWR_STATE.CUR = 0) (h1 : s.fget PWR_STATE.PHASE ≠ 1)
    (h3 : s.fget PWR_STATE.PHASE ≠ 3) (src h : Nat) : s.wakeTrigger src h = s := by
  simp [State.wakeTrigger, hc, h1, h3]

/-- A head's decoders are at reset when its function is. -/
theorem State.clearHead_decoder (s : State) (h n : Nat) (hn : n < 32) : (s.clearHead h).decoder (h * 32 + n) = {} := by
  have hk : ((h * 32 + n) / 32 != h) = false := by
    have : (h * 32 + n) / 32 = h := by omega
    simp [this]
  have hd : smFind? (s.clearHead h).dec.decoders (h * 32 + n) = none := by
    refine (smFind?_filter s.dec.decoders (fun k => k / 32 != h) (h * 32 + n)).trans ?_
    rw [hk]
    rfl
  rw [State.decoder, smGet, hd]
  rfl

theorem State.clearHead_vote (s : State) (h : Nat) : (s.clearHead h).fget PWR_CMD.VOTE h = 0 := by
  have hv := ((s.functionRegs h).dropFlds headRegIds (· == h)).fget_fset_self PWR_CMD.VOTE h 0
  exact hv

/-- The state without what a drawer's reset reaches: what a report does, and the drawers. -/
def State.offReset (s : State) : State := { s.offFault with drw := {} }

theorem State.resetBound_off (s : State) (h : Nat) (unbind : Bool) : (s.resetBound h unbind).offReset = s.offReset :=
  State.resetBound_keeps (fun t => t.offReset = s.offReset) (fun _ _ _ _ _ e => e) (fun _ _ e => e) (fun _ _ _ _ e => e)
    (fun t code c e => (congrArg (fun x : State => { x with drw := {} }) (t.report_off setDRW code c 0) :).trans e)
    (fun _ _ _ e => e) h unbind rfl

theorem State.resetBound_pins (s : State) (h : Nat) (unbind : Bool) (k : Nat) : (s.resetBound h unbind).pins k = s.pins k :=
  State.resetBound_keeps (fun t => t.pins k = s.pins k) (fun _ _ _ _ _ e => e) (fun _ _ e => e)
    (fun t _ _ _ e => (t.modHead_pins _ _ k).trans e) (fun t _ _ e => (t.report_pins ..).trans e)
    (fun t _ _ e => (t.modHead_pins _ _ k).trans e) h unbind rfl

theorem State.resetBound_vote (s : State) (h : Nat) (unbind : Bool) (k : Nat) :
    (s.resetBound h unbind).fget PWR_CMD.VOTE k = s.fget PWR_CMD.VOTE k := by
  have hf : ∀ f ∈ drwResetFlds, f.id < 1024 ∧ PWR_CMD.VOTE.id ≠ f.id := by decide
  exact State.resetBound_keeps (fun t => t.fget PWR_CMD.VOTE k = s.fget PWR_CMD.VOTE k)
    (fun t f hm i v e => (t.fget_fset_ne k i v (by decide) (hf f hm).1 (hf f hm).2).trans e) (fun _ _ e => e) (fun _ _ _ _ e => e)
    (fun t _ _ e => (t.report_fget _ _ _ _ _ _ (by decide) (by decide)).trans e) (fun _ _ _ e => e) h unbind rfl

/-- The function of a head in reset, its `PERSTn_N` low: the state before its drawers are reset. -/
def State.perstHeld (s : State) (h : Nat) : State := (s.clearHead h).modHead h fun x => { x with perst := true, waking := false }

theorem perstAssert_linkDown {s : State} {h : Head} (hp : (s.head h).perst = false) (hl : s.linkReady h.val = false) :
    perstAssert h s = (s.perstHeld h.val).resetBound h.val true := by
  unfold perstAssert
  simp only [hp, hl, Bool.false_eq_true, if_false]
  exact State.wakeTrigger_none ..

/-- Settles O17: release and assertion of `PERSTn_N`, with no wake trigger that acts. -/
theorem perst : Obligations.Perst := by
  unfold Obligations.Perst
  refine ⟨fun h s hp hc h1 h3 => ?release, fun h s hp => ?released, fun h s hp hl => ?assert,
    fun h s hp => volatile_ends (if_pos hp) rfl rfl⟩
  case release =>
    have hout : perstDeassert h s.clearOut =
        s.clearOut.modHead h.val fun x => { x with perst := false, waking := true, d3cold := false } := by
      unfold perstDeassert
      have hp' : (s.clearOut.head h).perst = true := hp
      rw [if_neg (by simp [hp'])]
      dsimp only
      split
      · exact State.wakeTrigger_awake (by exact hc) (by exact h1) (by exact h3) _ _
      · rfl
    exact ⟨_, volatile_ends hout rfl rfl, State.modHead_head_self .., fun k hk => State.modHead_head_ne _ _ hk, rfl⟩
  case released =>
    have hp' : (s.clearOut.head h).perst = false := hp
    exact volatile_ends (if_pos (by simp [hp'])) rfl rfl
  case assert =>
    have he := perstAssert_linkDown (s := s.clearOut) hp hl
    have hoff := (s.clearOut.perstHeld h.val).resetBound_off h.val true
    have hpins : ((s.clearOut.perstHeld h.val).resetBound h.val true).pins h.val = (true, false) := by
      rw [State.resetBound_pins]
      unfold State.pins State.perstHeld
      rw [State.modHead_head_self]
    have hvote : ((s.clearOut.perstHeld h.val).resetBound h.val true).fget PWR_CMD.VOTE h = 0 :=
      (State.resetBound_vote ..).trans (s.clearOut.clearHead_vote h)
    refine ⟨_, volatile_ends he (congrArg State.nv hoff :) (congrArg State.pending hoff :),
      congrArg Prod.fst hpins, congrArg Prod.snd hpins,
      hvote, fun n hn => ?_, (congrArg State.nv hoff :), (congrArg State.dram hoff :), (congrArg State.ifc hoff :),
      (congrArg State.inl hoff :), (congrArg State.slc hoff :)⟩
    refine Eq.trans ?_ (s.clearOut.clearHead_decoder h.val n hn)
    exact (congrArg (fun x : State => x.decoder (h.val * 32 + n)) hoff :)

end Sys2Proof.Machine
end

section
/-! PROOF. The fuse controller's states and trips, and the core lost with the gate off: start-up's failures. -/

namespace Sys2Proof.Machine

open Sys2Proof

/-! ## Registers over a reset (20 R466) -/

/-- A field that a reset keeps reads as before; any other reads its reset value. -/
theorem State.keepRegs_fget (s : State) (keep : Nat → Nat → Bool) {f : Fld} (hf : f.id < 1024) (i : Nat) :
    (s.keepRegs keep).fget f i = if keep f.id i then s.fget f i else fldReset f i := by
  have hid : fldKey f i % 1024 = f.id := by unfold fldKey; omega
  have hin : fldKey f i / 1024 = i := by unfold fldKey; omega
  have h := smFind?_filter s.regs (fun k => keep (k % 1024) (k / 1024)) (fldKey f i)
  rw [hid, hin] at h
  unfold State.fget State.keepRegs smGet
  rw [h]
  split <;> rfl

/-- What a cold reset keeps stands when the core is lost. -/
theorem State.coreClear_fget (s : State) {f : Fld} (hf : f.id < 1024 ∧ coldIds.contains f.id = true) (i : Nat) :
    s.coreClear.fget f i = s.fget f i := by
  have h := s.keepRegs_fget (fun id i => coldIds.contains id || unit10Key id i) hf.1 i
  rw [if_pos (by simp only [hf.2, Bool.true_or])] at h
  exact h

/-- The core is lost when the main rails go, and start-up waits for them. -/
theorem State.railsOff_eq {s : State} (h : s.boot.railsLost = false) :
    s.railsOff = { s.coreClear with boot := { s.coreClear.boot with step := 3, railsLost := true } } := by
  unfold State.railsOff
  rw [if_neg (by simp [h])]

/-! ## The states of the fuse controller (15 R369) -/

/-- The fuse controller in a state, with `IFC_PG`, before `MS_POWER` shows the change. -/
def State.ifcShown (s : State) (st : Nat) : State :=
  (s.fset IFC_STATUS.STATE 0 st).fbit IFC_STATUS.PG 0 (st == 2 || st == 3 && s.ifc.fromOn)

/-- A change of state sets `MS_POWER.CHG` and raises vector 33: what these keep, it keeps. -/
theorem State.ifcTo_keeps (P : State → Prop) (hchg : ∀ s m, P s → P (s.fset MS_POWER.CHG m 1)) (hsig : ∀ s h, P s → P (s.signalHead 33 h))
    {s : State} (st : Nat) (hs : P (s.ifcShown st)) : P (s.ifcTo st) := by
  unfold State.ifcTo
  dsimp only
  split
  · exact hs
  · refine State.each_keeps P _ _ (fun m t ht => ?_) hs
    split
    · exact hsig _ _ (hchg _ _ ht)
    · exact hchg _ _ ht

/-- A change of state reaches registers, heads and outputs. -/
theorem State.ifcTo_off (s : State) (st : Nat) : (s.ifcTo st).offCount = s.offCount :=
  State.ifcTo_keeps (fun t => t.offCount = s.offCount) (fun _ _ e => e)
    (fun t h e => (offCount_of_offHeads (t.signalHead_off 33 h)).trans e) st rfl

theorem State.ifcTo_shown (s : State) (st : Nat) : RegsSame [MS_POWER.CHG] (s.ifcShown st) (s.ifcTo st) :=
  State.ifcTo_keeps (RegsSame [MS_POWER.CHG] (s.ifcShown st)) (fun _ _ h => h.fset _ _ (by decide))
    (fun t k h f i hf hp => (t.signalHead_fget 33 k f i).trans (h f i hf hp)) st RegsSame.refl

theorem State.ifcTo_regs (s : State) (st : Nat) :
    RegsSame [IFC_STATUS.STATE, IFC_STATUS.PG, MS_POWER.CHG] s (s.ifcTo st) :=
  RegsSame.trans ((RegsSame.refl.fset _ _ (by decide)).fset _ _ (by decide)) ((s.ifcTo_shown st).mono (by decide))

theorem State.ifcTo_ifcSt (s : State) {st : Nat} (h : st < 8) : (s.ifcTo st).ifcSt = st := by
  have hs : (s.ifcShown st).fget IFC_STATUS.STATE = st := by
    unfold State.ifcShown State.fbit
    rw [State.fget_fset_ne _ _ _ _ (by decide) (by decide) (by decide), State.fget_fset_self]
    exact Nat.mod_eq_of_lt h
  exact (s.ifcTo_shown st _ _ (by decide) (by decide)).trans hs

theorem State.ifcTo_ifcPg (s : State) (st : Nat) : (s.ifcTo st).ifcPg = (st == 2 || st == 3 && s.ifc.fromOn) := by
  have hs : (s.ifcShown st).fget IFC_STATUS.PG = (st == 2 || st == 3 && s.ifc.fromOn).toNat % 2 := State.fget_fset_self ..
  have hp := (s.ifcTo_shown st _ _ (by decide) (by decide)).trans hs
  rw [State.ifcPg, State.fone, hp]
  cases (st == 2 || st == 3 && s.ifc.fromOn) <;> rfl

/-! ## A trip (15 R372, R374) -/

/-- A trip recorded under its cause and reported. -/
def State.ifcNoted (s : State) (code unit : Nat) : State :=
  ((s.fset IFC_STATUS.CAUSE 0 code).finc IFC_TRIPS.TRIPS).report setIFC 1 { s.ifcCapture code with unit := unit }

/-- A trip's gate off: the timers cleared, no turn-off waiting. -/
def State.ifcGateOpen (s : State) : State := (s.fset IFC_STATUS.PHASE 0 0).ifcTimers0.modIfc fun x => { x with offFrom := none }

/-- A trip up to the loss of the core. -/
def State.ifcTripped (s : State) (code unit : Nat) : State := (s.ifcNoted code unit).ifcGateOpen.ifcTo 4

/-- With the FET conducting and no cause of R372 to go before it, a trip is recorded under its own cause. -/
theorem State.ifcTrip_own {s : State} (hon : s.ifcOn = true) (hc : s.ifcCause = none) (code unit : Nat) :
    s.ifcTrip code unit = (s.ifcTripped code unit).railsOff := by
  unfold State.ifcTrip
  rw [if_neg (by simp [hon]), hc]
  rfl

/-- The state without what a report and the fuse controller reach. -/
def State.offIfc (s : State) : State := { s.offFault with ifc := {} }

theorem State.ifcNoted_off (s : State) (code unit : Nat) : (s.ifcNoted code unit).offIfc = s.offIfc := by
  have hrep (t : State) (c : Capture) : (t.report setIFC 1 c).offIfc = t.offIfc :=
    (congrArg (fun x : State => { x with ifc := {} }) (t.report_off setIFC 1 c 0) :)
  exact (hrep _ _).trans rfl

theorem State.ifcTripped_off (s : State) (code unit : Nat) : (s.ifcTripped code unit).offIfc = s.offIfc := by
  have hto (t : State) (st : Nat) : (t.ifcTo st).offIfc = t.offIfc :=
    (congrArg (fun x : State => { x with ifc := {} }) (offFault_of_offCount (t.ifcTo_off st)) :)
  have hopen (t : State) : t.ifcGateOpen.offIfc = t.offIfc := rfl
  exact (hto _ 4).trans ((hopen _).trans (s.ifcNoted_off code unit))

theorem State.ifcNoted_cause (s : State) {code : Nat} (h : code < 8) (unit : Nat) :
    (s.ifcNoted code unit).fget IFC_STATUS.CAUSE = code := by
  unfold State.ifcNoted
  rw [State.report_fget _ _ _ _ _ _ _ (by decide) (by decide), State.finc, State.fadd,
    State.fget_fset_ne _ _ _ _ (by decide) (by decide) (by decide), State.fget_fset_self]
  exact Nat.mod_eq_of_lt (lt_of_lt_of_le h (by decide))

theorem State.ifcTripped_cause (s : State) {code : Nat} (h : code < 8) (unit : Nat) :
    (s.ifcTripped code unit).fget IFC_STATUS.CAUSE = code := by
  have hopen (t : State) : t.ifcGateOpen.fget IFC_STATUS.CAUSE = t.fget IFC_STATUS.CAUSE :=
    t.fget_fset_ne (f := IFC_STATUS.CAUSE) (g := IFC_STATUS.PHASE) 0 0 0 (by decide) (by decide) (by decide)
  exact (State.ifcTo_regs _ _ _ _ (by decide) (by decide)).trans ((hopen _).trans (s.ifcNoted_cause h unit))

/-- A trip with the core up: its cause, state 4 with `IFC_PG` low, and the core lost, with the clock of the Wellhead running on. -/
theorem State.ifcTrip_loses {s : State} (hst : s.ifcSt = 2) (hc : s.ifcCause = none) (hr : s.boot.railsLost = false) {code : Nat}
    (h : code < 8) (unit : Nat) : (s.ifcTrip code unit).fget IFC_STATUS.CAUSE = code ∧ (s.ifcTrip code unit).ifcSt = 4 ∧
      (s.ifcTrip code unit).ifcPg = false ∧ (s.ifcTrip code unit).boot.railsLost = true ∧ (s.ifcTrip code unit).boot.step = 3 ∧
      (s.ifcTrip code unit).dram = [] ∧ (s.ifcTrip code unit).nv = s.nv ∧ (s.ifcTrip code unit).wclk = s.wclk ∧
      (s.ifcTrip code unit).pending = s.pending := by
  have hon : s.ifcOn = true := by simp [State.ifcOn, hst]
  have hoff := s.ifcTripped_off code unit
  have hcause := s.ifcTripped_cause h unit
  have hstate : (s.ifcTripped code unit).ifcSt = 4 := State.ifcTo_ifcSt _ (by decide)
  have hpg : (s.ifcTripped code unit).ifcPg = false := State.ifcTo_ifcPg ..
  rw [State.ifcTrip_own hon hc]
  generalize s.ifcTripped code unit = u at hoff hcause hstate hpg ⊢
  have hlost : u.boot.railsLost = false := (congrArg (fun x : State => x.boot.railsLost) hoff :).trans hr
  have hkept : ∀ f ∈ [IFC_STATUS.CAUSE, IFC_STATUS.STATE, IFC_STATUS.PG], u.coreClear.fget f = u.fget f := fun f hf =>
    u.coreClear_fget ((by decide : ∀ f ∈ [IFC_STATUS.CAUSE, IFC_STATUS.STATE, IFC_STATUS.PG],
      f.id < 1024 ∧ coldIds.contains f.id = true) f hf) 0
  rw [State.railsOff_eq hlost]
  refine ⟨(hkept _ (by simp)).trans hcause, (hkept _ (by simp)).trans hstate, ?_, rfl, rfl, rfl, (congrArg State.nv hoff :),
    (congrArg State.wclk hoff :), (congrArg State.pending hoff :)⟩
  exact (congrArg (· == 1) (hkept IFC_STATUS.PG (by simp))).trans hpg

/-! ## Start-up fails (03 R79) -/

/-- Settles O9: a rail that is not good and a missing `REFCLK0` are trips under their own causes, and a trip loses the core. -/
theorem startUpFailures : Obligations.StartUpFailures := by
  unfold Obligations.StartUpFailures
  refine ⟨fun rail s hs hst hc hr => ?rail, fun s hs hst hc hr => ?refclk⟩
  case rail =>
    obtain ⟨h1, h2, h3, h4, h5, h6, h7, h8, h9⟩ :=
      State.ifcTrip_loses (s := s.clearOut) hst hc hr (code := 6) (by decide) rail.val
    exact ⟨_, volatile_ends (if_pos ⟨hs, hst⟩) h7 h9, h1, h2, h3, h4, h5, h6, h7, h8⟩
  case refclk =>
    obtain ⟨h1, h2, h3, h4, h5, h6, h7, h8, h9⟩ :=
      State.ifcTrip_loses (s := s.clearOut) hst hc hr (code := 7) (by decide) 255
    exact ⟨_, volatile_ends (if_pos ⟨hs, hst⟩) h7 h9, h1, h2, h3, h4, h5, h6, h7, h8⟩

end Sys2Proof.Machine
end

section
/-! PROOF. The Wellhead's start: the Witness engine's search, the fuse controller armed, and what power-on reset leaves. -/

namespace Sys2Proof.Machine

open Sys2Proof

/-! ## The fuse controller settles (15 R369, R375) -/

/-- Register fields that the fuse controller writes as it settles. -/
def settleFlds : List Fld := [IFC_STATUS.COOLING, IFC_STATUS.PHASE, IFC_STATUS.STATE, IFC_STATUS.PG, MS_POWER.CHG]

/-- A fuse controller that settles writes its own status and `MS_POWER.CHG`, clears its timers and raises vector 33: what these keep, it
keeps. -/
theorem State.ifcSettle_keeps (P : State → Prop) (hset : ∀ s, ∀ f ∈ settleFlds, ∀ i v, P s → P (s.fset f i v))
    (htim : ∀ s, P s → P s.ifcTimers0) (hsig : ∀ s h, P s → P (s.signalHead 33 h)) {s : State} (hs : P s) : P s.ifcSettle := by
  unfold State.ifcSettle
  split
  · exact hs
  · dsimp only
    generalize hu : s.fbit IFC_STATUS.COOLING 0 _ = u
    have h1 : P u := hu ▸ hset _ _ (by decide) _ _ hs
    split
    · exact State.ifcTo_keeps P (fun s m => hset s _ (by decide) m 1) hsig 1
        (hset _ _ (by decide) _ _ (hset _ _ (by decide) _ _ (htim _ (hset _ _ (by decide) _ _ h1))))
    · exact h1

/-- The state without what a settling fuse controller reaches: registers, heads, outputs, and the controller but for its arming and
`IFC_EN`. -/
def State.offSettle (s : State) : State := { s.offCount with ifc := { armed := s.ifc.armed, en := s.ifc.en } }

theorem State.ifcSettle_off (s : State) : s.ifcSettle.offSettle = s.offSettle :=
  State.ifcSettle_keeps (fun t => t.offSettle = s.offSettle) (fun _ _ _ _ _ e => e) (fun _ e => e)
    (fun t h e => by
      have ho := offCount_of_offHeads (t.signalHead_off 33 h)
      exact (congrArg (fun x : State => { x with ifc := { armed := x.ifc.armed, en := x.ifc.en } }) ho :).trans e) rfl

theorem State.ifcSettle_regs (s : State) : RegsSame settleFlds s s.ifcSettle :=
  State.ifcSettle_keeps (RegsSame settleFlds s)
    (fun t f hf i v h => h.fset i v ⟨(by decide : ∀ f ∈ settleFlds, f.id < 1024) f hf, List.mem_map_of_mem hf⟩) (fun _ h => h)
    (fun t k h f i hf hp => (t.signalHead_fget 33 k f i).trans (h f i hf hp)) RegsSame.refl

/-! ## The search of the Witness engine (16 R395, R396) -/

/-- Register fields that the search writes. -/
def searchFlds : List Fld := [WIT_STATUS.PRESENT, WIT_STATUS.READY, WIT_SEQ.SEQ, WIT_HEAD.SLOT]

/-- An erase that starts changes the engine and the outputs. -/
theorem State.witErase_keeps (P : State → Prop) (hwit : ∀ s x, P s → P { s with wit := x }) (hout : ∀ s o, P s → P (s.emit o))
    {s : State} (hs : P s) : P s.witErase := by
  unfold State.witErase
  split
  · exact hs
  · split
    · exact hout _ _ (hwit _ _ hs)
    · exact hs

/-- The engine with its log's end found, or a log begun anew. -/
def State.witFound (s : State) (here : Bool) (best : Option (Nat × WitRec)) : State :=
  let s := (s.fbit WIT_STATUS.PRESENT 0 here).fset WIT_STATUS.READY 0 1
  match best with
    | some (slot, r) =>
      let next := (slot + 1) % witSlots
      let s := ((s.fset WIT_SEQ.SEQ 0 (r.seq + 1)).fset WIT_HEAD.SLOT 0 next).modWit fun w => { w with
        lastCrc := r.crc, poweron := r.poweron + 1 }
      let mine := if next % 64 = 0 then [] else [next / 64]
      s.modWit fun w => { w with erased := mine ++ (s.witNeeds.filter fun n => s.sectorBlank n && !mine.contains n) }
    | none => ((s.fset WIT_SEQ.SEQ 0 0).fset WIT_HEAD.SLOT 0 0).modWit fun w => { w with
        lastCrc := 0, poweron := 1, erased := [] }

/-- The power-on MARKER staged after the end of the log has been found. -/
def State.witMarked (s : State) (here : Bool) (best : Option (Nat × WitRec)) : State :=
  (s.witFound here best).witErase.witStage { kind := 4, cls := 1, block := 14 } []

/-- The search stages its MARKER, and reports a broken log. -/
theorem State.witSearch_cases (s : State) : ∃ here best, s.witSearch = s.witMarked here best ∨
    ∃ c, s.witSearch = (s.witMarked here best).report setWIT 2 c := by
  have h : ∃ here best c, ∃ broken : Bool, s.witSearch =
      if broken then (s.witMarked here best).report setWIT 2 c else s.witMarked here best := ⟨_, newestRec _, _, _, rfl⟩
  obtain ⟨here, best, c, broken, h⟩ := h
  refine ⟨here, best, ?_⟩
  cases broken with
  | true => exact .inr ⟨c, h⟩
  | false => exact .inl h

/-- What the search's fields, the engine, the outputs and a report keep, the search keeps. -/
theorem State.witSearch_keeps (P : State → Prop) (hset : ∀ s, ∀ f ∈ searchFlds, ∀ i v, P s → P (s.fset f i v))
    (hwit : ∀ s x, P s → P { s with wit := x }) (hout : ∀ s o, P s → P (s.emit o)) (hrep : ∀ s c, P s → P (s.report setWIT 2 c))
    {s : State} (hs : P s) : P s.witSearch := by
  have hfound (here : Bool) (best : Option (Nat × WitRec)) : P (s.witFound here best) := by
    have h0 : P ((s.fbit WIT_STATUS.PRESENT 0 here).fset WIT_STATUS.READY 0 1) :=
      hset _ _ (by decide) _ _ (hset _ _ (by decide) _ _ hs)
    unfold State.witFound
    dsimp only
    split
    · exact hwit _ _ (hwit _ _ (hset _ _ (by decide) _ _ (hset _ _ (by decide) _ _ h0)))
    · exact hwit _ _ (hset _ _ (by decide) _ _ (hset _ _ (by decide) _ _ h0))
  have hmark (here : Bool) (best : Option (Nat × WitRec)) : P (s.witMarked here best) :=
    hwit _ _ (hset _ WIT_SEQ.SEQ (by decide) _ _ (State.witErase_keeps P hwit hout (hfound here best)))
  obtain ⟨here, best, h | ⟨c, h⟩⟩ := s.witSearch_cases
  · exact h ▸ hmark here best
  · exact h ▸ hrep _ c (hmark here best)

theorem State.witSearch_off (s : State) : s.witSearch.offFault = s.offFault :=
  State.witSearch_keeps (fun t => t.offFault = s.offFault) (fun _ _ _ _ _ e => e) (fun _ _ e => e) (fun _ _ e => e)
    (fun t c e => (t.report_off setWIT 2 c 0).trans e) rfl

theorem State.witSearch_regs (s : State) : RegsSame ([WIT_HEAD.SLOT, WIT_STATUS.PRESENT, WIT_STATUS.READY] ++ faultFlds) s s.witSearch :=
  State.witSearch_keeps (RegsSame _ s)
    (fun t f hf i v h => h.fset i v ⟨(by decide : ∀ f ∈ searchFlds, f.id < 1024) f hf,
      (by decide : ∀ f ∈ searchFlds, f.id ∈ ([WIT_HEAD.SLOT, WIT_STATUS.PRESENT, WIT_STATUS.READY] ++ faultFlds).map (·.id)) f hf⟩)
    (fun _ _ h => h) (fun _ _ h => h)
    (fun t c h => h.trans ((t.report_regs setWIT 2 c 0).mono (by decide))) RegsSame.refl

/-- A report takes nothing out of a staging SRAM that holds a record so as to leave it empty (16 R393, R397). -/
theorem State.report_staging {s : State} (h : s.wit.staging ≠ []) (set code : Nat) (c : Capture) (base : Nat) :
    (s.report set code c base).wit.staging ≠ [] := by
  refine State.report_keeps (fun t => t.wit.staging ≠ []) (fun t set code level esc c h => ?set) (fun t set r h => ?wit) (fun t h => ?fatal)
    set code c base h
  case set =>
    exact State.reportRegs_keeps (fun t => t.wit.staging ≠ [])
      (fun t u ho h => by rwa [show u.wit = t.wit from (congrArg State.wit ho :)])
      (fun t v k h => by rwa [State.signalHead_wit]) (fun t k l e h => by rwa [State.logEvent_wit]) set code level esc c h
  case wit =>
    exact State.witReport_keeps (fun t => t.wit.staging ≠ []) (fun _ _ h => h) (fun _ _ _ _ => by simp [State.witStage]) (fun _ _ h => h)
      set r h
  case fatal =>
    exact State.goFatal_keeps (fun t => t.wit.staging ≠ []) (fun _ _ h => h) (fun _ _ h => h) (fun _ _ h => h) h

/-- The search leaves its MARKER in the staging SRAM. -/
theorem State.witSearch_staging (s : State) : s.witSearch.wit.staging ≠ [] := by
  have hmark (here : Bool) (best : Option (Nat × WitRec)) : (s.witMarked here best).wit.staging ≠ [] := by
    simp [State.witMarked, State.witStage]
  obtain ⟨here, best, h | ⟨c, h⟩⟩ := s.witSearch_cases
  · exact h ▸ hmark here best
  · exact h ▸ State.report_staging (hmark here best) _ _ c _

/-! ## The Wellhead's start (03 R76) -/

/-- Step 3 done and the fuse controller armed, before the search. -/
def State.wellArmed (s : State) : State := (s.stepTo 3).modIfc fun x => { x with armed := true }

theorem State.wellStart_off (s : State) : s.wellStart.offIfc = s.wellArmed.offIfc := by
  have h1 : s.wellStart.offIfc = s.wellArmed.witSearch.offIfc := (congrArg State.offIfc s.wellArmed.witSearch.ifcSettle_off :)
  exact h1.trans (congrArg (fun x : State => { x with ifc := {} }) s.wellArmed.witSearch_off :)

/-- The Wellhead's start arms the fuse controller and leaves `IFC_EN` as it stands. -/
theorem State.wellStart_ifc (s : State) : s.wellStart.ifc.armed = true ∧ s.wellStart.ifc.en = s.ifc.en := by
  have h1 := congrArg State.ifc s.wellArmed.witSearch.ifcSettle_off
  have h2 : s.wellArmed.witSearch.ifc = s.wellArmed.ifc := (congrArg State.ifc s.wellArmed.witSearch_off :)
  have harm : s.wellStart.ifc.armed = s.wellArmed.witSearch.ifc.armed := (congrArg Ifc.armed h1 :)
  have hen : s.wellStart.ifc.en = s.wellArmed.witSearch.ifc.en := (congrArg Ifc.en h1 :)
  rw [harm, hen, h2]
  exact ⟨rfl, rfl⟩

/-- Register fields that the Wellhead's start writes. -/
def startFlds : List Fld := [IFC_STATUS.COOLING, IFC_STATUS.PG, IFC_STATUS.PHASE, IFC_STATUS.STATE, MS_POWER.CHG, WIT_HEAD.SLOT,
  WIT_STATUS.PRESENT, WIT_STATUS.READY] ++ faultFlds

theorem State.wellStart_regs (s : State) : RegsSame startFlds s s.wellStart :=
  (s.wellArmed.witSearch_regs.mono (by decide)).trans (s.wellArmed.witSearch.ifcSettle_regs.mono (by decide))

theorem State.wellStart_staging (s : State) : s.wellStart.wit.staging ≠ [] := by
  have h : s.wellStart.wit = s.wellArmed.witSearch.wit := (congrArg State.wit s.wellArmed.witSearch.ifcSettle_off :)
  rw [h]
  exact s.wellArmed.witSearch_staging

/-! ## Wellhead power-on reset (03 R71, R72; 19 R443) -/

/-- A page of staged records goes to flash with no more changed than a report changes. -/
theorem State.witPage_off (s : State) : s.witPage.offFault = s.offFault := by
  have herase (t : State) : t.witErase.offFault = t.offFault :=
    State.witErase_keeps (fun u => u.offFault = t.offFault) (fun _ _ e => e) (fun _ _ e => e) rfl
  have hhead (t : State) (n : Nat) : (t.witHeadTo n).offFault = t.offFault := by
    unfold State.witHeadTo
    dsimp only
    split
    · rfl
    · exact (herase _).trans rfl
  have hroom (t : State) : t.witRoom.offFault = t.offFault := by
    refine State.each_inv State.offFault _ _ (fun e u => ?_) t
    split <;> rfl
  unfold State.witPage
  exact (offFault_of_offCount (State.count_off ..)).trans ((hroom _).trans ((hhead _ _).trans rfl))

/-- A commit of the staging SRAM reaches no more than a report does (19 R443). -/
theorem State.witCommit_off (s : State) : s.witCommit.offFault = s.offFault := by
  refine State.each_inv State.offFault _ _ (fun _ t => ?_) s
  split
  · exact t.witPage_off
  · rfl

theorem smFind?_smMap {α : Type} (m : SMap α) (f : Nat → α → α) (k : Nat) : smFind? (smMap m f) k = (smFind? m k).map (f k) := by
  induction m with
  | nil => rfl
  | cons e m ih =>
    obtain ⟨j, v⟩ := e
    by_cases hk : k = j
    · subst hk
      simp [smMap, smFind?]
    · simpa [smMap, smFind?, hk] using ih

/-- Every key slot but that of key ID 0 is FREE once the keys are wiped (10 R274). -/
theorem State.wipeKeys_slot (s : State) {k : Nat} (hk : k ≠ 0) : (s.wipeKeys.slot k).state = 0 := by
  have h := smFind?_smMap s.inl.slots
    (fun k x => if k = 0 then { state := 1, owner := 17, load := x.load + 1 } else { load := x.load }) k
  unfold State.slot State.wipeKeys smGet
  rw [h]
  cases smFind? s.inl.slots k with
  | none => rfl
  | some x => simp [hk]

/-- Settles O10: an input-loss commit ends first, everything but fuses, flash and pins is at reset, and the Wellhead starts from there. -/
theorem wellheadPowerOnReset_returnsToReset : Obligations.WellheadPowerOnReset := by
  unfold Obligations.WellheadPowerOnReset
  intro s
  have hc : (if s.clearOut.fone WIT_STATUS.COMMIT then s.clearOut.witCommit else s.clearOut).offFault = s.offFault := by
    split
    · exact s.clearOut.witCommit_off
    · rfl
  generalize hu : (if s.clearOut.fone WIT_STATUS.COMMIT then s.clearOut.witCommit else s.clearOut) = u at hc
  have hx : wellheadPowerOnReset s.clearOut = u.wellReset.wellStart := hu ▸ rfl
  have hoff := u.wellReset.wellStart_off
  obtain ⟨harm, hen⟩ := u.wellReset.wellStart_ifc
  have hregs : RegsSame startFlds State.reset u.wellReset.wellStart := RegsSame.trans (t := u.wellReset) (fun _ _ _ _ => rfl)
    u.wellReset.wellStart_regs
  generalize u.wellReset.wellStart = t at hx hoff harm hen hregs
  have hinl : t.inl = u.wipeKeys.inl := (congrArg State.inl hoff :)
  have hnv : t.nv = s.nv := (congrArg State.nv hoff :).trans (congrArg State.nv hc :)
  have hpend : t.pending = s.pending := (congrArg State.pending hoff :).trans (congrArg State.pending hc :)
  exact ⟨t, volatile_ends hx hnv hpend, (congrArg (fun x : State => x.boot.step) hoff :), harm,
    hen.trans (congrArg (fun x : State => x.ifc.en) hc :), hnv, (congrArg State.wclk hoff :), (congrArg State.tb hoff :),
    (congrArg State.dram hoff :), (congrArg State.dec hoff :), (congrArg State.coh hoff :), (congrArg State.chans hoff :),
    (congrArg State.press hoff :), (congrArg State.slc hoff :), (congrArg State.drw hoff :), (congrArg State.pwr hoff :),
    (congrArg State.sec hoff :), (congrArg State.pmu hoff :), (congrArg State.cut hoff :), (congrArg State.hold hoff :),
    (congrArg State.thermtrip hoff :), (congrArg (fun x : State => x.spn.db) hoff :), (congrArg (fun x : State => x.spn.tags) hoff :),
    (congrArg (fun x : State => x.spn.runs) hoff :),
    fun k hk => (congrArg Slot.state (State.slot_congr hinl k)).trans (u.wipeKeys_slot hk), hregs⟩

end Sys2Proof.Machine
end

section
/-! PROOF. Start-up step by step: what the boot load reaches, and the six steps of 03 R76. -/

namespace Sys2Proof.Machine

open Sys2Proof

/-! ## What the boot load reaches (02 R47; 03 R76 steps 8-10) -/

/-- The state without what the boot load reaches. -/
def State.offLoad (s : State) : State := { s with
  out := [], free := 0, regs := [], boot := {}, cut := {}, heads := [], dec := {}, chans := [], slc := {}, drw := {}, spn := {}
  wit := {}, flt := {}, sec := {} }

section
variable (s : State)

theorem State.fset_offLoad (f : Fld) (i v : Nat) : (s.fset f i v).offLoad = s.offLoad := rfl
theorem State.fbit_offLoad (f : Fld) (i : Nat) (b : Bool) : (s.fbit f i b).offLoad = s.offLoad := rfl
theorem State.finc_offLoad (f : Fld) (i : Nat) : (s.finc f i).offLoad = s.offLoad := rfl
theorem State.avsSet_offLoad (r mv : Nat) : (s.avsSet r mv).offLoad = s.offLoad := rfl
theorem State.modHead_offLoad (h : Nat) (f : HeadSt → HeadSt) : (s.modHead h f).offLoad = s.offLoad := rfl
theorem State.modChan_offLoad (c : Nat) (f : Channel → Channel) : (s.modChan c f).offLoad = s.offLoad := rfl
theorem State.modBoot_offLoad (f : Boot → Boot) : (s.modBoot f).offLoad = s.offLoad := rfl

theorem State.report_offLoad (set code : Nat) (c : Capture) (base : Nat) : (s.report set code c base).offLoad = s.offLoad :=
  (congrArg State.offLoad (s.report_off set code c base) :)

end

/-- A list of updates within the boot load's reach stays within it. -/
theorem State.each_offLoad {α : Type} {f : α → State → State} (h : ∀ a s, (f a s).offLoad = s.offLoad) (l : List α) (s : State) :
    (s.each l f).offLoad = s.offLoad := State.each_inv State.offLoad l f h s

/-! ### Structural and live sections (02 R41-R43, R53) -/

theorem loadPort_offLoad (r : List Byte) (s : State) : (loadPort r s).offLoad = s.offLoad := by
  unfold loadPort
  dsimp only
  rw [State.each_offLoad fun k t => t.modHead_offLoad _ _]
  simp only [State.fset_offLoad, State.fbit_offLoad]

theorem loadChan_offLoad (l : List Sect) (r : List Byte) (s : State) : (loadChan l r s).offLoad = s.offLoad := by
  unfold loadChan
  dsimp only
  simp only [State.fset_offLoad, State.fbit_offLoad]

theorem loadSet_offLoad (x : SetLay) (s : State) : (loadSet x s).offLoad = s.offLoad := by
  unfold loadSet
  dsimp only
  simp only [State.fset_offLoad]

theorem loadTemplate_offLoad (n base : Nat) (q : RegRec) (s : State) : (loadTemplate n base q s).offLoad = s.offLoad := by
  have hdec (t : State) (x : Dec) : ({ t with dec := x } : State).offLoad = t.offLoad := rfl
  unfold loadTemplate
  split
  · rfl
  · dsimp only
    split <;> simp only [State.fset_offLoad, hdec]

theorem loadRegion_offLoad (n : Nat) (p : RegPlace) (s : State) : (loadRegion n p s).offLoad = s.offLoad :=
  (State.each_offLoad (loadTemplate_offLoad n p.base) _ _).trans rfl

theorem loadClock_offLoad (r : List Byte) (s : State) : (loadClock r s).offLoad = s.offLoad := by
  unfold loadClock
  dsimp only
  split
  · split <;> rfl
  · rfl

theorem loadWake_offLoad (r : List Byte) (s : State) : (loadWake r s).offLoad = s.offLoad := by
  have hcut (t : State) (x : Cut) : ({ t with cut := x } : State).offLoad = t.offLoad := rfl
  unfold loadWake
  dsimp only
  rw [hcut]
  simp only [State.fset_offLoad]

theorem loadBias_offLoad (r : List Byte) (s : State) : (loadBias r s).offLoad = s.offLoad := rfl

theorem loadDrawers_offLoad (recs : List (List Byte)) (s : State) : (loadDrawers recs s).offLoad = s.offLoad := by
  unfold loadDrawers
  split
  · rfl
  · exact (State.each_offLoad (fun i t => t.fset_offLoad _ _ _) _ _).trans rfl

theorem bindD0_offLoad (s : State) : (bindD0 s).offLoad = s.offLoad := by
  unfold bindD0
  split <;> rfl

theorem loadShares_offLoad (l : List Sect) (c : Nat) (s : State) : (loadShares l c s).offLoad = s.offLoad := by
  refine State.each_offLoad (fun k t => ?_) _ _
  split
  · rfl
  · simp only [State.fset_offLoad]
    split
    · rfl
    · simp only [State.modChan_offLoad, State.fset_offLoad]

theorem loadLimits_offLoad (recs : List (List Byte)) (s : State) : (loadLimits recs s).offLoad = s.offLoad := by
  refine State.each_offLoad (fun d t => ?_) _ _
  split
  · rfl
  · simp only [State.fset_offLoad]

theorem loadMarks_offLoad (r : List Byte) (s : State) : (loadMarks r s).offLoad = s.offLoad := by
  unfold loadMarks
  simp only [State.fset_offLoad]

theorem loadCurve_offLoad (r : List Byte) (s : State) : (loadCurve r s).offLoad = s.offLoad := by
  unfold loadCurve
  dsimp only
  rw [State.each_offLoad fun k t => (State.fset_offLoad ..).trans (t.fset_offLoad _ _ _)]
  simp only [State.fset_offLoad]
  rw [State.each_offLoad fun k t => (State.fset_offLoad ..).trans (t.fset_offLoad _ _ _)]

theorem loadTrim_offLoad (r : List Byte) (s : State) : (loadTrim r s).offLoad = s.offLoad := rfl

theorem loadPolicy_offLoad (recs : List (List Byte)) (s : State) : (loadPolicy recs s).offLoad = s.offLoad := by
  refine State.each_offLoad (fun set t => ?_) _ _
  split
  · rfl
  · simp only [State.fset_offLoad]

theorem loadLive_offLoad (l : List Sect) (s : State) : (loadLive l s).offLoad = s.offLoad := by
  unfold loadLive
  dsimp only
  rw [loadPolicy_offLoad, State.each_offLoad loadTrim_offLoad, State.each_offLoad loadCurve_offLoad, State.each_offLoad loadMarks_offLoad,
    loadLimits_offLoad,
    State.each_offLoad (loadShares_offLoad l)]

theorem loadDigest_offLoad (d : BitVec 384) (s : State) : (loadDigest d s).offLoad = s.offLoad :=
  State.each_offLoad (fun _ t => t.fset_offLoad _ _ _) _ _

/-- The structural sections of an image stay within the load's reach. -/
theorem loadStructure_offLoad (l : List Sect) (s : State) : (loadStructure l s).offLoad = s.offLoad := by
  have hcut (t : State) (x : Cut) : ({ t with cut := x } : State).offLoad = t.offLoad := rfl
  have hslc (t : State) (x : Sluice) : ({ t with slc := x } : State).offLoad = t.offLoad := rfl
  unfold loadStructure
  extract_lets fit ports chans sets sets' tier meta_ tiers metas regs places regions direct d src pools drawers span units clocks wakes
    biases balls
  have hports : ports.offLoad = s.offLoad := State.each_offLoad loadPort_offLoad _ s
  clear_value ports
  have hchans : chans.offLoad = s.offLoad := (State.each_offLoad (loadChan_offLoad l) _ ports).trans hports
  clear_value chans
  have hsets : sets'.offLoad = s.offLoad := (State.each_offLoad loadSet_offLoad sets chans).trans hchans
  clear_value sets'
  have htiers : tiers.offLoad = s.offLoad :=
    (State.fset_offLoad ..).trans ((State.fset_offLoad ..).trans ((State.fset_offLoad ..).trans hsets))
  clear_value tiers
  have hmetas : metas.offLoad = s.offLoad := (State.fset_offLoad ..).trans htiers
  clear_value metas
  have hregions : regions.offLoad = s.offLoad :=
    (State.each_offLoad (α := RegPlace × Nat) (fun p t => loadRegion_offLoad p.2 p.1 t) places.zipIdx metas).trans hmetas
  clear_value regions
  have hpools : pools.offLoad = s.offLoad := (hslc _ _).trans hregions
  clear_value pools
  have hdrawers : drawers.offLoad = s.offLoad := (loadDrawers_offLoad _ pools).trans hpools
  clear_value drawers
  have hspan : span.offLoad = s.offLoad := by
    unfold span
    split
    · exact hdrawers
    · simp only [State.fset_offLoad, hdrawers]
  clear_value span
  have hunits : units.offLoad = s.offLoad := (State.each_offLoad (fun _ t => t.fset_offLoad _ _ _) _ span).trans hspan
  clear_value units
  have hclocks : clocks.offLoad = s.offLoad := (State.each_offLoad loadClock_offLoad _ units).trans hunits
  clear_value clocks
  have hwakes : wakes.offLoad = s.offLoad := (State.each_offLoad loadWake_offLoad _ clocks).trans hclocks
  clear_value wakes
  have hbiases : biases.offLoad = s.offLoad := (State.each_offLoad loadBias_offLoad _ wakes).trans hwakes
  clear_value biases
  have hballs : balls.offLoad = s.offLoad := (State.each_offLoad (fun _ t => hcut t _) _ biases).trans hbiases
  exact (State.each_offLoad (fun _ t => hcut t _) _ balls).trans hballs

/-! ### Weir's limits as a load leaves them (11 R289, R290) -/

theorem State.weirSetChan_offLoad (s : State) (c : Nat) : (s.weirSetChan c).offLoad = s.offLoad := by
  unfold State.weirSetChan
  dsimp only
  simp only [State.fset_offLoad, State.fbit_offLoad]
  exact State.each_offLoad (fun k t => by simp only [State.fset_offLoad, State.fbit_offLoad]) _ _

theorem State.weirBit_offLoad (s : State) (unit : Nat) (old new : Bool) (d sum : Nat) :
    (s.weirBit unit old new d sum).offLoad = s.offLoad := by
  unfold State.weirBit
  split
  · exact (State.report_offLoad ..).trans (State.finc_offLoad ..)
  · split <;> rfl

theorem State.weirRecompute_offLoad (s : State) : s.weirRecompute.offLoad = s.offLoad := by
  unfold State.weirRecompute
  dsimp only
  rw [State.weirBit_offLoad, State.each_offLoad fun c t => t.weirBit_offLoad _ _ _ _ _]
  simp only [State.fset_offLoad, State.fbit_offLoad]
  exact State.each_offLoad (fun c t => t.weirSetChan_offLoad c) _ _

/-! ### The Cut List, the fallback structure and the choice between them (02 R43-R49) -/

theorem loadImage_offLoad (b : List Byte) (source : Nat) (s : State) : (loadImage b source s).offLoad = s.offLoad := by
  have hcut (t : State) (x : Cut) : ({ t with cut := x } : State).offLoad = t.offLoad := rfl
  unfold loadImage
  dsimp only
  rw [State.weirRecompute_offLoad, bindD0_offLoad, loadDigest_offLoad]
  simp only [State.fset_offLoad]
  rw [hcut, loadLive_offLoad, loadStructure_offLoad]

theorem loadFallback_offLoad (s : State) : (loadFallback s).offLoad = s.offLoad := by
  unfold loadFallback
  dsimp only
  simp only [bindD0_offLoad, State.fset_offLoad, State.modHead_offLoad]

theorem State.cutReject_offLoad (s : State) (path head : Nat) (f : CutFail) : (s.cutReject path head f).offLoad = s.offLoad := by
  unfold State.cutReject
  simp only [State.fset_offLoad]

theorem cutBoot_offLoad (s : State) : (cutBoot s).offLoad = s.offLoad := by
  have hcut (t : State) (x : Cut) : ({ t with cut := x } : State).offLoad = t.offLoad := rfl
  unfold cutBoot
  split
  · rw [hcut, loadImage_offLoad]
  · dsimp only
    split
    · exact loadImage_offLoad ..
    · split
      · rw [loadImage_offLoad, State.report_offLoad, State.cutReject_offLoad]
      · rw [loadFallback_offLoad, State.report_offLoad, State.cutReject_offLoad, State.cutReject_offLoad]

theorem State.cutChoice_offLoad (s : State) : s.cutChoice.offLoad = s.offLoad := by
  unfold State.cutChoice
  split
  · exact cutBoot_offLoad s
  · exact loadFallback_offLoad s

/-! ### Firmware, fuses, board and modules (17 R405-R412; 04 R88) -/

theorem State.fuseCheck_offLoad (s : State) : s.fuseCheck.offLoad = s.offLoad :=
  State.each_offLoad (fun _ t => t.report_offLoad _ _ _ _) _ _

theorem State.fwLoad_offLoad (s : State) (order : List Nat) : (s.fwLoad order).offLoad = s.offLoad := by
  have hrun (i : Nat) : (s.fwRun i).offLoad = s.offLoad := rfl
  unfold State.fwLoad
  dsimp only
  split
  · exact hrun _
  · split
    · exact (State.report_offLoad ..).trans (hrun _)
    · exact (State.report_offLoad ..).trans (State.modBoot_offLoad ..)

theorem State.identity_offLoad (s : State) : s.identity.offLoad = s.offLoad := by
  unfold State.identity
  split
  · rfl
  · exact State.report_offLoad ..

theorem State.boardLoad_offLoad (s : State) : s.boardLoad.offLoad = s.offLoad := State.each_offLoad (fun _ t => t.modHead_offLoad _ _) _ _

theorem State.spdFit_offLoad (s : State) (fit : List (Nat × Nat)) : (s.spdFit fit).offLoad = s.offLoad :=
  State.each_offLoad (fun _ _ => (State.fset_offLoad ..).trans (State.modChan_offLoad ..)) _ _

/-! ### Full rate, and the structure applied (03 R76 steps 9, 10) -/

theorem State.fullRate_offLoad (s : State) : s.fullRate.offLoad = s.offLoad := by
  unfold State.fullRate
  dsimp only
  split <;> simp only [State.fset_offLoad, State.modBoot_offLoad, State.avsSet_offLoad]

theorem State.spanBoot_offLoad (s : State) : s.spanBoot.offLoad = s.offLoad := by
  unfold State.spanBoot
  dsimp only
  split <;> rfl

theorem State.xmode_offLoad (s : State) : s.xmode.offLoad = s.offLoad := (State.fbit_offLoad ..).trans (State.fset_offLoad ..)

theorem State.unitsFresh_offLoad (s : State) : s.unitsFresh.offLoad = s.offLoad := by
  have hto (t : State) (u st : Nat) : (t.unitTo u st).offLoad = t.offLoad := rfl
  exact State.each_offLoad (fun _ t => hto t _ _) _ _

theorem State.witDeclare_offLoad (s : State) : s.witDeclare.offLoad = s.offLoad := by
  unfold State.witDeclare
  split
  · rfl
  · dsimp only
    split
    · exact (State.report_offLoad ..).trans (State.fbit_offLoad ..)
    · exact State.fbit_offLoad ..

theorem State.applyStructure_offLoad (s : State) : s.applyStructure.offLoad = s.offLoad := by
  unfold State.applyStructure
  refine (State.modBoot_offLoad ..).trans ?_
  rw [State.witDeclare_offLoad]
  refine (State.fbit_offLoad ..).trans ?_
  rw [State.unitsFresh_offLoad, State.xmode_offLoad, State.spanBoot_offLoad]
  exact State.each_offLoad (fun _ t => t.fset_offLoad _ _ _) _ _

/-- The load of steps 8 to 10, once step 7 is done. -/
def State.bootLoaded (s : State) (fit : List (Nat × Nat)) : State :=
  (s.fuseCheck.measureFuses.fwBoot.identity.boardLoad.spdFit fit).cutChoice.fullRate.applyStructure

theorem State.bootLoaded_offLoad (s : State) (fit : List (Nat × Nat)) : (s.bootLoaded fit).offLoad = s.offLoad := by
  have hsec (t : State) : t.measureFuses.offLoad = t.offLoad := rfl
  unfold State.bootLoaded
  rw [State.applyStructure_offLoad, State.fullRate_offLoad, State.cutChoice_offLoad, State.spdFit_offLoad, State.boardLoad_offLoad,
    State.identity_offLoad,
    State.fwBoot, State.fwLoad_offLoad, hsec, State.fuseCheck_offLoad]

theorem State.bootLoaded_step (s : State) (fit : List (Nat × Nat)) : (s.bootLoaded fit).boot.step = 10 := by
  have happly (t : State) : t.applyStructure.boot.step = 10 := rfl
  unfold State.bootLoaded
  exact happly _

theorem bootLoadComplete_eq {s : State} (h : s.boot.step = 7) (fit : List (Nat × Nat)) : bootLoadComplete fit s = s.bootLoaded fit := by
  unfold bootLoadComplete
  rw [if_neg (by simp [h])]
  rfl

/-- What lies outside the load's reach stands. -/
theorem State.eq_of_offLoad {s t : State} (h : t.offLoad = s.offLoad) : t = { s with
    out := t.out, free := t.free, regs := t.regs, boot := t.boot, cut := t.cut, heads := t.heads, dec := t.dec, chans := t.chans
    slc := t.slc, drw := t.drw, spn := t.spn, wit := t.wit, flt := t.flt, sec := t.sec } :=
  congrArg (fun x : State => { x with
    out := t.out, free := t.free, regs := t.regs, boot := t.boot, cut := t.cut, heads := t.heads, dec := t.dec, chans := t.chans
    slc := t.slc, drw := t.drw, spn := t.spn, wit := t.wit, flt := t.flt, sec := t.sec }) h

/-! ## The six steps (03 R76) -/

/-- Memory active indicated on the heads of a list (03 R76 step 13). -/
def State.indicated (s : State) (l : List Nat) : State := s.each l fun h s => s.modHead h fun x => { x with memActive := true }

/-- Memory active is indicated on the heads of the list, and on no other. -/
theorem State.indicated_head (s : State) (l : List Nat) (k : Nat) :
    (s.indicated l).head k = if k ∈ l then { s.head k with memActive := true } else s.head k := by
  unfold State.indicated
  induction l generalizing s with
  | nil => rfl
  | cons h l ih =>
    rw [State.each_cons, ih]
    by_cases hk : k = h
    · subst hk
      rw [State.modHead_head_self]
      simp
    · rw [State.modHead_head_ne _ _ hk]
      simp [hk]

theorem State.indicated_eq (s : State) (l : List Nat) : s.indicated l = { s with heads := (s.indicated l).heads } := by
  unfold State.indicated
  induction l generalizing s with
  | nil => rfl
  | cons h l ih => exact ih _

/-- What the Wellhead's start leaves alone. -/
theorem State.eq_of_offIfc {s t : State} (h : t.offIfc = s.offIfc) : t = { s with
    out := t.out, regs := t.regs, boot := t.boot, heads := t.heads, ifc := t.ifc, wit := t.wit, flt := t.flt
    spn := { s.spn with withdrawn := t.spn.withdrawn, ageSeq := t.spn.ageSeq, links := t.spn.links } } := by
  have hs : t.spn = { s.spn with withdrawn := t.spn.withdrawn, ageSeq := t.spn.ageSeq, links := t.spn.links } :=
    congrArg (fun x : State => { x.spn with withdrawn := t.spn.withdrawn, ageSeq := t.spn.ageSeq, links := t.spn.links }) h
  rw [← hs]
  exact congrArg (fun x : State => { x with
    out := t.out, regs := t.regs, boot := t.boot, heads := t.heads, ifc := t.ifc, wit := t.wit, flt := t.flt, spn := t.spn }) h

/-- With the rails good, AVSBus sets the boot voltages, `VDD_SRAM` first (19 R442). -/
theorem State.bootVolts_fget (s : State) : s.bootVolts.fget CLK_AVS.SRAM_MV = 850 ∧ s.bootVolts.fget CLK_AVS.CORE_MV = 750 := by
  have hto (t : State) (f : Fld) : (t.stepTo 6).fget f = t.fget f := rfl
  have hram (t : State) : (t.avsSet 1 850).fget CLK_AVS.SRAM_MV = 850 := (t.emit _).fget_fset_self CLK_AVS.SRAM_MV 0 850
  have hcore (t : State) : (t.avsSet 0 750).fget CLK_AVS.CORE_MV = 750 := (t.emit _).fget_fset_self CLK_AVS.CORE_MV 0 750
  have hkeep (t : State) : (t.avsSet 0 750).fget CLK_AVS.SRAM_MV = t.fget CLK_AVS.SRAM_MV :=
    (t.emit _).fget_fset_ne (f := CLK_AVS.SRAM_MV) (g := CLK_AVS.CORE_MV) 0 0 750 (by decide) (by decide) (by decide)
  unfold State.bootVolts
  rw [hto, hto, hcore, hkeep, hram]
  exact ⟨rfl, rfl⟩

theorem State.bootVolts_regs (s : State) : RegsSame [CLK_AVS.SRAM_MV, CLK_AVS.CORE_MV] s s.bootVolts := by
  have hset (t : State) (r mv : Nat) : RegsSame [CLK_AVS.SRAM_MV, CLK_AVS.CORE_MV] t (t.avsSet r mv) := by
    unfold State.avsSet railMv
    split
    · exact RegsSame.refl.fset (t := t.emit _) _ _ (by decide)
    · exact RegsSame.refl.fset (t := t.emit _) _ _ (by decide)
  exact (hset s 1 850).trans (hset (s.avsSet 1 850) 0 750)

/-- The core PLL locked on its reference, before CCLK runs from it. -/
def State.coreLocked (s : State) : State := (s.fset CLK_STATUS.CORE_PLL 0 1).fset CLK_STATUS.REFCLK_OK 0 1

theorem State.coreLocked_fget (s : State) :
    s.coreLocked.fget CLK_STATUS.CORE_PLL = 1 ∧ s.coreLocked.fget CLK_STATUS.REFCLK_OK = 1 := by
  unfold State.coreLocked
  rw [State.fget_fset_ne _ _ _ _ (by decide) (by decide) (by decide), State.fget_fset_self, State.fget_fset_self]
  exact ⟨rfl, rfl⟩

theorem State.coreLocked_regs (s : State) : RegsSame [CLK_STATUS.CORE_PLL, CLK_STATUS.REFCLK_OK] s s.coreLocked :=
  (RegsSame.refl.fset _ _ (by decide)).fset _ _ (by decide)

theorem corePllLock_eq {s : State} (h : s.boot.step = 6) :
    corePllLock s = s.coreLocked.modBoot fun x => { x with step := 7, cclkMhz := 1000 } := if_neg (by simp [h])

theorem metadataInitComplete_eq {s : State} (h : s.boot.step = 10) (hc : s.chansIn 1 = []) :
    metadataInitComplete s = (s.indicated s.headsOn).stepTo 13 := if_neg (by simp [h, hc])

/-- Settles O8: each step of start-up from the state in which the one before it has left the device. -/
theorem startUpSteps : Obligations.StartUpSteps := by
  unfold Obligations.StartUpSteps
  refine ⟨fun s h0 => ?aux, fun s h0 => volatile_ends (if_neg h0) rfl rfl, fun s h3 hpg hl => ?rails, fun s h6 => ?lock,
    fun fit s h7 => ?load,
    fun s h10 hc => ?active⟩
  case aux =>
    have hoff : s.clearOut.wellStart.offIfc = ({ s with boot := { s.boot with step := 3 } } : State).offIfc := s.clearOut.wellStart_off
    have hx : exec .v3p3AuxGood s = .next s.clearOut.wellStart :=
      volatile_ends (if_pos h0) (congrArg State.nv hoff :) (congrArg State.pending hoff :)
    have hregs : RegsSame startFlds s s.clearOut.wellStart := RegsSame.clearOut.trans s.clearOut.wellStart_regs
    exact ⟨_, hx, (congrArg (fun x : State => x.boot.step) hoff :), s.clearOut.wellStart_ifc.1, s.clearOut.wellStart_staging,
      State.eq_of_offIfc (s := { s with boot := { s.boot with step := 3 } }) hoff, hregs.mono (by decide)⟩
  case rails =>
    have hpg' : s.clearOut.ifcPg = true := hpg
    have hx : railsGood s.clearOut = s.clearOut.bootVolts := by
      rw [railsGood, if_neg (by simp [h3, hpg']), if_neg (by simp [hl])]
    obtain ⟨hsram, hcore⟩ := s.clearOut.bootVolts_fget
    exact ⟨_, volatile_ends hx rfl rfl, rfl, rfl, hsram, hcore, rfl, s.clearOut.bootVolts_regs⟩
  case lock =>
    obtain ⟨hpll, href⟩ := s.clearOut.coreLocked_fget
    exact ⟨_, volatile_ends (corePllLock_eq (s := s.clearOut) h6) rfl rfl, rfl, hpll, href, rfl, s.clearOut.coreLocked_regs⟩
  case load =>
    have hx := bootLoadComplete_eq (s := s.clearOut) h7 fit
    have hoff := s.clearOut.bootLoaded_offLoad fit
    have hstep := s.clearOut.bootLoaded_step fit
    generalize s.clearOut.bootLoaded fit = t at hx hoff hstep
    have hnv : t.nv = s.nv := (congrArg State.nv hoff :)
    exact ⟨t, volatile_ends hx hnv (congrArg State.pending hoff :), hstep, hnv, State.eq_of_offLoad (s := s) hoff⟩
  case active =>
    have hx := metadataInitComplete_eq (s := s.clearOut) h10 hc
    rw [State.indicated_eq] at hx
    exact ⟨_, volatile_ends hx rfl rfl, rfl, fun h hh => (s.clearOut.indicated_head _ h).trans (if_pos hh),
      fun h hh => (s.clearOut.indicated_head _ h).trans (if_neg hh), rfl⟩

end Sys2Proof.Machine
end

section
/-! PROOF. The frames of the host ports: what reports, counted events, wake triggers and drawer resets leave of a head, and which
register fields they write. -/

namespace Sys2Proof.Machine

open Sys2Proof

/-! ## What interrupts and event records leave of a head (04 R93-R94; 16 R391) -/

/-- A head without its PBA and its event logs: what no interrupt and no event record changes. -/
def HeadSt.core (x : HeadSt) : HeadSt := { x with pba := 0, logs := [], logOvf := [] }

/-- The same of a head by number. -/
def State.headCore (s : State) (h : Nat) : HeadSt := (s.head h).core

theorem State.heads_core {s t : State} (e : t.heads = s.heads) (h : Nat) : t.headCore h = s.headCore h := by
  unfold State.headCore State.head
  rw [e]

/-- A change of one head that leaves its core alone leaves the core of every head alone. -/
theorem State.modHead_core (s : State) (k : Nat) (f : HeadSt → HeadSt) (h : Nat)
    (hf : ∀ x, (f x).core = x.core := by exact fun _ => rfl) : (s.modHead k f).headCore h = s.headCore h := by
  unfold State.headCore
  by_cases hk : h = k
  · subst hk
    rw [State.modHead_head_self, hf]
  · rw [State.modHead_head_ne _ _ hk]

theorem State.signalHead_core (s : State) (v k h : Nat) : (s.signalHead v k).headCore h = s.headCore h := by
  unfold State.signalHead
  dsimp only
  split
  · rfl
  · split
    · exact State.modHead_core ..
    · exact State.modHead_core (State.emit _ _) _ _ _

theorem State.logEvent_core (s : State) (k l : Nat) (e : EvRec) (h : Nat) : (s.logEvent k l e).headCore h = s.headCore h := by
  unfold State.logEvent
  dsimp only
  split
  · split
    · exact (State.signalHead_core ..).trans (State.modHead_core ..)
    · exact State.modHead_core ..
  · exact State.modHead_core ..

/-- A report leaves the core of every head alone. -/
theorem State.report_core (s : State) (set code : Nat) (c : Capture) (base h : Nat) :
    (s.report set code c base).headCore h = s.headCore h := by
  refine State.report_keeps (fun t => t.headCore h = s.headCore h) (fun t set code level esc c e => ?set) (fun t set r e => ?wit)
    (fun t e => ?fatal) set code c base rfl
  case set =>
    exact State.reportRegs_keeps (fun t => t.headCore h = s.headCore h)
      (fun t u ho e => (State.heads_core (congrArg State.heads ho :) h).trans e) (fun t v k e => (t.signalHead_core v k h).trans e)
      (fun t k l r e => (t.logEvent_core k l r h).trans e) set code level esc c e
  case wit =>
    exact State.witReport_keeps (fun t => t.headCore h = s.headCore h) (fun _ _ e => e) (fun _ _ _ e => e) (fun _ _ e => e) set r e
  case fatal =>
    exact State.goFatal_keeps (fun t => t.headCore h = s.headCore h) (fun _ _ e => e) (fun _ _ e => e) (fun _ _ e => e) e

/-- A counted event leaves the core of every head alone. -/
theorem State.count_core (s : State) (u ev : Nat) (a : Attr) (k h : Nat) : (s.count u ev a k).headCore h = s.headCore h :=
  State.count_keeps (fun t => t.headCore h = s.headCore h) (fun _ _ _ _ e => e) (fun t v n e => (t.signalHead_core v n h).trans e)
    u ev a k rfl

/-- A counted event writes the counters' fields alone. -/
theorem State.count_regs (s : State) (u ev : Nat) (a : Attr) (k : Nat) : RegsSame pmuFlds s (s.count u ev a k) :=
  fun f i hf hp => s.count_fget u ev a k f i hf hp

/-- What a counted event may change, and nothing else. -/
theorem State.eq_of_offCount {s t : State} (h : t.offCount = s.offCount) :
    t = { s with out := t.out, regs := t.regs, heads := t.heads } :=
  congrArg (fun x : State => { x with out := t.out, regs := t.regs, heads := t.heads }) h

/-- A change of registers alone leaves a longer list of fields the same. -/
theorem RegsSame.of_regs {l : List Fld} {s t : State} (h : t.regs = s.regs) : RegsSame l s t := fun f i _ _ => State.regs_fget h f i

/-! ## Presence (04 R98) -/

theorem State.setPresence_keeps (P : State → Prop) (hset : ∀ s m v, P s → P (s.fset MS_PRESCHG.CHG m v))
    (hsig : ∀ s m, P s → P (s.signalHead 33 m)) {s : State} (h code : Nat)
    (hs : P (s.modHead h fun x => { x with presence := code })) : (s.head h).presence ≠ code → P (s.setPresence h code) := by
  intro hp
  unfold State.setPresence
  rw [if_neg hp]
  refine State.each_keeps P _ _ (fun m t ht => ?_) hs
  dsimp only [State.fputBit]
  split
  · exact hsig _ _ (hset _ _ _ ht)
  · exact hset _ _ _ ht

theorem State.setPresence_off (s : State) (h code : Nat) : (s.setPresence h code).offCount = s.offCount := by
  by_cases hp : (s.head h).presence = code
  · rw [State.setPresence, if_pos hp]
  · exact State.setPresence_keeps (fun t => t.offCount = s.offCount) (fun _ _ _ e => e)
      (fun t m e => (offCount_of_offHeads (t.signalHead_off 33 m)).trans e) h code rfl hp

theorem State.setPresence_regs (s : State) (h code : Nat) : RegsSame [MS_PRESCHG.CHG] s (s.setPresence h code) := by
  by_cases hp : (s.head h).presence = code
  · rw [State.setPresence, if_pos hp]
    exact RegsSame.refl
  · exact State.setPresence_keeps (fun t => RegsSame [MS_PRESCHG.CHG] s t) (fun _ m v e => e.fset m v (by decide))
      (fun t m e => e.trans fun f i _ _ => t.signalHead_fget 33 m f i) h code (RegsSame.refl (s := s)) hp

/-- The head has the presence code, and the rest of its core as before. -/
theorem State.setPresence_core (s : State) (h code : Nat) :
    (s.setPresence h code).headCore h = { s.headCore h with presence := code } := by
  have hm : (s.modHead h fun x => { x with presence := code }).headCore h = { s.headCore h with presence := code } := by
    unfold State.headCore
    rw [State.modHead_head_self]
    rfl
  by_cases hp : (s.head h).presence = code
  · rw [State.setPresence, if_pos hp]
    subst hp
    rfl
  · exact State.setPresence_keeps (fun t => t.headCore h = { s.headCore h with presence := code }) (fun _ _ _ e => e)
      (fun t m e => (t.signalHead_core 33 m h).trans e) h code hm hp

end Sys2Proof.Machine
end

section
/-! PROOF. A head's link: up, through Recovery, in and out of L1, its flit counters. -/

namespace Sys2Proof.Machine

open Sys2Proof

/-- The link registers of a head as the link comes up (04 R84-R86), before its presence changes. -/
def State.linkUpRegs (s : State) (h : Nat) (r : Fin 6) (w : Fin 32) (f : Bool) (n : Fin 3) : State :=
  (((((s.fset HP_LINK.UP h 1).fbit HP_LINK.FLIT256 h f).fset HP_LINK.RATE h r).fset HP_LINK.WIDTH h w).fset HP_LINK.RETIMERS h n).fset
    HP_LINK.LTSSM h 3

/-- The fields of a head's link. -/
def linkFlds : List Fld := [HP_LINK.UP, HP_LINK.FLIT256, HP_LINK.RATE, HP_LINK.WIDTH, HP_LINK.RETIMERS, HP_LINK.LTSSM]

section
variable (s : State) (h : Nat) (r : Fin 6) (w : Fin 32) (f : Bool) (n : Fin 3)

theorem State.linkUpRegs_regs : RegsSame linkFlds s (s.linkUpRegs h r w f n) :=
  (((((RegsSame.refl.fset _ _ (by decide)).fset _ _ (by decide)).fset _ _ (by decide)).fset _ _ (by decide)).fset _ _ (by decide)).fset
    _ _ (by decide)

/-- The link is up in L0 at its rate and width, in its flit mode. -/
theorem State.linkUpRegs_fget : (s.linkUpRegs h r w f n).fget HP_LINK.UP h = 1 ∧ (s.linkUpRegs h r w f n).fget HP_LINK.RATE h = r.val ∧
    (s.linkUpRegs h r w f n).fget HP_LINK.WIDTH h = w.val ∧ (s.linkUpRegs h r w f n).fget HP_LINK.FLIT256 h = f.toNat ∧
    (s.linkUpRegs h r w f n).fget HP_LINK.LTSSM h = 3 := by
  have hr : r.val % 2 ^ HP_LINK.RATE.width = r.val := Nat.mod_eq_of_lt (Nat.lt_of_lt_of_le r.isLt (by decide))
  have hw : w.val % 2 ^ HP_LINK.WIDTH.width = w.val := Nat.mod_eq_of_lt w.isLt
  have hf : f.toNat % 2 ^ HP_LINK.FLIT256.width = f.toNat := Nat.mod_eq_of_lt (Nat.lt_of_le_of_lt f.toNat_le (by decide))
  unfold State.linkUpRegs State.fbit
  simp (disch := decide) only [State.fget_fset_ne, State.fget_fset_self, hr, hw, hf]
  decide

end

theorem hostLinkUp_eq {s : State} {h : Head} {r : Fin 6} {w : Fin 32} {f : Bool} {n : Fin 3} (ht : s.mayTrain h r w f = true) :
    hostLinkUp h r w f n s = ((s.linkUpRegs h r w f n).setPresence h 2).modHead h fun x =>
      { x with waking := false, d3cold := false, memActive := decide (13 ≤ s.boot.step) } := by
  unfold hostLinkUp
  rw [if_neg (by simp [ht])]
  rfl

/-- A flit counter of a head counts, and the event with it (04 R84; 18 R426). -/
theorem flitCount_frame (s : State) (f : Fld) (h : Head) (ev : Nat) (a : Attr) (hf : f.id < 1024 ∧ f.id ∉ pmuFlds.map (·.id)) :
    ((s.clearOut.finc f h).count 0 ev a).fget f h = min (2 ^ f.width - 1) (s.fget f h + 1) ∧
      ((s.clearOut.finc f h).count 0 ev a).offCount = s.offCount ∧
      RegsSame ([f] ++ pmuFlds) s ((s.clearOut.finc f h).count 0 ev a) := by
  have hinc : RegsSame [f] s (s.clearOut.finc f h) := RegsSame.clearOut.fset _ _ ⟨hf.1, List.mem_cons_self⟩
  refine ⟨?_, State.count_off .., (hinc.mono (by simp)).trans ((State.count_regs _ _ _ _ _).mono (by simp +contextual))⟩
  rw [State.count_regs _ _ _ _ _ f h hf.1 hf.2, State.finc_fget_self]
  rfl

/-- Settles O18: the link's registers are written, and the presence, a counter and its event follow; in P0 the exit of L1 wakes nothing. -/
theorem hostLinks : Obligations.HostLinks := by
  unfold Obligations.HostLinks
  refine ⟨fun h r w f n s ht => ?up, fun h s hl => volatile_ends (if_pos hl) rfl rfl,
    fun h s hl hs => volatile_ends (if_pos ⟨hl, hs⟩) rfl rfl, fun h s hl hs hc h1 h3 => ?leave, fun h s hl => ?corrected,
    fun h s hl => ?replayed⟩
  case up =>
    have ht' : s.clearOut.mayTrain h r w f = true := ht
    have hx := hostLinkUp_eq (n := n) ht'
    have hoff := (s.clearOut.linkUpRegs h r w f n).setPresence_off h 2
    have hcore := (s.clearOut.linkUpRegs h r w f n).setPresence_core h 2
    have hsame := (s.clearOut.linkUpRegs h r w f n).setPresence_regs h 2
    have hregs := (RegsSame.clearOut (s := s)).trans (s.clearOut.linkUpRegs_regs h r w f n)
    obtain ⟨hup, hrate, hwidth, hflit, hltssm⟩ := s.clearOut.linkUpRegs_fget h r w f n
    generalize (s.clearOut.linkUpRegs h r w f n).setPresence h 2 = u at hx hoff hcore hsame
    have hpres : (u.head h).presence = 2 := (congrArg HeadSt.presence hcore :)
    refine ⟨_, volatile_ends hx (congrArg State.nv hoff :) (congrArg State.pending hoff :), ?_, ?_, ?_,
      (hsame _ _ (by decide) (by decide)).trans hup, (hsame _ _ (by decide) (by decide)).trans hrate,
      (hsame _ _ (by decide) (by decide)).trans hwidth, (hsame _ _ (by decide) (by decide)).trans hflit,
      (hsame _ _ (by decide) (by decide)).trans hltssm, State.eq_of_offCount (s := s) hoff,
      (hregs.mono (by decide)).trans (hsame.mono (by decide))⟩
    · rw [State.modHead_head_self]
      exact hpres
    · rw [State.modHead_head_self]
    · rw [State.modHead_head_self]
      rfl
  case leave =>
    have hcur : s.clearOut.fget PWR_STATE.CUR < 2 := by rw [State.clearOut_fget, hc]; decide
    have hx : linkL1Exit h s.clearOut = s.clearOut.fset HP_LINK.LTSSM h 3 := by
      have hl' : s.clearOut.linkReady h = true := hl
      have hs' : s.clearOut.fget HP_LINK.LTSSM h = 5 := hs
      have hset := s.clearOut.fget_fset_ne (f := PWR_STATE.CUR) (g := HP_LINK.LTSSM) 0 h 3 (by decide) (by decide) (by decide)
      have hphase := s.clearOut.fget_fset_ne (f := PWR_STATE.PHASE) (g := HP_LINK.LTSSM) 0 h 3 (by decide) (by decide) (by decide)
      unfold linkL1Exit
      rw [if_neg (by simp [hl', hs']), if_pos hcur]
      exact State.wakeTrigger_awake (hset.trans hc) (hphase.symm ▸ h1) (hphase.symm ▸ h3) 1 h
    exact volatile_ends hx rfl rfl
  case corrected =>
    have hl' : s.clearOut.linkReady h = true := hl
    have hx : hostFlitReplay h true s.clearOut = (s.clearOut.finc HP_ERRCNT.FEC_CORR h).count 0 3 { head := some h.val } := by
      simp [hostFlitReplay, hl']
    obtain ⟨hf, hoff, hr⟩ := flitCount_frame s HP_ERRCNT.FEC_CORR h 3 { head := some h.val } (by decide)
    exact ⟨_, volatile_ends hx (congrArg State.nv hoff :) (congrArg State.pending hoff :), hf, State.eq_of_offCount hoff, hr⟩
  case replayed =>
    have hl' : s.clearOut.linkReady h = true := hl
    have hx : hostFlitReplay h false s.clearOut = (s.clearOut.finc HP_ERRCNT.REPLAY h).count 0 4 { head := some h.val } := by
      simp [hostFlitReplay, hl']
    obtain ⟨hf, hoff, hr⟩ := flitCount_frame s HP_ERRCNT.REPLAY h 4 { head := some h.val } (by decide)
    exact ⟨_, volatile_ends hx (congrArg State.nv hoff :) (congrArg State.pending hoff :), hf, State.eq_of_offCount hoff, hr⟩

end Sys2Proof.Machine
end

section
/-! PROOF. Configuration space, the MSI-X table, the DOE instance and the attention button of a head. -/

namespace Sys2Proof.Machine

open Sys2Proof

/-! ## Accesses of a head (14 R347, R357) -/

/-- Before an access takes effect there are no outputs. -/
@[simp] theorem State.onAccess_out (s : State) (p : Path) : (s.onAccess p).out = [] := (congrArg State.out (s.onAccess_eq p) :)

/-- An access changes no head before its effect. -/
@[simp] theorem State.onAccess_head (s : State) (p : Path) (h : Nat) : (s.onAccess p).head h = s.head h := by
  unfold State.head
  rw [State.onAccess_heads]

/-- What the head of an access becomes, and that no other head changes with it. -/
theorem State.onAccess_modHead (s : State) (p : Path) (h : Nat) (f : HeadSt → HeadSt) :
    ((s.onAccess p).modHead h f).head h = f (s.head h) ∧ ∀ k, k ≠ h → ((s.onAccess p).modHead h f).head k = s.head k :=
  ⟨by rw [State.modHead_head_self, State.onAccess_head], fun k hk => by rw [State.modHead_head_ne _ _ hk, State.onAccess_head]⟩

/-- An admitted access of a head whose effect leaves fuses, flash and queue alone ends where that effect ends. -/
theorem headAccess_ends {c : Instr} {h : Head} {f : State → State} {s t : State} (ha : s.admits (.head h) = true)
    (ht : f (s.onAccess (.head h)) = t) (hn : t.nv = s.nv := by simp) (hp : t.pending = s.pending := by simp) :
    volatile (access c (.head h) f) s = .next t :=
  (access_ends ha ht hn hp).1

/-- An admitted access of a head whose effect is a change of that head. -/
theorem headAccess_modHead {c : Instr} {h : Head} {f : State → State} {s : State} {g : HeadSt → HeadSt}
    (ha : s.admits (.head h) = true) (hf : f (s.onAccess (.head h)) = (s.onAccess (.head h)).modHead h g) :
    ∃ t, volatile (access c (.head h) f) s = .next t ∧ t.head h = g (s.head h) ∧ (∀ k, k ≠ h.val → t.head k = s.head k) ∧
      t = { s.onAccess (.head h) with heads := t.heads } := by
  obtain ⟨hself, hother⟩ := s.onAccess_modHead (.head h) h g
  exact ⟨_, headAccess_ends ha hf, hself, hother, rfl⟩

/-- What an access emits as its only effect is all that it sends. -/
theorem State.onAccess_emit (s : State) (p : Path) (o : Out) : (s.onAccess p).emit o = { s.onAccess p with out := [o] } := by
  unfold State.emit
  rw [State.onAccess_out]
  rfl

/-! ## Configuration space (04 R87, R90, R106) -/

theorem cfgGet_cfgPut_self (x : HeadSt) (off : Nat) (v : Word) : cfgGet (cfgPut x off v) off = v := smGet_put_self ..

theorem cfgGet_cfgPut_ne (x : HeadSt) {n off : Nat} (v : Word) (h : n ≠ off) : cfgGet (cfgPut x off v) n = cfgGet x n :=
  smGet_put_ne _ _ _ _ h

/-- The identity dword has no bit that a write changes (04 R87). -/
theorem cfgAfter_identity (old val mask : Word) : cfgAfter old 0x000 val mask = old := by
  have hw : cfgRw 0x000 = 0#32 := rfl
  have hc : cfgW1c 0x000 = 0#32 := rfl
  simp only [cfgAfter, hw, hc, BitVec.zero_and, BitVec.and_zero, BitVec.not_zero, BitVec.and_allOnes, BitVec.or_zero]

/-- A dword outside the command register, power management, FLR, MSI-X control, DOE and the Module Service DVSEC is stored, with no
further effect. -/
theorem State.cfgWrite_plain (s : State) (h : Nat) {off : Nat} (hn : off ∉ [0x004, 0x044, 0x058, 0x090, 0x238, 0x240])
    (hs : off < 0x33C ∨ 0x358 ≤ off) (val mask : Word) : s.cfgWrite h off val mask = s.cfgStore h off val mask := by
  simp only [List.mem_cons, List.not_mem_nil, or_false, not_or] at hn
  obtain ⟨h1, h2, h3, h4, h5, h6⟩ := hn
  have hms : ¬ (0x33C ≤ off ∧ off < 0x358) := by omega
  unfold State.cfgWrite
  split
  · exact absurd rfl h1
  · exact absurd rfl h2
  · exact absurd rfl h3
  · exact absurd rfl h4
  · exact absurd rfl h5
  · exact absurd rfl h6
  · exact if_neg hms

/-- With no FLR in progress an aligned plain dword is stored. -/
theorem configWrite_plain {s : State} {h : Head} {off : BitVec 12} (hc : (s.head h).crs = false) (ha : off.toNat % 4 = 0)
    (hn : off.toNat ∉ [0x004, 0x044, 0x058, 0x090, 0x238, 0x240]) (hs : off.toNat < 0x33C ∨ 0x358 ≤ off.toNat) (val : Word)
    (be : BitVec 4) : configWrite h off val be s = s.modHead h fun x =>
      cfgPut x off.toNat (cfgAfter (cfgGet x off.toNat) off.toNat val (dwordMask be)) := by
  unfold configWrite
  rw [if_neg (by simp [ha]), if_neg (by simp [hc])]
  exact s.cfgWrite_plain h hn hs val (dwordMask be)

/-- Settles O22: each admitted write of configuration space stores one dword of the head, or its D3hot, or nothing. -/
theorem configurationWrites : Obligations.ConfigurationWrites := by
  unfold Obligations.ConfigurationWrites
  refine ⟨fun h off val be s ha hal hc => ?retry, fun h val be s ha hc => ?identity, fun h off val be s ha hc hal hn hs => ?plain,
    fun h st s ha hst => ?taken, fun h st s ha hst => headAccess_ends ha (if_pos hst)⟩
  case retry =>
    have hx : configWrite h off val be (s.onAccess (.head h)) = { s.onAccess (.head h) with out := [.cfgErr h] } := by
      rw [configWrite, if_neg (by simp [hal]), if_pos (by simp [hc]), State.onAccess_emit]
    exact headAccess_ends ha hx
  case identity =>
    have hc' : ((s.onAccess (.head h)).head h).crs = false := by rw [State.onAccess_head, hc]
    obtain ⟨t, hx, hself, -, ht⟩ := headAccess_modHead (c := .configWrite h 0x000 val be) ha
      (configWrite_plain (off := 0x000) hc' (by decide) (by decide) (by decide) val be)
    refine ⟨t, hx, ?_, ht⟩
    rw [hself]
    exact (cfgGet_cfgPut_self ..).trans (cfgAfter_identity ..)
  case plain =>
    have hc' : ((s.onAccess (.head h)).head h).crs = false := by rw [State.onAccess_head, hc]
    obtain ⟨t, hx, hself, hother, ht⟩ := headAccess_modHead (c := .configWrite h off val be) ha (configWrite_plain hc' hal hn hs val be)
    refine ⟨t, hx, ?_, fun n hne => ?_, hother, ht⟩
    · rw [hself, cfgGet_cfgPut_self]
    · rw [hself, cfgGet_cfgPut_ne _ _ hne]
  case taken =>
    have hne : ¬ (st = 1 ∨ st = 2) := by omega
    exact headAccess_modHead (f := powerStateWrite h st) (g := fun x => { x with d3hot := decide (st = 3) }) ha (if_neg hne)

/-! ## MSI-X (04 R94) -/

theorem State.sendPending_keeps (P : State → Prop) (hout : ∀ s o, P s → P (s.emit o))
    (hpba : ∀ s h b, P s → P (s.modHead h fun x => { x with pba := x.pba &&& b })) {s : State} (h : Nat) (hs : P s) :
    P (s.sendPending h) := by
  unfold State.sendPending
  dsimp only
  split
  · exact hs
  · exact State.each_keeps P _ _ (fun v t ht => hpba _ h (~~~(pbaBit v)) (hout _ _ ht)) hs

theorem State.sendPending_core (s : State) (h k : Nat) : (s.sendPending h).headCore k = s.headCore k :=
  State.sendPending_keeps (fun t => t.headCore k = s.headCore k) (fun _ _ e => e) (fun _ _ _ e => (State.modHead_core ..).trans e) h rfl

theorem State.sendPending_off (s : State) (h : Nat) : (s.sendPending h).offHeads = s.offHeads :=
  State.sendPending_keeps (fun t => t.offHeads = s.offHeads) (fun _ _ e => e) (fun _ _ _ e => e) h rfl

/-- What a signalled cause may change, and nothing else. -/
theorem State.eq_of_offHeads {s t : State} (h : t.offHeads = s.offHeads) : t = { s with out := t.out, heads := t.heads } :=
  congrArg (fun x : State => { x with out := t.out, heads := t.heads }) h

/-- The unmasked entry of the table, before what waited on it goes. -/
def State.unmasked (s : State) (h : Head) (v : Fin 2048) : State :=
  s.modHead h fun x => { x with msix := smSet x.msix v { msixEntry x v with mask := false } }

theorem State.unmasked_mask (s : State) (h : Head) (v : Fin 2048) : (msixEntry ((s.unmasked h v).head h) v).mask = false := by
  unfold State.unmasked msixEntry
  rw [State.modHead_head_self, smGet_set_self]

/-! ## The attention button (04 R100) -/

/-- LATCH of one copy sets, and vector 33 rises where ATTN_IE is set and LATCH was clear. -/
def State.attnCopy (s : State) (m : Nat) : State :=
  if !s.fone MS_ATTN.LATCH m && decide (m < 16) && (s.fset MS_ATTN.LATCH m 1).fone MS_CTL.ATTN_IE m then
    (s.fset MS_ATTN.LATCH m 1).signalHead 33 m
  else s.fset MS_ATTN.LATCH m 1

theorem attnPress_eq (s : State) : attnPress s = s.each (List.range 17) fun m s => s.attnCopy m := rfl

theorem State.attnCopy_off (s : State) (m : Nat) : (s.attnCopy m).offCount = s.offCount := by
  unfold State.attnCopy
  split
  · exact (offCount_of_offHeads (State.signalHead_off ..)).trans rfl
  · rfl

theorem State.attnCopy_fget (s : State) (m : Nat) (f : Fld) (i : Nat) :
    (s.attnCopy m).fget f i = (s.fset MS_ATTN.LATCH m 1).fget f i := by
  unfold State.attnCopy
  split
  · exact State.signalHead_fget ..
  · rfl

/-- Over a list of copies: those of the list have LATCH set, and no other field changes. -/
theorem State.attnCopies_latch (s : State) (l : List Nat) (m : Nat) :
    (s.each l fun m s => s.attnCopy m).fget MS_ATTN.LATCH m = if m ∈ l then 1 else s.fget MS_ATTN.LATCH m := by
  induction l generalizing s with
  | nil => rfl
  | cons k l ih =>
    rw [State.each_cons, ih, State.attnCopy_fget]
    by_cases hk : m = k
    · subst hk
      rw [State.fget_fset_self]
      simp [MS_ATTN.LATCH]
    · rw [State.fget_fset_inst _ _ hk]
      simp [hk]

theorem attnPress_regs (s : State) : RegsSame [MS_ATTN.LATCH] s (attnPress s) :=
  State.each_keeps (fun t => RegsSame [MS_ATTN.LATCH] s t) _ _ (fun m t e => (e.fset m 1 (by decide)).trans fun f i _ _ =>
    t.attnCopy_fget m f i) (RegsSame.refl (s := s))

/-- Settles O23: the entry stays unmasked while its message goes, the DOE instance answers, and each copy's LATCH sets in turn. -/
theorem msixDoeAttention : Obligations.MsixDoeAttention := by
  unfold Obligations.MsixDoeAttention
  refine ⟨fun h v s ha hm => ?unmask, fun h s ha => ?abort, fun h s ha => ?discovery, fun h n len s ha hl => ?table,
    fun h n len s ha hl => ?tooLong, fun s => ?press⟩
  case unmask =>
    have hx : msixUnmask h v (s.onAccess (.head h)) = ((s.onAccess (.head h)).unmasked h v).sendPending h :=
      if_neg (by simp [hm])
    have hoff := ((s.onAccess (.head h)).unmasked h v).sendPending_off h
    have hcore := ((s.onAccess (.head h)).unmasked h v).sendPending_core h h
    have hmask := (s.onAccess (.head h)).unmasked_mask h v
    generalize ((s.onAccess (.head h)).unmasked h v).sendPending h = t at hx hoff hcore
    have hmsix : (t.head h).msix = (((s.onAccess (.head h)).unmasked h v).head h).msix := (congrArg HeadSt.msix hcore :)
    have hnv : t.nv = (s.onAccess (.head h)).nv := (congrArg State.nv hoff :)
    have hpend : t.pending = (s.onAccess (.head h)).pending := (congrArg State.pending hoff :)
    refine ⟨t, headAccess_ends ha hx (by simp [hnv]) (by simp [hpend]), ?_, State.eq_of_offHeads (s := s.onAccess (.head h)) hoff⟩
    rw [msixEntry, hmsix]
    exact hmask
  case abort => exact headAccess_modHead (f := doeAbort h) (g := fun x => { x with doe := [] }) ha rfl
  case discovery =>
    exact ⟨headAccess_ends ha (State.onAccess_emit ..), headAccess_ends ha (State.onAccess_emit ..),
      headAccess_ends ha (State.onAccess_emit ..), headAccess_ends ha (State.onAccess_emit ..)⟩
  case table => exact headAccess_ends ha ((if_neg (by omega)).trans (State.onAccess_emit ..))
  case tooLong => exact headAccess_ends ha ((if_pos hl).trans (State.onAccess_emit ..))
  case press =>
    have hoff : (attnPress s.clearOut).offCount = s.offCount :=
      State.each_inv State.offCount _ _ (fun m s => s.attnCopy_off m) s.clearOut
    have hlatch (m : Nat) (hm : m < 17) : (attnPress s.clearOut).fget MS_ATTN.LATCH m = 1 := by
      rw [attnPress_eq, State.attnCopies_latch, if_pos (List.mem_range.mpr hm)]
    have hregs := (RegsSame.clearOut (s := s)).trans (attnPress_regs s.clearOut)
    generalize hx : attnPress s.clearOut = t at hoff hlatch hregs
    exact ⟨t, volatile_ends hx (congrArg State.nv hoff :) (congrArg State.pending hoff :), hlatch, State.eq_of_offCount hoff, hregs⟩

end Sys2Proof.Machine
end

section
/-! PROOF. The board record and the firmware slots as management commands write them. -/

namespace Sys2Proof.Machine

open Sys2Proof

/-- A management command that the Bench serves runs its effect, and ends in the state that the effect leaves. -/
theorem lasting_adminReady {c : Instr} {p : Path} {go : State → State} {s : State} (ha : s.adminReady p = true)
    (hp : (go (s.onMailbox p)).pending = s.pending) :
    lasting (access c p fun s => s.adminCmd p go) s = .next (go (s.onMailbox p)) := by
  simp only [State.adminReady, Bool.and_eq_true, Bool.not_eq_true'] at ha
  obtain ⟨⟨hadm, hpath⟩, hfw⟩ := ha
  have hfw' : ¬ (s.onMailbox p).boot.fwRestart = true := by simp [hfw]
  have hpath' : (s.onMailbox p).admin p = true := by simp [hpath]
  have hgo : (s.onAccess p).adminCmd p go = go (s.onMailbox p) := (if_neg hfw').trans (if_pos hpath')
  unfold lasting
  rw [access_admits c p _ s hadm, hgo, ← hp]

/-- The slot that a good firmware image goes to while the other runs: the one that does not run (17 R410). -/
def NonVol.putIdle (n : NonVol) (runs : Nat) (img : List Byte) : NonVol :=
  if runs == 0 then { n with fwB := img } else { n with fwA := img }

section
variable (n : NonVol) (runs : Nat) (img : List Byte)

theorem fwSlotImg_putIdle_idle : fwSlotImg (n.putIdle runs img) (if runs = 0 then 1 else 0) = img := by
  unfold NonVol.putIdle fwSlotImg
  by_cases h : runs = 0 <;> simp [h]

theorem fwSlotImg_putIdle_running : fwSlotImg (n.putIdle runs img) runs = fwSlotImg n runs := by
  unfold NonVol.putIdle fwSlotImg
  by_cases h : runs = 0 <;> simp [h]

theorem NonVol.putIdle_eq : n.putIdle runs img = { n with fwA := (n.putIdle runs img).fwA, fwB := (n.putIdle runs img).fwB } := by
  unfold NonVol.putIdle
  split <;> rfl

end

/-- BOARD_WRITE as the Bench serves it (04 R88). -/
theorem exec_boardWrite {p : Path} {s : State} (ha : s.adminReady p = true) (r : List Byte) : exec (.boardWrite p r) s = .next
    (if 2 < lifecycle s.nv then (s.onMailbox p).reply p .unsupported
      else if (boardIds r).isNone then (s.onMailbox p).reply p .invalidInput
      else { (s.onMailbox p).reply p .success with nv := { s.nv with board := r } }) := by
  refine (lasting_adminReady ha ?_).trans ?_
  · split
    · simp
    · split <;> simp
  · rw [State.onMailbox_nv]
    rfl

/-- FW_ADVANCE with a firmware that runs (17 R410). -/
theorem exec_fwAdvance {p : Path} {s : State} (ha : s.adminReady p = true) (hf : s.boot.fwUp = true) : exec (.fwAdvance p) s = .next
    { (s.onMailbox p).reply p .success with nv := { s.nv with fwFused := max s.nv.fwFused (s.fget SEC_LC.FW_IMAGE) } } := by
  have hf' : ¬ (!(s.onMailbox p).boot.fwUp) = true := by simp [hf]
  refine (lasting_adminReady ha ?_).trans ?_
  · rw [if_neg hf']
    exact s.onMailbox_pending p
  · rw [if_neg hf', State.onMailbox_nv, s.onMailbox_regs p SEC_LC.FW_IMAGE 0 (by decide) (by decide)]
    rfl

/-- FW_WRITE_SLOT refuses an image that fails a check (17 R410). -/
theorem exec_fwWriteSlot_bad {p : Path} {s : State} (ha : s.adminReady p = true) {img : List Byte}
    (hi : (checkFirmware s.nv img).isSome = true) (b ok : Bool) :
    exec (.fwWriteSlot p img b ok) s = .next ((s.onMailbox p).reply p .invalidInput) := by
  have hi' : (checkFirmware (s.onMailbox p).nv img).isSome = true := by rw [State.onMailbox_nv, hi]
  refine (lasting_adminReady ha ?_).trans ?_
  · rw [if_pos hi']
    exact s.onMailbox_pending p
  · rw [if_pos hi']

/-- FW_WRITE_SLOT with a good image, beside a firmware that runs (17 R410). -/
theorem exec_fwWriteSlot_idle {p : Path} {s : State} (ha : s.adminReady p = true) {img : List Byte} (hi : checkFirmware s.nv img = none)
    (hf : s.boot.fwUp = true) (b ok : Bool) : exec (.fwWriteSlot p img b ok) s = .next
      { (s.onMailbox p).reply p (if ok then .success else .internalError) with
        nv := s.nv.putIdle s.boot.fwSlot (slotAfter img ok) } := by
  have hi' : ¬ (checkFirmware (s.onMailbox p).nv img).isSome = true := by rw [State.onMailbox_nv, hi]; decide
  have hf' : (s.onMailbox p).boot.fwUp = true := by rw [State.onMailbox_boot, hf]
  refine (lasting_adminReady ha ?_).trans ?_
  · rw [if_neg hi']
    exact s.onMailbox_pending p
  · rw [if_neg hi', if_pos hf', ← s.onMailbox_nv p, ← s.onMailbox_boot p]
    rfl

/-- Settles O35: a served command writes the record, the fused counter or the idle slot, and answers. -/
theorem boardAndFirmwareCommands : Obligations.BoardAndFirmwareCommands := by
  unfold Obligations.BoardAndFirmwareCommands
  refine ⟨fun p r s ha hl hr => ?written, fun p r s ha hl hr => ?invalid, fun p r s ha hl => ?late, fun p s ha hf => exec_fwAdvance ha hf,
    fun p img b ok s ha hi hf => ?slot, fun p img b ok s ha hi => exec_fwWriteSlot_bad ha hi b ok⟩
  case written => rw [exec_boardWrite ha, if_neg (Nat.not_lt.mpr hl), if_neg (by simp [Option.isSome_iff_ne_none.mp hr])]
  case invalid => rw [exec_boardWrite ha, if_neg (Nat.not_lt.mpr hl), if_pos (by simp [hr])]
  case late => rw [exec_boardWrite ha, if_pos hl]
  case slot =>
    refine ⟨_, exec_fwWriteSlot_idle ha hi hf b ok, fwSlotImg_putIdle_idle .., fwSlotImg_putIdle_running .., ?_, ?_⟩
    · exact List.mem_append_right _ List.mem_cons_self
    · rw [NonVol.putIdle_eq]

end Sys2Proof.Machine
end

section
/-! PROOF. Completions of device-issued requests: in time, timed out, late, unexpected. -/

namespace Sys2Proof.Machine

open Sys2Proof

/-! ## A host request of an operation ends (12 R307, R313) -/

/-- The state without what the end of a host request reaches: what a counted event does, and the drawers. -/
def State.offDma (s : State) : State := { s.offCount with drw := {} }

theorem State.eq_of_offDma {s t : State} (h : t.offDma = s.offDma) :
    t = { s with out := t.out, regs := t.regs, heads := t.heads, drw := t.drw } :=
  congrArg (fun x : State => { x with out := t.out, regs := t.regs, heads := t.heads, drw := t.drw }) h

/-- The end of a host request changes the drawers, and counts one that was late for its generation. -/
theorem State.dmaEnded_keeps (P : State → Prop) (hdrw : ∀ s x, P s → P { s with drw := x })
    (hset : ∀ s i v, P s → P (s.fset DRW_STAT.STALE i v)) (hcount : ∀ s u ev a, P s → P (s.count u ev a)) {s : State} (o tag : Nat)
    (failed : Option Nat) (hs : P s) : P (s.dmaEnded o tag failed) := by
  unfold State.dmaEnded
  split
  · exact hs
  · dsimp only
    split
    · split
      · exact hdrw _ _ (hcount _ _ _ _ (hset _ _ _ (hdrw _ _ hs)))
      · exact hcount _ _ _ _ (hset _ _ _ (hdrw _ _ hs))
    · split
      · exact hdrw _ _ (hdrw _ _ hs)
      · exact hdrw _ _ hs

section
variable (s : State) (o tag : Nat) (failed : Option Nat)

theorem State.dmaEnded_off : (s.dmaEnded o tag failed).offDma = s.offDma :=
  State.dmaEnded_keeps (fun t => t.offDma = s.offDma) (fun _ _ e => e) (fun _ _ _ e => e)
    (fun t u ev a e => (congrArg (fun x : State => { x with drw := {} }) (t.count_off u ev a 1) :).trans e) o tag failed rfl

theorem State.dmaEnded_core (h : Nat) : (s.dmaEnded o tag failed).headCore h = s.headCore h :=
  State.dmaEnded_keeps (fun t => t.headCore h = s.headCore h) (fun _ _ e => e) (fun _ _ _ e => e)
    (fun t u ev a e => (t.count_core u ev a 1 h).trans e) o tag failed rfl

theorem State.dmaEnded_regs : RegsSame ([DRW_STAT.STALE] ++ pmuFlds) s (s.dmaEnded o tag failed) :=
  State.dmaEnded_keeps (fun t => RegsSame ([DRW_STAT.STALE] ++ pmuFlds) s t) (fun _ _ e => e) (fun _ i v e => e.fset i v (by decide))
    (fun t u ev a e => e.trans ((t.count_regs u ev a 1).mono (by decide))) o tag failed RegsSame.refl

end

/-! ## Tags of a head (04 R108) -/

/-- A request reported as timed out (04 R108): AER's Completion Timeout set, the timeout counted, the tag quarantined. -/
def State.timedOut (s : State) (h tag : Nat) : State := ((s.aer h 14).finc HP_CTO.TIMEOUTS h).quarantine h tag 0

theorem State.timedOut_head (s : State) (h tag : Nat) : (s.timedOut h tag).head h =
    { cfgPut (s.head h) 0x104 (cfgGet (s.head h) 0x104 ||| (1#32 <<< 14)) with
      tags := smDel (s.head h).tags tag, quar := smSet (s.head h).quar tag (s.wclk, 0) } := by
  have hinc (t : State) : (t.finc HP_CTO.TIMEOUTS h).head h = t.head h := rfl
  unfold State.timedOut State.quarantine
  rw [State.modHead_head_self, hinc, State.aer, State.modHead_head_self]
  rfl

theorem completionTimeout_eq {s : State} {h : Head} {tag : BitVec 14} {o : Nat} {at_ : Time}
    (hf : smFind? (s.head h).tags tag.toNat = some (o, at_)) (hd : (cfgGet (s.head h) 0x078).getLsbD 4 = false)
    (he : s.elapsed at_ (usT (s.cto h).1) = true) :
    completionTimeout h tag s = (s.timedOut h tag.toNat).dmaEnded o tag.toNat (some 0x80000000) := by
  unfold completionTimeout
  rw [hf]
  refine if_neg ?_
  rw [hd, he]
  decide

/-- A completion in time ends its request (04 R108). -/
theorem hostCompletion_inTime {s : State} {h : Head} {tag : BitVec 14} {o : Nat} {at_ : Time} (hl : s.linkReady h = true)
    (hf : smFind? (s.head h).tags tag.toNat = some (o, at_)) (st : CplStatus) :
    hostCompletion h tag st s = (s.modHead h fun x => { x with tags := smDel x.tags tag.toNat }).dmaEnded o tag.toNat
      (if st = .success then none else some 0) := by
  unfold hostCompletion
  rw [if_neg (by simp [hl])]
  simp only [hf]

/-- A completion on a tag that has timed out is discarded and counted (04 R108). -/
theorem hostCompletion_late {s : State} {h : Head} {tag : BitVec 14} {at_ : Time} (hl : s.linkReady h = true)
    (hf : smFind? (s.head h).tags tag.toNat = none) (hq : smFind? (s.head h).quar tag.toNat = some (at_, 0)) (st : CplStatus) :
    hostCompletion h tag st s = ((s.modHead h fun x => { x with quar := smDel x.quar tag.toNat }).finc HP_DROP.LATE_CPL h).count 0 6
      { head := some h.val } := by
  unfold hostCompletion
  rw [if_neg (by simp [hl])]
  simp only [hf, hq, if_true]

/-- Settles O20: each event changes the head's tags, and a counter or AER; what ends an operation's request reaches its drawer. -/
theorem hostCompletions : Obligations.HostCompletions := by
  unfold Obligations.HostCompletions
  refine ⟨fun h tag o at_ s hf hd he => ?timeout, fun h tag at_ why s hq he => ?expiry, fun h tag st o at_ s hl hf => ?inTime,
    fun h tag st at_ s hl hf hq => ?late, fun h tag st s hl hf hq => ?unexpected⟩
  case timeout =>
    have hx := completionTimeout_eq (s := s.clearOut) hf hd he
    have hhead := s.clearOut.timedOut_head h tag.toNat
    have hcount : (s.clearOut.timedOut h tag.toNat).fget HP_CTO.TIMEOUTS h =
        min (2 ^ HP_CTO.TIMEOUTS.width - 1) (s.fget HP_CTO.TIMEOUTS h + 1) := (s.clearOut.aer h 14).finc_fget_self HP_CTO.TIMEOUTS h
    have hwrote : RegsSame [HP_CTO.TIMEOUTS] s (s.clearOut.timedOut h tag.toNat) :=
      RegsSame.fset (t := s.clearOut.aer h 14) RegsSame.refl _ _ (by decide)
    have hoff := (s.clearOut.timedOut h tag.toNat).dmaEnded_off o tag.toNat (some 0x80000000)
    have hcore := (s.clearOut.timedOut h tag.toNat).dmaEnded_core o tag.toNat (some 0x80000000) h
    have hregs := (s.clearOut.timedOut h tag.toNat).dmaEnded_regs o tag.toNat (some 0x80000000)
    generalize (s.clearOut.timedOut h tag.toNat).dmaEnded o tag.toNat (some 0x80000000) = t at hx hoff hcore hregs
    have htags : (t.head h).tags = ((s.clearOut.timedOut h tag.toNat).head h).tags := (congrArg HeadSt.tags hcore :)
    have hquar : (t.head h).quar = ((s.clearOut.timedOut h tag.toNat).head h).quar := (congrArg HeadSt.quar hcore :)
    have hcfg : cfgGet (t.head h) 0x104 = cfgGet ((s.clearOut.timedOut h tag.toNat).head h) 0x104 :=
      (congrArg (cfgGet · 0x104) hcore :)
    refine ⟨t, volatile_ends hx (congrArg State.nv hoff :) (congrArg State.pending hoff :), ?_, ?_, ?_, ?_,
      State.eq_of_offDma (s := s) hoff, (hwrote.mono (by decide)).trans (hregs.mono (by decide))⟩
    · rw [hquar, hhead, smFind?_set_self]
      rfl
    · rw [htags, hhead, smFind?_del_self]
    · have haer : cfgGet (t.head h) 0x104 = cfgGet (s.head h) 0x104 ||| (1#32 <<< 14) := by
        rw [hcfg, hhead]
        exact cfgGet_cfgPut_self ..
      rw [haer, BitVec.getLsbD_or]
      simp
    · rw [hregs _ _ (by decide) (by decide), hcount]
  case expiry =>
    have hx : tagQuarantineExpiry h tag s.clearOut = s.clearOut.modHead h fun x => { x with quar := smDel x.quar tag.toNat } := by
      have hq' : smFind? (s.clearOut.head h).quar tag.toNat = some (at_, why) := hq
      unfold tagQuarantineExpiry
      rw [hq']
      exact if_pos he
    exact ⟨_, volatile_ends hx rfl rfl, State.modHead_head_self .., fun k hk => State.modHead_head_ne _ _ hk, rfl⟩
  case inTime =>
    have hx := hostCompletion_inTime (s := s.clearOut) hl hf st
    generalize hu : (s.clearOut.modHead h fun x => { x with tags := smDel x.tags tag.toNat }) = u at hx
    generalize (if st = .success then none else some 0) = failed at hx
    have hoff := (u.dmaEnded_off o tag.toNat failed).trans (hu ▸ rfl : u.offDma = s.offDma)
    have htags : ((u.dmaEnded o tag.toNat failed).head h).tags = (u.head h).tags :=
      (congrArg HeadSt.tags (u.dmaEnded_core o tag.toNat failed h) :)
    have hregs : RegsSame ([DRW_STAT.STALE] ++ pmuFlds) s (u.dmaEnded o tag.toNat failed) :=
      (RegsSame.of_regs (hu ▸ rfl : u.regs = s.regs)).trans (u.dmaEnded_regs o tag.toNat failed)
    refine ⟨_, volatile_ends hx (congrArg State.nv hoff :) (congrArg State.pending hoff :), ?_, State.eq_of_offDma hoff,
      hregs.mono (by decide)⟩
    rw [htags, ← hu, State.modHead_head_self, smFind?_del_self]
  case late =>
    have hx := hostCompletion_late (s := s.clearOut) hl hf hq st
    generalize hu : (s.clearOut.modHead h fun x => { x with quar := smDel x.quar tag.toNat }) = u at hx
    have hoff : ((u.finc HP_DROP.LATE_CPL h).count 0 6 { head := some h.val }).offCount = s.offCount :=
      (State.count_off ..).trans (hu ▸ rfl : u.offCount = s.offCount)
    have hquar : (((u.finc HP_DROP.LATE_CPL h).count 0 6 { head := some h.val }).head h).quar = (u.head h).quar :=
      (congrArg HeadSt.quar (State.count_core _ 0 6 { head := some h.val } 1 h) :)
    refine ⟨_, volatile_ends hx (congrArg State.nv hoff :) (congrArg State.pending hoff :), ?_, ?_, (congrArg State.drw hoff :)⟩
    · rw [hquar, ← hu, State.modHead_head_self, smFind?_del_self]
    · rw [State.count_regs _ 0 6 _ 1 _ _ (by decide) (by decide), State.finc_fget_self, ← hu]
      rfl
  case unexpected =>
    have hx : hostCompletion h tag st s.clearOut = s.clearOut.aer h 16 := by
      have hl' : s.clearOut.linkReady h = true := hl
      have hf' : smFind? (s.clearOut.head h).tags tag.toNat = none := hf
      have hq' : smFind? (s.clearOut.head h).quar tag.toNat = none := hq
      unfold hostCompletion
      rw [if_neg (by simp [hl'])]
      simp only [hf', hq']
    exact volatile_ends hx rfl rfl

end Sys2Proof.Machine
end

section
/-! PROOF. Function-level reset: the report that the reset of a drawer makes reaches the head's own event log. -/

namespace Sys2Proof.Machine

open Sys2Proof

@[simp] theorem State.kept_head (s t : State) (h : Nat) : (s.kept t).head h = t.head h := rfl

/-- An operation of drawer 0 fetched under generation 0. -/
def agedOp : Op where
  desc := { op := 0, irq := false, quiet := false, allRings := false, flagsReserved := 0, irqe := 0, reserved3 := 0, id := 0, src := 0, dst := 0
            len := 0, dmax := 0, sattr := { reserved := 0, dpa := false, dev := false, key := 0 }
            dattr := { reserved := 0, dpa := false, dev := false, key := 0 }, reserved24 := 0, pattern := 0, reserved30 := 0 }

/-- Head 0 with its link up and drawer 0, an ordinary one, bound to it; an operation of generation 0 stands while the drawer is at
generation 40,000, and DRW class 4 is in fault state from an earlier report, not
acknowledged. -/
def agedDrawer : State :=
  let s := ((State.reset.fset GLB_HEADS.ENABLED 0 1).fset HP_LINK.UP 0 1).modHead 0 fun x => { x with presence := 2, perst := false }
  let s := ((s.fset DRW_BIND.EN 0 1).fset DRW_BIND.PRIV 0 0).fset DRW_STATE.GEN 0 40000
  let s := (s.fset FLT_STATUS.CLASS setDRW 8).fset FLT_ACK.UNACK setDRW 8
  { s with drw := { s.drw with maxDrawers := 1, ops := [(0, agedOp)] } }

theorem agedDrawer_before : agedDrawer.admits (.head 0) = true ∧ (agedDrawer.head (0 : Head)).perst = false ∧ (agedDrawer.head (0 : Head)).logs = [] := by
  decide +kernel

/-- The reset of the drawer squashes the operation as too old and reports DRW class 4 again (12 R314, R319): it escalates to L1, and the
record goes to the Warning log of the drawer's head (16 R382, R391). -/
theorem initiateFlr_agedDrawer_logs : ((initiateFlr 0 (agedDrawer.onAccess (.head 0))).head (0 : Head)).logs =
    [(1, [{ kind := 4, set := setDRW, cls := 4, addr := 0 }])] := by decide +kernel

/-- Refutes O21: an FLR whose drawer reset reports an operation as too old adds to the head's event log. -/
theorem not_functionResetAndBusMaster : ¬ Obligations.FunctionResetAndBusMaster := by
  unfold Obligations.FunctionResetAndBusMaster
  rintro ⟨hflr, -⟩
  obtain ⟨hadmits, hperst, hbefore⟩ := agedDrawer_before
  obtain ⟨t, hx, -, -, -, hlogs, -⟩ := hflr 0 agedDrawer hadmits hperst
  have ht : exec (.initiateFlr 0) agedDrawer = .next (agedDrawer.kept (initiateFlr 0 (agedDrawer.onAccess (.head 0)))) :=
    volatile_access_admits _ _ _ _ hadmits
  rw [Host.Outcome.next.inj (hx.symm.trans ht), State.kept_head, initiateFlr_agedDrawer_logs, hbefore] at hlogs
  exact absurd hlogs (List.cons_ne_nil _ _)

end Sys2Proof.Machine
end

section
/-! PROOF. The loss of a head's pointer (04 R103; 06 R155-R157): the register fields that the requests, snoops and directory entries
of a lost head can write on their way out. -/

namespace Sys2Proof.Machine

open Sys2Proof

-- Many short proofs at once would pass the memory limit with the stacks of their threads.
set_option Elab.async false

/-! ## Register fields that requests write on their way -/

/-- Register fields that a transaction's way through COH, Press, Sluice and its answer can write. -/
def lineFlds : List Fld :=
  [COH_RETRY.HELD, COH_TTUSE0.PEAK, PRS_FETCHED.FETCHED, DRW_STAT.STALE, PMU_DYESTAT.THR] ++ pmuFlds ++ faultFlds

/-- Two states whose registers differ in those fields only. -/
structure LineRegs (s t : State) : Prop where
  same : RegsSame lineFlds s t

theorem LineRegs.refl (s : State) : LineRegs s s := ⟨RegsSame.refl⟩

namespace LineRegs

variable {s t : State} (h : LineRegs s t)
include h

/-- A step that writes no register is passed over. -/
theorem pass {u : State} (e : u.regs = t.regs := by rfl) : LineRegs s u := ⟨h.same.trans (RegsSame.of_regs e)⟩

theorem set {g : Fld} {j v : Nat} (hg : g.id < 1024 ∧ g.id ∈ lineFlds.map (·.id) := by decide) : LineRegs s (t.fset g j v) :=
  ⟨h.same.fset j v hg⟩

theorem emit (o : Out) : LineRegs s (t.emit o) := h.pass

theorem phase (n : Nat) (p : Phase) : LineRegs s (t.phase n p) := h.pass

theorem dropOp (o : Nat) : LineRegs s (t.dropOp o) := h.pass

theorem count {u ev : Nat} {a : Attr} {k : Nat} : LineRegs s (t.count u ev a k) :=
  ⟨h.same.trans ((t.count_regs u ev a k).mono (by decide))⟩

theorem report {set code : Nat} {c : Capture} {base : Nat} : LineRegs s (t.report set code c base) :=
  ⟨h.same.trans ((t.report_regs set code c base).mono (by decide))⟩

theorem signal {v : Nat} : LineRegs s (t.signal v) := ⟨h.same.trans fun f i _ _ => t.signal_fget v f i⟩

theorem ite {c : Prop} [Decidable c] {u : State} (k : LineRegs s u) : LineRegs s (if c then t else u) := by
  split
  · exact h
  · exact k

theorem each {α : Type} {l : List α} {f : α → State → State} (hf : ∀ a u, LineRegs s u → LineRegs s (f a u)) :
    LineRegs s (t.each l f) :=
  State.each_keeps (LineRegs s) l f hf h

/-! ## The transaction table and the line locks (06 R138-R140) -/

theorem enterCoh (n : Nat) : LineRegs s (t.enterCoh n) := by
  unfold State.enterCoh
  split
  · exact h
  · refine h.pass.ite ?_
    unfold State.fpeak
    exact h.pass.set.ite h.pass

theorem admitWaiting : LineRegs s t.admitWaiting := h.each fun n _ hu => hu.enterCoh n

theorem unlock (ln : Nat) : LineRegs s (t.unlock ln) := by
  unfold State.unlock
  split
  · exact h
  · exact h.pass.admitWaiting

theorem unlockBy (n ln : Nat) : LineRegs s (t.unlockBy n ln) := by
  unfold State.unlockBy
  split
  · exact (h.unlock ln).ite h
  · exact h

theorem dropTxn (n : Nat) : LineRegs s (t.dropTxn n) := by
  unfold State.dropTxn
  split
  · exact h
  · exact (h.pass.unlockBy n _).admitWaiting

/-! ## Answers (01 R17; 12 R313; 13 R338; 18 R435) -/

theorem sendSpan (dest op : Nat) (m : SpanMsg) : LineRegs s (t.sendSpan dest op m) := by
  unfold State.sendSpan
  dsimp only
  split
  · exact ((h.pass.ite h.pass).emit _).count
  · exact h.pass.count

theorem sendReq (dest op : Nat) (r : SpanReq) (mk : Nat → SpanMsg) : LineRegs s (t.sendReq dest op r mk).2 := by
  unfold State.sendReq
  split
  · exact h
  · exact h.pass.sendSpan dest op _

theorem opBack (o k : Nat) (line : Option (Data × Bool)) : LineRegs s (t.opBack o k line) := by
  unfold State.opBack
  split
  · exact h
  · exact h.pass.ite ((h.pass.set.count.dropOp o).ite h.pass.set.count)

theorem answerRead (x : Txn) (d : Data) (poison : Bool) : LineRegs s (t.answerRead x d poison) := by
  unfold State.answerRead
  split
  · exact h.pass.count
  · exact h.sendSpan ..
  · exact h.opBack ..
  · exact h

theorem answerWrite (x : Txn) (poison : Bool) : LineRegs s (t.answerWrite x poison) := by
  unfold State.answerWrite
  split
  · exact h.pass.count
  · exact h.sendSpan ..
  · exact h.opBack ..
  · exact h

theorem dyeRecord (x : Txn) (ch : Nat) (aborted : Bool) : LineRegs s (t.dyeRecord x ch aborted) := by
  unfold State.dyeRecord
  exact h.ite (h.pass.set.signal.ite h.pass)

theorem finishRead (n : Nat) (d : Data) (poison : Bool) : LineRegs s (t.finishRead n d poison) := by
  unfold State.finishRead
  split
  · exact h
  · exact ((h.answerRead _ _ _).dyeRecord _ _ _).dropTxn n

theorem finishWrite (n : Nat) (poison : Bool) : LineRegs s (t.finishWrite n poison) := by
  unfold State.finishWrite
  split
  · exact h
  · exact ((h.answerWrite _ _).dyeRecord _ _ _).dropTxn n

/-! ## Towards memory (01 R17, R24-R25; 08 R205) -/

theorem toCredit (n mpa : Nat) : LineRegs s (t.toCredit n mpa) := by
  unfold State.toCredit
  split
  · exact ((h.finishRead ..).ite (h.finishWrite ..)).ite h.pass
  · exact (h.finishRead ..).ite (h.finishWrite ..)
  · exact h

theorem unitStart (u : Nat) : LineRegs s (t.unitStart u) := h.pass (congrArg State.regs (t.unitStart_eq u) :)

theorem askSlabs (node loc page : Nat) (lines : List Nat) : LineRegs s (t.askSlabs node loc page lines) :=
  h.each fun _ _ hu => hu.sendReq ..

theorem toPress (n pn : Nat) (x : Txn) (p : Pme) : LineRegs s (t.toPress n pn x p) := by
  have hstart := h.unitStart 0
  unfold State.toPress
  dsimp only
  generalize t.unitStart 0 = u at hstart ⊢
  refine (h.report.finishRead ..).ite ?_
  split
  · exact hstart.pass.count
  · refine LineRegs.ite (((LineRegs.set ?_).phase _ _).askSlabs ..) ((LineRegs.set ?_).toCredit ..)
    all_goals exact hstart.pass.count.ite hstart.pass

/-! ## Snoops and moves (06 R132, R148; 09 R233-R239) -/

theorem snoop (ln : Nat) (inv : Bool) (p : Target) : LineRegs s (t.snoop ln inv p) := by
  unfold State.snoop
  dsimp only
  exact LineRegs.ite (h.pass.count.emit _).count (h.pass.count.sendSpan ..)

theorem snoopAll (ln : Nat) (inv : Bool) (l : List Target) : LineRegs s (t.snoopAll ln inv l) :=
  (h.count.ite h).each fun p _ hu => hu.snoop ln inv p

theorem moveSnoop (pn ln : Nat) : LineRegs s (t.moveSnoop pn ln) := by
  unfold State.moveSnoop
  split
  · exact h
  · exact (h.snoopAll _ _ _).pass

theorem takePage (pn : Nat) (own : Option Nat) : LineRegs s (t.takePage pn own) := by
  refine h.each fun ln u hu => ?_
  split
  · exact hu.ite hu.pass
  · exact hu.moveSnoop pn ln

theorem flushBuffer (base : Nat) (l : List BufWrite) : LineRegs s (t.flushBuffer base l) := h.each fun _ _ hu => hu.pass.ite hu.pass

theorem dropDemotion (pn : Nat) (m : Move) : LineRegs s (t.dropDemotion pn m) := (h.flushBuffer _ _).pass

/-- Drawing a page writes no register (09 R222). -/
theorem drawT0 {d : Nat} {u : State} (hd : t.drawT0 = some (d, u)) : LineRegs s u := by
  simp only [State.drawT0, Option.map_eq_some_iff, Prod.mk.injEq] at hd
  obtain ⟨g, -, -, rfl⟩ := hd
  exact h.pass

theorem pmeDrop (pn : Nat) : LineRegs s (t.pmeDrop pn) := by
  have hcatch (b : Nat) : (t.catchUp b).regs = t.regs := by
    unfold State.catchUp
    split <;> rfl
  unfold State.pmeDrop
  split
  · exact h
  · exact h.pass (hcatch _)

theorem pmeInstall (pn : Nat) : LineRegs s (t.pmeInstall pn) := by
  unfold State.pmeInstall
  refine h.ite ?_
  dsimp only
  generalize hv : (if (t.pmeWays (t.pmeSet pn)).length < 8 then t else _) = v
  have hfull : LineRegs s v := by
    subst hv
    refine h.ite ?_
    split
    · exact h.pass.pmeDrop _
    · exact h
  exact hfull.pass

theorem modMove (pn : Nat) (f : Move → Move) : LineRegs s (t.modMove pn f) := h.pass

theorem pmePin (pn : Nat) (b : Bool) : LineRegs s (t.pmePin pn b) := h.pass

theorem stall (q : List (Nat × Time)) : LineRegs s { t with slc := { t.slc with stallQ := q } } := h.pass

theorem toPromote (n pn : Nat) (x : Txn) : LineRegs s (t.toPromote n pn x) := by
  unfold State.toPromote
  extract_lets u w v v₁ v₂ m _ v₃ p v₄ l v₅ _ y z
  have hu : LineRegs s u := h.unitStart 0
  have hv : LineRegs s v := hu.pmeInstall pn
  have hv₂ : LineRegs s v₂ := hv.count.pmePin pn true
  have hv₃ : LineRegs s v₃ := hv₂.pass
  have hv₄ : LineRegs s v₄ := (hv₃.takePage pn (some n)).ite hv₃
  have hv₅ : LineRegs s v₅ := ((hv₄.modMove pn _).askSlabs ..).ite hv₄
  split
  · have hw := (hu.modMove pn fun m => { m with writers := m.writers ++ [n] }).phase n .promoting
    refine hw.ite ?_
    split
    · next hd => exact (hw.drawT0 hd).modMove _ _
    · exact hw
  · refine (hv.phase _ _).ite ?_
    split
    · next hd => exact ((hv₅.drawT0 hd).modMove _ _).phase _ _
    · have hy : LineRegs s y := hv₅.pass
      have hz : LineRegs s z := hv₅.count.phase _ _
      exact (hy.phase _ _).ite (hz.stall _)

theorem toMemory (n : Nat) : LineRegs s (t.toMemory n) := by
  unfold State.toMemory
  split
  · exact h
  · next x _ =>
    refine (h.toCredit ..).ite ?_
    extract_lets pn p v isRead plain
    have hv : LineRegs s v := h.ite h.count
    have hplain {u : State} (hu : LineRegs s u) : LineRegs s (plain u) := by
      have hkey : LineRegs s (u.pageKeyTo pn x.key) := hu.pass
      exact ((hu.report.finishRead ..).ite ((hu.finishRead ..).ite ((hu.toCredit ..).ite (hu.toPress ..)))).ite
        ((hkey.toCredit ..).ite (hu.toPromote ..))
    have hbuf (c : Prop) [Decidable c] : LineRegs s (if c then v.phase n .promoting else plain v) := (hv.phase ..).ite (hplain hv)
    split
    · exact hplain hv
    · split
      · exact (hbuf _).ite (hv.toPromote ..)
      · exact (hbuf _).ite (hv.toPromote ..)
      · exact (hbuf _).ite ((hplain (hv.dropDemotion ..)).ite (hv.phase ..))
      · exact (hplain hv).ite (hv.phase ..)

/-! ## Directory and evictions (06 R134-R143) -/

theorem modTxn (n : Nat) (f : Txn → Txn) : LineRegs s (t.modTxn n f) := h.pass

theorem dirPut (k : Nat) (e : DirEntry) : LineRegs s (t.dirPut k e) := h.pass

theorem dirDel (k : Nat) : LineRegs s (t.dirDel k) := h.pass

theorem poisonDpa (ln : Nat) : LineRegs s (t.poisonDpa ln) := by
  unfold State.poisonDpa
  refine h.pass.ite ?_
  dsimp only
  split
  · exact h.pass
  · exact h.ite (h.pass.ite h.pass)

theorem evict (way : Nat) (e : DirEntry) (n : Option Nat) (down : Bool) : LineRegs s (t.evict way e n down) := by
  unfold State.evict
  extract_lets ln l _ u
  have hu : LineRegs s u := h.pass
  exact (hu.snoopAll ..).count

theorem toRetry (n ln : Nat) : LineRegs s (t.toRetry n ln) := by
  have hq (x : Coh) : LineRegs s { t with coh := x } := h.pass
  unfold State.toRetry
  refine h.ite (LineRegs.ite ?_ ((hq _).phase ..).count)
  unfold State.finc
  exact h.set.phase ..

theorem dirDone (n : Nat) : LineRegs s (t.dirDone n) := by
  unfold State.dirDone
  split
  · exact h
  · next x _ =>
    extract_lets u cur go
    have hu : LineRegs s u := ((h.poisonDpa _).modTxn ..).ite h
    have hgo {v : State} (hv : LineRegs s v) : LineRegs s (go v) := (hv.modTxn ..).toMemory n
    split
    · exact hgo hu
    · exact hgo (hu.dirDel _)
    · exact hgo (hu.dirPut ..)
    · split
      · exact hgo (hu.dirPut ..)
      · have hfree : LineRegs s u.freeTaken := hu.pass
        exact ((hfree.evict ..).phase ..).ite (hu.phase ..)
      · exact hu.toRetry ..

/-! ## The pointer of a lost head (04 R103; 06 R155-R157) -/

theorem dropPtr (ln : Nat) (p : Target) : LineRegs s (t.dropPtr ln p) := by
  unfold State.dropPtr
  split
  · exact h
  · exact h.ite ((h.dirDel _).ite (h.dirPut ..))

theorem unkLoss (ln : Nat) : LineRegs s (t.unkLoss ln) := by
  have hmark : LineRegs s { t with coh := { t.coh with evicts := smAdj t.coh.evicts ln fun v => { v with poisonIfNoWb := true } } } := h.pass
  exact hmark.each fun _ _ hu => hu.modTxn ..

theorem resolved (p : Target) (ln : Nat) : LineRegs s (t.resolved p ln) := by
  unfold State.resolved
  extract_lets u _ v w l
  have hw : LineRegs s w := h.pass
  refine hw.each fun n a ha => ?_
  extract_lets b
  have hb : LineRegs s b := ha.modTxn ..
  split
  · exact (hb.dirDone n).ite hb
  · exact hb

theorem snoopLost (p : Target) (ln : Nat) : LineRegs s (t.snoopLost p ln) := by
  unfold State.snoopLost
  extract_lets wasM u v w
  have hu : LineRegs s u := (h.poisonDpa ln).ite h
  have hv : LineRegs s v := (hu.each fun _ _ ha => ha.modTxn ..).ite hu
  have hw : LineRegs s w := (hv.unkLoss ln).ite hv
  exact (hw.dropPtr ..).resolved ..

theorem orphan (n : Nat) (x : Txn) : LineRegs s (t.orphan n x) := ((h.dyeRecord ..).modTxn ..).unlockBy ..

theorem unqueue (n : Nat) (x : Txn) : LineRegs s (t.unqueue n x) := h.pass

theorem idleMove (pn : Nat) : LineRegs s (t.idleMove pn) := by
  unfold State.idleMove
  split
  · exact h.pass.ite h
  · exact h

theorem squashTxn (n : Nat) (x : Txn) : LineRegs s (t.squashTxn n x) := by
  have hdye := h.dyeRecord x 255 true
  unfold State.squashTxn
  split
  any_goals exact h.orphan ..
  any_goals exact hdye.modTxn ..
  · exact (h.orphan ..).ite ((hdye.unqueue ..).dropTxn _)
  · exact ((hdye.unqueue ..).dropTxn _).idleMove _

theorem squashFrom (p : Target) : LineRegs s (t.squashFrom p) := by
  refine h.each fun e u hu => ?_
  split
  · exact hu.squashTxn ..
  · exact hu

theorem scanEntry (p : Target) (key : Nat) (e : DirEntry) : LineRegs s (t.scanEntry p key e).1 := by
  unfold State.scanEntry
  extract_lets ln u
  have hu : LineRegs s u := h.evict ..
  split_ifs
  · exact hu.pass
  · exact h.unkLoss ln
  · exact h
  · exact h
  · exact (h.poisonDpa ln).dirDel key
  · exact h.dropPtr ..

/-- The scan of a directory, entry by entry. -/
theorem scanDir (p : Target) (l : List (Nat × DirEntry)) (k : Nat) :
    LineRegs s (l.foldl (fun a e => let r := a.1.scanEntry p e.1 e.2; (r.1, a.2 + r.2.toNat)) (t, k)).1 := by
  induction l generalizing t k with
  | nil => exact h
  | cons e l ih => exact ih (h.scanEntry p e.1 e.2) _

theorem pointerLost (p : Target) : LineRegs s (t.pointerLost p).1 := by
  have htimeouts : LineRegs s (t.timeoutsGone p) := h.pass
  have hsnoops : LineRegs s ((t.timeoutsGone p).snoopsLost p) := htimeouts.each fun ln _ hu => hu.snoopLost p ln
  exact (hsnoops.squashFrom p).scanDir p _ 0

/-! ## The peers and the head itself (04 R103; 13 R338) -/

theorem tellHomes (k : Nat) : LineRegs s (t.tellHomes k) := h.each fun _ _ hu => hu.sendSpan ..

theorem peerSnoopDone (k : Nat) : LineRegs s (t.peerSnoopDone k) := by
  unfold State.peerSnoopDone
  split
  · exact h
  · next q _ =>
    have hdel : LineRegs s { t with spn := { t.spn with snoops := smDel t.spn.snoops k } } := h.pass
    exact h.ite (hdel.sendSpan ..)

theorem peerSnoopHead (k ln : Nat) (left : MetaValue) : LineRegs s (t.peerSnoopHead k ln left) := by
  unfold State.peerSnoopHead
  split
  · exact h
  · next i q _ =>
    have hset (q : PeerSnoop) : LineRegs s { t with spn := { t.spn with snoops := smSet t.spn.snoops i q } } := h.pass
    exact (hset _).peerSnoopDone i

theorem peerSnoopsLost (k : Nat) : LineRegs s (t.peerSnoopsLost k) := h.each fun ln _ hu => hu.peerSnoopHead k ln .I

theorem forgetTags (k : Nat) : LineRegs s (t.forgetTags k) :=
  LineRegs.pass (LineRegs.each h (l := (t.head k).tags.map (·.2.1)) (f := fun o s => s.modOp o fun x => { x with tags := [] })
    fun _ _ hu => hu.pass)

theorem endSessions (p : Nat) : LineRegs s (t.endSessions p) := h.pass

end LineRegs

/-! ## A link that has gone (04 R103) -/

/-- A link that has gone, before its registers return to reset. -/
def State.pathGone (s : State) (h : Nat) : State :=
  ((((s.pointerLost (s.localPtr h)).1.tellHomes h).peerSnoopsLost h).forgetTags h).endSessions h

theorem State.linkGone_fst (s : State) (h : Nat) : (s.linkGone h).1 = (s.pathGone h).linkFields h := rfl

theorem State.pathGone_regs (s : State) (h : Nat) : LineRegs s (s.pathGone h) :=
  (((((LineRegs.refl s).pointerLost _).tellHomes h).peerSnoopsLost h).forgetTags h).endSessions h

theorem State.linkFields_regs (s : State) (h : Nat) : RegsSame linkFlds s (s.linkFields h) :=
  State.each_keeps_mem (RegsSame linkFlds s) linkFlds _ (fun f hf _ ht => ht.fset h 0 (by revert f; decide)) RegsSame.refl

/-- The link is down: its registers are at reset. -/
theorem State.linkFields_down (s : State) (h : Nat) : (s.linkFields h).fget HP_LINK.UP h = 0 ∧ (s.linkFields h).fget HP_LINK.LTSSM h = 0 := by
  have he : s.linkFields h = (((((s.fset HP_LINK.UP h 0).fset HP_LINK.FLIT256 h 0).fset HP_LINK.RATE h 0).fset HP_LINK.WIDTH h 0).fset
    HP_LINK.RETIMERS h 0).fset HP_LINK.LTSSM h 0 := rfl
  rw [he]
  simp (disch := decide) only [State.fget_fset_ne, State.fget_fset_self]
  decide

theorem State.linkGone_regs (s : State) (h : Nat) : RegsSame (lineFlds ++ linkFlds) s (s.linkGone h).1 :=
  ((s.pathGone_regs h).same.mono (by decide)).trans (((s.pathGone h).linkFields_regs h).mono (by decide))

end Sys2Proof.Machine
end

section
/-! PROOF. Links lost with and without notice, and PME_Turn_Off: what the loss leaves of the head and of the link's registers. -/

namespace Sys2Proof.Machine

open Sys2Proof

-- Many short proofs at once would pass the memory limit with the stacks of their threads.
set_option Elab.async false

/-! ## What a wake trigger keeps (14 R349, R357) -/

/-- Fields that a wake trigger writes: the wake sources, and the way of the power state. -/
def wakeFlds : List Fld :=
  [PWR_WAKESRC.LINK, PWR_WAKESRC.PERST, PWR_WAKESRC.SPAN, PWR_WAKESRC.SB, PWR_WAKESRC.VOTE, PWR_WAKESRC.DEBUG, PWR_WAKESRC.HEADLINK,
    PWR_STATE.SRC, PWR_STATE.PHASE, PWR_COUNT.ABORTS]

theorem wakeBit_mem {src : Nat} {f : Fld} (h : wakeBit src = some f) : f ∈ wakeFlds := by
  unfold wakeBit at h
  split at h <;> cases h <;> decide

theorem State.floodSelf_heads (s : State) (b : Bool) : (s.floodSelf b).heads = s.heads := by
  unfold State.floodSelf
  dsimp only
  split
  · rfl
  · exact (State.each_inv State.heads _ (fun p s => s.pushFlit p 3) (fun _ _ => rfl) _).trans rfl

section
variable (P : State → Prop) (hset : ∀ s, ∀ f ∈ wakeFlds, ∀ i v, P s → P (s.fset f i v)) (hcount : ∀ s ev, P s → P (s.count 10 ev))
  (hoff : ∀ s t : State, t.heads = s.heads → t.regs = s.regs → P s → P t)
include hset hcount

theorem State.wakeMark_keeps {s : State} (src h : Nat) (hs : P s) : P (s.wakeMark src h) := by
  unfold State.wakeMark
  split
  · exact hs
  · next f hf =>
    have hsrc := hcount _ 1 (hset _ PWR_STATE.SRC (by decide) 0 (if src = 7 then 3 else src) (hset s f (wakeBit_mem hf) 0 1 hs))
    dsimp only
    split
    · exact hset _ PWR_WAKESRC.HEADLINK (by decide) _ _ hsrc
    · exact hsrc

include hoff

theorem State.entryUndo_keeps {s : State} (hs : P s) : P s.entryUndo := by
  have hflood (t : State) (ht : P t) : P t.floodSelf := hoff _ _ (t.floodSelf_heads false) (t.floodSelf_regs false) ht
  have hundo : P (((s.opsGo.fset PWR_STATE.PHASE 0 4).finc PWR_COUNT.ABORTS).count 10 3) :=
    hcount _ _ (hset _ PWR_COUNT.ABORTS (by decide) _ _ (hset _ PWR_STATE.PHASE (by decide) _ _ (hoff s s.opsGo rfl rfl hs)))
  unfold State.entryUndo
  dsimp only
  generalize ((s.opsGo.fset PWR_STATE.PHASE 0 4).finc PWR_COUNT.ABORTS).count 10 3 = t at hundo ⊢
  split
  · exact hflood _ (hoff t _ rfl rfl hundo)
  · split
    · exact hflood _ hundo
    · exact hundo

/-- A wake trigger writes its fields and counts events, and no head. -/
theorem State.wakeTrigger_keeps {s : State} (src h : Nat) (hs : P s) : P (s.wakeTrigger src h) := by
  have hmark := State.wakeMark_keeps P hset hcount src h hs
  unfold State.wakeTrigger
  dsimp only
  split
  · split
    · exact hs
    · exact State.entryUndo_keeps P hset hcount hoff hmark
  · split
    · split
      · exact hmark
      · exact hs
    · split
      · exact hoff ((s.wakeMark src h).fset PWR_STATE.PHASE 0 3) _ rfl rfl (hset _ PWR_STATE.PHASE (by decide) 0 3 hmark)
      · exact hs

end

theorem State.wakeTrigger_regs (s : State) (src h : Nat) : RegsSame (wakeFlds ++ pmuFlds) s (s.wakeTrigger src h) := by
  have hid : ∀ f ∈ wakeFlds, f.id < 1024 ∧ f.id ∈ (wakeFlds ++ pmuFlds).map (·.id) := by decide
  exact State.wakeTrigger_keeps (RegsSame (wakeFlds ++ pmuFlds) s) (fun _ f hf i v ht => ht.fset i v (hid f hf))
    (fun t ev ht => ht.trans ((t.count_regs 10 ev {} 1).mono (by decide)))
    (fun _ _ _ hr ht => ht.trans (RegsSame.of_regs hr)) src h RegsSame.refl

theorem State.wakeTrigger_core (s : State) (src h k : Nat) : (s.wakeTrigger src h).headCore k = s.headCore k :=
  State.wakeTrigger_keeps (fun t => t.headCore k = s.headCore k) (fun _ _ _ _ _ e => e) (fun t ev e => (t.count_core 10 ev {} 1 k).trans e)
    (fun _ _ hh _ e => (State.heads_core hh k).trans e) src h rfl

/-! ## What the reset of a head's drawers keeps of a head -/

/-- A head without what interrupts, event records and the reset of a drawer change. -/
def HeadSt.settled (x : HeadSt) : HeadSt := { x.core with tags := [], quar := [], draining := [] }

theorem State.modHead_settled (s : State) (k : Nat) (f : HeadSt → HeadSt) (h : Nat) (hf : ∀ x, (f x).settled = x.settled) :
    ((s.modHead k f).head h).settled = (s.head h).settled := by
  by_cases hk : h = k
  · subst hk
    rw [State.modHead_head_self, hf]
  · rw [State.modHead_head_ne _ _ hk]

/-- Equal cores settle alike. -/
theorem HeadSt.settled_of_core {x y : HeadSt} (e : x.core = y.core) : x.settled = y.settled :=
  congrArg (fun z : HeadSt => { z with tags := [], quar := [], draining := [] }) e

/-- Heads that settle alike agree on the presence, and on the turn-off exchange and memory active. -/
theorem HeadSt.flags_of_settled {x y : HeadSt} (e : x.settled = y.settled) :
    x.presence = y.presence ∧ x.notice = y.notice ∧ x.turnOff = y.turnOff ∧ x.memActive = y.memActive :=
  ⟨(congrArg HeadSt.presence e :), (congrArg HeadSt.notice e :), (congrArg HeadSt.turnOff e :), (congrArg HeadSt.memActive e :)⟩

theorem State.resetBound_settled (s : State) (h : Nat) (unbind : Bool) (k : Nat) :
    ((s.resetBound h unbind).head k).settled = (s.head k).settled :=
  State.resetBound_keeps (fun t => (t.head k).settled = (s.head k).settled) (fun _ _ _ _ _ e => e) (fun _ _ e => e)
    (fun t i tag w e =>
      (t.modHead_settled i (fun x => { x with tags := smDel x.tags tag, quar := smSet x.quar tag (t.wclk, w) }) k fun _ => rfl).trans e)
    (fun t code c e => (HeadSt.settled_of_core (t.report_core setDRW code c 0 k)).trans e)
    (fun t i l e => (t.modHead_settled i (fun x => { x with draining := l }) k fun _ => rfl).trans e) h unbind rfl

theorem State.resetBound_regs (s : State) (h : Nat) (unbind : Bool) :
    RegsSame (drwResetFlds ++ faultFlds) s (s.resetBound h unbind) := by
  have hid : ∀ f ∈ drwResetFlds, f.id < 1024 ∧ f.id ∈ (drwResetFlds ++ faultFlds).map (·.id) := by decide
  exact State.resetBound_keeps (RegsSame (drwResetFlds ++ faultFlds) s) (fun _ f hf i v ht => ht.fset i v (hid f hf)) (fun _ _ ht => ht)
    (fun _ _ _ _ ht => ht) (fun t code c ht => ht.trans ((t.report_regs setDRW code c 0).mono (by decide))) (fun _ _ _ ht => ht) h unbind
    RegsSame.refl

/-! ## A link that has gone (04 R101, R103) -/

/-- With no line and no request in progress, the loss of a pointer does nothing. -/
theorem State.pointerLost_of_idle {s : State} (hcoh : s.coh = {}) (p : Target) : s.pointerLost p = (s, 0) := by
  have htimeouts : s.timeoutsGone p = s := by
    change { s with coh := { s.coh with timeouts := _ } } = s
    rw [hcoh]
    exact congrArg (fun x => { s with coh := x }) hcoh.symm
  have hsnoops : s.snoopsLost p = s := by
    unfold State.snoopsLost
    rw [hcoh]
    rfl
  have hsquash : s.squashFrom p = s := by
    unfold State.squashFrom
    rw [hcoh]
    rfl
  unfold State.pointerLost State.headScan
  rw [htimeouts, hsnoops, hsquash, hcoh]
  rfl

/-- With no line, request, snoop or template in progress, a link that goes takes the head's tags with it and no more of the head. -/
theorem State.linkGone_settled {s : State} {h : Nat} (hcoh : s.coh = {}) (htmpl : s.dec.templates = []) (hsnoops : s.spn.snoops = [])
    (htags : (s.head h).tags = []) : (((s.linkGone h).1).head h).settled = (s.head h).settled := by
  have htell : s.tellHomes h = s := by
    unfold State.tellHomes State.homesOf
    rw [htmpl]
    rfl
  have hpeers : s.peerSnoopsLost h = s := by
    unfold State.peerSnoopsLost
    rw [hsnoops]
    rfl
  have hforget : s.forgetTags h = s.modHead h fun x => { x with tags := [], quar := [] } := by
    unfold State.forgetTags
    rw [htags]
    rfl
  have hfields (t : State) : (t.linkFields h).head h = t.head h :=
    State.each_inv (State.head · h) linkFlds (fun f u => u.fset f h 0) (fun _ _ => rfl) t
  have hsessions (t : State) : (t.endSessions h).head h = t.head h := rfl
  rw [State.linkGone_fst, State.pathGone, State.pointerLost_of_idle hcoh, htell, hpeers, hfields, hsessions, hforget]
  exact s.modHead_settled h _ h fun _ => rfl

/-- The same after the head's presence has changed to the code. -/
theorem State.setPresence_linkGone_settled {s : State} {h : Nat} (code : Nat) (hcoh : s.coh = {}) (htmpl : s.dec.templates = [])
    (hsnoops : s.spn.snoops = []) (htags : (s.head h).tags = []) :
    ((((s.setPresence h code).linkGone h).1).head h).settled = { (s.head h).settled with presence := code } := by
  have hoff := s.setPresence_off h code
  have hcore := s.setPresence_core h code
  have htags' : ((s.setPresence h code).head h).tags = [] := (congrArg HeadSt.tags hcore :).trans htags
  have hset : ((s.setPresence h code).head h).settled = { (s.head h).settled with presence := code } :=
    congrArg (fun z : HeadSt => { z with tags := [], quar := [], draining := [] }) hcore
  exact (State.linkGone_settled (s := s.setPresence h code) ((congrArg State.coh hoff :).trans hcoh)
    ((congrArg (fun t : State => t.dec.templates) hoff :).trans htmpl)
    ((congrArg (fun t : State => t.spn.snoops) hoff :).trans hsnoops) htags').trans hset

/-- The end of a link's loss: the head is marked, its drawers are reset, and the loss is a wake trigger. -/
def State.lossEnd (s : State) (h : Nat) (f : HeadSt → HeadSt) (unbind : Bool) : State :=
  ((s.modHead h f).resetBound h unbind).wakeTrigger 1 h

/-- Fields that the end of a link's loss can write. -/
def lossEndFlds : List Fld := drwResetFlds ++ faultFlds ++ wakeFlds ++ pmuFlds

theorem State.lossEnd_regs (s : State) (h : Nat) (f : HeadSt → HeadSt) (unbind : Bool) : RegsSame lossEndFlds s (s.lossEnd h f unbind) := by
  have hreset : RegsSame (drwResetFlds ++ faultFlds) s ((s.modHead h f).resetBound h unbind) := (s.modHead h f).resetBound_regs h unbind
  exact (hreset.mono (by decide)).trans ((State.wakeTrigger_regs _ 1 h).mono (by decide))

theorem State.lossEnd_settled (s : State) (h : Nat) (f : HeadSt → HeadSt) (unbind : Bool) :
    ((s.lossEnd h f unbind).head h).settled = (f (s.head h)).settled := by
  refine (HeadSt.settled_of_core (State.wakeTrigger_core _ 1 h h)).trans ((State.resetBound_settled _ h unbind h).trans ?_)
  rw [State.modHead_head_self]

/-- The head that a link's loss with notice leaves. -/
def HeadSt.leftByNotice (x : HeadSt) : HeadSt :=
  { x with d3cold := x.d3hot, notice := false, turnOff := none, memActive := false, waking := false }

/-- The head that a surprise removal leaves, n lines of it poisoned. -/
def HeadSt.leftBySurprise (n : Nat) (x : HeadSt) : HeadSt :=
  { x with turnOff := none, memActive := false, waking := false, poisoned := n }

theorem linkDownWithNotice_eq {s : State} {h : Head} (hl : s.linkReady h.val = true) (hn : (s.head h).notice = true) :
    linkDownWithNotice h s = ((s.setPresence h 1).linkGone h).1.lossEnd h HeadSt.leftByNotice false := if_pos ⟨hl, hn⟩

/-- The registers of the scan that a surprise removal begins (04 R103), after n lines have been poisoned. -/
def State.scanBegun (s : State) (node h n : Nat) : State :=
  (((((s.fset COH_SCAN.ACTIVE 0 1).fset COH_SCAN.NODE 0 node).fset COH_SCAN.HEAD 0 h).fset COH_SCAN.POISONED 0 n).fset
    HP_SURPRISE.CLEANUP h 1).finc HP_SURPRISE.COUNT h

theorem surpriseRemoval_eq {s : State} {h : Head} (hl : s.linkReady h.val = true) (hn : (s.head h).notice = false) :
    surpriseRemoval h s = (((s.setPresence h 3).linkGone h).1.scanBegun (s.setPresence h 3).selfNode h ((s.setPresence h 3).linkGone h).2).lossEnd h
      (HeadSt.leftBySurprise ((s.setPresence h 3).linkGone h).2) true := by
  unfold surpriseRemoval State.surprise
  rw [if_pos ⟨hl, by rw [hn]; rfl⟩]
  dsimp only
  generalize (s.setPresence h 3).linkGone h = r
  rfl

theorem State.scanBegun_head (s : State) (node h n k : Nat) : (s.scanBegun node h n).head k = s.head k := rfl

/-- The scan is active for the head, and the removal is counted. -/
theorem State.scanBegun_fget (s : State) (node : Nat) (h : Head) (n : Nat) : (s.scanBegun node h n).fget HP_SURPRISE.CLEANUP h = 1 ∧
    (s.scanBegun node h n).fget COH_SCAN.ACTIVE = 1 ∧ (s.scanBegun node h n).fget COH_SCAN.HEAD = h.val ∧
    (s.scanBegun node h n).fget HP_SURPRISE.COUNT h = min (2 ^ HP_SURPRISE.COUNT.width - 1) (s.fget HP_SURPRISE.COUNT h + 1) ∧
    (s.scanBegun node h n).fget HP_LINK.UP h = s.fget HP_LINK.UP h ∧ (s.scanBegun node h n).fget HP_LINK.LTSSM h = s.fget HP_LINK.LTSSM h := by
  have hh : h.val % 2 ^ COH_SCAN.HEAD.width = h.val := Nat.mod_eq_of_lt (Nat.lt_of_lt_of_le h.isLt (by decide))
  unfold State.scanBegun
  rw [State.finc_fget_self]
  unfold State.finc State.fadd
  simp (disch := decide) only [State.fget_fset_ne, State.fget_fset_self, hh]
  decide

/-- A link that goes down with notice (04 R101). -/
theorem linkDownWithNotice_leaves {s : State} {h : Head} (hl : s.linkReady h.val = true) (hn : (s.head h).notice = true) :
    (linkDownWithNotice h s).fget HP_LINK.UP h = 0 ∧ (linkDownWithNotice h s).fget HP_LINK.LTSSM h = 0 ∧
      ((linkDownWithNotice h s).head h).notice = false ∧ ((linkDownWithNotice h s).head h).memActive = false ∧
      ((linkDownWithNotice h s).head h).turnOff = none ∧ (s.coh = {} → s.dec.templates = [] → s.spn.snoops = [] → (s.head h).tags = [] →
        ((linkDownWithNotice h s).head h).presence = 1) := by
  have hdown := ((s.setPresence h 1).pathGone h).linkFields_down h
  have hidle := State.setPresence_linkGone_settled (s := s) (h := h) 1
  rw [linkDownWithNotice_eq hl hn]
  rw [← State.linkGone_fst] at hdown
  generalize ((s.setPresence h 1).linkGone h).1 = g at hdown hidle ⊢
  have hregs := g.lossEnd_regs h HeadSt.leftByNotice false
  obtain ⟨hpres, hnotice, hturn, hmem⟩ := HeadSt.flags_of_settled (g.lossEnd_settled h HeadSt.leftByNotice false)
  refine ⟨(hregs _ _ (by decide) (by decide)).trans hdown.1, (hregs _ _ (by decide) (by decide)).trans hdown.2,
    hnotice, hmem, hturn, fun hc ht hs hg => hpres.trans ?_⟩
  exact (congrArg HeadSt.presence (hidle hc ht hs hg) :)

/-- A surprise removal (04 R103). -/
theorem surpriseRemoval_leaves {s : State} {h : Head} (hl : s.linkReady h.val = true) (hn : (s.head h).notice = false) :
    (surpriseRemoval h s).fget HP_LINK.UP h = 0 ∧ (surpriseRemoval h s).fget HP_LINK.LTSSM h = 0 ∧
      ((surpriseRemoval h s).head h).memActive = false ∧ ((surpriseRemoval h s).head h).turnOff = none ∧
      (surpriseRemoval h s).fget HP_SURPRISE.CLEANUP h = 1 ∧ (surpriseRemoval h s).fget COH_SCAN.ACTIVE = 1 ∧
      (surpriseRemoval h s).fget COH_SCAN.HEAD = h.val ∧
      (surpriseRemoval h s).fget HP_SURPRISE.COUNT h = min (2 ^ HP_SURPRISE.COUNT.width - 1) (s.fget HP_SURPRISE.COUNT h + 1) ∧
      (s.coh = {} → s.dec.templates = [] → s.spn.snoops = [] → (s.head h).tags = [] → ((surpriseRemoval h s).head h).presence = 3) := by
  have hdown := ((s.setPresence h 3).pathGone h).linkFields_down h
  have hidle := State.setPresence_linkGone_settled (s := s) (h := h) 3
  have hcount : (((s.setPresence h 3).linkGone h).1).fget HP_SURPRISE.COUNT h = s.fget HP_SURPRISE.COUNT h :=
    ((s.setPresence h 3).linkGone_regs h _ _ (by decide) (by decide)).trans (s.setPresence_regs h 3 _ _ (by decide) (by decide))
  rw [surpriseRemoval_eq hl hn]
  rw [← State.linkGone_fst] at hdown
  generalize (s.setPresence h 3).linkGone h = r at hdown hidle hcount ⊢
  generalize (s.setPresence h 3).selfNode = node
  obtain ⟨hclean, hactive, hhead, hn, hup, hltssm⟩ := r.1.scanBegun_fget node h r.2
  have hregs := (r.1.scanBegun node h r.2).lossEnd_regs h (HeadSt.leftBySurprise r.2) true
  obtain ⟨hpres, -, hturn, hmem⟩ :=
    HeadSt.flags_of_settled ((r.1.scanBegun node h r.2).lossEnd_settled h (HeadSt.leftBySurprise r.2) true)
  generalize (r.1.scanBegun node h r.2).lossEnd h (HeadSt.leftBySurprise r.2) true = t at hregs hpres hturn hmem ⊢
  have hkeep {f : Fld} {i v : Nat} (e : (r.1.scanBegun node h r.2).fget f i = v) (hf : f.id < 1024) (hp : f.id ∉ lossEndFlds.map (·.id)) :
      t.fget f i = v := (hregs f i hf hp).trans e
  refine ⟨hkeep (hup.trans hdown.1) (by decide) (by decide), hkeep (hltssm.trans hdown.2) (by decide) (by decide), hmem, hturn,
    hkeep hclean (by decide) (by decide), hkeep hactive (by decide) (by decide), hkeep hhead (by decide) (by decide),
    hkeep (hn.trans (by rw [hcount])) (by decide) (by decide), fun hc ht hs hg => hpres.trans ?_⟩
  rw [State.scanBegun_head]
  exact (congrArg HeadSt.presence (hidle hc ht hs hg) :)

theorem State.setPresence_presence (s : State) (h code : Nat) : ((s.setPresence h code).head h).presence = code :=
  (congrArg HeadSt.presence (s.setPresence_core h code) :)

/-- The cleanup complete, before its fields are cleared: the removal is reported, and no device is present (04 R103). -/
def State.removalReported (s : State) (h : Nat) : State :=
  (s.report setHP 2 { unit := h, aux := s.fget COH_SCAN.POISONED } (if s.fget COH_SCAN.POISONED = 0 then 0 else 1)).setPresence h 1

theorem removalCleanupComplete_eq {s : State} {h : Head} (hp : (s.head h).presence = 3) (hd : (s.head h).draining = [])
    (hs : s.scanOver = true) : removalCleanupComplete h s =
      (((s.removalReported h).modHead h fun x => { x with poisoned := 0 }).fset HP_SURPRISE.CLEANUP h 0).fset COH_SCAN.ACTIVE 0 0 := by
  unfold removalCleanupComplete
  dsimp only
  rw [if_neg (by simp [hp, hd, hs])]
  rfl

theorem State.eq_of_offFault {s t : State} (h : t.offFault = s.offFault) : t = { s with
    out := t.out, regs := t.regs, heads := t.heads, wit := t.wit, flt := t.flt, boot := { s.boot with fatal := t.boot.fatal }
    spn := { s.spn with withdrawn := t.spn.withdrawn, ageSeq := t.spn.ageSeq, links := t.spn.links } } := by
  have hs : t.spn = { s.spn with withdrawn := t.spn.withdrawn, ageSeq := t.spn.ageSeq, links := t.spn.links } :=
    congrArg (fun x : State => { x.spn with withdrawn := t.spn.withdrawn, ageSeq := t.spn.ageSeq, links := t.spn.links }) h
  have hb : t.boot = { s.boot with fatal := t.boot.fatal } := congrArg (fun x : State => { x.boot with fatal := t.boot.fatal }) h
  rw [← hs, ← hb]
  exact congrArg (fun x : State => { x with
    out := t.out, regs := t.regs, heads := t.heads, wit := t.wit, flt := t.flt, boot := t.boot, spn := t.spn }) h

theorem State.removalReported_off (s : State) (h : Nat) : (s.removalReported h).offFault = s.offFault :=
  (offFault_of_offCount (State.setPresence_off _ h 1)).trans (s.report_off _ _ _ _)

theorem State.removalReported_regs (s : State) (h : Nat) :
    RegsSame ([COH_SCAN.ACTIVE, HP_SURPRISE.CLEANUP, MS_PRESCHG.CHG] ++ faultFlds) s (s.removalReported h) :=
  ((s.report_regs _ _ _ _).mono (by decide)).trans ((State.setPresence_regs _ h 1).mono (by decide))

theorem State.removalReported_inFault (s : State) (h : Nat) : (s.removalReported h).inFault setHP 2 = true :=
  (State.inFault_congr (State.setPresence_regs _ h 1 _ _ (by decide) (by decide)) 2).trans (s.report_inFault _ _ _ _ (by decide))

theorem State.removalReported_presence (s : State) (h : Nat) : ((s.removalReported h).head h).presence = 1 :=
  State.setPresence_presence ..

/-! ## PME_Turn_Off (04 R102) -/

section
variable (s : State) (p : Path)

theorem State.onAccess_linkReady (h : Nat) : (s.onAccess p).linkReady h = s.linkReady h := by rw [s.onAccess_eq p]; rfl

theorem State.onAccess_localPtr (h : Nat) : (s.onAccess p).localPtr h = s.localPtr h := by rw [s.onAccess_eq p]; rfl

theorem State.onAccess_linesNaming (q : Target) : (s.onAccess p).linesNaming q = s.linesNaming q := by rw [s.onAccess_eq p]; rfl

theorem State.onAccess_sentTo (q : Target) : (s.onAccess p).sentTo q = s.sentTo q := by rw [s.onAccess_eq p]; rfl

end

/-- A head with an admitted access has its link up. -/
theorem State.linkReady_onAccess {s : State} {h : Head} (ha : s.admits (.head h) = true) :
    (s.onAccess (.head h)).linkReady h.val = true :=
  (State.onAccess_linkReady ..).trans (Bool.and_eq_true_iff.mp ha).1

theorem State.emit_head (s : State) (o : Out) (h : Nat) : (s.emit o).head h = s.head h := rfl

/-- A head with a turn-off begun: lines to back-invalidate, and no notice given. -/
def HeadSt.turningOff (l : List Nat) (x : HeadSt) : HeadSt := { x with turnOff := some l, notice := false }

theorem pmeTurnOff_eq {s : State} {h : Head} (hl : s.linkReady h.val = true) (ht : (s.head h).turnOff = none) :
    pmeTurnOff h s =
      (s.modHead h (HeadSt.turningOff (s.linesNaming (s.localPtr h)))).turnOffStep h := by
  unfold pmeTurnOff
  rw [if_neg (by simp [hl, ht])]
  rfl

/-- With nothing left to snoop and nothing outstanding, PME_TO_Ack goes out, and the head has given notice. -/
theorem State.turnOffStep_ack {s : State} {h : Head} (ht : (s.head h).turnOff = some []) (hs : s.sentTo (s.localPtr h) = 0) :
    s.turnOffStep h = (s.emit (.pmeToAck h)).modHead h fun x => { x with turnOff := none, notice := true } := by
  have hh : Fin.ofNat 16 h.val = h := Fin.ext (Nat.mod_eq_of_lt h.isLt)
  unfold State.turnOffStep
  rw [ht, hh]
  exact if_pos hs

theorem State.sendSpan_core (s : State) (dest op : Nat) (m : SpanMsg) (k : Nat) : (s.sendSpan dest op m).headCore k = s.headCore k := by
  unfold State.sendSpan
  dsimp only
  refine (State.count_core ..).trans ?_
  split
  · split <;> rfl
  · rfl

theorem State.snoop_core (s : State) (ln : Nat) (inv : Bool) (p : Target) (k : Nat) : (s.snoop ln inv p).headCore k = s.headCore k := by
  unfold State.snoop
  dsimp only
  split
  · exact (State.count_core ..).trans (State.count_core _ 2 _ _ _ _)
  · exact (State.sendSpan_core ..).trans (State.count_core ..)

theorem State.snoop_dram (s : State) (ln : Nat) (inv : Bool) (p : Target) : (s.snoop ln inv p).dram = s.dram := by
  unfold State.snoop
  dsimp only
  split
  · exact (State.count_dram ..).trans (State.count_dram _ 2 _ _ _)
  · exact (State.sendSpan_dram ..).trans (State.count_dram ..)

/-- With lines to back-invalidate, some of them are snooped and the others are left for later. -/
theorem State.turnOffStep_snoops {s : State} {h : Nat} {l : List Nat} (ht : (s.head h).turnOff = some l) (hl : l ≠ []) : ∃ now later,
    s.turnOffStep h =
      (s.each now fun ln u => u.snoop ln true (s.localPtr h)).modHead h fun x => { x with turnOff := some later } := by
  obtain ⟨a, l, rfl⟩ := List.exists_cons_of_ne_nil hl
  unfold State.turnOffStep
  rw [ht]
  exact ⟨_, _, rfl⟩

/-- A step of the turn-off with lines left gives no notice yet, and leaves the memory alone. -/
theorem State.turnOffStep_waits {s : State} {h : Nat} {l : List Nat} (ht : (s.head h).turnOff = some l) (hl : l ≠ []) :
    ((s.turnOffStep h).head h).turnOff.isSome = true ∧ ((s.turnOffStep h).head h).notice = (s.head h).notice ∧
      (s.turnOffStep h).dram = s.dram := by
  obtain ⟨now, later, he⟩ := State.turnOffStep_snoops ht hl
  have hcore := State.each_inv (State.headCore · h) now (fun ln u => u.snoop ln true (s.localPtr h)) (fun ln u => u.snoop_core ln true _ h) s
  have hdram := State.each_inv State.dram now (fun ln u => u.snoop ln true (s.localPtr h)) (fun ln u => u.snoop_dram ln true _) s
  rw [he]
  generalize s.each now _ = u at hcore hdram ⊢
  rw [State.modHead_head_self]
  exact ⟨rfl, (congrArg HeadSt.notice hcore :), hdram⟩

/-- Settles O19: a lost link's fields are cleared last, and neither the drawers' resets nor the wake write them; the head's marks are made
before the resets, which leave them. -/
theorem linkLossAndTurnOff : Obligations.LinkLossAndTurnOff := by
  unfold Obligations.LinkLossAndTurnOff
  refine ⟨fun h s hl hn => ?down, fun h s hl hn => ?removed, fun h s hp hd hs => ?cleaned, fun h s ha ht hn hs => ?acked,
    fun h s ha ht hn => ?waits⟩
  case down => exact ⟨_, rfl, linkDownWithNotice_leaves (s := s.clearOut) hl hn⟩
  case removed => exact ⟨_, rfl, surpriseRemoval_leaves (s := s.clearOut) hl hn⟩
  case cleaned =>
    have hx := removalCleanupComplete_eq (s := s.clearOut) (h := h) hp hd hs
    have hoff : (s.clearOut.removalReported h).offFault = s.offFault := s.clearOut.removalReported_off h
    have hregs := (RegsSame.clearOut (s := s)).trans (s.clearOut.removalReported_regs h)
    have hfault := s.clearOut.removalReported_inFault h
    have hpres := s.clearOut.removalReported_presence h
    generalize s.clearOut.removalReported h = u at hx hoff hregs hfault hpres
    have hhead (v : State) : ((v.fset HP_SURPRISE.CLEANUP h 0).fset COH_SCAN.ACTIVE 0 0).head h = v.head h := rfl
    have hclean (v : State) : ((v.fset HP_SURPRISE.CLEANUP h 0).fset COH_SCAN.ACTIVE 0 0).fget HP_SURPRISE.CLEANUP h = 0 := by
      simp (disch := decide) only [State.fget_fset_ne, State.fget_fset_self]
      decide
    have hset : RegsSame [HP_SURPRISE.CLEANUP, COH_SCAN.ACTIVE] u
        (((u.modHead h fun x => { x with poisoned := 0 }).fset HP_SURPRISE.CLEANUP h 0).fset COH_SCAN.ACTIVE 0 0) :=
      RegsSame.fset (RegsSame.fset (RegsSame.of_regs rfl) h 0 (by decide)) 0 0 (by decide)
    refine ⟨_, volatile_ends hx (congrArg State.nv hoff :) (congrArg State.pending hoff :), ?_, ?_, hclean _, State.fget_fset_self ..,
      (State.inFault_congr (hset _ _ (by decide) (by decide)) 2).trans hfault, State.eq_of_offFault hoff, hregs.trans (hset.mono (by decide))⟩
    · rw [hhead, State.modHead_head_self]
      exact hpres
    · rw [hhead, State.modHead_head_self]
  case acked =>
    have hnone : (s.onAccess (.head h)).linesNaming ((s.onAccess (.head h)).localPtr h) = [] := by
      rw [State.onAccess_localPtr, State.onAccess_linesNaming, hn]
    have hsent : (s.onAccess (.head h)).sentTo ((s.onAccess (.head h)).localPtr h) = 0 := by
      rw [State.onAccess_localPtr, State.onAccess_sentTo, hs]
    have hx := pmeTurnOff_eq (State.linkReady_onAccess ha) ((congrArg HeadSt.turnOff (s.onAccess_head _ h) :).trans ht)
    rw [hnone] at hx
    have hend := hx.trans (State.turnOffStep_ack (by rw [State.modHead_head_self]; rfl) hsent)
    refine ⟨_, headAccess_ends ha hend, ?_, ?_, fun k hk => ?_, rfl⟩
    · exact congrArg (· ++ [Out.pmeToAck h]) (s.onAccess_out (.head h))
    · rw [State.modHead_head_self, State.emit_head, State.modHead_head_self, State.onAccess_head]
      rfl
    · rw [State.modHead_head_ne _ _ hk, State.emit_head, State.modHead_head_ne _ _ hk, State.onAccess_head]
  case waits =>
    have hsome : (s.onAccess (.head h)).linesNaming ((s.onAccess (.head h)).localPtr h) ≠ [] := by
      rw [State.onAccess_localPtr, State.onAccess_linesNaming]
      exact hn
    have hx := pmeTurnOff_eq (State.linkReady_onAccess ha) ((congrArg HeadSt.turnOff (s.onAccess_head _ h) :).trans ht)
    generalize (s.onAccess (.head h)).linesNaming ((s.onAccess (.head h)).localPtr h) = l at hsome hx
    have hself := (s.onAccess (.head h)).modHead_head_self h (HeadSt.turningOff l)
    obtain ⟨hturn, hnotice, hdram⟩ := State.turnOffStep_waits (congrArg HeadSt.turnOff hself :) hsome
    refine ⟨_, volatile_access_admits _ _ _ s ha, ?_, ?_, State.kept_nv .., ?_⟩
    · rw [State.kept_head, hx, hturn]
    · rw [State.kept_head, hx, hnotice, hself]
      rfl
    · rw [State.kept_dram, hx, hdram]
      exact State.onAccess_dram ..

end Sys2Proof.Machine
end

section
/-! PROOF. The key ID of a request (05 R116): the decoder's bits of it, and a drawer's write to device memory. -/

namespace Sys2Proof.Machine

open Sys2Proof

/-! ## The key ID that a decoder gives (05 R116) -/

theorem bits_eq (n lo w : Nat) : bits n lo w = n / 2 ^ lo % 2 ^ w := by rw [bits, Nat.shiftRight_eq_div_pow]

/-- A host's key ID takes the low w bits from the address and the others from DEFKEY. -/
theorem hostKey_bits (defkey w hpa : Nat) : BitVec.ofNat 7 (hostKey defkey w hpa) =
    ((BitVec.ofNat 7 defkey &&& ~~~BitVec.ofNat 7 (2 ^ w - 1)) ||| BitVec.ofNat 7 (hpa / 2 ^ 45 % 2 ^ w)) := by
  have hlt : hpa / 2 ^ 45 % 2 ^ w < 2 ^ w := Nat.mod_lt _ (Nat.two_pow_pos w)
  rw [hostKey, bits_eq, Nat.mul_comm]
  refine BitVec.eq_of_getLsbD_eq fun i hi => ?_
  simp only [BitVec.getLsbD_or, BitVec.getLsbD_and, BitVec.getLsbD_not, BitVec.getLsbD_ofNat, Nat.testBit_two_pow_sub_one,
    Nat.testBit_two_pow_mul_add _ hlt, Nat.testBit_mod_two_pow]
  by_cases h : i < w
  · simp [h, hi]
  · simp [h, hi, Nat.testBit_div_two_pow, Nat.sub_add_cancel (Nat.le_of_not_lt h)]

/-- With no key bits in the address the key ID is DEFKEY. -/
theorem hostKey_noBits (defkey hpa : Nat) : BitVec.ofNat 7 (hostKey defkey 0 hpa) = BitVec.ofNat 7 defkey := by
  simp [hostKey, bits_eq, Nat.mod_one]

/-- With seven key bits in the address they are the key ID. -/
theorem hostKey_allBits (defkey : Nat) (hpa : Hpa) : BitVec.ofNat 7 (hostKey defkey 7 hpa.toNat) = hpa.extractLsb' 45 7 := by
  apply BitVec.eq_of_toNat_eq
  simp [hostKey, bits_eq, BitVec.extractLsb'_toNat, Nat.shiftRight_eq_div_pow]

/-! ## A drawer's line in device memory (12 R303; 01 R26) -/

/-- The state without what a drawer's own bookkeeping reaches: operations, rings and counters of the drawers. -/
def State.offDrw (s : State) : State := { s with drw := {} }

theorem State.userEvent_offDrw (s : State) (d ev k : Nat) : (s.userEvent d ev k).offDrw = s.offDrw := by
  refine State.each_inv State.offDrw _ _ (fun n t => ?_) s
  exact (apply_ite ..).trans (ite_self _)

/-- An operation's end changes the drawers alone. -/
theorem State.opSettle_offDrw (s : State) (n : Nat) : (s.opSettle n).offDrw = s.offDrw := by
  unfold State.opSettle
  split
  · rfl
  · split
    · rfl
    · dsimp only
      split
      · rfl
      · split <;> rfl

section
variable {s t : State} (h : t.offDrw = s.offDrw)
include h

theorem State.coh_of_offDrw : t.coh = s.coh := (congrArg State.coh h :)

theorem State.fget_of_offDrw (f : Fld) (i : Nat) : t.fget f i = s.fget f i := State.regs_fget (congrArg State.regs h :) f i

theorem State.slot_of_offDrw (k : Nat) : t.slot k = s.slot k := State.slot_congr (congrArg State.inl h :) k

/-- The tables that decide a device operand stand outside the drawers. -/
theorem State.opDec_of_offDrw (d : Nat) (a : OpAttr) (addr : Nat) : t.opDec d a addr = s.opDec d a addr :=
  (congrArg (fun u : State => u.opDec d a addr) h :)

end

/-- The transaction of a line write, before its operation's name and key. -/
def lineTxn (w : DevWrite) : Txn :=
  { kind := if w.be = BitVec.allOnes 64 then .write else .part, data := w.data, be := w.be }

theorem lineTxn_kind (w : DevWrite) : (lineTxn w).kind ≠ .read := by
  unfold lineTxn
  dsimp only
  split <;> exact TxnKind.noConfusion

/-- A write of an operation to an untiered local line under an ACTIVE key slot enters the transaction table in the operation's name, under the
key ID of its attributes (12 R303; 10 R263). -/
theorem State.opAccess_write {s : State} {n rn dpa : Nat} {r : Region} {o : Op} {a : OpAttr} {addr : Nat} {x : Txn}
    (hd : s.opDec o.drawer a addr = some (rn, r, dpa)) (hh : r.home = none) (ht : r.tiered = false) (hs : (s.slot a.key.toNat).state = 1)
    (hk : x.kind ≠ .read) (hp : x.phase = .ingress) (off : Nat) : ∃ y, (s.opAccess n o a off addr x).2 = .sent (dpa / 64) ∧
      (s.opAccess n o a off addr x).1.txn? s.coh.next = some y ∧ y.src = .drawer n ∧ y.key = a.key := by
  generalize hu : (s.countWrite a.key.toNat).modOp n (fun y => { y with outst := y.outst + 1 }) = u
  generalize hz : ({ u.localTxn r rn { x with src := .drawer n, key := a.key, cls := 4 } dpa with cls := 4 } : Txn) = z
  have hcoh : u.coh = s.coh := by subst hu; exact s.countWrite_coh _
  have he : s.opAccess n o a off addr x = ((u.newTxn z).2.decoded u.coh.next, .sent (dpa / 64)) := by
    simp only [State.opAccess, hd, hh, hs, verdict, if_neg hk, hu, hz, State.newTxn]
  have hzt : z.tiered = false := by subst hz; exact ht
  have hzh : z.holds = false := by subst hz; simp only [Txn.holds, State.localTxn, hp]
  obtain ⟨ph, st, g, b, tx, hdec, hf, -⟩ := State.decoded_untiered (s := (u.newTxn z).2) (smFind?_set_self ..) hzt hzh
  refine ⟨{ z with phase := ph, stamps := st }, congrArg Prod.snd he, ?_, ?_, ?_⟩
  · rw [he, hdec, ← hcoh]
    exact hf
  · subst hz; rfl
  · subst hz; rfl

/-- The bytes of one aligned line are one write of that line. -/
theorem devWrites_line {addr : Nat} (ha : addr % 64 = 0) {b : List Byte} (hb : b.length = 64) :
    ∃ w, devWrites addr b = [w] ∧ w.addr = addr := by
  have h1 : lineCount addr b.length = 1 := by simp [lineCount, ha, hb]
  have h2 : addr / 64 * 64 = addr := by omega
  exact ⟨_, by rw [devWrites, h1]; rfl, by simp [h2]⟩

/-- Outside a power-state entry an operation's one write is made. -/
theorem State.opWrites_one {s : State} (hp : s.fget PWR_STATE.PHASE ≠ 1) {n : Nat} {o : Op} {w : DevWrite} {k : Nat} (fuel : Nat)
    (h : (s.opAccess n o o.desc.dattr w.off w.addr (lineTxn w)).2 = .sent k) : s.opWrites n o (fuel + 2) [w] =
      (s.opAccess n o o.desc.dattr w.off w.addr (lineTxn w)).1.modOp n fun x => { x with todo := [] } := by
  unfold State.opWrites
  rw [if_neg (by simp [hp])]
  dsimp only
  rw [← lineTxn]
  generalize s.opAccess n o o.desc.dattr w.off w.addr (lineTxn w) = r at h ⊢
  obtain ⟨t, i⟩ := r
  subst h
  rfl

/-- An operation that may start finds the device outside every power-state entry (14 R355). -/
theorem State.phase_of_opPick {s : State} {d r code n : Nat} {o : Op} (h : s.opPick d r code = some (n, o)) (hs : o.started = false) :
    s.fget PWR_STATE.PHASE ≠ 1 := by
  have hr := List.find?_some h
  simp only [State.opReady, hs, Bool.and_eq_true, Bool.false_eq_true, if_false] at hr
  obtain ⟨-, -, hstart⟩ := hr
  simp only [State.opMayStart, State.drwRuns, State.enginesRun, Bool.and_eq_true, bne_iff_ne] at hstart
  obtain ⟨⟨⟨⟨⟨⟨-, hp⟩, -⟩, -⟩, -⟩, -⟩, -⟩ := hstart
  exact hp

theorem State.drawer_of_opPick {s : State} {d r code n : Nat} {o : Op} (h : s.opPick d r code = some (n, o)) : o.drawer = d := by
  have hr := List.find?_some h
  simp only [Bool.and_eq_true, beq_iff_eq] at hr
  obtain ⟨⟨⟨hd, -⟩, -⟩, -⟩ := hr
  exact hd

/-- A FILL of one aligned line of device memory starts, and plans its line. -/
theorem fill_fresh {s : State} {d : DrawerId} {r : RingId} {n : Nat} {o : Op} (hf : s.freshOp d r 2 n o) (hk : s.badKey o = none)
    (hdev : o.desc.dattr.dev = true) (hlen : o.desc.len ≠ 0) : fill d r s =
      (((s.modOp n fun x => { x with started := true }).opPlan n o (fillBytes o.desc.pattern o.desc.len.toNat) 0 0 0 none).opSettle n) := by
  obtain ⟨hpick, -, hst, -, hplan, -, hfield⟩ := hf
  have hfield' : (s.modOp n fun x => { x with started := true }).badField o = none := hfield
  have hkey' : (s.modOp n fun x => { x with started := true }).badKey o = none := hk
  have hlen' : ¬ (o.desc.len = 0 ∧ o.desc.op ≠ 5) := fun h => hlen h.1
  simp only [fill, State.opRun, hpick, hplan, State.opStart, hst, hfield', hkey', hdev, if_neg hlen']
  rfl

theorem fillBytes_length (pattern : Word64) (len : Nat) : (fillBytes pattern len).length = len := by simp [fillBytes]

/-- The plan of a line in device memory writes it. -/
theorem State.opPlan_device {s : State} {o : Op} (hdev : o.desc.dattr.dev = true) {out : List Byte} (ho : out ≠ []) (n st inB de : Nat)
    (b : Option (List Byte)) : ∃ u : State, s.opPlan n o out st inB de b = u.opWrites n o 64 (devWrites o.desc.dst.toNat out) ∧ u.offDrw = s.offDrw := by
  refine ⟨(s.modOp n fun x => { x with newOpen := b, plan := some (st, inB, out.length, de) }).userEvent o.drawer 4 out.length, ?_,
    State.userEvent_offDrw ..⟩
  unfold State.opPlan
  simp only [List.isEmpty_eq_false_iff.mpr ho, hdev, if_true, Bool.false_eq_true, if_false]

/-- A FILL of one aligned untiered line of this node writes it under the key ID of its attributes. -/
theorem fill_line {s : State} {d : DrawerId} {r : RingId} {n rn dpa : Nat} {rg : Region} {o : Op} (hf : s.freshOp d r 2 n o)
    (hk : s.badKey o = none) (hdev : o.desc.dattr.dev = true) (hlen : o.desc.len = 64) (ha : o.desc.dst.toNat % 64 = 0)
    (hd : s.opDec d o.desc.dattr o.desc.dst.toNat = some (rn, rg, dpa)) (hh : rg.home = none) (ht : rg.tiered = false)
    (hs : (s.slot o.desc.dattr.key.toNat).state = 1) :
    ∃ x, (fill d r s).txn? s.coh.next = some x ∧ x.src = .drawer n ∧ x.key = o.desc.dattr.key := by
  have ⟨hpick, _, hst, _⟩ := hf
  have hphase := State.phase_of_opPick hpick hst
  have hdrw := State.drawer_of_opPick hpick
  have hbytes : (fillBytes o.desc.pattern o.desc.len.toNat).length = 64 := by rw [fillBytes_length, hlen]; rfl
  obtain ⟨u, hplan, hu⟩ := State.opPlan_device (s := s.modOp n fun x => { x with started := true }) hdev
    (List.ne_nil_of_length_eq_add_one hbytes) n 0 0 0 none
  obtain ⟨w, hw, hwa⟩ := devWrites_line ha hbytes
  replace hu : u.offDrw = s.offDrw := hu
  rw [← hdrw, ← State.opDec_of_offDrw hu, ← hwa] at hd
  rw [← State.slot_of_offDrw hu] at hs
  rw [← State.fget_of_offDrw hu] at hphase
  obtain ⟨y, hsent, htxn, hsrc, hkey⟩ := State.opAccess_write (n := n) hd hh ht hs (lineTxn_kind w) rfl w.off
  refine ⟨y, ?_, hsrc, hkey⟩
  rw [fill_fresh hf hk hdev (by rw [hlen]; decide), hplan, hw, State.opWrites_one hphase 62 hsent, State.txn?,
    State.coh_of_offDrw (State.opSettle_offDrw ..), ← State.coh_of_offDrw hu]
  exact htxn

/-! ## The key ID of a request -/

/-- Settles O50: host requests take the decoder's bits of the key ID to the table or the Span; a drawer's line takes its attributes' key. -/
theorem keyIdOfRequest : Obligations.KeyIdOfRequest := by
  unfold Obligations.KeyIdOfRequest
  refine ⟨fun h hpa mv d be m k s hm _ hk => ?host, fun h hpa mv m home tag s hm hh ht _ => ?remote,
    fun d r n rn dpa rg o s hf hk hdev hlen ha hd hh ht hs => ?drawer⟩
  case host =>
    obtain ⟨hadm, -⟩ := State.memServed_iff.mp hm.1.1
    rw [← hostKey_bits] at hk
    refine ⟨fun h0 => ?_, fun h7 => ?_, ?_, ?_, ?_, fun hsh hr hto hc => ?_⟩
    · rw [hk, h0, hostKey_noBits]
    · rw [hk, h7, hostKey_allBits]
    · obtain ⟨y, e, -⟩ := State.hostReq_enters hm { src := .head h, kind := .read, mv := mv } rfl .read
      exact ⟨_, y, exec_memRead hadm hpa mv true, e.txn, e.key.trans hk.symm⟩
    · obtain ⟨y, e, -⟩ := State.hostReq_enters hm
        { src := .head h, kind := .write, mv := mv, data := d, be := BitVec.allOnes 64 } rfl .write
      exact ⟨_, y, exec_memWrite hadm hpa mv d true, e.txn, e.key.trans hk.symm⟩
    · obtain ⟨y, e, -⟩ := State.hostReq_enters hm { src := .head h, kind := .part, mv := mv, data := d, be := be } rfl .write
      exact ⟨_, y, exec_partialWrite hadm hpa mv d be true, e.txn, e.key.trans hk.symm⟩
    · obtain ⟨y, e, -⟩ := State.hostReq_writeback hm hsh hto hc
        { src := .head h, kind := .write, mv := mv, data := d, be := BitVec.allOnes 64, mc := 1 }
      exact ⟨_, y, exec_memWriteback hadm hr hpa mv d, e.txn, e.key.trans hk.symm⟩
  case remote =>
    obtain ⟨hadm, -⟩ := State.memServed_iff.mp hm.1
    have ht' : (s.onDec h).freeTag home.toNat = some tag := by simpa only [State.freeTag, State.onDec_spn] using ht
    have hx := exec_memRead hadm hpa mv true
    rw [State.hostReq_served hm.1, State.hostDec_remote hm hh, State.toHome_read rfl ht'] at hx
    refine ⟨_, _, hx, (State.kept_out ..).symm ▸ State.sendSpan_out _ home 1 _, ?_⟩
    rw [← hostKey_bits]
    simp only [spanMsg, BitVec.ofNat_toNat, BitVec.setWidth_eq]
    rfl
  case drawer =>
    obtain ⟨x, htxn, hsrc, hkey⟩ := fill_line (s := s.clearOut) hf hk hdev hlen ha hd hh ht hs
    exact ⟨_, x, rfl, htxn, hsrc, hkey⟩

end Sys2Proof.Machine
end

section
/-! PROOF. Span messages: how they arrive, and what arriving and answering can change (13 R323, R330; 14 R347). -/

namespace Sys2Proof.Machine

open Sys2Proof

/-! ## What messages change on their way (13 R323; 18 R426-R429) -/

/-- The state without what the traffic of the Span reaches: outputs, registers, heads, the power controller and the links. -/
def State.offTraffic (s : State) : State := { s with out := [], regs := [], heads := [], pwr := {}, spn := { s.spn with links := [] } }

/-- What the arrival of a message and messages sent can change: outputs, event counters, the heads' interrupts, the idle time and the
links. -/
structure Traffic (s t : State) : Prop where
  off : t.offTraffic = s.offTraffic
  regs : RegsSame pmuFlds s t
  core : ∀ h, t.headCore h = s.headCore h

namespace Traffic

theorem refl (s : State) : Traffic s s := ⟨rfl, RegsSame.refl, fun _ => rfl⟩

theorem trans {s t u : State} (e : Traffic s t) (e' : Traffic t u) : Traffic s u :=
  ⟨e'.off.trans e.off, e.regs.trans e'.regs, fun h => (e'.core h).trans (e.core h)⟩

section
variable {s t : State} (e : Traffic s t)
include e

theorem coh : t.coh = s.coh := (congrArg State.coh e.off :)
theorem dram : t.dram = s.dram := (congrArg State.dram e.off :)
theorem nv : t.nv = s.nv := (congrArg State.nv e.off :)
theorem slc : t.slc = s.slc := (congrArg State.slc e.off :)
theorem inl : t.inl = s.inl := (congrArg State.inl e.off :)
theorem dec : t.dec = s.dec := (congrArg State.dec e.off :)
theorem chans : t.chans = s.chans := (congrArg State.chans e.off :)
theorem boot : t.boot = s.boot := (congrArg State.boot e.off :)
theorem tags : t.spn.tags = s.spn.tags := (congrArg (fun x : State => x.spn.tags) e.off :)
theorem runs : t.spn.runs = s.spn.runs := (congrArg (fun x : State => x.spn.runs) e.off :)
theorem grantsOut : t.spn.grantsOut = s.spn.grantsOut := (congrArg (fun x : State => x.spn.grantsOut) e.off :)
theorem snoops : t.spn.snoops = s.spn.snoops := (congrArg (fun x : State => x.spn.snoops) e.off :)
theorem snoopNext : t.spn.snoopNext = s.spn.snoopNext := (congrArg (fun x : State => x.spn.snoopNext) e.off :)

/-- A register field that is no counter reads the same. -/
theorem fget {f : Fld} (i : Nat) (hf : f.id < 1024 ∧ f.id ∉ pmuFlds.map (·.id) := by decide) : t.fget f i = s.fget f i :=
  e.regs f i hf.1 hf.2

theorem inFault (set code : Nat) : t.inFault set code = s.inFault set code := State.inFault_congr (e.fget set) code

/-- A step that leaves registers and heads alone, and touches nothing but outputs, idle time and links. -/
theorem pass {u : State} (off : u.offTraffic = t.offTraffic := by rfl) (regs : u.regs = t.regs := by rfl)
    (heads : u.heads = t.heads := by rfl) : Traffic s u :=
  e.trans ⟨off, RegsSame.of_regs regs, State.heads_core heads⟩

theorem count (u ev : Nat) (a : Attr) (k : Nat) : Traffic s (t.count u ev a k) :=
  e.trans ⟨(congrArg (fun x : State => { x with pwr := {}, spn := { x.spn with links := [] } }) (t.count_off u ev a k) :),
    t.count_regs u ev a k, t.count_core u ev a k⟩

theorem sendSpan (dest op : Nat) (m : SpanMsg) : Traffic s (t.sendSpan dest op m) := by
  have hpush (p : Nat) : Traffic s (t.pushFlit p 1) := e.pass
  unfold State.sendSpan
  dsimp only
  split
  · split
    · exact ((hpush _).pass).count ..
    · exact ((hpush _).pass).count ..
  · exact e.pass.count ..

end

end Traffic

/-! ## Arrival (13 R323, R330; 14 R347) -/

/-- The state on which a message that is admitted acts, the mask of its port kept: the device not idle, the message counted. -/
def State.onSpan (s : State) (op : Nat) : State := s.clearOut.active.count 9 2 { cls := some (opClass op) }

theorem State.onSpan_traffic (s : State) (op : Nat) : Traffic s (s.onSpan op) := ((Traffic.refl s).pass (u := s.clearOut.active)).count ..

theorem State.onSpan_link (s : State) (op p : Nat) : (s.onSpan op).link p = s.link p := by
  simp only [State.onSpan, State.link, State.count_spn]
  rfl

theorem Traffic.maskGone {s t : State} (e : Traffic s t) (p : Nat) : Traffic s (t.maskGone p) := e.pass

theorem spanIn_ready {s : State} {m : SpanMsg} (hr : s.spanReady m = true) (op : Nat) (f : SpanMsg → State → State) :
    spanIn op m f s.clearOut = f m (if op = 3 then s.onSpan op else (s.onSpan op).maskGone m.port.val) := by
  simp only [State.spanReady, Bool.and_eq_true, Bool.not_eq_true'] at hr
  obtain ⟨ho, ha⟩ := hr
  have ho' : s.clearOut.spanOpen m.port.val = true := ho
  have ha' : s.clearOut.asleep = false := ha
  simp only [spanIn, ho', ha', Bool.not_true, Bool.false_eq_true, if_false]
  rfl

/-- A message that is ready, and is no WRP, acts on a state that traffic alone has changed. -/
theorem span_acts {s : State} {m : SpanMsg} (hr : s.spanReady m = true) {op : Nat} (hop : op ≠ 3) (f : SpanMsg → State → State) :
    ∃ u, Traffic s u ∧ volatile (spanIn op m f) s = .next (s.kept (f m u)) := by
  refine ⟨(s.onSpan op).maskGone m.port.val, (s.onSpan_traffic op).maskGone _, ?_⟩
  unfold volatile
  rw [spanIn_ready hr, if_neg hop]
  rfl

/-- A WRP acts on a state in which the mask of its port still stands. -/
theorem wrp_acts {s : State} {m : SpanMsg} (hr : s.spanReady m = true) :
    ∃ u, Traffic s u ∧ u.link m.port.val = s.link m.port.val ∧ exec (.wrp m) s = .next (s.kept (spanWrp m u)) := by
  refine ⟨s.onSpan 3, s.onSpan_traffic 3, s.onSpan_link .., ?_⟩
  show volatile (spanIn 3 m spanWrp) s = _
  unfold volatile
  rw [spanIn_ready hr]
  rfl

/-- On a port that carries no messages nothing happens. -/
theorem span_closed {s : State} {m : SpanMsg} (hc : s.spanOpen m.port.val = false) (op : Nat) (f : SpanMsg → State → State) :
    volatile (spanIn op m f) s = .next s.clearOut := by
  have hc' : s.clearOut.spanOpen m.port.val = false := hc
  refine volatile_ends ?_ rfl rfl
  simp only [spanIn, hc', Bool.not_false, if_true]

/-- In P1 a message waits and wakes the device. -/
theorem span_held {s : State} {m : SpanMsg} (ho : s.spanOpen m.port.val = true) (ha : s.asleep = true) (op : Nat)
    (f : SpanMsg → State → State) : volatile (spanIn op m f) s =
      .next { s with out := [], pwr := { s.pwr with held := s.pwr.held ++ [.span op m], latched := some (7, 0) } } := by
  have ho' : s.clearOut.spanOpen m.port.val = true := ho
  have ha' : s.clearOut.asleep = true := ha
  refine volatile_ends ?_ rfl rfl
  simp only [spanIn, ho', ha', Bool.not_true, Bool.false_eq_true, if_false, if_true]
  rfl

/-! ## The byte-enable mask (13 R323) -/

theorem exec_bemask_awake {s : State} {port : Port} (ho : s.spanOpen port.val = true) (ha : s.asleep = false) (be : ByteEn) :
    exec (.bemask port be) s = .next (s.clearOut.bemaskAt port.val be) := by
  have ho' : s.clearOut.spanOpen port.val = true := ho
  have ha' : s.clearOut.asleep = false := ha
  refine volatile_ends (f := bemask port be) ?_ rfl rfl
  simp only [bemask, ho', ha', Bool.not_true, Bool.false_eq_true, if_false]

theorem exec_bemask_asleep {s : State} {port : Port} (ho : s.spanOpen port.val = true) (ha : s.asleep = true) (be : ByteEn) :
    exec (.bemask port be) s = .next
      { s with out := [], pwr := { s.pwr with held := s.pwr.held ++ [.mask port be], latched := some (7, 0) } } := by
  have ho' : s.clearOut.spanOpen port.val = true := ho
  have ha' : s.clearOut.asleep = true := ha
  refine volatile_ends (f := bemask port be) ?_ rfl rfl
  simp only [bemask, ho', ha', Bool.not_true, Bool.false_eq_true, if_false, if_true]
  rfl

end Sys2Proof.Machine
end

section
/-! PROOF. The home of a line: requests of other nodes' heads that it accepts, and those it refuses (05 R119; 06 R137-R143; 13 R338). -/

namespace Sys2Proof.Machine

open Sys2Proof

/-! ## What the home reads of the state -/

namespace Traffic

variable {s t : State} (e : Traffic s t)
include e

theorem regionAt (dpa : Nat) : t.regionAt dpa = s.regionAt dpa := by unfold State.regionAt; rw [e.dec]

theorem peerMay (m : SpanMsg) (r : Region) : t.peerMay m r = s.peerMay m r := by
  simp only [State.peerMay, State.fbitAt, e.fget (f := DEC_PEERKEY.PERMIT)]

theorem slot (k : Nat) : t.slot k = s.slot k := State.slot_congr e.inl k

theorem ttRoom1 : t.ttRoom1 = s.ttRoom1 := by
  unfold State.ttRoom1 State.ttUsed
  rw [State.ttFree_congr e.coh, e.coh]

theorem localTxn (r : Region) (n : Nat) (x : Txn) (dpa : Nat) : t.localTxn r n x dpa = s.localTxn r n x dpa := by
  simp only [State.localTxn, e.slot]

end Traffic

/-! ## Accepted requests (05 R119; 10 R263) -/

/-- A write that its key slot admits is counted under its key (10 R268). -/
def State.keyCounted (s : State) (a : Access) (k : Nat) : State := if a = .read then s else s.countWrite k

section
variable (s : State) (a : Access) (k : Nat)

theorem State.keyCounted_off : (s.keyCounted a k).offWrite = s.offWrite := by
  unfold State.keyCounted
  split
  · rfl
  · exact s.countWrite_off k

theorem State.keyCounted_coh : (s.keyCounted a k).coh = s.coh := (congrArg State.coh (s.keyCounted_off a k) :)
theorem State.keyCounted_dram : (s.keyCounted a k).dram = s.dram := (congrArg State.dram (s.keyCounted_off a k) :)
theorem State.keyCounted_slc : (s.keyCounted a k).slc = s.slc := (congrArg State.slc (s.keyCounted_off a k) :)
theorem State.keyCounted_chans : (s.keyCounted a k).chans = s.chans := (congrArg State.chans (s.keyCounted_off a k) :)
theorem State.keyCounted_link (p : Nat) : (s.keyCounted a k).link p = s.link p :=
  (congrArg (fun x : State => x.link p) (s.keyCounted_off a k) :)

theorem State.keyCounted_fget (f : Fld) (i : Nat) (hf : f.id < 1024) (hk : f.id ∉ inlEvtIds) :
    (s.keyCounted a k).fget f i = s.fget f i := by
  unfold State.keyCounted
  split
  · rfl
  · exact s.countWrite_fget k f i hf hk

theorem State.keyCounted_onChannel (mpa : Nat) : (s.keyCounted a k).onChannel mpa = s.onChannel mpa := by
  have hall : ∀ f ∈ placeFlds, f.id < 1024 ∧ f.id ∉ inlEvtIds := by decide
  exact State.onChannel_congr (s.keyCounted_chans a k) (fun f hf i => s.keyCounted_fget a k f i (hall f hf).1 (hall f hf).2) mpa

end

theorem Traffic.onChannel {s t : State} (e : Traffic s t) (mpa : Nat) : t.onChannel mpa = s.onChannel mpa := by
  have hall : ∀ f ∈ placeFlds, f.id < 1024 ∧ f.id ∉ pmuFlds.map (·.id) := by decide
  exact State.onChannel_congr e.chans (fun f hf i => e.fget i (hall f hf)) mpa

/-- An ACTIVE key slot serves every access. -/
theorem State.keyAdmit_active {s : State} {x : Txn} (hs : (s.slot x.key.toNat).state = 1) (a : Access) (dpa : Nat) (go : State → State) :
    s.keyAdmit x a dpa go = go (s.keyCounted a x.key.toNat) := by
  simp only [State.keyAdmit, hs, verdict]
  rfl

/-- The transaction of an accepted request of a peer: of the region of its line, in class C5. -/
def State.peerLine (s : State) (r : Region) (n : Nat) (m : SpanMsg) (x : Txn) : Txn :=
  { s.localTxn r n x (m.ln.toNat * 64) with cls := 5 }

theorem State.peerLine_ln (s : State) (r : Region) (n : Nat) (m : SpanMsg) (x : Txn) : (s.peerLine r n m x).ln = m.ln.toNat :=
  Nat.mul_div_cancel _ (by decide)

section
variable {s u : State} {m : SpanMsg} {r : Region} (e : Traffic s u) (hm : s.peerHits m r)
include e hm

/-- DEC passes an accepted request on. -/
theorem Traffic.peerDec_accepts (x : Txn) (go : Txn → State → State) :
    ∃ n, u.peerDec m x go = go (s.peerLine r n m x) (u.count 1 1) := by
  obtain ⟨-, hr, hmay, hfatal, -⟩ := hm
  obtain ⟨⟨n, r'⟩, hreg, rfl⟩ := Option.map_eq_some_iff.mp hr
  have e' := e.count 1 1 {} 1
  have hf' : (u.count 1 1).boot.fatal = false := by rw [e'.boot]; exact hfatal
  refine ⟨n, ?_⟩
  simp only [State.peerDec, e'.regionAt, hreg, e'.peerMay, hmay, hf', e'.localTxn, Bool.not_true, Bool.false_eq_true, if_false]
  rfl

/-- An accepted request meets the key slot, which serves it. -/
theorem Traffic.peerKey_accepts {x : Txn} (hk : x.key = m.key) (a : Access) (go : Txn → State → State) :
    ∃ n, u.peerDec m x (fun y t => t.keyAdmit y a (m.ln.toNat * 64) (go y)) =
      go (s.peerLine r n m x) ((u.count 1 1).keyCounted a m.key.toNat) := by
  obtain ⟨n, hdec⟩ := e.peerDec_accepts hm x fun y t => t.keyAdmit y a (m.ln.toNat * 64) (go y)
  obtain ⟨-, -, -, -, -, -, hs⟩ := hm
  have hs' : ((u.count 1 1).slot x.key.toNat).state = 1 := by rw [hk, (e.count 1 1 {} 1).slot]; exact hs
  refine ⟨n, hdec.trans ((State.keyAdmit_active (x := s.peerLine r n m x) hs' a _ _).trans ?_)⟩
  rw [← hk]
  rfl

end

/-- With the Span's dye off, a peer's request of an untiered line enters the transaction table under the next number. -/
theorem enterPeer_untiered {u : State} {x : Txn} (hd : u.fone PMU_DYECTL.SPAN = false) (ht : x.tiered = false) (hp : x.phase = .ingress) :
    ∃ ph st g b tx, enterPeer x u = { u with regs := g, boot := b, coh := { u.coh with txns := tx, next := u.coh.next + 1 } } ∧
      smFind? tx u.coh.next = some { x with phase := ph, stamps := st } := by
  have hh : x.holds = false := by simp only [Txn.holds, hp]
  have he : enterPeer x u = (u.newTxn x).2.decoded u.coh.next := by simp only [enterPeer, hd, Bool.false_eq_true, if_false, State.newTxn]
  obtain ⟨ph, st, g, b, tx, hdec, hf, -⟩ := State.decoded_untiered (s := (u.newTxn x).2) (smFind?_set_self ..) ht hh
  exact ⟨ph, st, g, b, tx, he.trans hdec, hf⟩

/-- The transaction y that a request x of a peer has become of a state s: in t it stands under the next number. -/
structure PeerEntered (s : State) (m : SpanMsg) (r : Region) (x y : Txn) (t : State) : Prop where
  txn : t.txn? s.coh.next = some y
  next : t.coh.next = s.coh.next + 1
  src : y.src = x.src
  kind : y.kind = x.kind
  mv : y.mv = x.mv
  data : y.data = x.data
  be : y.be = x.be
  poison : y.poison = x.poison
  ln : y.ln = m.ln.toNat
  key : y.key = x.key
  shared : y.shared = r.shared

/-- In t an access of a state s is counted under its key, a read not at all; memory and tiers are as in s. -/
structure KeyCounted (s : State) (k : Nat) (a : Access) (t : State) : Prop where
  dram : t.dram = s.dram
  slc : t.slc = s.slc
  inl : a = .read → t.inl = s.inl
  count : a ≠ .read → (t.slot k).count = min (2 ^ 52 - 1) ((s.slot k).count + 1)

theorem KeyCounted.pass {s v t : State} {k : Nat} {a : Access} (c : KeyCounted s k a v) (dram : t.dram = v.dram := by rfl)
    (slc : t.slc = v.slc := by rfl) (inl : t.inl = v.inl := by rfl) : KeyCounted s k a t :=
  ⟨dram.trans c.dram, slc.trans c.slc, fun ha => inl.trans (c.inl ha), fun ha => by rw [State.slot_congr inl]; exact c.count ha⟩

theorem Traffic.keyCounted {s u : State} (e : Traffic s u) (a : Access) (k : Nat) : KeyCounted s k a (u.keyCounted a k) where
  dram := (u.keyCounted_dram a k).trans e.dram
  slc := (u.keyCounted_slc a k).trans e.slc
  inl ha := by rw [State.keyCounted, if_pos ha, e.inl]
  count ha := by rw [State.keyCounted, if_neg ha, State.countWrite_count, e.slot]

section
variable {s u : State} {m : SpanMsg} {r : Region} (e : Traffic s u) (hm : s.peerHits m r)
include e hm

/-- An accepted class-3 request enters the transaction table, in class C5; the links stand. -/
theorem Traffic.peerReq_enters {x : Txn} (hk : x.key = m.key) (hp : x.phase = .ingress) (a : Access) :
    ∃ y, PeerEntered s m r x y (u.peerReq m x a) ∧ KeyCounted s m.key.toNat a (u.peerReq m x a) ∧ y.cls = 5 ∧
      ∀ p, (u.peerReq m x a).link p = u.link p := by
  obtain ⟨n, hreq⟩ := e.peerKey_accepts hm hk a enterPeer
  obtain ⟨-, -, -, -, hdye, ht, -⟩ := hm
  have e' := e.count 1 1 {} 1
  have hcount := e'.keyCounted a m.key.toNat
  generalize hv : (u.count 1 1).keyCounted a m.key.toNat = v at hreq hcount
  have hcoh : v.coh = s.coh := by rw [← hv, State.keyCounted_coh, e'.coh]
  have hlink (p : Nat) : v.link p = u.link p := by
    rw [← hv, State.keyCounted_link]
    exact (congrArg (fun x : State => x.link p) (u.count_off 1 1 {} 1) :)
  have hdye' : v.fone PMU_DYECTL.SPAN = false := by
    rw [← hv, State.fone, State.keyCounted_fget _ _ _ _ _ (by decide) (by decide), e'.fget]
    exact hdye
  obtain ⟨ph, st, g, b, tx, he, hf⟩ := enterPeer_untiered (x := s.peerLine r n m x) hdye' ht hp
  rw [State.peerReq, hreq, he]
  rw [hcoh] at hf ⊢
  exact ⟨_, ⟨hf, rfl, rfl, rfl, rfl, rfl, rfl, rfl, s.peerLine_ln r n m x, rfl, rfl⟩, hcount.pass, rfl, hlink⟩

/-- An accepted writeback of a line that is not shared goes on towards memory at once, as a class-1 write (06 R141). -/
theorem Traffic.spanWb_accepted (hns : r.shared = false) (hr : s.ttRoom1 = true) (hto : (peerPtr m, m.ln.toNat) ∉ s.coh.timeouts)
    (hc : s.onChannel m.ln.toNat = true) : ∃ y, PeerEntered s m r (peerTxn m .write (BitVec.allOnes 64) 1) y (spanWb m u) ∧
      KeyCounted s m.key.toNat .writeback (spanWb m u) ∧ y.mc = 1 ∧ y.phase = .credit ∧ y.mpa = some m.ln.toNat := by
  obtain ⟨n, hreq⟩ := e.peerKey_accepts (x := peerTxn m .write (BitVec.allOnes 64) 1) hm rfl .writeback
    fun y t => t.acceptWb y (peerPtr m)
  obtain ⟨-, -, -, -, -, ht, -⟩ := hm
  have e' := e.count 1 1 {} 1
  have hcount := e'.keyCounted .writeback m.key.toNat
  have hln := s.peerLine_ln r n m (peerTxn m .write (BitVec.allOnes 64) 1)
  generalize hz : s.peerLine r n m (peerTxn m .write (BitVec.allOnes 64) 1) = z at hreq hln
  generalize hv : (u.count 1 1).keyCounted .writeback m.key.toNat = v at hreq hcount
  have hcoh : v.coh = s.coh := by rw [← hv, State.keyCounted_coh, e'.coh]
  have hc' : v.onChannel z.ln = true := by rw [← hv, State.keyCounted_onChannel, e'.onChannel, hln]; exact hc
  have hto' : (peerPtr m, z.ln) ∉ v.coh.timeouts := by rw [hcoh, hln]; exact hto
  obtain ⟨c, ev, tx, he, hf⟩ := State.acceptWb_untiered (hz ▸ ht : z.tiered = false) (hz ▸ hns : z.shared = false) hto' hc'
  have hwb : spanWb m u = v.acceptWb z (peerPtr m) := by
    unfold spanWb
    rw [e.ttRoom1, hr]
    exact hreq
  rw [hwb, he]
  rw [hcoh, hln] at hf
  rw [hcoh]
  subst hz
  exact ⟨_, ⟨hf, rfl, rfl, rfl, rfl, rfl, rfl, rfl, rfl, rfl, rfl⟩, hcount.pass, rfl, rfl, rfl⟩

end

end Sys2Proof.Machine
end

section
/-! PROOF. What the home answers at once: refused requests, clean eviction notices, conflict notices and lines of donor runs
(05 R119; 06 R132, R143; 13 R323, R339). -/

namespace Sys2Proof.Machine

open Sys2Proof

/-! ## Answers to a peer (13 R324) -/

/-- The opcode that answers a request: RSP_DATA or CMP. -/
def answerOp (k : TxnKind) : Nat := if k = .read then 0x30 else 0x31

/-- A message of this node carries the TAG it is given. -/
theorem spanMsg_tag (s : State) (h key : Nat) (tag : BitVec 12) (ln arg : Nat) (mv : MetaValue) (d : Data) (po sh : Bool) (dl ur : Nat) :
    (spanMsg s h key tag.toNat ln arg mv d po sh dl ur).tag = tag := by simp [spanMsg]

theorem State.answerRead_peer {x : Txn} {k : NodeId} {h : Head} {tag : BitVec 12} (hx : x.src = .peer k h tag) (s : State) (d : Data)
    (po : Bool) : ∃ c, s.answerRead x d po = s.sendSpan k.toNat 0x30 c ∧ c.tag = tag ∧ c.poison = po := by
  simp only [State.answerRead, hx]
  exact ⟨_, rfl, spanMsg_tag .., rfl⟩

theorem State.answerWrite_peer {x : Txn} {k : NodeId} {h : Head} {tag : BitVec 12} (hx : x.src = .peer k h tag) (s : State) (po : Bool) :
    ∃ c, s.answerWrite x po = s.sendSpan k.toNat 0x31 c ∧ c.tag = tag ∧ c.poison = po := by
  simp only [State.answerWrite, hx]
  exact ⟨_, rfl, spanMsg_tag .., rfl⟩

/-- Poison to a peer, whatever it asked for. -/
theorem State.poison_peer {x : Txn} {k : NodeId} {h : Head} {tag : BitVec 12} (hx : x.src = .peer k h tag) (s : State) :
    ∃ c, (if x.kind = .read then s.answerRead x 0 true else s.answerWrite x true) = s.sendSpan k.toNat (answerOp x.kind) c ∧
      c.tag = tag ∧ c.poison = true := by
  unfold answerOp
  split
  · exact s.answerRead_peer hx 0 true
  · exact s.answerWrite_peer hx true

/-! ## Refused requests (05 R119) -/

/-- A refused request is answered with poison, and DEC class 4 is in fault state. -/
theorem Traffic.peerDec_refused {s u : State} {m : SpanMsg} (e : Traffic s u)
    (hall : (s.regionAt (m.ln.toNat * 64)).all (fun q => !s.peerMay m q.2) = true) {x : Txn} (hx : x.src = .peer m.src m.head m.tag)
    {go : Txn → State → State} {t : State} (ht : u.peerDec m x go = t) : ∃ c, .span m.src (answerOp x.kind) c ∈ t.out ∧ c.tag = m.tag ∧
      c.poison = true ∧ t.inFault setDEC 4 = true ∧ t.coh = s.coh ∧ t.dram = s.dram ∧ t.inl = s.inl := by
  have e' := e.count 1 1 {} 1
  have hr : u.peerDec m x go = (u.count 1 1).peerRefuse x m := by
    cases hreg : s.regionAt (m.ln.toNat * 64) with
    | none => simp only [State.peerDec, e'.regionAt, hreg]
    | some q =>
      rw [hreg, Option.all_some] at hall
      simp only [State.peerDec, e'.regionAt, hreg, e'.peerMay, hall, if_true]
  have e4 := e'.count 1 4 {} 1
  obtain ⟨c, hc, htag, hpo⟩ := State.poison_peer hx
    (((u.count 1 1).count 1 4).report setDEC 4 { addr := m.ln.toNat * 64, syn := peerPtr m })
  have hp : u.peerDec m x go = _ := hr.trans hc
  have es := (Traffic.refl (((u.count 1 1).count 1 4).report setDEC 4 { addr := m.ln.toNat * 64, syn := peerPtr m })).sendSpan
    m.src.toNat (answerOp x.kind) c
  rw [← ht, hp]
  refine ⟨c, State.sendSpan_out .., htag, hpo, (es.inFault ..).trans (State.report_inFault _ _ _ _ _ (by decide)), ?_, ?_, ?_⟩
  · rw [es.coh, State.report_coh, e4.coh]
  · rw [es.dram, State.report_dram, e4.dram]
  · rw [es.inl, State.report_inl, e4.inl]

/-- A WRP with no mask before it is answered by NACK with cause 3 (13 R323). -/
theorem Traffic.sendNack {s u : State} (e : Traffic s u) (m : SpanMsg) (cause : Nat) :
    Traffic s (u.sendNack m.src.toNat m.tag.toNat cause) ∧ ∃ c, .span m.src 0x38 c ∈ (u.sendNack m.src.toNat m.tag.toNat cause).out ∧
      c.tag = m.tag ∧ c.arg = BitVec.ofNat 20 cause :=
  ⟨(e.sendSpan ..).count .., _, State.count_out _ _ _ _ _ (State.sendSpan_out ..), spanMsg_tag .., rfl⟩

/-! ## Clean eviction notices (06 R132) -/

/-- Dropping a pointer touches the directory alone. -/
theorem State.dropPtr_eq (s : State) (ln : Nat) (p : Target) : ∃ d, s.dropPtr ln p = { s with coh := { s.coh with dir := d } } := by
  unfold State.dropPtr
  split
  · exact ⟨s.coh.dir, rfl⟩
  · split
    · exact ⟨s.coh.dir, rfl⟩
    · dsimp only
      split <;> exact ⟨_, rfl⟩

/-- A peer's clean eviction notice is completed; of a line that is not shared COH is left as it is. -/
theorem Traffic.spanClnevct_completes {s u : State} {m : SpanMsg} {r : Region} (e : Traffic s u) (hm : s.peerHits m r) :
    ∃ c, .span m.src 0x31 c ∈ (spanClnevct m u).out ∧ c.tag = m.tag ∧ c.poison = false ∧
      (r.shared = false → (spanClnevct m u).coh = s.coh) ∧ (spanClnevct m u).dram = s.dram ∧ (spanClnevct m u).inl = s.inl := by
  obtain ⟨n, hdec⟩ := e.peerDec_accepts hm (peerTxn m .write 0 3) fun x t => t.cleanEvict x (peerPtr m)
  have e' := e.count 1 1 {} 1
  generalize hz : s.peerLine r n m (peerTxn m .write 0 3) = z at hdec
  have hsrc : z.src = .peer m.src m.head m.tag := by subst hz; rfl
  have hsh : z.shared = r.shared := by subst hz; rfl
  obtain ⟨v, hv, hvc, hvn⟩ : ∃ v, (if z.shared = true then (u.count 1 1).dropPtr z.ln (peerPtr m) else u.count 1 1) = v ∧
      (∃ d, v = { u.count 1 1 with coh := { (u.count 1 1).coh with dir := d } }) ∧ (r.shared = false → v = u.count 1 1) := by
    refine ⟨_, rfl, ?_, fun h => if_neg (by simp [hsh, h])⟩
    split
    · exact State.dropPtr_eq ..
    · exact ⟨_, rfl⟩
  obtain ⟨c, hc, htag, hpo⟩ := v.answerWrite_peer hsrc false
  have hcl : spanClnevct m u = v.sendSpan m.src.toNat 0x31 c := by rw [← hc, ← hv]; exact hdec
  have es := (Traffic.refl v).sendSpan m.src.toNat 0x31 c
  rw [hcl]
  obtain ⟨d, hvc⟩ := hvc
  refine ⟨c, State.sendSpan_out .., htag, hpo, fun h => ?_, ?_, ?_⟩
  · rw [es.coh, hvn h, e'.coh]
  · rw [es.dram, hvc, ← e'.dram]
  · rw [es.inl, hvc, ← e'.inl]

/-! ## Conflict notices (06 R143) -/

theorem Traffic.spanConflict {s u : State} (e : Traffic s u) (m : SpanMsg) : Traffic s (spanConflict m u) ∧
    ∃ c, .span m.src 0x33 c ∈ (spanConflict m u).out ∧ c.tag = m.tag ∧ c.ln = m.ln ∧ c.head = m.head :=
  ⟨e.sendSpan .., _, State.sendSpan_out .., spanMsg_tag .., by simp [spanMsg], Fin.ext (Nat.mod_eq_of_lt m.head.isLt)⟩

/-! ## Lines of donor runs (13 R339) -/

theorem Traffic.holdsLine {s u : State} (e : Traffic s u) (node ln : Nat) : u.holdsLine node ln = s.holdsLine node ln := by
  unfold State.holdsLine
  rw [e.runs]

/-- A request for a line of a run that its sender holds enters the transaction table under key ID 0; a write is counted. -/
theorem Traffic.slabReq_held {s u : State} {m : SpanMsg} (e : Traffic s u) (hh : s.holdsLine m.src.toNat m.ln.toNat = true)
    (hf : s.boot.fatal = false) {kind : TxnKind} {a : Access} (ha : a = .read ↔ kind = .read) :
    ∃ ph, (u.slabReq m kind).txn? s.coh.next = some { slabTxn m kind with phase := ph } ∧ KeyCounted s 0 a (u.slabReq m kind) := by
  have hcount := e.keyCounted a 0
  have hcoh := u.keyCounted_coh a 0
  have hreq : u.slabReq m kind = ((u.keyCounted a 0).newTxn (slabTxn m kind)).2.enterCoh (u.keyCounted a 0).coh.next := by
    simp only [State.slabReq, e.holdsLine, hh, e.boot, hf, State.keyCounted, ha, Bool.not_true, Bool.false_eq_true, if_false, State.newTxn]
  generalize u.keyCounted a 0 = v at hcount hcoh hreq
  obtain ⟨ph, g, he, -⟩ := State.enterCoh_eq (s := (v.newTxn (slabTxn m kind)).2) (smFind?_set_self ..)
  refine ⟨ph, ?_, ?_⟩
  · rw [hreq, he, ← e.coh, ← hcoh, State.txn?, smFind?_adj_self, State.newTxn, smFind?_set_self]
    rfl
  · rw [hreq, he]
    exact hcount.pass

/-- A read of a line that no run of its sender holds is answered with poison. -/
theorem Traffic.slabRd_refused {s u : State} {m : SpanMsg} (e : Traffic s u) (hh : s.holdsLine m.src.toNat m.ln.toNat = false) :
    ∃ c, .span m.src 0x30 c ∈ (spanSlabRd m u).out ∧ c.tag = m.tag ∧ c.poison = true ∧ Traffic s (spanSlabRd m u) := by
  obtain ⟨c, hc, htag, hpo⟩ := State.answerRead_peer (x := slabTxn m .read) rfl u 0 true
  have hreq : spanSlabRd m u = u.sendSpan m.src.toNat 0x30 c := by
    simp only [spanSlabRd, State.slabReq, e.holdsLine, hh, Bool.not_false, if_true]
    exact hc
  rw [hreq]
  exact ⟨c, State.sendSpan_out .., htag, hpo, e.sendSpan ..⟩

end Sys2Proof.Machine
end

section
/-! PROOF. The donor and its grants (09 R241; 13 R332, R339), and snoops of this node's heads for a home (06 R136; 13 R338). -/

namespace Sys2Proof.Machine

open Sys2Proof

/-! ## Runs (13 R339) -/

theorem Traffic.slabsHeldFor {s u : State} (e : Traffic s u) (node : Nat) : u.slabsHeldFor node = s.slabsHeldFor node := by
  unfold State.slabsHeldFor
  rw [e.runs]

theorem Traffic.slabsGrantedTo {s u : State} (e : Traffic s u) (node : Nat) : u.slabsGrantedTo node = s.slabsGrantedTo node := by
  unfold State.slabsGrantedTo
  rw [e.grantsOut]

theorem Traffic.frameCands {s u : State} (e : Traffic s u) (kind : Nat) (m : SMap SlabFrame) : u.frameCands kind m = s.frameCands kind m := by
  unfold State.frameCands
  rw [e.slc]

/-- An answer to ALLOC is traffic: its result and its run's first slab line. -/
theorem State.allocAnswer_traffic (s : State) (m : SpanMsg) (slab res : Nat) : Traffic s (s.allocAnswer m slab res) ∧
    ∃ c, .span m.src 0x34 c ∈ (s.allocAnswer m slab res).out ∧ c.tag = m.tag ∧ c.arg = BitVec.ofNat 20 res ∧
      c.ln = BitVec.ofNat 40 (slab * 4) :=
  ⟨(Traffic.refl s).sendSpan .., _, State.sendSpan_out .., spanMsg_tag .., rfl, rfl⟩

/-- The state after a run has been given to a node. -/
def State.runTaken (s : State) (node : NodeId) (slab k : Nat) (fr : SMap SlabFrame) : State :=
  { s with slc := { s.slc with donor := fr }, spn := { s.spn with runs := smSet s.spn.runs slab (node, k) } }

section
variable {s u : State} {m : SpanMsg} (e : Traffic s u) (h1 : 1 ≤ m.arg.toNat) (h16 : m.arg.toNat ≤ 16)
include e h1 h16

theorem Traffic.spanAlloc_noGrant (hg : s.slabsGrantedTo m.src.toNat < s.slabsHeldFor m.src.toNat + m.arg.toNat) :
    spanAlloc m u = u.allocAnswer m 0 2 := by
  unfold spanAlloc
  have hk : ¬ (m.arg.toNat < 1 ∨ 16 < m.arg.toNat) := by omega
  simp only [e.slabsGrantedTo, e.slabsHeldFor, if_pos hg, if_neg hk]

/-- Within its grant a node is given what the pool has. -/
theorem Traffic.spanAlloc_granted (hg : s.slabsHeldFor m.src.toNat + m.arg.toNat ≤ s.slabsGrantedTo m.src.toNat) : spanAlloc m u =
    match takeRun (s.frameCands 2 s.slc.donor) m.arg.toNat s.slc.donor with
    | none => u.allocAnswer m 0 1
    | some (slab, fr) => (u.runTaken m.src slab m.arg.toNat fr).allocAnswer m slab 0 := by
  unfold spanAlloc
  have hk : ¬ (m.arg.toNat < 1 ∨ 16 < m.arg.toNat) := by omega
  have hrun : takeRun (u.frameCands 2 u.slc.donor) m.arg.toNat u.slc.donor = takeRun (s.frameCands 2 s.slc.donor) m.arg.toNat s.slc.donor := by
    rw [e.frameCands, e.slc]
  simp only [e.slabsGrantedTo, e.slabsHeldFor, hrun, if_neg (Nat.not_lt.mpr hg), if_neg hk]
  rfl

end

/-- The state after a run has come back from its holder. -/
def State.runFreed (s : State) (m : SpanMsg) : State :=
  match smFind? s.spn.runs (m.ln.toNat / 4) with
  | some (n, _) =>
    if n = m.src then { s with
      slc := { s.slc with donor := giveRun s.slc.donor (m.ln.toNat / 4) }
      spn := { s.spn with runs := smDel s.spn.runs (m.ln.toNat / 4) } }
    else s
  | none => s

theorem spanFree_eq (m : SpanMsg) (s : State) :
    spanFree m s = (s.runFreed m).sendSpan m.src.toNat 0x31 (spanMsg (s.runFreed m) 0 0 m.tag.toNat m.ln.toNat 0) := rfl

theorem State.runFreed_own {s : State} {m : SpanMsg} {k : Nat} (h : smFind? s.spn.runs (m.ln.toNat / 4) = some (m.src, k)) :
    s.runFreed m = { s with
      slc := { s.slc with donor := giveRun s.slc.donor (m.ln.toNat / 4) }
      spn := { s.spn with runs := smDel s.spn.runs (m.ln.toNat / 4) } } := by
  simp only [State.runFreed, h, if_true]

theorem State.runFreed_foreign {s : State} {m : SpanMsg} {n : NodeId} {k : Nat}
    (h : smFind? s.spn.runs (m.ln.toNat / 4) = some (n, k)) (hn : n ≠ m.src) : s.runFreed m = s := by
  simp only [State.runFreed, h, if_neg hn]

/-- Whoever held the run, registers, memory, coherence and flash stand. -/
theorem State.runFreed_same (s : State) (m : SpanMsg) : (s.runFreed m).regs = s.regs ∧ (s.runFreed m).dram = s.dram ∧
    (s.runFreed m).coh = s.coh := by
  unfold State.runFreed
  split
  · split <;> exact ⟨rfl, rfl, rfl⟩
  · exact ⟨rfl, rfl, rfl⟩

/-! ## Grants (09 R241; 13 R332) -/

theorem Traffic.freeGib {s u : State} (e : Traffic s u) : u.freeGib = s.freeGib := by
  simp only [State.freeGib, e.slc, e.fget (f := SPN_CFG.ROLE), e.fget (f := SPN_DONATE.GIB), e.fget (f := SPN_GRANT.OUT)]

theorem State.floodSelf_keeps (P : State → Prop) (hspn : ∀ s n, P s → P { s with spn := { s.spn with ageSeq := n } })
    (hemit : ∀ s o, P s → P (s.emit o)) (hpush : ∀ s p, P s → P (s.pushFlit p 3)) {s : State} (hs : P s) (b : Bool) : P (s.floodSelf b) := by
  unfold State.floodSelf
  dsimp only
  split
  · exact hspn _ _ hs
  · exact State.each_keeps P _ _ (fun p t => hpush t p) (hemit _ _ (hspn _ _ hs))

/-- A flooded announcement leaves what has been sent, and what others have been granted. -/
theorem State.floodSelf_out (s : State) (b : Bool) {o : Out} (ho : o ∈ s.out) : o ∈ (s.floodSelf b).out :=
  State.floodSelf_keeps (fun t => o ∈ t.out) (fun _ _ h => h) (fun _ _ h => List.mem_append_left _ h) (fun _ _ h => h) ho b

theorem State.floodSelf_grantsOut (s : State) (b : Bool) : (s.floodSelf b).spn.grantsOut = s.spn.grantsOut :=
  State.floodSelf_keeps (fun t => t.spn.grantsOut = s.spn.grantsOut) (fun _ _ h => h) (fun _ _ h => h) (fun _ _ h => h) rfl b

/-- The state after a node has been granted whole GiB. -/
def State.gibGranted (s : State) (node g : Nat) : State :=
  { s with spn := { s.spn with grantsOut := smMod s.spn.grantsOut node 0 (· + g) } }.fset SPN_GRANT.OUT 0 (s.fget SPN_GRANT.OUT + g)

theorem spanGrantReq_eq (m : SpanMsg) (s : State) : spanGrantReq m s =
    if min m.arg.toNat s.freeGib = 0 then s.sendSpan m.src.toNat 0x35 (spanMsg s 0 0 m.tag.toNat 0 (min m.arg.toNat s.freeGib))
    else ((s.sendSpan m.src.toNat 0x35 (spanMsg s 0 0 m.tag.toNat 0 (min m.arg.toNat s.freeGib))).gibGranted m.src.toNat
      (min m.arg.toNat s.freeGib)).floodSelf := rfl

/-- GRANT_REQ answers with what is granted; the ledger and `SPN_GRANT.OUT` follow, and nothing else but an announcement. -/
theorem Traffic.spanGrantReq {s u : State} (e : Traffic s u) (m : SpanMsg) {t : State} (ht : spanGrantReq m u = t) {g : Nat}
    (hg : min m.arg.toNat s.freeGib = g) :
    (∃ c, .span m.src 0x35 c ∈ t.out ∧ c.tag = m.tag ∧ c.arg = BitVec.ofNat 20 g) ∧
    (g ≠ 0 → smGet t.spn.grantsOut m.src.toNat 0 = smGet s.spn.grantsOut m.src.toNat 0 + g ∧
      t.fget SPN_GRANT.OUT = (s.fget SPN_GRANT.OUT + g) % 2 ^ SPN_GRANT.OUT.width) ∧
    (g = 0 → t.spn.grantsOut = s.spn.grantsOut) ∧
    (∀ k, k ≠ m.src.toNat → smFind? t.spn.grantsOut k = smFind? s.spn.grantsOut k) ∧
    t.dram = s.dram ∧ t.coh = s.coh ∧ t.slc = s.slc ∧ RegsSame ([SPN_GRANT.OUT] ++ pmuFlds) s t := by
  have es := e.sendSpan m.src.toNat 0x35 (spanMsg u 0 0 m.tag.toNat 0 g)
  have hout := u.sendSpan_out m.src 0x35 (spanMsg u 0 0 m.tag.toNat 0 g)
  rw [spanGrantReq_eq, e.freeGib, hg] at ht
  generalize u.sendSpan m.src.toNat 0x35 (spanMsg u 0 0 m.tag.toNat 0 g) = v at es hout ht
  split at ht
  · next h0 =>
    subst ht
    exact ⟨⟨_, hout, spanMsg_tag .., rfl⟩, fun h => absurd h0 h, fun _ => es.grantsOut, fun k _ => by rw [es.grantsOut], es.dram, es.coh,
      es.slc, es.regs.mono (by simp +contextual)⟩
  · next h0 =>
    have hgr : t.spn.grantsOut = smMod s.spn.grantsOut m.src.toNat 0 (· + g) := by
      rw [← ht, State.floodSelf_grantsOut, ← es.grantsOut]
      rfl
    have hoff := (v.gibGranted m.src.toNat g).floodSelf_off false
    rw [ht] at hoff
    refine ⟨⟨_, by rw [← ht]; exact State.floodSelf_out _ _ hout, spanMsg_tag .., rfl⟩, fun _ => ⟨?_, ?_⟩, fun h => absurd h h0, fun k hk => ?_, ?_, ?_, ?_, ?_⟩
    · rw [hgr, smGet_mod_self]
    · rw [← ht, State.floodSelf_fget, State.gibGranted, State.fget_fset_self, es.fget]
    · rw [hgr, smMod, smFind?_set_ne _ _ hk]
    · exact (congrArg State.dram hoff :).trans es.dram
    · exact (congrArg State.coh hoff :).trans es.coh
    · exact (congrArg State.slc hoff :).trans es.slc
    · have hv : RegsSame ([SPN_GRANT.OUT] ++ pmuFlds) s v := es.regs.mono (by simp +contextual)
      have hset := hv.fset (g := SPN_GRANT.OUT) 0 (v.fget SPN_GRANT.OUT + g) (by decide)
      rw [← ht]
      exact fun f i hf hp => (State.floodSelf_fget ..).trans (hset f i hf hp)

/-! ## Snoops for a home (06 R136; 13 R338) -/

theorem Traffic.head {s u : State} (e : Traffic s u) (h : Nat) : (u.head h).presence = (s.head h).presence :=
  (congrArg HeadSt.presence (e.core h) :)

theorem Traffic.headsOn {s u : State} (e : Traffic s u) : u.headsOn = s.headsOn := by
  have h : u.headOn = s.headOn := by
    funext h
    simp only [State.headOn, State.fbitAt, e.fget (f := GLB_HEADS.ENABLED)]
  simp only [State.headsOn, h]

theorem Traffic.snoopedHeads {s u : State} (e : Traffic s u) (m : SpanMsg) : u.snoopedHeads m = s.snoopedHeads m := by
  simp only [State.snoopedHeads, State.headGone, State.reachesHome, State.region, State.decoder, e.headsOn, e.head, e.dec]

theorem Traffic.wbPending {s u : State} (e : Traffic s u) (home ln : Nat) : u.wbPending home ln = s.wbPending home ln := by
  unfold State.wbPending
  rw [e.tags]

/-- A home's snoop as this node keeps it. -/
def homeSnoop (m : SpanMsg) (l : List Nat) : PeerSnoop :=
  { home := m.src.toNat, tag := m.tag.toNat, head := m.head.val, ln := m.ln.toNat, heads := l }

/-- The state with a home's snoop noted. -/
def State.snoopNoted (s : State) (q : PeerSnoop) : State :=
  { s with spn := { s.spn with snoops := smSet s.spn.snoops s.spn.snoopNext q, snoopNext := s.spn.snoopNext + 1 } }

/-- A snoop of one head goes to it, and waits for its answer. -/
theorem Traffic.peerSnoop_one {s u : State} {m : SpanMsg} (e : Traffic s u) {h : Nat} (hl : s.snoopedHeads m = [h]) (inv : Bool) {t : State}
    (ht : u.peerSnoop m inv = t) : .bisnp (Fin.ofNat 16 h) m.ln.toNat inv ∈ t.out ∧
      smFind? t.spn.snoops s.spn.snoopNext = some (homeSnoop m [h]) ∧ t.dram = s.dram ∧ t.coh = s.coh ∧ RegsSame pmuFlds s t := by
  generalize hv : u.snoopNoted (homeSnoop m [h]) = v
  have ev := ((Traffic.refl v).pass (u := v.emit (.bisnp (Fin.ofNat 16 h) m.ln.toNat inv))).count 0 5 { head := some h } 1
  have hfind : smFind? v.spn.snoops u.spn.snoopNext = some (homeSnoop m [h]) := by rw [← hv]; exact smFind?_set_self ..
  have he : u.peerSnoop m inv = ((v.emit (.bisnp (Fin.ofNat 16 h) m.ln.toNat inv)).count 0 5 { head := some h } 1).peerSnoopDone
      u.spn.snoopNext := by
    rw [← hv]
    unfold State.peerSnoop
    rw [e.snoopedHeads, hl]
    rfl
  have hout := v.emit_count_out (.bisnp (Fin.ofNat 16 h) m.ln.toNat inv) 0 5 { head := some h } 1
  generalize (v.emit (.bisnp (Fin.ofNat 16 h) m.ln.toNat inv)).count 0 5 { head := some h } 1 = w at ev he hout
  have hw : smFind? w.spn.snoops u.spn.snoopNext = some (homeSnoop m [h]) := by rw [ev.snoops]; exact hfind
  have hdone : w.peerSnoopDone u.spn.snoopNext = w := by
    simp only [State.peerSnoopDone, hw, homeSnoop, List.isEmpty_cons, Bool.not_false, true_or, if_true]
  rw [← ht, he, hdone]
  refine ⟨hout, by rw [← e.snoopNext]; exact hw, ?_, ?_, fun f i hf hp => ?_⟩
  · rw [ev.dram, ← hv, ← e.dram]; rfl
  · rw [ev.coh, ← hv, ← e.coh]; rfl
  · rw [ev.regs f i hf hp, ← e.regs f i hf hp, ← hv]; rfl

/-- A snoop that concerns no head, of a line with no writeback under way, is answered at once. -/
theorem Traffic.peerSnoop_none {s u : State} {m : SpanMsg} (e : Traffic s u) (hl : s.snoopedHeads m = [])
    (hw : s.wbPending m.src.toNat m.ln.toNat = false) (inv : Bool) {t : State} (ht : u.peerSnoop m inv = t) :
    (∃ c, .span m.src 0x32 c ∈ t.out ∧ c.tag = m.tag ∧ c.ln = m.ln ∧ c.mv = .I) ∧ smFind? t.spn.snoops s.spn.snoopNext = none ∧
      t.coh = s.coh := by
  generalize hv : u.snoopNoted (homeSnoop m []) = v
  have he : u.peerSnoop m inv = v.peerSnoopDone u.spn.snoopNext := by
    rw [← hv]
    unfold State.peerSnoop
    rw [e.snoopedHeads, hl]
    rfl
  have hfind : smFind? v.spn.snoops u.spn.snoopNext = some (homeSnoop m []) := by rw [← hv]; exact smFind?_set_self ..
  have hw' : v.wbPending m.src.toNat m.ln.toNat = false := by rw [← hw, ← e.wbPending, ← hv]; rfl
  have hdone : v.peerSnoopDone u.spn.snoopNext = ({ v with spn := { v.spn with snoops := smDel v.spn.snoops u.spn.snoopNext } } : State).sendSpan
      m.src.toNat 0x32 (spanMsg { v with spn := { v.spn with snoops := smDel v.spn.snoops u.spn.snoopNext } } m.head.val 0 m.tag.toNat
        m.ln.toNat 0 .I) := by
    unfold State.peerSnoopDone
    rw [hfind]
    exact if_neg (by simp [homeSnoop, hw'])
  have es := (Traffic.refl { v with spn := { v.spn with snoops := smDel v.spn.snoops u.spn.snoopNext } }).sendSpan
      m.src.toNat 0x32 (spanMsg { v with spn := { v.spn with snoops := smDel v.spn.snoops u.spn.snoopNext } } m.head.val 0 m.tag.toNat
        m.ln.toNat 0 .I)
  rw [← ht, he, hdone]
  refine ⟨⟨_, State.sendSpan_out .., spanMsg_tag .., by simp [spanMsg], rfl⟩, ?_, ?_⟩
  · rw [es.snoops, ← e.snoopNext]
    exact smFind?_del_self ..
  · rw [es.coh, ← e.coh, ← hv]
    rfl

end Sys2Proof.Machine
end

section
/-! PROOF. Responses on the Span: to a head's request, late, to a snoop, and of a donor (06 R142; 09 R240, R241; 13 R324, R336, R338, R339). -/

namespace Sys2Proof.Machine

open Sys2Proof

/-! ## A response and its request (13 R336) -/

section
variable {s u : State} {m : SpanMsg} (e : Traffic s u)
include e

/-- A response acts for the request it answers, whose TAG is free again. -/
theorem Traffic.answered {r : SpanReq} (ha : s.awaits m r) (f : SpanReq → State → State) :
    u.answered m f = f r (u.tagFree m.src.toNat m.tag.toNat) := by
  obtain ⟨-, hr, hfail⟩ := ha
  simp only [State.answered, e.tags, hr, hfail, Bool.false_eq_true, if_false]

/-- A response with no request, or one of a TAG that rests, is counted late, and that is all. -/
theorem Traffic.answered_late (hl : ∀ r, smFind? s.spn.tags (m.src.toNat * 4096 + m.tag.toNat) = some r → r.failed = true)
    (f : SpanReq → State → State) : u.answered m f = u.finc SPN_FWD.LATE := by
  unfold State.answered
  rw [e.tags]
  cases hr : smFind? s.spn.tags (m.src.toNat * 4096 + m.tag.toNat) with
  | none => rfl
  | some r => exact if_pos (hl r hr)

theorem Traffic.lateCounted : (u.finc SPN_FWD.LATE).fget SPN_FWD.LATE = min (2 ^ SPN_FWD.LATE.width - 1) (s.fget SPN_FWD.LATE + 1) ∧
    (u.finc SPN_FWD.LATE).spn.tags = s.spn.tags ∧ (u.finc SPN_FWD.LATE).coh = s.coh ∧ (u.finc SPN_FWD.LATE).dram = s.dram ∧
    RegsSame ([SPN_FWD.LATE] ++ pmuFlds) s (u.finc SPN_FWD.LATE) :=
  ⟨by rw [State.finc_fget_self, e.fget], e.tags, e.coh, e.dram, (e.regs.mono (by simp +contextual)).fset _ _ (by decide)⟩

/-- With its TAG free, what traffic alone follows leaves the rest of the device as it was. -/
theorem Traffic.tagFreed {n tag : Nat} {t : State} (et : Traffic (u.tagFree n tag) t) :
    smFind? t.spn.tags (n * 4096 + tag) = none ∧
    (∀ k, k ≠ n * 4096 + tag → smFind? t.spn.tags k = smFind? s.spn.tags k) ∧ t.coh = s.coh ∧ t.dram = s.dram ∧ t.slc = s.slc ∧
    RegsSame pmuFlds s t :=
  ⟨by rw [et.tags]; exact smFind?_del_self .., fun k hk => by rw [et.tags, ← e.tags]; exact smFind?_del_ne _ hk,
    et.coh.trans e.coh, et.dram.trans e.dram, et.slc.trans e.slc, fun f i hf hp => (et.regs f i hf hp).trans (e.regs f i hf hp)⟩

theorem Traffic.linkReady (h : Nat) : u.linkReady h = s.linkReady h := by
  simp only [State.linkReady, State.headOn, State.fbitAt, State.fone, e.fget (f := GLB_HEADS.ENABLED), e.fget (f := HP_LINK.UP), e.head]

end

/-! ## Answers to a head (13 R338) -/

section
variable {s : State} {r : SpanReq} {h : Head} (hd : r.drw = none) (hh : r.head = some h) (hl : s.linkReady h.val = true)
include hd hh hl

theorem State.homeRead_head (home : Nat) (d : Data) (po : Bool) (dl : Nat) : Traffic s (s.homeRead home r d po dl) ∧
    .drs h r.ln d po dl ∈ (s.homeRead home r d po dl).out := by
  simp only [State.homeRead, hd, hh, hl, if_true]
  exact ⟨(Traffic.pass (.refl s)).count .., State.emit_count_out ..⟩

theorem State.homeWrite_head (po : Bool) (dl : Nat) : Traffic s (s.homeWrite r po dl) ∧ .ndr h r.ln po dl ∈ (s.homeWrite r po dl).out := by
  simp only [State.homeWrite, hd, hh, hl, if_true]
  exact ⟨(Traffic.pass (.refl s)).count .., State.emit_count_out ..⟩

end

section
variable {s u : State} {m : SpanMsg} {r : SpanReq} {h : Head} (e : Traffic s u) (ha : s.headAwaits m r h)
include e ha

/-- The link of the head that asked is up in the state whose TAG is free. -/
theorem Traffic.linkReady_tagFree : (u.tagFree m.src.toNat m.tag.toNat).linkReady h.val = true :=
  (e.linkReady h.val).trans ha.2.2.2

theorem Traffic.spanData_head (h1 : r.op = 1) : Traffic (u.tagFree m.src.toNat m.tag.toNat) (spanData m u) ∧
    .drs h r.ln m.data m.poison m.devload.val ∈ (spanData m u).out := by
  have hup := e.linkReady_tagFree ha
  obtain ⟨ha, hd, hh, -⟩ := ha
  unfold spanData
  rw [e.answered ha, if_neg (by rw [h1]; decide)]
  exact State.homeRead_head hd hh hup ..

theorem Traffic.spanCmp_head (hop : r.op = 2 ∨ r.op = 3 ∨ r.op = 5) : Traffic (u.tagFree m.src.toNat m.tag.toNat) (spanCmp m u) ∧
    .ndr h r.ln m.poison m.devload.val ∈ (spanCmp m u).out := by
  have hup := e.linkReady_tagFree ha
  obtain ⟨ha, hd, hh, -⟩ := ha
  have hw : spanCmp m u = (u.tagFree m.src.toNat m.tag.toNat).homeWrite r m.poison m.devload.val := by
    unfold spanCmp
    rw [e.answered ha]
    rcases hop with h2 | h3 | h5
    · simp only [h2]
    · simp only [h3]
    · simp only [h5]
  rw [hw]
  exact State.homeWrite_head hd hh hup ..

/-- A refused read gives the head poison. -/
theorem Traffic.spanNack_head (h1 : r.op = 1) : Traffic (u.tagFree m.src.toNat m.tag.toNat) (spanNack m u) ∧
    .drs h r.ln 0 true 0 ∈ (spanNack m u).out := by
  have hup := e.linkReady_tagFree ha
  obtain ⟨ha, hd, hh, -⟩ := ha
  have hw : spanNack m u = (u.tagFree m.src.toNat m.tag.toNat).homeRead m.src.toNat r 0 true 0 := by
    unfold spanNack
    rw [e.answered ha]
    simp only [State.reqFailed, h1]
  rw [hw]
  exact State.homeRead_head hd hh hup ..

theorem Traffic.spanConflictAck_head : Traffic (u.tagFree m.src.toNat m.tag.toNat) (spanConflictAck m u) ∧
    .biConflictAck h r.ln ∈ (spanConflictAck m u).out := by
  have hup := e.linkReady_tagFree ha
  obtain ⟨ha, -, hh, -⟩ := ha
  have hw : spanConflictAck m u = (u.tagFree m.src.toNat m.tag.toNat).emit (.biConflictAck h r.ln) := by
    unfold spanConflictAck
    rw [e.answered ha]
    simp only [hh, hup, if_true]
  rw [hw]
  exact ⟨Traffic.pass (.refl _), List.mem_append_right _ (List.mem_singleton_self _)⟩

end

/-! ## Answers to this node's snoops (06 R142) -/

/-- Snoops outstanding without one pair. -/
def sentWithout (l : List (Nat × Nat × Nat)) (p : Target) (ln : Nat) : List (Nat × Nat × Nat) := l.filter fun e => !(e.1 == p && e.2.1 == ln)

/-- A snoop that no transaction waits on is resolved: it is outstanding no more, and evictions and moves no longer wait for it. -/
theorem State.resolved_quiet {s : State} {ln : Nat} (h : ∀ e ∈ s.coh.txns, e.2.ln ≠ ln) (p : Target) : s.resolved p ln =
    ({ s with coh := { s.coh with
      sent := sentWithout s.coh.sent p ln
      evicts := smAdj s.coh.evicts ln fun v => { v with snoops := v.snoops.filter (· != p) } } } : State).modMove (ln / 64) fun m =>
        { m with snoops := m.snoops.filter (· != (p, ln)) } := by
  have hw : (s.coh.txns.filter fun e => e.2.ln == ln && e.2.phase == .snoop && e.2.snoops.contains p) = [] := by
    refine List.filter_eq_nil_iff.2 fun x hx => ?_
    simp [h x hx]
  simp only [State.resolved, State.unsent, State.modMove, hw, List.map_nil, State.each_nil]
  rfl

/-- The response to an outstanding snoop that no transaction waits on and that has not timed out: the snoop is resolved, after the
pointer of a line left invalid has gone. -/
theorem Traffic.spanBirsp_quiet {s u : State} {m : SpanMsg} (e : Traffic s u) {at_ : Time}
    (hin : (peerPtr m, m.ln.toNat, at_) ∈ s.coh.sent) (hto : (peerPtr m, m.ln.toNat) ∉ s.coh.timeouts)
    (hq : ∀ q ∈ s.coh.txns, q.2.ln ≠ m.ln.toNat) {t : State} (ht : spanBirsp m u = t) :
    t.coh.sent = sentWithout s.coh.sent (peerPtr m) m.ln.toNat ∧ (m.mv ≠ .I → t.coh.dir = s.coh.dir) ∧ t.coh.txns = s.coh.txns ∧
      t.dram = s.dram ∧ RegsSame pmuFlds s t := by
  have hany : (u.coh.sent.any fun q => q.1 == peerPtr m && q.2.1 == m.ln.toNat) = true := by
    rw [e.coh]
    exact List.any_eq_true.2 ⟨_, hin, by simp⟩
  have hto' : u.coh.timeouts.contains (peerPtr m, m.ln.toNat) = false := by
    rw [e.coh]
    simpa using hto
  obtain ⟨d, hdrop, hdir⟩ : ∃ d, (if m.mv = .I then u.dropPtr m.ln.toNat (peerPtr m) else u) = { u with coh := { u.coh with dir := d } } ∧
      (m.mv ≠ .I → d = u.coh.dir) := by
    by_cases hI : m.mv = .I
    · obtain ⟨d, hd⟩ := u.dropPtr_eq m.ln.toNat (peerPtr m)
      exact ⟨d, by rw [if_pos hI, hd], fun h => absurd hI h⟩
    · exact ⟨u.coh.dir, if_neg hI, fun _ => rfl⟩
  have hres : spanBirsp m u = ({ u with coh := { u.coh with dir := d } } : State).resolved (peerPtr m) m.ln.toNat := by
    unfold spanBirsp State.birspAt State.snoopAnswer
    simp only [hany, hto', hdrop, Bool.true_or, if_true, Bool.false_eq_true, if_false]
  rw [State.resolved_quiet (by rw [e.coh]; exact hq)] at hres
  subst ht
  rw [hres, ← e.coh]
  exact ⟨rfl, hdir, rfl, e.dram, e.regs⟩

/-! ## A donor's answer to ALLOC (09 R240; 13 R339) -/

theorem Traffic.pme {s u : State} (e : Traffic s u) (pn : Nat) : u.pme pn = s.pme pn := by
  simp only [State.pme, State.dpm, State.effCount, State.epoch, State.rec2, e.dec, e.slc, e.fget (f := SLC_EPOCHNUM.E)]

/-- A request that leaves touches neither Sluice, memory nor COH. -/
theorem State.sendReq_same (s : State) (dest op : Nat) (r : SpanReq) (mk : Nat → SpanMsg) :
    (s.sendReq dest op r mk).2.slc = s.slc ∧ (s.sendReq dest op r mk).2.dram = s.dram ∧ (s.sendReq dest op r mk).2.coh = s.coh := by
  cases ht : s.freeTag dest with
  | none =>
    have hs : (s.sendReq dest op r mk).2 = s := by simp only [State.sendReq, ht]
    rw [hs]
    exact ⟨rfl, rfl, rfl⟩
  | some t =>
    rw [State.sendReq_free ht]
    have es := (Traffic.refl ({ s with spn := { s.spn with
      tags := smSet s.spn.tags (dest * 4096 + t) { r with op := op, since := s.wclk } } } : State)).sendSpan dest op (mk t)
    exact ⟨es.slc, es.dram, es.coh⟩

/-- The lines of a run go out: the page's move knows its peer and waits for every line. -/
theorem State.sendRun_same (s : State) (pn node loc : Nat) (key : KeyId) (lines : List Data) :
    (s.sendRun pn node loc key lines).slc = (s.modMove pn fun m =>
      { m with peer := some (BitVec.ofNat 6 node, loc), want := List.range lines.length }).slc ∧
    (s.sendRun pn node loc key lines).dram = s.dram ∧ (s.sendRun pn node loc key lines).coh = s.coh := by
  unfold State.sendRun
  generalize hv : (s.modMove pn fun m => { m with peer := some (BitVec.ofNat 6 node, loc), want := List.range lines.length }) = v
  have hdram : v.dram = s.dram := by rw [← hv]; rfl
  have hcoh : v.coh = s.coh := by rw [← hv]; rfl
  refine State.each_keeps (fun t => t.slc = v.slc ∧ t.dram = s.dram ∧ t.coh = s.coh) lines.zipIdx _ (fun l t ht => ?_) (s := v) ⟨rfl, hdram, hcoh⟩
  obtain ⟨hs, hd, hc⟩ := ht
  obtain ⟨hs', hd', hc'⟩ := t.sendReq_same node 0x11 { ln := loc * 4 + l.2, page := pn } fun tag =>
    spanMsg t 0 0 tag (loc * 4 + l.2) 0 .I (t.toWire key pn l.2 l.1)
  exact ⟨hs'.trans hs, hd'.trans hd, hc'.trans hc⟩

/-- A move that ends unpins its page's way, and leaves the page in its tier. -/
theorem State.endMove_tier (s : State) (pn : Nat) : ((s.endMove pn).pme pn).tier = (s.pme pn).tier := by
  have hc : smFind? (s.endMove pn).dec.pmec pn = (smFind? s.dec.pmec pn).map fun l => { l with pinned := false } := smFind?_adj_self ..
  unfold State.pme
  rw [hc]
  cases smFind? s.dec.pmec pn <;> rfl

section
variable {s u : State} {m : SpanMsg} {r : SpanReq} {v : Move} (e : Traffic s u) (ha : s.awaits m r)
  (hv : smFind? s.slc.moves r.page = some v) (hk : v.kind = .toT2) (hp : v.peer = none)
include e ha hv hk hp

/-- A granted run is sent the lines of the page's run. -/
theorem Traffic.spanAllocRsp_given (h0 : m.arg = 0) {t : State} (ht : spanAllocRsp m u = t) : ∃ w, smFind? t.slc.moves r.page = some w ∧
    w.kind = .toT2 ∧ w.peer = some (m.src, m.ln.toNat / 4) ∧
    w.want = List.range (if (s.pme r.page).raw then 64 else 4 * (s.pme r.page).slabs) ∧ t.dram = s.dram ∧ t.coh = s.coh := by
  have hv' : smFind? (u.tagFree m.src.toNat m.tag.toNat).slc.moves r.page = some v := by rw [← hv, ← e.slc]; rfl
  have hpme : (u.tagFree m.src.toNat m.tag.toNat).pme r.page = s.pme r.page := e.pme r.page
  have hd : (u.tagFree m.src.toNat m.tag.toNat).dram = s.dram := e.dram
  have hc : (u.tagFree m.src.toNat m.tag.toNat).coh = s.coh := e.coh
  unfold spanAllocRsp at ht
  rw [e.answered ha, if_pos h0] at ht
  generalize u.tagFree m.src.toNat m.tag.toNat = z at ht hv' hpme hd hc
  obtain ⟨lines, hlen, hrun⟩ : ∃ lines : List Data, lines.length = (if (s.pme r.page).raw then 64 else 4 * (s.pme r.page).slabs) ∧
      z.runGiven m.src.toNat (m.ln.toNat / 4) r = z.sendRun r.page m.src.toNat (m.ln.toNat / 4) v.key lines := by
    refine ⟨(List.range (if (s.pme r.page).raw then 64 else 4 * (s.pme r.page).slabs)).map fun i =>
      (z.runLine (s.pme r.page).loc r.page v.key none i).1, by simp, ?_⟩
    simp [State.runGiven, State.runWanted, State.runGranted, hv', hk, hp, hpme]
  obtain ⟨hslc, hdram, hcoh⟩ := z.sendRun_same r.page m.src.toNat (m.ln.toNat / 4) v.key lines
  rw [hrun] at ht
  subst ht
  refine ⟨{ v with peer := some (BitVec.ofNat 6 m.src.toNat, m.ln.toNat / 4), want := List.range lines.length }, ?_, hk, by simp, by rw [hlen],
    hdram.trans hd, hcoh.trans hc⟩
  rw [hslc, State.modMove, smFind?_adj_self, hv']
  rfl

/-- A refused run ends the page's move; the page stays where it is. -/
theorem Traffic.spanAllocRsp_refused (h0 : m.arg ≠ 0) (hq : ∀ q ∈ s.coh.txns, q.2.phase = .promoting → q.2.ln / 64 ≠ r.page) {t : State}
    (ht : spanAllocRsp m u = t) : smFind? t.slc.moves r.page = none ∧ smFind? t.spn.tags (m.src.toNat * 4096 + m.tag.toNat) = none ∧
      (t.pme r.page).tier = (s.pme r.page).tier ∧ t.dram = s.dram ∧ t.coh = s.coh := by
  have hv' : smFind? (u.tagFree m.src.toNat m.tag.toNat).slc.moves r.page = some v := by rw [← hv, ← e.slc]; rfl
  have hpme : (u.tagFree m.src.toNat m.tag.toNat).pme r.page = s.pme r.page := e.pme r.page
  have hd : (u.tagFree m.src.toNat m.tag.toNat).dram = s.dram := e.dram
  have hc : (u.tagFree m.src.toNat m.tag.toNat).coh = s.coh := e.coh
  have htag : smFind? (u.tagFree m.src.toNat m.tag.toNat).spn.tags (m.src.toNat * 4096 + m.tag.toNat) = none := smFind?_del_self ..
  unfold spanAllocRsp at ht
  rw [e.answered ha, if_neg h0] at ht
  generalize u.tagFree m.src.toNat m.tag.toNat = z at ht hv' hpme hd hc htag
  have hw : (z.coh.txns.filter fun q => q.2.phase == .promoting && q.2.ln / 64 == r.page) = [] := by
    refine List.filter_eq_nil_iff.2 fun q hmem => ?_
    rw [hc] at hmem
    simpa using hq q hmem
  have hend : (z.endMove r.page).rerunPage r.page = z.endMove r.page := by
    have hw' : ((z.endMove r.page).coh.txns.filter fun q => q.2.phase == .promoting && q.2.ln / 64 == r.page) = [] := hw
    simp only [State.rerunPage, hw', List.map_nil, State.each_nil]
  have href : t = z.endMove r.page := by
    rw [← ht, ← hend]
    simp [State.runWanted, State.runRefused, hv', hk, hp]
  subst href
  refine ⟨smFind?_del_self .., htag, ?_, hd, hc⟩
  rw [← hpme]
  exact State.endMove_tier ..

end

/-! ## Capacity granted and withdrawn (09 R241; 13 R339) -/

section
variable {s u : State} {m : SpanMsg} (e : Traffic s u)
include e

/-- GRANT_RSP adds to the ledger and to `SPN_GRANT.IN` what was granted. -/
theorem Traffic.spanGrantRsp_adds {r : SpanReq} (ha : s.awaits m r) {t : State} (ht : spanGrantRsp m u = t) :
    smFind? t.spn.tags (m.src.toNat * 4096 + m.tag.toNat) = none ∧
    (m.arg ≠ 0 → smGet t.slc.grants m.src.toNat 0 = smGet s.slc.grants m.src.toNat 0 + m.arg.toNat ∧
      t.fget SPN_GRANT.IN = (s.fget SPN_GRANT.IN + m.arg.toNat) % 2 ^ SPN_GRANT.IN.width) ∧
    (m.arg = 0 → t.slc = s.slc) ∧ (∀ k, k ≠ m.src.toNat → smFind? t.slc.grants k = smFind? s.slc.grants k) ∧ t.dram = s.dram ∧
    t.coh = s.coh ∧ RegsSame ([SPN_GRANT.IN] ++ pmuFlds) s t := by
  have hregs : RegsSame ([SPN_GRANT.IN] ++ pmuFlds) s u := e.regs.mono (by simp +contextual)
  unfold spanGrantRsp at ht
  rw [e.answered ha] at ht
  split at ht
  · next h0 =>
    subst ht
    exact ⟨smFind?_del_self .., fun h => absurd h0 h, fun _ => e.slc, fun k _ => by rw [← e.slc]; rfl, e.dram, e.coh, hregs⟩
  · next h0 =>
    subst ht
    refine ⟨smFind?_del_self .., fun _ => ⟨?_, ?_⟩, fun h => absurd h h0, fun k hk => ?_, e.dram, e.coh, hregs.fset 0 _ (by decide)⟩
    · rw [← e.slc]; exact smGet_mod_self u.slc.grants m.src.toNat 0 (· + m.arg.toNat)
    · rw [State.fget_fset_self, ← e.fget (f := SPN_GRANT.IN)]; rfl
    · rw [← e.slc]; exact smFind?_set_ne _ _ hk

/-- WITHDRAW takes off the ledger and off `SPN_GRANT.IN` no more than stands. -/
theorem Traffic.spanWithdraw_takes {t : State} (ht : spanWithdraw m u = t) :
    smGet t.slc.grants m.src.toNat 0 = smGet s.slc.grants m.src.toNat 0 - m.arg.toNat ∧
    (∀ k, k ≠ m.src.toNat → smFind? t.slc.grants k = smFind? s.slc.grants k) ∧
    t.fget SPN_GRANT.IN = (s.fget SPN_GRANT.IN - min m.arg.toNat (smGet s.slc.grants m.src.toNat 0)) % 2 ^ SPN_GRANT.IN.width ∧
    t.dram = s.dram ∧ t.coh = s.coh ∧ RegsSame ([SPN_GRANT.IN] ++ pmuFlds) s t := by
  have hregs : RegsSame ([SPN_GRANT.IN] ++ pmuFlds) s u := e.regs.mono (by simp +contextual)
  have hput : t.slc.grants = smPut u.slc.grants m.src.toNat 0
      (smGet u.slc.grants m.src.toNat 0 - min m.arg.toNat (smGet u.slc.grants m.src.toNat 0)) := by subst ht; rfl
  subst ht
  refine ⟨?_, fun k hk => ?_, ?_, e.dram, e.coh, hregs.fset 0 _ (by decide)⟩
  · rw [hput, smGet_put_self, e.slc]; omega
  · rw [hput, smFind?_put_ne _ _ _ hk, e.slc]
  · rw [← e.slc, ← e.fget (f := SPN_GRANT.IN)]; exact State.fget_fset_self ..

end

end Sys2Proof.Machine
end

section
/-! PROOF. The loss of a peer's pointer (06 R144, R155-R157): its timeouts go, and no channel's queues do. -/

namespace Sys2Proof.Machine

open Sys2Proof

-- Many short proofs at once would pass the memory limit with the stacks of their threads.
set_option Elab.async false

/-! ## What requests leave alone on their way -/

/-- Two states with the same channels and the same timeout table. -/
structure WayKept (s t : State) : Prop where
  chans : t.chans = s.chans
  timeouts : t.coh.timeouts = s.coh.timeouts

theorem WayKept.refl (s : State) : WayKept s s := ⟨rfl, rfl⟩

namespace WayKept

variable {s t : State} (h : WayKept s t)
include h

/-- A step that touches neither is passed over. -/
theorem pass {u : State} (c : u.chans = t.chans := by rfl) (o : u.coh.timeouts = t.coh.timeouts := by rfl) : WayKept s u :=
  ⟨c.trans h.chans, o.trans h.timeouts⟩

theorem trans {u : State} (k : WayKept t u) : WayKept s u := h.pass k.chans k.timeouts

theorem emit (o : Out) : WayKept s (t.emit o) := h.pass

theorem phase (n : Nat) (p : Phase) : WayKept s (t.phase n p) := h.pass

theorem dropOp (o : Nat) : WayKept s (t.dropOp o) := h.pass

theorem modTxn (n : Nat) (f : Txn → Txn) : WayKept s (t.modTxn n f) := h.pass

theorem modMove (pn : Nat) (f : Move → Move) : WayKept s (t.modMove pn f) := h.pass

theorem count {u ev : Nat} {a : Attr} {k : Nat} : WayKept s (t.count u ev a k) := h.pass (t.count_chans ..) (by rw [t.count_coh])

theorem report {set code : Nat} {c : Capture} {base : Nat} : WayKept s (t.report set code c base) :=
  h.pass (t.report_chans ..) (by rw [t.report_coh])

theorem signal {v : Nat} : WayKept s (t.signal v) := h.pass (t.signal_chans ..) (by rw [t.signal_coh])

theorem ite {c : Prop} [Decidable c] {u : State} (k : WayKept s u) : WayKept s (if c then t else u) := by
  split
  · exact h
  · exact k

theorem each {α : Type} {l : List α} {f : α → State → State} (hf : ∀ a u, WayKept s u → WayKept s (f a u)) : WayKept s (t.each l f) :=
  State.each_keeps (WayKept s) l f hf h

/-! ## The transaction table and the line locks (06 R138-R140) -/

theorem enterCoh (n : Nat) : WayKept s (t.enterCoh n) := by
  unfold State.enterCoh
  split
  · exact h
  · unfold State.fpeak
    exact h.pass.ite (h.pass.ite h.pass)

theorem admitWaiting : WayKept s t.admitWaiting := h.each fun n _ hu => hu.enterCoh n

theorem unlock (ln : Nat) : WayKept s (t.unlock ln) := by
  unfold State.unlock
  split
  · exact h
  · exact h.pass.admitWaiting

theorem unlockBy (n ln : Nat) : WayKept s (t.unlockBy n ln) := by
  unfold State.unlockBy
  split
  · exact (h.unlock ln).ite h
  · exact h

theorem dropTxn (n : Nat) : WayKept s (t.dropTxn n) := by
  unfold State.dropTxn
  split
  · exact h
  · exact (h.pass.unlockBy n _).admitWaiting

/-! ## Answers (01 R17; 12 R313; 13 R338; 18 R435) -/

theorem sendSpan (dest op : Nat) (m : SpanMsg) : WayKept s (t.sendSpan dest op m) :=
  h.pass ((Traffic.refl t).sendSpan dest op m).chans (by rw [((Traffic.refl t).sendSpan dest op m).coh])

theorem sendReq (dest op : Nat) (r : SpanReq) (mk : Nat → SpanMsg) : WayKept s (t.sendReq dest op r mk).2 := by
  unfold State.sendReq
  split
  · exact h
  · exact h.pass.sendSpan dest op _

theorem opBack (o k : Nat) (line : Option (Data × Bool)) : WayKept s (t.opBack o k line) := by
  unfold State.opBack
  split
  · exact h
  · exact h.pass.ite ((h.pass.count.dropOp o).ite h.pass.count)

theorem answerRead (x : Txn) (d : Data) (poison : Bool) : WayKept s (t.answerRead x d poison) := by
  unfold State.answerRead
  split
  · exact h.pass.count
  · exact h.sendSpan ..
  · exact h.opBack ..
  · exact h

theorem answerWrite (x : Txn) (poison : Bool) : WayKept s (t.answerWrite x poison) := by
  unfold State.answerWrite
  split
  · exact h.pass.count
  · exact h.sendSpan ..
  · exact h.opBack ..
  · exact h

theorem dyeRecord (x : Txn) (ch : Nat) (aborted : Bool) : WayKept s (t.dyeRecord x ch aborted) := by
  unfold State.dyeRecord
  exact h.ite (h.pass.signal.ite h.pass)

theorem finishRead (n : Nat) (d : Data) (poison : Bool) : WayKept s (t.finishRead n d poison) := by
  unfold State.finishRead
  split
  · exact h
  · exact ((h.answerRead _ _ _).dyeRecord _ _ _).dropTxn n

theorem finishWrite (n : Nat) (poison : Bool) : WayKept s (t.finishWrite n poison) := by
  unfold State.finishWrite
  split
  · exact h
  · exact ((h.answerWrite _ _).dyeRecord _ _ _).dropTxn n

/-! ## Towards memory (01 R17, R24-R25; 08 R205) -/

theorem toCredit (n mpa : Nat) : WayKept s (t.toCredit n mpa) := by
  unfold State.toCredit
  split
  · exact ((h.finishRead ..).ite (h.finishWrite ..)).ite h.pass
  · exact (h.finishRead ..).ite (h.finishWrite ..)
  · exact h

theorem unitStart (u : Nat) : WayKept s (t.unitStart u) :=
  h.pass (congrArg State.chans (t.unitStart_eq u) :) (congrArg (fun x : State => x.coh.timeouts) (t.unitStart_eq u) :)

theorem askSlabs (node loc page : Nat) (lines : List Nat) : WayKept s (t.askSlabs node loc page lines) :=
  h.each fun _ _ hu => hu.sendReq ..

theorem fadd (f : Fld) (i n : Nat) : WayKept s (t.fadd f i n) := h.pass

theorem toPress (n pn : Nat) (x : Txn) (p : Pme) : WayKept s (t.toPress n pn x p) := by
  have hstart := h.unitStart 0
  unfold State.toPress
  dsimp only
  generalize t.unitStart 0 = u at hstart ⊢
  refine (h.report.finishRead ..).ite ?_
  split
  · exact hstart.pass.count
  · exact ((((hstart.pass.count.ite hstart.pass).fadd ..).phase ..).askSlabs ..).ite
      (((hstart.pass.count.ite hstart.pass).fadd ..).toCredit ..)

/-! ## Snoops and moves (06 R132, R148; 09 R233-R239) -/

theorem snoop (ln : Nat) (inv : Bool) (p : Target) : WayKept s (t.snoop ln inv p) := by
  unfold State.snoop
  dsimp only
  exact WayKept.ite (h.pass.count.emit _).count (h.pass.count.sendSpan ..)

theorem snoopAll (ln : Nat) (inv : Bool) (l : List Target) : WayKept s (t.snoopAll ln inv l) :=
  (h.count.ite h).each fun p _ hu => hu.snoop ln inv p

theorem takePage (pn : Nat) (own : Option Nat) : WayKept s (t.takePage pn own) := by
  refine h.each fun ln u hu => ?_
  have hsnoop : WayKept s (u.moveSnoop pn ln) := by
    unfold State.moveSnoop
    split
    · exact hu
    · exact (hu.snoopAll _ _ _).pass
  split
  · exact hu.ite hu.pass
  · exact hsnoop

theorem flushBuffer (base : Nat) (l : List BufWrite) : WayKept s (t.flushBuffer base l) := h.each fun _ _ hu => hu.pass.ite hu.pass

theorem drawT0 {d : Nat} {u : State} (hd : t.drawT0 = some (d, u)) : WayKept s u := by
  simp only [State.drawT0, Option.map_eq_some_iff, Prod.mk.injEq] at hd
  obtain ⟨g, -, -, rfl⟩ := hd
  exact h.pass

theorem pmeDrop (pn : Nat) : WayKept s (t.pmeDrop pn) := by
  have hcatch (b : Nat) : WayKept s (t.catchUp b) := by
    unfold State.catchUp
    exact h.ite h.pass
  unfold State.pmeDrop
  split
  · exact h
  · exact (hcatch _).pass

theorem pmeInstall (pn : Nat) : WayKept s (t.pmeInstall pn) := by
  unfold State.pmeInstall
  dsimp only
  generalize hv : (if (t.pmeWays (t.pmeSet pn)).length < 8 then t else _) = v
  have hroom : WayKept s v := by
    subst hv
    refine h.ite ?_
    split
    · exact h.pass.pmeDrop _
    · exact h
  exact h.ite hroom.pass

theorem pmePin (pn : Nat) (b : Bool) : WayKept s (t.pmePin pn b) := h.pass

theorem stall (q : List (Nat × Time)) : WayKept s { t with slc := { t.slc with stallQ := q } } := h.pass

theorem toPromote (n pn : Nat) (x : Txn) : WayKept s (t.toPromote n pn x) := by
  unfold State.toPromote
  extract_lets u w v v₁ v₂ m _ v₃ p v₄ l v₅ _ y z
  have hu : WayKept s u := h.unitStart 0
  have hv : WayKept s v := hu.pmeInstall pn
  have hv₂ : WayKept s v₂ := hv.count.pmePin pn true
  have hv₃ : WayKept s v₃ := hv₂.pass
  have hv₄ : WayKept s v₄ := (hv₃.takePage pn (some n)).ite hv₃
  have hv₅ : WayKept s v₅ := ((hv₄.modMove pn _).askSlabs ..).ite hv₄
  have hy : WayKept s y := hv₅.pass
  have hz : WayKept s z := hv₅.count.phase _ _
  split
  · have hw := (hu.modMove pn fun m => { m with writers := m.writers ++ [n] }).phase n .promoting
    refine hw.ite ?_
    split
    · next hd => exact (hw.drawT0 hd).modMove _ _
    · exact hw
  · refine (hv.phase _ _).ite ?_
    split
    · next hd => exact ((hv₅.drawT0 hd).modMove _ _).phase _ _
    · exact (hy.phase _ _).ite (hz.stall _)

theorem toMemory (n : Nat) : WayKept s (t.toMemory n) := by
  unfold State.toMemory
  split
  · exact h
  · next x _ =>
    refine (h.toCredit ..).ite ?_
    extract_lets pn p v isRead plain
    have hv : WayKept s v := h.ite h.count
    have hplain {u : State} (hu : WayKept s u) : WayKept s (plain u) := by
      have hkey : WayKept s (u.pageKeyTo pn x.key) := hu.pass
      exact ((hu.report.finishRead ..).ite ((hu.finishRead ..).ite ((hu.toCredit ..).ite (hu.toPress ..)))).ite
        ((hkey.toCredit ..).ite (hu.toPromote ..))
    have hbuf (c : Prop) [Decidable c] : WayKept s (if c then v.phase n .promoting else plain v) := (hv.phase ..).ite (hplain hv)
    have hdrop (m : Move) : WayKept s (v.dropDemotion pn m) := (hv.flushBuffer ..).pass
    split
    · exact hplain hv
    · split
      · exact (hbuf _).ite (hv.toPromote ..)
      · exact (hbuf _).ite (hv.toPromote ..)
      · exact (hbuf _).ite ((hplain (hdrop _)).ite (hv.phase ..))
      · exact (hplain hv).ite (hv.phase ..)

/-! ## Directory and evictions (06 R134-R143) -/

theorem poisonDpa (ln : Nat) : WayKept s (t.poisonDpa ln) := by
  unfold State.poisonDpa
  refine h.pass.ite ?_
  dsimp only
  split
  · exact h.pass
  · exact h.ite (h.pass.ite h.pass)

theorem evict (way : Nat) (e : DirEntry) (n : Option Nat) (down : Bool) : WayKept s (t.evict way e n down) := by
  unfold State.evict
  extract_lets ln l _ u
  have hu : WayKept s u := h.pass
  exact (hu.snoopAll ..).count

theorem toRetry (n ln : Nat) : WayKept s (t.toRetry n ln) := by
  have hq : WayKept s { t with coh := { t.coh with
    retry := smSet t.coh.retry (dirSet ln) (smGet t.coh.retry (dirSet ln) [] ++ [n]) } } := h.pass
  unfold State.toRetry
  exact h.ite (WayKept.ite h.pass ((hq.phase ..).count))

theorem dirDone (n : Nat) : WayKept s (t.dirDone n) := by
  unfold State.dirDone
  split
  · exact h
  · next x _ =>
    extract_lets u cur go
    have hu : WayKept s u := ((h.poisonDpa _).modTxn ..).ite h
    have hgo {v : State} (hv : WayKept s v) : WayKept s (go v) := (hv.modTxn ..).toMemory n
    split
    · exact hgo hu
    · exact hgo hu.pass
    · exact hgo hu.pass
    · split
      · exact hgo hu.pass
      · have hfree : WayKept s u.freeTaken := hu.pass
        exact ((hfree.evict ..).phase ..).ite (hu.phase ..)
      · exact hu.toRetry ..

/-! ## The lost pointer (06 R155-R157) -/

theorem dropPtr (ln : Nat) (p : Target) : WayKept s (t.dropPtr ln p) := by
  obtain ⟨d, hd⟩ := t.dropPtr_eq ln p
  rw [hd]
  exact h.pass

theorem unkLoss (ln : Nat) : WayKept s (t.unkLoss ln) := by
  have hmark : WayKept s { t with coh := { t.coh with evicts := smAdj t.coh.evicts ln fun v => { v with poisonIfNoWb := true } } } := h.pass
  exact hmark.each fun _ _ hu => hu.modTxn ..

theorem resolved (p : Target) (ln : Nat) : WayKept s (t.resolved p ln) := by
  unfold State.resolved
  extract_lets u _ v w l
  have hw : WayKept s w := h.pass
  refine hw.each fun n a ha => ?_
  extract_lets b
  have hb : WayKept s b := ha.modTxn ..
  split
  · exact (hb.dirDone n).ite hb
  · exact hb

theorem snoopLost (p : Target) (ln : Nat) : WayKept s (t.snoopLost p ln) := by
  unfold State.snoopLost
  extract_lets wasM u v w
  have hu : WayKept s u := (h.poisonDpa ln).ite h
  have hv : WayKept s v := (hu.each fun _ _ ha => ha.modTxn ..).ite hu
  have hw : WayKept s w := (hv.unkLoss ln).ite hv
  exact (hw.dropPtr ..).resolved ..

theorem orphan (n : Nat) (x : Txn) : WayKept s (t.orphan n x) := ((h.dyeRecord ..).modTxn ..).unlockBy ..

theorem unqueue (n : Nat) (x : Txn) : WayKept s (t.unqueue n x) := h.pass

theorem idleMove (pn : Nat) : WayKept s (t.idleMove pn) := by
  unfold State.idleMove
  split
  · exact h.pass.ite h
  · exact h

theorem squashTxn (n : Nat) (x : Txn) : WayKept s (t.squashTxn n x) := by
  have hdye := h.dyeRecord x 255 true
  unfold State.squashTxn
  split
  any_goals exact h.orphan ..
  any_goals exact hdye.modTxn ..
  · exact (h.orphan ..).ite ((hdye.unqueue ..).dropTxn _)
  · exact ((hdye.unqueue ..).dropTxn _).idleMove _

theorem squashFrom (p : Target) : WayKept s (t.squashFrom p) := by
  refine h.each fun e u hu => ?_
  split
  · exact hu.squashTxn ..
  · exact hu

theorem scanEntry (p : Target) (key : Nat) (e : DirEntry) : WayKept s (t.scanEntry p key e).1 := by
  unfold State.scanEntry
  extract_lets ln u
  have hu : WayKept s u := h.evict ..
  split_ifs
  · exact hu.pass
  · exact h.unkLoss ln
  · exact h
  · exact h
  · exact (h.poisonDpa ln).pass
  · exact h.dropPtr ..

/-- The scan of a directory, entry by entry. -/
theorem scanDir (p : Target) (l : List (Nat × DirEntry)) (k : Nat) :
    WayKept s (l.foldl (fun a e => let r := a.1.scanEntry p e.1 e.2; (r.1, a.2 + r.2.toNat)) (t, k)).1 := by
  induction l generalizing t k with
  | nil => exact h
  | cons e l ih => exact ih (h.scanEntry p e.1 e.2) _

end WayKept

/-- A lost pointer leaves the channels alone, and no timeout of its own. -/
theorem State.pointerLost_kept (s : State) (p : Target) : WayKept (s.timeoutsGone p) (s.pointerLost p).1 :=
  ((((WayKept.refl (s.timeoutsGone p)).each fun ln _ hu => hu.snoopLost p ln).squashFrom p).scanDir p _ 0)

/-! ## HEAD_GONE (06 R157) -/

/-- `COH_SCAN` names a lost pointer, unless a scan is under way. -/
def State.lossNoted (s : State) (p : Target) (n : Nat) : State :=
  if s.fone COH_SCAN.ACTIVE then s
  else ((s.fset COH_SCAN.NODE 0 (p / 16)).fset COH_SCAN.HEAD 0 (p % 16)).fset COH_SCAN.POISONED 0 n

theorem State.lossNoted_kept (s : State) (p : Target) (n : Nat) : WayKept s (s.lossNoted p n) := (WayKept.refl s).ite (WayKept.refl s).pass

theorem State.lossNoted_names {s : State} {m : SpanMsg} (ha : s.fget COH_SCAN.ACTIVE ≠ 1) (n : Nat) :
    (s.lossNoted (peerPtr m) n).fget COH_SCAN.NODE = m.src.toNat ∧ (s.lossNoted (peerPtr m) n).fget COH_SCAN.HEAD = m.head.val := by
  have hsrc : m.src.toNat < 2 ^ COH_SCAN.NODE.width := m.src.isLt
  have hhead : m.head.val < 2 ^ COH_SCAN.HEAD.width := m.head.isLt
  have hnode : (m.src.toNat * 16 + m.head.val) / 16 = m.src.toNat := by omega
  have hmod : (m.src.toNat * 16 + m.head.val) % 16 = m.head.val := by omega
  have hoff : s.fone COH_SCAN.ACTIVE = false := by simpa [State.fone] using ha
  unfold State.lossNoted peerPtr
  rw [hoff, if_neg Bool.false_ne_true, hnode, hmod]
  simp (disch := decide) only [State.fget_fset_ne, State.fget_fset_self]
  exact ⟨Nat.mod_eq_of_lt hsrc, Nat.mod_eq_of_lt hhead⟩

theorem State.remoteLoss_eq (s : State) (p : Target) : s.remoteLoss p =
    ((s.pointerLost p).1.lossNoted p (s.pointerLost p).2).cohFault 8 0 p (if (s.pointerLost p).2 = 0 then 0 else 1) := rfl

/-- A node whose head has gone: class 8 of COH is in fault state, `COH_SCAN` names the pair unless a scan is under way, no timeout
of it stands, and the channels are as they were. -/
theorem Traffic.spanHeadGone_reports {s u : State} {m : SpanMsg} (e : Traffic s u) {t : State} (ht : spanHeadGone m u = t) :
    t.inFault setCOH 8 = true ∧ (s.fget COH_SCAN.ACTIVE ≠ 1 → t.fget COH_SCAN.NODE = m.src.toNat ∧ t.fget COH_SCAN.HEAD = m.head.val) ∧
      (∀ q ∈ t.coh.timeouts, q.1 ≠ peerPtr m) ∧ t.chans = s.chans := by
  have hregs := ((LineRegs.refl u).pointerLost (peerPtr m)).same
  have hkept := u.pointerLost_kept (peerPtr m)
  have hgone : spanHeadGone m u = _ := u.remoteLoss_eq (peerPtr m)
  generalize (u.pointerLost (peerPtr m)).1 = v at hregs hkept hgone
  generalize (u.pointerLost (peerPtr m)).2 = n at hgone
  have hend := (hkept.trans (v.lossNoted_kept (peerPtr m) n)).report (set := setCOH) (code := 8)
    (c := { addr := 0 * 64, syn := peerPtr m, dpa := some (0 * 64) }) (base := if n = 0 then 0 else 1)
  subst ht
  rw [hgone]
  refine ⟨State.report_inFault _ _ _ _ _ (by decide), fun ha => ?_, fun q hq => ?_, hend.chans.trans e.chans⟩
  · have hact : v.fget COH_SCAN.ACTIVE = s.fget COH_SCAN.ACTIVE := (hregs _ _ (by decide) (by decide)).trans (e.fget 0)
    have hread (f : Fld) (hf : f.id < 1024 ∧ f.id ∉ faultIds) (w : State) (base : Nat) :
        (w.cohFault 8 0 (peerPtr m) base).fget f = w.fget f := State.report_fget _ _ _ _ _ _ _ hf.1 hf.2
    rw [hread _ (by decide), hread _ (by decide)]
    exact State.lossNoted_names (hact ▸ ha) n
  · have hq' := hend.timeouts ▸ hq
    simpa using (List.mem_filter.1 hq').2

end Sys2Proof.Machine
end

section
/-! PROOF. Span messages between admitted nodes (05 R119; 06 R136, R141-R143, R157; 09 R240, R241; 13 R323, R324, R330, R336-R339). -/

namespace Sys2Proof.Machine

open Sys2Proof

/-! ## Requests of a peer -/

section
variable {s : State} {m : SpanMsg} {r : Region} (hm : s.peerHits m r)
include hm

/-- A WRP writes under the mask of its port, which is used up. -/
theorem wrp_enters {be : ByteEn} (hbe : (s.link m.port.val).mask = some be) : ∃ t y, exec (.wrp m) s = .next (s.kept t) ∧
    PeerEntered s m r (peerTxn m .part be 3) y t ∧ y.cls = 5 ∧ (t.link m.port.val).mask = none ∧ t.dram = s.dram ∧ t.slc = s.slc := by
  obtain ⟨u, e, hlink, hx⟩ := wrp_acts hm.1
  obtain ⟨y, hy, hkey, hcls, hlinks⟩ := (e.maskGone m.port.val).peerReq_enters hm (x := peerTxn m .part be 3) rfl rfl .write
  have hw : spanWrp m u = (u.maskGone m.port.val).peerReq m (peerTxn m .part be 3) .write := by simp only [spanWrp, hlink, hbe]
  have hgone : ((u.maskGone m.port.val).link m.port.val).mask = none := congrArg Link.mask (u.modLink_link_self ..)
  rw [hw] at hx
  exact ⟨_, y, hx, hy, hcls, by rw [hlinks]; exact hgone, hkey.dram, hkey.slc⟩

end

/-- A WRP with no mask before it is answered by NACK with cause 3. -/
theorem wrp_noMask {s : State} {m : SpanMsg} (hr : s.spanReady m = true) (hbe : (s.link m.port.val).mask = none) :
    ∃ t c, exec (.wrp m) s = .next (s.kept t) ∧ Traffic s t ∧ .span m.src 0x38 c ∈ t.out ∧ c.tag = m.tag ∧ c.arg = 3 := by
  obtain ⟨u, e, hlink, hx⟩ := wrp_acts hr
  obtain ⟨et, c, hout, htag, harg⟩ := e.sendNack m 3
  have hw : spanWrp m u = u.sendNack m.src.toNat m.tag.toNat 3 := by simp only [spanWrp, hlink, hbe]
  rw [hw] at hx
  exact ⟨_, c, hx, et, hout, htag, harg⟩

/-- A mask is kept on its port, and on no other. -/
theorem State.bemaskAt_link (s : State) (p : Nat) (be : ByteEn) : (s.bemaskAt p be).link p = { s.link p with mask := some be } ∧
    ∀ k, k ≠ p → (s.bemaskAt p be).link k = s.link k :=
  ⟨s.modLink_link_self .., fun _ hk => s.modLink_link_ne _ hk⟩

/-- Settles O60: a message that is ready acts on a state that traffic alone has changed; each clause says what it does there. -/
theorem spanMessages : Obligations.SpanMessages := by
  unfold Obligations.SpanMessages
  refine ⟨fun m s => ⟨fun hc => ?closed, fun ho ha => ?asleep⟩, fun m r s hm => ⟨?rd, ?wr, fun be hbe => ?wrp, ?clnevct, fun hns hr hto hc => ?wb⟩,
    fun m s hr hall => ⟨?rdRefused, ?wrRefused⟩, fun m s hr hbe => ?wrpNoMask, fun port be s ho => ⟨fun ha => ?mask, fun ha => ?maskHeld⟩,
    fun m s hr => ?conflict,
    fun m s hr => ⟨fun hh hf => ⟨?slabRd, ?slabWr⟩, fun hh => ?slabRefused⟩,
    fun m s hr h1 h16 => ⟨fun slab fr hg hrun => ?alloc, fun hg hrun => ?allocNoRoom, fun hg => ?allocNoGrant⟩,
    fun m s hr => ?free, fun m s hr => ?grantReq,
    fun m s hr => ⟨fun h hl hh => ⟨?snpInv, ?snpData⟩, fun hl hw => ?snpNone⟩,
    fun m r h s ha => ⟨fun h1 => ?data, fun hop => ?cmp, fun h1 => ?nack, ?conflictAck⟩,
    fun m s hr hl => ⟨?dataLate, ?cmpLate⟩, fun m at_ s hr hin hto hq => ?birsp,
    fun m r v s ha hv hk hp => ⟨fun h0 => ?allocGiven, fun h0 hq => ?allocRefused⟩,
    fun m r s ha => ?grantRsp, fun m s hr => ?withdraw, fun m s hr => ?headGone⟩
  case closed => exact ⟨span_closed hc 1 spanRd, span_closed hc 2 spanWr, span_closed hc 0x30 spanData⟩
  case asleep => exact span_held ho ha 1 spanRd
  case rd =>
    obtain ⟨u, e, hx⟩ := span_acts hm.1 (op := 1) (by decide) spanRd
    obtain ⟨y, hy, hkey, hcls, -⟩ := e.peerReq_enters hm (x := peerTxn m .read 0 3) rfl rfl .read
    exact ⟨_, y, hx, hy.txn, hy.src, hy.kind, hy.ln, hy.key, hy.mv, hcls, hy.shared, hy.next, hkey.dram, rfl, hkey.slc, hkey.inl rfl⟩
  case wr =>
    obtain ⟨u, e, hx⟩ := span_acts hm.1 (op := 2) (by decide) spanWr
    obtain ⟨y, hy, hkey, hcls, -⟩ := e.peerReq_enters hm (x := peerTxn m .write (BitVec.allOnes 64) 3) rfl rfl .write
    have hpo : (peerTxn m .write (BitVec.allOnes 64) 3).poison = m.poison := Bool.and_true _
    exact ⟨_, y, hx, hy.txn, hy.src, hy.kind, hy.ln, hy.key, hy.data, hy.be, hy.poison.trans hpo, hcls, hkey.count (by decide), hkey.dram, rfl,
      hkey.slc⟩
  case wrp =>
    obtain ⟨t, y, hx, hy, hcls, hgone, hdram, hslc⟩ := wrp_enters hm hbe
    exact ⟨_, y, hx, hy.txn, hy.src, hy.kind, hy.ln, hy.data, hy.be, hcls, hgone, hdram, rfl, hslc⟩
  case clnevct =>
    obtain ⟨u, e, hx⟩ := span_acts hm.1 (op := 5) (by decide) spanClnevct
    obtain ⟨c, hout, htag, hpo, hcoh, hdram, hinl⟩ := e.spanClnevct_completes hm
    exact ⟨_, c, hx, hout, htag, hpo, hcoh, hdram, rfl, hinl⟩
  case wb =>
    obtain ⟨u, e, hx⟩ := span_acts hm.1 (op := 0x20) (by decide) spanWb
    obtain ⟨y, hy, hkey, hmc, hph, hmpa⟩ := e.spanWb_accepted hm hns hr hto hc
    exact ⟨_, y, hx, hy.txn, hy.src, hy.kind, hmc, hy.data, hy.ln, hph, hmpa, hkey.dram, rfl, hkey.slc⟩
  case rdRefused =>
    obtain ⟨u, e, hx⟩ := span_acts hr (op := 1) (by decide) spanRd
    obtain ⟨c, hout, htag, hpo, hflt, hcoh, hdram, hinl⟩ := e.peerDec_refused hall (x := peerTxn m .read 0 3) rfl rfl
    exact ⟨_, c, hx, hout, htag, hpo, hflt, hcoh, hdram, rfl, hinl⟩
  case wrRefused =>
    obtain ⟨u, e, hx⟩ := span_acts hr (op := 2) (by decide) spanWr
    obtain ⟨c, hout, htag, hpo, hflt, hcoh, hdram, hinl⟩ := e.peerDec_refused hall (x := peerTxn m .write (BitVec.allOnes 64) 3) rfl rfl
    exact ⟨_, c, hx, hout, htag, hpo, hflt, hcoh, hdram, rfl, hinl⟩
  case wrpNoMask =>
    obtain ⟨t, c, hx, e, hout, htag, harg⟩ := wrp_noMask hr hbe
    exact ⟨_, c, hx, hout, htag, harg, e.coh, e.dram, rfl, e.regs⟩
  case mask =>
    obtain ⟨hself, hne⟩ := s.clearOut.bemaskAt_link port.val be
    exact ⟨_, exec_bemask_awake ho ha be, hself, hne, rfl⟩
  case maskHeld => exact exec_bemask_asleep ho ha be
  case conflict =>
    obtain ⟨u, e, hx⟩ := span_acts hr (op := 6) (by decide) spanConflict
    obtain ⟨et, c, hout, htag, hln, hhead⟩ := e.spanConflict m
    exact ⟨_, c, hx, hout, htag, hln, hhead, et.coh, et.dram, rfl, et.regs⟩
  case slabRd =>
    obtain ⟨u, e, hx⟩ := span_acts hr (op := 0x10) (by decide) spanSlabRd
    obtain ⟨ph, hy, hkey⟩ := e.slabReq_held hh hf (kind := .read) (a := .read) (by decide)
    exact ⟨_, _, hx, hy, rfl, rfl, rfl, rfl, rfl, rfl, hkey.dram, rfl, hkey.inl rfl⟩
  case slabWr =>
    obtain ⟨u, e, hx⟩ := span_acts hr (op := 0x11) (by decide) spanSlabWr
    obtain ⟨ph, hy, hkey⟩ := e.slabReq_held hh hf (kind := .write) (a := .write) (by decide)
    exact ⟨_, _, hx, hy, rfl, rfl, rfl, rfl, rfl, rfl, hkey.count (by decide), hkey.dram, rfl⟩
  case slabRefused =>
    obtain ⟨u, e, hx⟩ := span_acts hr (op := 0x10) (by decide) spanSlabRd
    obtain ⟨c, hout, htag, hpo, et⟩ := e.slabRd_refused hh
    exact ⟨_, c, hx, hout, htag, hpo, et.coh, et.dram⟩
  case alloc =>
    obtain ⟨u, e, hx⟩ := span_acts hr (op := 0x12) (by decide) spanAlloc
    rw [e.spanAlloc_granted h1 h16 hg, hrun] at hx
    obtain ⟨et, c, hout, htag, harg, hln⟩ := (u.runTaken m.src slab m.arg.toNat fr).allocAnswer_traffic m slab 0
    have hslc : (u.runTaken m.src slab m.arg.toNat fr).slc = { s.slc with donor := fr } := by rw [← e.slc]; rfl
    have hregs : RegsSame pmuFlds s (u.runTaken m.src slab m.arg.toNat fr) := e.regs
    refine ⟨_, c, hx, et.slc.trans hslc, ?_, fun k hk => ?_, hout, htag, harg, hln, et.dram.trans e.dram, et.coh.trans e.coh, rfl,
      hregs.trans et.regs⟩
    · exact (congrArg (smFind? · slab) et.runs).trans (smFind?_set_self ..)
    · exact (congrArg (smFind? · k) et.runs).trans ((smFind?_set_ne _ _ hk).trans (congrArg (smFind? · k) e.runs))
  case allocNoRoom =>
    obtain ⟨u, e, hx⟩ := span_acts hr (op := 0x12) (by decide) spanAlloc
    rw [e.spanAlloc_granted h1 h16 hg, hrun] at hx
    obtain ⟨et, c, hout, htag, harg, -⟩ := u.allocAnswer_traffic m 0 1
    exact ⟨_, c, hx, hout, htag, harg, (e.trans et).slc, (e.trans et).runs⟩
  case allocNoGrant =>
    obtain ⟨u, e, hx⟩ := span_acts hr (op := 0x12) (by decide) spanAlloc
    rw [e.spanAlloc_noGrant h1 h16 hg] at hx
    obtain ⟨et, c, hout, htag, harg, -⟩ := u.allocAnswer_traffic m 0 2
    exact ⟨_, c, hx, hout, htag, harg, (e.trans et).slc, (e.trans et).runs⟩
  case free =>
    obtain ⟨u, e, hx⟩ := span_acts hr (op := 0x13) (by decide) spanFree
    obtain ⟨hregs, hdram, hcoh⟩ := u.runFreed_same m
    have es := (Traffic.refl (u.runFreed m)).sendSpan m.src.toNat 0x31 (spanMsg (u.runFreed m) 0 0 m.tag.toNat m.ln.toNat 0)
    have hout := (u.runFreed m).sendSpan_out m.src 0x31 (spanMsg (u.runFreed m) 0 0 m.tag.toNat m.ln.toNat 0)
    rw [spanFree_eq] at hx
    refine ⟨_, _, hx, hout, spanMsg_tag .., fun k hk => ?_, fun n k hk hn => ?_, (es.dram.trans hdram).trans e.dram,
      (es.coh.trans hcoh).trans e.coh, rfl, (e.regs.trans (RegsSame.of_regs hregs)).trans es.regs⟩
    · have hfreed := u.runFreed_own (by rw [e.runs]; exact hk)
      refine ⟨(congrArg (smFind? · _) es.runs).trans ?_, es.slc.trans ?_⟩
      · rw [hfreed]; exact smFind?_del_self ..
      · rw [hfreed, ← e.slc]
    · have hfreed := u.runFreed_foreign (by rw [e.runs]; exact hk) hn
      exact ⟨es.runs.trans (by rw [hfreed, e.runs]), es.slc.trans (by rw [hfreed, e.slc])⟩
  case grantReq =>
    obtain ⟨u, e, hx⟩ := span_acts hr (op := 0x14) (by decide) spanGrantReq
    obtain ⟨⟨c, hout, htag, harg⟩, hgr, hno, hne, hdram, hcoh, hslc, hregs⟩ := e.spanGrantReq m rfl rfl
    exact ⟨_, c, hx, hout, htag, harg, hgr, hno, hne, hdram, hcoh, rfl, hslc, hregs⟩
  case snpInv =>
    obtain ⟨u, e, hx⟩ := span_acts hr (op := 0x28) (by decide) spanSnpInv
    obtain ⟨hout, hsnp, hdram, hcoh, hregs⟩ := e.peerSnoop_one hl true rfl
    exact ⟨_, hx, hout, hsnp, hdram, hcoh, rfl, hregs⟩
  case snpData =>
    obtain ⟨u, e, hx⟩ := span_acts hr (op := 0x29) (by decide) spanSnpData
    obtain ⟨hout, hsnp, hdram, hcoh, hregs⟩ := e.peerSnoop_one hl false rfl
    exact ⟨_, hx, hout, hsnp, hdram, hcoh, rfl, hregs⟩
  case snpNone =>
    obtain ⟨u, e, hx⟩ := span_acts hr (op := 0x28) (by decide) spanSnpInv
    obtain ⟨⟨c, hout, htag, hln, hmv⟩, hsnp, hcoh⟩ := e.peerSnoop_none hl hw true rfl
    exact ⟨_, c, hx, hout, htag, hln, hmv, hsnp, hcoh⟩
  case data =>
    obtain ⟨u, e, hx⟩ := span_acts ha.1.1 (op := 0x30) (by decide) spanData
    obtain ⟨et, hout⟩ := e.spanData_head ha h1
    obtain ⟨htag, hne, hcoh, hdram, hslc, hregs⟩ := e.tagFreed et
    exact ⟨_, hx, hout, htag, hne, hcoh, hdram, rfl, hslc, hregs⟩
  case cmp =>
    obtain ⟨u, e, hx⟩ := span_acts ha.1.1 (op := 0x31) (by decide) spanCmp
    obtain ⟨et, hout⟩ := e.spanCmp_head ha hop
    obtain ⟨htag, hne, hcoh, hdram, hslc, hregs⟩ := e.tagFreed et
    exact ⟨_, hx, hout, htag, hne, hcoh, hdram, rfl, hslc, hregs⟩
  case nack =>
    obtain ⟨u, e, hx⟩ := span_acts ha.1.1 (op := 0x38) (by decide) spanNack
    obtain ⟨et, hout⟩ := e.spanNack_head ha h1
    obtain ⟨htag, -, hcoh, hdram, -, hregs⟩ := e.tagFreed et
    exact ⟨_, hx, hout, htag, hcoh, hdram, rfl, hregs⟩
  case conflictAck =>
    obtain ⟨u, e, hx⟩ := span_acts ha.1.1 (op := 0x33) (by decide) spanConflictAck
    obtain ⟨et, hout⟩ := e.spanConflictAck_head ha
    obtain ⟨htag, -, hcoh, hdram, -, hregs⟩ := e.tagFreed et
    exact ⟨_, hx, hout, htag, hcoh, hdram, rfl, hregs⟩
  case dataLate =>
    obtain ⟨u, e, hx⟩ := span_acts hr (op := 0x30) (by decide) spanData
    rw [spanData, e.answered_late hl] at hx
    exact ⟨_, hx, e.lateCounted⟩
  case cmpLate =>
    obtain ⟨u, e, hx⟩ := span_acts hr (op := 0x31) (by decide) spanCmp
    rw [spanCmp, e.answered_late hl] at hx
    exact ⟨_, hx, e.lateCounted⟩
  case birsp =>
    obtain ⟨u, e, hx⟩ := span_acts hr (op := 0x32) (by decide) spanBirsp
    obtain ⟨hsent, hdir, htxns, hdram, hregs⟩ := e.spanBirsp_quiet hin hto hq rfl
    exact ⟨_, hx, hsent, hdir, htxns, hdram, rfl, hregs⟩
  case allocGiven =>
    obtain ⟨u, e, hx⟩ := span_acts ha.1 (op := 0x34) (by decide) spanAllocRsp
    obtain ⟨w, hw, hkind, hpeer, hwant, hdram, hcoh⟩ := e.spanAllocRsp_given ha hv hk hp h0 rfl
    exact ⟨_, w, hx, hw, hkind, hpeer, hwant, hdram, rfl, hcoh⟩
  case allocRefused =>
    obtain ⟨u, e, hx⟩ := span_acts ha.1 (op := 0x34) (by decide) spanAllocRsp
    obtain ⟨hmove, htag, htier, hdram, hcoh⟩ := e.spanAllocRsp_refused ha hv hk hp h0 hq rfl
    exact ⟨_, hx, hmove, htag, htier, hdram, rfl, hcoh⟩
  case grantRsp =>
    obtain ⟨u, e, hx⟩ := span_acts ha.1 (op := 0x35) (by decide) spanGrantRsp
    obtain ⟨htag, hadd, hnone, hne, hdram, hcoh, hregs⟩ := e.spanGrantRsp_adds ha rfl
    exact ⟨_, hx, htag, hadd, hnone, hne, hdram, hcoh, rfl, hregs⟩
  case withdraw =>
    obtain ⟨u, e, hx⟩ := span_acts hr (op := 0x36) (by decide) spanWithdraw
    obtain ⟨hleft, hne, hin, hdram, hcoh, hregs⟩ := e.spanWithdraw_takes rfl
    exact ⟨_, hx, hleft, hne, hin, hdram, hcoh, rfl, hregs⟩
  case headGone =>
    obtain ⟨u, e, hx⟩ := span_acts hr (op := 0x37) (by decide) spanHeadGone
    obtain ⟨hflt, hscan, hto, hchans⟩ := e.spanHeadGone_reports rfl
    exact ⟨_, hx, hflt, hscan, hto, rfl, hchans⟩

end Sys2Proof.Machine
end

section
/-! PROOF. The way of a line's requests through COH, Press, Sluice and their answers (01 R17; 06 R132-R144, R153-R157): one walk over what
it can do, and what that leaves of the device. -/

namespace Sys2Proof.Machine

open Sys2Proof

-- Many short proofs at once would pass the memory limit with the stacks of their threads.
set_option Elab.async false

/-! ## What a line's way can do -/

/-- The state without what a line's way reaches. -/
def State.offWay (s : State) : State :=
  { s with out := [], free := 0, dram := [], boot := {}, dec := { s.dec with pmec := [] }, coh := {}, press := {}, slc := {}, drw := {},
           spn := {}, pmu := {}, regs := [] }

/-- Register fields that a line's way writes itself, beside those of counted events and of reports. -/
def wayFlds : List Fld := [COH_RETRY.HELD, COH_TTUSE0.PEAK, PRS_FETCHED.FETCHED, DRW_STAT.STALE, PMU_DYESTAT.THR]

/-- What a line's way does from a state on: work inside its blocks, a few register fields, counted events, signalled causes, reports.
`LineRegs` and `WayKept` each follow one fact along the way; here the way itself is followed, and any fact about it is an induction. -/
inductive LineWay (s : State) : State → Prop
  | refl : LineWay s s
  | pass {t u : State} (h : LineWay s t) (off : u.offWay = t.offWay := by rfl) (regs : u.regs = t.regs := by rfl) : LineWay s u
  | set {t : State} {g : Fld} {j v : Nat} (h : LineWay s t) (hg : g ∈ wayFlds := by decide) : LineWay s (t.fset g j v)
  | count {t : State} {u ev : Nat} {a : Attr} {k : Nat} (h : LineWay s t) : LineWay s (t.count u ev a k)
  | signal {t : State} {v : Nat} (h : LineWay s t) : LineWay s (t.signal v)
  | report {t : State} {set code : Nat} {c : Capture} {base : Nat} (h : LineWay s t) : LineWay s (t.report set code c base)

/-- A class in fault state stays there whatever is reported (16 R382). -/
theorem State.report_inFault_kept {s : State} {set code : Nat} (hc : code - 1 < 16) (h : s.inFault set code = true) (set' code' : Nat)
    (c : Capture) (base : Nat) : (s.report set' code' c base).inFault set code = true :=
  State.report_keeps (fun t => t.inFault set code = true) (fun t _ _ _ _ _ ht => t.reportRegs_inFault _ _ _ _ _ hc (.inr ht))
    (fun t _ _ ht => (State.inFault_congr (t.witReport_class _ _ _) _).trans ht)
    (fun t ht => (State.inFault_congr (State.regs_fget t.goFatal_regs _ _) _).trans ht) set' code' c base h

namespace LineWay

variable {s t : State} (h : LineWay s t)
include h

/-! ## What it leaves -/

/-- Faults that stand are not cleared on the way. -/
theorem inFault {set code : Nat} (hc : code - 1 < 16) (hs : s.inFault set code = true) : t.inFault set code = true := by
  induction h with
  | refl => exact hs
  | pass _ _ regs ih => exact (State.inFault_congr (State.regs_fget regs ..) _).trans ih
  | set _ hg ih =>
    have hne : ∀ g ∈ wayFlds, g.id < 1024 ∧ FLT_STATUS.CLASS.id ≠ g.id := by decide
    exact (State.inFault_congr (State.fget_fset_ne _ _ _ _ (by decide) (hne _ hg).1 (hne _ hg).2) _).trans ih
  | count _ ih => exact (State.count_inFault ..).trans ih
  | signal _ ih => exact (State.inFault_congr (State.signal_fget ..) _).trans ih
  | report _ ih => exact State.report_inFault_kept hc ih ..

/-- The device outside the way's blocks, beside the heads and the records of faults, is as it was. -/
theorem kept : t.ifc = s.ifc ∧ t.sec = s.sec ∧ t.pwr = s.pwr ∧ t.nv = s.nv ∧ t.chans = s.chans ∧ t.inl = s.inl := by
  induction h with
  | refl => exact ⟨rfl, rfl, rfl, rfl, rfl, rfl⟩
  | @pass t u _ off _ ih =>
    have hp {α : Type} (f : State → α) (hf : ∀ x : State, f x.offWay = f x) : f u = f t := by rw [← hf u, off, hf t]
    rwa [hp State.ifc fun _ => rfl, hp State.sec fun _ => rfl, hp State.pwr fun _ => rfl, hp State.nv fun _ => rfl,
      hp State.chans fun _ => rfl, hp State.inl fun _ => rfl]
  | set _ _ ih => exact ih
  | count _ ih => simpa using ih
  | signal _ ih => simpa using ih
  | report _ ih => simpa using ih

/-! ## The transaction table and the line locks (06 R138-R140) -/

theorem emit (o : Out) : LineWay s (t.emit o) := h.pass

theorem phase (n : Nat) (p : Phase) : LineWay s (t.phase n p) := h.pass

theorem modTxn (n : Nat) (f : Txn → Txn) : LineWay s (t.modTxn n f) := h.pass

theorem modMove (pn : Nat) (f : Move → Move) : LineWay s (t.modMove pn f) := h.pass

theorem ite {c : Prop} [Decidable c] {u : State} (k : LineWay s u) : LineWay s (if c then t else u) := by
  split
  · exact h
  · exact k

theorem fadd {f : Fld} (i n : Nat) (hf : f ∈ wayFlds := by decide) : LineWay s (t.fadd f i n) := h.set hf

theorem each {α : Type} {l : List α} {f : α → State → State} (hf : ∀ a u, LineWay s u → LineWay s (f a u)) :
    LineWay s (t.each l f) :=
  State.each_keeps (LineWay s) l f hf h

theorem enterCoh (n : Nat) : LineWay s (t.enterCoh n) := by
  unfold State.enterCoh State.fpeak
  split
  · exact h
  · exact (h.phase ..).ite ((h.phase ..).set.ite (h.phase ..))

theorem admitWaiting : LineWay s t.admitWaiting := h.each fun n _ hu => hu.enterCoh n

theorem unlock (ln : Nat) : LineWay s (t.unlock ln) := by
  unfold State.unlock
  split
  · exact h
  · exact h.pass.admitWaiting

theorem dropTxn (n : Nat) : LineWay s (t.dropTxn n) := by
  have hlock {u : State} (hu : LineWay s u) (ln : Nat) : LineWay s (u.unlockBy n ln) := by
    unfold State.unlockBy
    split
    · exact (hu.unlock ln).ite hu
    · exact hu
  unfold State.dropTxn
  split
  · exact h
  · exact (hlock h.pass _).admitWaiting

/-! ## Answers (01 R17; 12 R313; 13 R338; 18 R435) -/

theorem sendSpan (dest op : Nat) (m : SpanMsg) : LineWay s (t.sendSpan dest op m) := by
  unfold State.sendSpan
  dsimp only
  split
  · exact ((h.pass.ite h.pass).emit _).count
  · exact (h.emit _).count

theorem sendReq (dest op : Nat) (r : SpanReq) (mk : Nat → SpanMsg) : LineWay s (t.sendReq dest op r mk).2 := by
  unfold State.sendReq
  split
  · exact h
  · exact h.pass.sendSpan dest op _

theorem opBack (o k : Nat) (line : Option (Data × Bool)) : LineWay s (t.opBack o k line) := by
  unfold State.opBack
  split
  · exact h
  · extract_lets u v
    have hu : LineWay s u := h.pass
    have hv : LineWay s v := (hu.fadd ..).count
    have hdrop : LineWay s (v.dropOp o) := hv.pass
    exact hu.ite (hdrop.ite hv)

theorem answerRead (x : Txn) (d : Data) (poison : Bool) : LineWay s (t.answerRead x d poison) := by
  unfold State.answerRead
  split
  · exact (h.emit _).count
  · exact h.sendSpan ..
  · exact h.opBack ..
  · exact h

theorem answerWrite (x : Txn) (poison : Bool) : LineWay s (t.answerWrite x poison) := by
  unfold State.answerWrite
  split
  · exact (h.emit _).count
  · exact h.sendSpan ..
  · exact h.opBack ..
  · exact h

theorem dyeRecord (x : Txn) (ch : Nat) (aborted : Bool) : LineWay s (t.dyeRecord x ch aborted) := by
  unfold State.dyeRecord
  exact h.ite (h.pass.set.signal.ite h.pass)

theorem finishRead (n : Nat) (d : Data) (poison : Bool) : LineWay s (t.finishRead n d poison) := by
  unfold State.finishRead
  split
  · exact h
  · exact ((h.answerRead ..).dyeRecord ..).dropTxn n

theorem finishWrite (n : Nat) (poison : Bool) : LineWay s (t.finishWrite n poison) := by
  unfold State.finishWrite
  split
  · exact h
  · exact ((h.answerWrite ..).dyeRecord ..).dropTxn n

/-! ## Towards memory (01 R17, R24-R25; 08 R205) -/

theorem toCredit (n mpa : Nat) : LineWay s (t.toCredit n mpa) := by
  have hfin {c : Prop} [Decidable c] : LineWay s (if c then t.finishRead n 0 true else t.finishWrite n false) :=
    (h.finishRead ..).ite (h.finishWrite ..)
  unfold State.toCredit
  split
  · exact hfin.ite (h.modTxn ..)
  · exact hfin
  · exact h

theorem unitStart (u : Nat) : LineWay s (t.unitStart u) := by
  rw [t.unitStart_eq u]
  exact h.pass

theorem askSlabs (node loc page : Nat) (lines : List Nat) : LineWay s (t.askSlabs node loc page lines) :=
  h.each fun _ _ hu => hu.sendReq ..

theorem toPress (n pn : Nat) (x : Txn) (p : Pme) : LineWay s (t.toPress n pn x p) := by
  have hstart := h.unitStart 0
  unfold State.toPress
  dsimp only
  generalize t.unitStart 0 = u at hstart ⊢
  refine (h.report.finishRead ..).ite ?_
  split
  · exact hstart.pass.count
  · exact ((((hstart.pass.count.ite hstart.pass).fadd ..).phase ..).askSlabs ..).ite
      (((hstart.pass.count.ite hstart.pass).fadd ..).toCredit ..)

/-! ## Snoops and moves (06 R132, R148; 09 R233-R239) -/

theorem snoopAll (ln : Nat) (inv : Bool) (l : List Target) : LineWay s (t.snoopAll ln inv l) := by
  refine (h.count.ite h).each fun p u hu => ?_
  exact (hu.pass.count.emit _).count.ite (hu.pass.count.sendSpan ..)

theorem takePage (pn : Nat) (own : Option Nat) : LineWay s (t.takePage pn own) := by
  refine h.each fun ln u hu => ?_
  have hsnoop : LineWay s (u.moveSnoop pn ln) := by
    unfold State.moveSnoop
    split
    · exact hu
    · exact (hu.snoopAll ..).pass
  split
  · exact hu.ite hu.pass
  · exact hsnoop

theorem dropDemotion (pn : Nat) (m : Move) : LineWay s (t.dropDemotion pn m) := by
  have hflush : LineWay s (t.flushBuffer ((t.pme pn).loc * 4) m.buffer) := h.each fun _ _ hu => hu.pass.ite hu.pass
  exact hflush.pass

theorem drawT0 {d : Nat} {u : State} (hd : t.drawT0 = some (d, u)) : LineWay s u := by
  simp only [State.drawT0, Option.map_eq_some_iff, Prod.mk.injEq] at hd
  obtain ⟨g, -, -, rfl⟩ := hd
  exact h.pass

theorem pmeInstall (pn : Nat) : LineWay s (t.pmeInstall pn) := by
  have hcatch {u : State} (hu : LineWay s u) (b : Nat) : LineWay s (u.catchUp b) := by
    unfold State.catchUp
    exact hu.ite hu.pass
  have hdrop {u : State} (hu : LineWay s u) (k : Nat) : LineWay s (u.pmeDrop k) := by
    unfold State.pmeDrop
    split
    · exact hu
    · exact (hcatch hu _).pass
  unfold State.pmeInstall
  dsimp only
  generalize hv : (if (t.pmeWays (t.pmeSet pn)).length < 8 then t else _) = v
  have hroom : LineWay s v := by
    subst hv
    refine h.ite ?_
    split
    · exact hdrop h.pass _
    · exact h
  exact h.ite hroom.pass

theorem stall (q : List (Nat × Time)) : LineWay s { t with slc := { t.slc with stallQ := q } } := h.pass

theorem toPromote (n pn : Nat) (x : Txn) : LineWay s (t.toPromote n pn x) := by
  unfold State.toPromote
  extract_lets u w v v₁ v₂ m _ v₃ p v₄ l v₅ _ y z
  have hu : LineWay s u := h.unitStart 0
  have hv : LineWay s v := hu.pmeInstall pn
  have hv₁ : LineWay s v₁ := hv.count
  have hv₂ : LineWay s v₂ := hv₁.pass
  have hv₃ : LineWay s v₃ := hv₂.pass
  have hv₄ : LineWay s v₄ := (hv₃.takePage pn (some n)).ite hv₃
  have hv₅ : LineWay s v₅ := ((hv₄.modMove pn _).askSlabs ..).ite hv₄
  have hy : LineWay s y := hv₅.stall _
  have hz : LineWay s z := hv₅.count.phase _ _
  split
  · have hw := (hu.modMove pn fun m => { m with writers := m.writers ++ [n] }).phase n .promoting
    refine hw.ite ?_
    split
    · next hd => exact (hw.drawT0 hd).modMove _ _
    · exact hw
  · refine (hv.phase _ _).ite ?_
    split
    · next hd => exact ((hv₅.drawT0 hd).modMove _ _).phase _ _
    · exact (hy.phase _ _).ite (hz.stall _)

theorem toMemory (n : Nat) : LineWay s (t.toMemory n) := by
  unfold State.toMemory
  split
  · exact h
  · next x _ =>
    refine (h.toCredit ..).ite ?_
    extract_lets pn p v isRead plain
    have hv : LineWay s v := h.ite h.count
    have hplain {u : State} (hu : LineWay s u) : LineWay s (plain u) := by
      have hkey : LineWay s (u.pageKeyTo pn x.key) := hu.pass
      exact ((hu.report.finishRead ..).ite ((hu.finishRead ..).ite ((hu.toCredit ..).ite (hu.toPress ..)))).ite
        ((hkey.toCredit ..).ite (hu.toPromote ..))
    have hbuf {c : Prop} [Decidable c] : LineWay s (if c then v.phase n .promoting else plain v) := (hv.phase ..).ite (hplain hv)
    split
    · exact hplain hv
    · split
      · exact hbuf.ite (hv.toPromote ..)
      · exact hbuf.ite (hv.toPromote ..)
      · exact hbuf.ite ((hplain (hv.dropDemotion ..)).ite (hv.phase ..))
      · exact (hplain hv).ite (hv.phase ..)

/-! ## Directory and evictions (06 R134-R143) -/

theorem poisonDpa (ln : Nat) : LineWay s (t.poisonDpa ln) := by
  unfold State.poisonDpa
  refine h.pass.ite ?_
  dsimp only
  split
  · exact h.pass
  · exact h.ite (h.pass.ite h.pass)

theorem evict (way : Nat) (e : DirEntry) (n : Option Nat) (down : Bool) : LineWay s (t.evict way e n down) := by
  unfold State.evict
  extract_lets ln l _ u
  have hu : LineWay s u := h.pass
  exact (hu.snoopAll ..).count

theorem toRetry (n ln : Nat) : LineWay s (t.toRetry n ln) := by
  unfold State.toRetry
  extract_lets q
  have hq : LineWay s { t with coh := { t.coh with retry := smSet t.coh.retry (dirSet ln) (q ++ [n]) } } := h.pass
  exact h.ite (((h.fadd ..).phase ..).ite (hq.phase ..).count)

theorem dirDone (n : Nat) : LineWay s (t.dirDone n) := by
  unfold State.dirDone
  split
  · exact h
  · next x _ =>
    extract_lets u cur go
    have hu : LineWay s u := ((h.poisonDpa _).modTxn ..).ite h
    have hgo {v : State} (hv : LineWay s v) : LineWay s (go v) := (hv.modTxn ..).toMemory n
    split
    · exact hgo hu
    · exact hgo hu.pass
    · exact hgo hu.pass
    · split
      · exact hgo hu.pass
      · have hfree : LineWay s u.freeTaken := hu.pass
        exact ((hfree.evict ..).phase ..).ite (hu.phase ..)
      · exact hu.toRetry ..

/-! ## Snoops resolved (06 R142, R144, R155-R156) -/

theorem resolved (p : Target) (ln : Nat) : LineWay s (t.resolved p ln) := by
  unfold State.resolved
  extract_lets u _ v w l
  have hw : LineWay s w := h.pass
  refine hw.each fun n a ha => ?_
  extract_lets b
  have hb : LineWay s b := ha.modTxn ..
  split
  · exact (hb.dirDone n).ite hb
  · exact hb

theorem unkLoss (ln : Nat) : LineWay s (t.unkLoss ln) := LineWay.each h.pass fun _ _ hu => hu.modTxn ..

theorem snoopLost (p : Target) (ln : Nat) : LineWay s (t.snoopLost p ln) := by
  unfold State.snoopLost
  extract_lets wasM u v w
  have hu : LineWay s u := (h.poisonDpa ln).ite h
  have hv : LineWay s v := (hu.each fun _ _ ha => ha.modTxn ..).ite hu
  have hw : LineWay s w := (hv.unkLoss ln).ite hv
  obtain ⟨d, hd⟩ := w.dropPtr_eq ln p
  rw [hd]
  exact hw.pass.resolved ..

end LineWay

end Sys2Proof.Machine
end

section
/-! PROOF. Coherence events: snoop responses and their timeouts, conflict notices, line-lock grants, evictions, freed ways and fetched PMEs
(05 R126; 06 R132-R154; 09 R246, R247). -/

namespace Sys2Proof.Machine

open Sys2Proof

/-! ## Snoop responses (06 R142, R144) -/

/-- A line that its one holder has left invalid loses its entry. -/
theorem State.dropPtr_last {s : State} {ln k : Nat} {e : DirEntry} {p : Target} (hd : s.dirFind ln = some (k, e)) (ho : e.ovf = false)
    (hp : e.ptrs = [BitVec.ofNat 10 p]) (hlt : p < 1024) : s.dropPtr ln p = s.dirDel k := by
  have hl : (e.ptrs.filter fun q => q.toNat != p) = [] := by simp [hp, hlt]
  simp [State.dropPtr, hd, ho, hl]

/-- The response to an outstanding snoop that no transaction waits on: the pointer of a line left invalid goes, and the snoop is
resolved. -/
theorem State.snoopAnswer_quiet {s : State} {p : Target} {ln : Nat} {at_ : Time} (hs : (p, ln, at_) ∈ s.coh.sent)
    (hq : ∀ e ∈ s.coh.txns, e.2.ln ≠ ln) (left : MetaValue) : ∃ d ev mv,
      s.snoopAnswer p ln left = { s with
        coh := { s.coh with dir := d, sent := sentWithout s.coh.sent p ln, evicts := ev }, slc := { s.slc with moves := mv } } ∧
      d = (if left = .I then s.dropPtr ln p else s).coh.dir := by
  have hany : (s.coh.sent.any fun e => e.1 == p && e.2.1 == ln) = true := List.any_eq_true.2 ⟨_, hs, by simp⟩
  obtain ⟨d, hd⟩ : ∃ d, (if left = .I then s.dropPtr ln p else s) = { s with coh := { s.coh with dir := d } } := by
    split
    · exact s.dropPtr_eq ln p
    · exact ⟨s.coh.dir, rfl⟩
  refine ⟨d, smAdj s.coh.evicts ln fun v => { v with snoops := v.snoops.filter (· != p) },
    smAdj s.slc.moves (ln / 64) fun m => { m with snoops := m.snoops.filter (· != (p, ln)) }, ?_, by rw [hd]⟩
  simp only [State.snoopAnswer, hany, if_true, hd]
  exact State.resolved_quiet (s := { s with coh := { s.coh with dir := d } }) hq p

theorem m2sBirsp_sent {s : State} {h : Head} {ln : BitVec 40} {at_ : Time} (hs : (s.localPtr h, ln.toNat, at_) ∈ s.coh.sent)
    (hto : (s.localPtr h, ln.toNat) ∉ s.coh.timeouts) (left : MetaValue) :
    m2sBirsp h ln left s = s.snoopAnswer (s.localPtr h) ln.toNat left := by
  have hany : (s.coh.sent.any fun e => e.1 == s.localPtr h && e.2.1 == ln.toNat) = true := List.any_eq_true.2 ⟨_, hs, by simp⟩
  have hto' : s.coh.timeouts.contains (s.localPtr h, ln.toNat) = false := by simpa using hto
  simp only [m2sBirsp, State.birspAt, hany, hto', Bool.true_or, if_true, Bool.false_eq_true, if_false]

/-- The response to a snoop that has timed out is counted late, and that is all. -/
theorem m2sBirsp_late {s : State} {h : Head} {ln : BitVec 40} (hto : (s.localPtr h, ln.toNat) ∈ s.coh.timeouts) (left : MetaValue) :
    m2sBirsp h ln left s = ({ s with coh := { s.coh with
      timeouts := s.coh.timeouts.filter (· != (s.localPtr h, ln.toNat)) } } : State).finc COH_SNPTO.LATE := by
  have hto' : s.coh.timeouts.contains (s.localPtr h, ln.toNat) = true := by simpa using hto
  simp only [m2sBirsp, State.birspAt, hto', Bool.or_true, if_true]

/-! ## Conflict notices (06 R143) -/

/-- With no request of the head to another home outstanding, a conflict notice is acknowledged here. -/
theorem biconflict_acked {s : State} {h : Head} (ha : s.accepts h = true) (ht : s.spn.tags = []) (ln : BitVec 40) :
    biconflict h ln s = s.emit (.biConflictAck h ln.toNat) := by
  simp only [biconflict, ht, List.find?_nil, ha, if_true]

/-! ## Towards memory (01 R17) -/

/-- What a transaction of an untiered line is once it has asked Weir for its credit. -/
def Txn.atCredit (x : Txn) (now : Time) : Txn := { x with phase := .credit, mpa := some x.ln, since := now }

/-- A transaction that goes from COH to memory: not dyed, and of an untiered line on a channel that serves. -/
structure Txn.Direct (x : Txn) (s : State) : Prop where
  tiered : x.tiered = false
  dyed : x.dyed = false
  serves : s.onChannel x.ln = true

/-- Such a transaction asks Weir for its credit; nothing else happens. -/
theorem State.toMemory_direct {s : State} {n : Nat} {x : Txn} (hx : s.txn? n = some x) (hd : x.Direct s) : ∃ tx,
    (s.stampTxn n 2).toMemory n = { s with coh := { s.coh with txns := tx } } ∧ smFind? tx n = some (x.atCredit s.wclk) := by
  obtain ⟨ht, hdye, hc⟩ := hd
  have hstamp : (s.stampTxn n 2).txn? n = some x := by
    rw [State.stampTxn, State.modTxn_txn_self, hx]
    simp [hdye]
  have hmem : (s.stampTxn n 2).toMemory n =
      (s.stampTxn n 2).modTxn n fun x' => { x' with phase := .credit, mpa := some x.ln, since := s.wclk } := by
    unfold State.toMemory
    simp only [hstamp, ht, Bool.not_false, if_true]
    exact State.toCredit_onChannel hstamp hc
  refine ⟨_, hmem, ?_⟩
  have := State.modTxn_txn_self (s.stampTxn n 2) n fun x' => { x' with phase := .credit, mpa := some x.ln, since := s.wclk }
  rwa [hstamp] at this

/-! ## The line-lock arbiter (06 R139, R140) -/

theorem rotScore_lt (rot r : Nat) : rotScore rot r < 20 := Nat.mod_lt _ (by decide)

/-- Of a list that rises under `f`, those below `n` and those at `n` are, in order, those below `n + 1`. -/
theorem filter_lt_append_filter_eq {α : Type} {f : α → Nat} {l : List α} (h : l.Pairwise fun c d => f c < f d) (n : Nat) :
    ((l.filter fun c => decide (f c < n)) ++ l.filter fun c => f c == n) = l.filter fun c => decide (f c < n + 1) := by
  induction l with
  | nil => rfl
  | cons c l ih =>
    obtain ⟨hc, hl⟩ := List.pairwise_cons.1 h
    have ih := ih hl
    rcases Nat.lt_or_ge (f c) n with hlt | hge
    · simp [hlt, hlt.ne, hlt.le, ih]
    · have hnone : (l.filter fun c => decide (f c < n)) = [] :=
        List.filter_eq_nil_iff.2 fun d hm => by simpa using hge.trans (hc d hm).le
      rw [hnone, List.nil_append] at ih
      simp only [List.filter_cons, hnone, ih]
      rcases hge.eq_or_lt with rfl | hgt
      · simp
      · simp [hgt.ne', Nat.not_le.2 hgt, hge]

/-- Contenders that already stand in rising distance from ROT keep their order. -/
theorem arbOrder_of_rising {rot : Nat} {l : List (Nat × Nat)} (h : l.Pairwise fun c d => rotScore rot c.2 < rotScore rot d.2) :
    arbOrder rot l = l := by
  have hnear (n : Nat) : ((List.range n).flatMap fun d => l.filter fun c => rotScore rot c.2 == d) =
      l.filter fun c => decide (rotScore rot c.2 < n) := by
    induction n with
    | zero => simp
    | succ n ih => rw [List.range_succ, List.flatMap_append, ih, List.flatMap_singleton, filter_lt_append_filter_eq h]
  exact (hnear 20).trans (List.filter_eq_self.2 fun _ _ => decide_eq_true (rotScore_lt ..))

/-- The order in which two contenders with different distances have arrived does not matter. -/
theorem arbOrder_swap {rot : Nat} {c d : Nat × Nat} (h : rotScore rot c.2 ≠ rotScore rot d.2) :
    arbOrder rot [d, c] = arbOrder rot [c, d] := by
  unfold arbOrder
  congr 1
  funext k
  by_cases hc : rotScore rot c.2 = k
  · have hd : rotScore rot d.2 ≠ k := fun hd => h (hc.trans hd.symm)
    simp [hc, hd]
  · simp [List.filter_cons, hc]

/-- Up to eight contenders join the empty queue of a line whose lock has just been taken; they are counted, and nothing else happens. -/
theorem State.joinQueue_fresh {s : State} {ln : Nat} {t : Nat} (hk : smFind? s.coh.locks ln = some { holder := some t }) {l : List Nat}
    (hl : l.length ≤ 8) :
    Traffic { s with coh := { s.coh with locks := smSet s.coh.locks ln { holder := some t, queue := l } } } (s.joinQueue ln l) := by
  have hadj : (smAdj s.coh.locks ln fun k => { k with queue := k.queue ++ l.take 8 }) =
      smSet s.coh.locks ln { holder := some t, queue := l } := by
    simp [smAdj, hk, List.take_of_length_le hl]
  have hroom : 8 - (((smFind? s.coh.locks ln).map (·.queue)).getD []).length = 8 := by simp [hk]
  simp only [State.joinQueue, hroom, hadj, List.drop_of_length_le hl, State.each_nil]
  split
  · exact Traffic.refl _
  · exact (Traffic.refl _).count ..

/-- The lock of a free line is the first contender's; where others contend, they queue and ROT moves past the winner. -/
def State.lockGiven (s : State) (ln : Nat) (c : Nat × Nat) (rest : List (Nat × Nat)) : State :=
  let s := { s with coh := { s.coh with
    locks := smSet (smSet s.coh.locks ln { holder := some c.1 }) ln { holder := some c.1, queue := rest.map (·.1) } } }
  if rest.isEmpty then s else s.fset COH_ROT.ROT 0 ((c.2 + 1) % 20)

theorem State.lockGiven_off (s : State) (ln : Nat) (c : Nat × Nat) (rest : List (Nat × Nat)) : s.lockGiven ln c rest =
    { s with regs := (s.lockGiven ln c rest).regs, coh := (s.lockGiven ln c rest).coh } := by
  unfold State.lockGiven
  dsimp only
  split <;> rfl

theorem State.lockGiven_coh (s : State) (ln : Nat) (c : Nat × Nat) (rest : List (Nat × Nat)) : (s.lockGiven ln c rest).coh = { s.coh with
    locks := smSet (smSet s.coh.locks ln { holder := some c.1 }) ln { holder := some c.1, queue := rest.map (·.1) } } := by
  unfold State.lockGiven
  dsimp only
  split <;> rfl

theorem State.lockGiven_regs (s : State) (ln : Nat) (c : Nat × Nat) (rest : List (Nat × Nat)) :
    RegsSame [COH_ROT.ROT] s (s.lockGiven ln c rest) := by
  unfold State.lockGiven
  dsimp only
  split
  · exact RegsSame.refl (s := s)
  · exact (RegsSame.refl (s := s)).fset 0 _ (by decide)

/-- LINE_LOCK_GRANT of a free line: the first contender in ROT's order holds the lock, and takes its directory step. -/
theorem lineLockGrant_first {s : State} {ln : BitVec 40} {c : Nat × Nat} {rest : List (Nat × Nat)}
    (hk : smFind? s.coh.locks ln.toNat = none) (ho : arbOrder (s.fget COH_ROT.ROT) (s.contenders ln.toNat) = c :: rest)
    (hl : rest.length ≤ 8) (err : DirErr) :
    ∃ u, Traffic (s.lockGiven ln.toNat c rest) u ∧ lineLockGrant ln err s = u.dirStep c.1 err := by
  generalize hv : ({ s with coh := { s.coh with locks := smSet s.coh.locks ln.toNat { holder := some c.1 } } } : State) = v
  generalize hw : (if rest.isEmpty then v else v.fset COH_ROT.ROT 0 ((c.2 + 1) % 20)) = w
  have hlock : smFind? w.coh.locks ln.toNat = some { holder := some c.1 } := by
    subst hw hv
    split <;> exact smFind?_set_self ..
  have hjoin := State.joinQueue_fresh hlock (l := rest.map (·.1)) (by simpa using hl)
  refine ⟨(w.joinQueue ln.toNat (rest.map (·.1))).count 2 1, ?_, ?_⟩
  · have hbase : s.lockGiven ln.toNat c rest = { w with coh := { w.coh with
        locks := smSet w.coh.locks ln.toNat { holder := some c.1, queue := rest.map (·.1) } } } := by
      subst hw hv
      unfold State.lockGiven
      dsimp only
      split <;> rfl
    rw [hbase]
    exact hjoin.count ..
  · simp only [lineLockGrant, ho, hk, hv, hw]

/-- Such a contender of a line that is not shared goes on to memory. -/
theorem lineLockGrant_direct {s : State} {ln : BitVec 40} {c : Nat × Nat} {rest : List (Nat × Nat)} {x : Txn}
    (hk : smFind? s.coh.locks ln.toNat = none) (ho : arbOrder (s.fget COH_ROT.ROT) (s.contenders ln.toNat) = c :: rest)
    (hl : rest.length ≤ 8) (hx : s.txn? c.1 = some x) (hsh : x.shared = false) (hd : x.Direct s) {t : State}
    (ht : lineLockGrant ln .none s = t) :
    smFind? t.coh.locks ln.toNat = some { holder := some c.1, queue := rest.map (·.1) } ∧ t.txn? c.1 = some (x.atCredit s.wclk) ∧
      t.fget COH_ROT.ROT = (s.lockGiven ln.toNat c rest).fget COH_ROT.ROT ∧ t.dram = s.dram ∧ t.nv = s.nv ∧ t.chans = s.chans ∧
      t.slc = s.slc := by
  obtain ⟨u, e, hgrant⟩ := lineLockGrant_first hk ho hl .none
  have hoff := s.lockGiven_off ln.toNat c rest
  have hcoh := s.lockGiven_coh ln.toNat c rest
  have hregs := s.lockGiven_regs ln.toNat c rest
  generalize s.lockGiven ln.toNat c rest = v at e hoff hcoh hregs
  have hfld : ∀ f ∈ placeFlds, f.id < 1024 ∧ f.id ∉ [COH_ROT.ROT].map (·.id) := by decide
  have hserves : u.onChannel x.ln = true := by
    have hv := State.onChannel_congr (s := s) (t := v) (congrArg State.chans hoff :)
      (fun f hf i => hregs f i (hfld f hf).1 (hfld f hf).2) x.ln
    exact (e.onChannel _).trans (hv.trans hd.serves)
  have hxu : u.txn? c.1 = some x := by
    unfold State.txn?
    rw [e.coh, hcoh]
    exact hx
  have hwclk : u.wclk = s.wclk := (congrArg State.wclk e.off :).trans (congrArg State.wclk hoff :)
  obtain ⟨tx, hmem, hf⟩ := State.toMemory_direct hxu ⟨hd.tiered, hd.dyed, hserves⟩
  have hstep : t = { u with coh := { u.coh with txns := tx } } := by
    rw [← ht, hgrant, ← hmem]
    simp [State.dirStep, hxu, hsh]
  subst hstep
  rw [hwclk] at hf
  refine ⟨?_, hf, e.fget (f := COH_ROT.ROT) 0, e.dram.trans (congrArg State.dram hoff :), e.nv.trans (congrArg State.nv hoff :),
    e.chans.trans (congrArg State.chans hoff :), e.slc.trans (congrArg State.slc hoff :)⟩
  show smFind? u.coh.locks ln.toNat = _
  rw [e.coh, hcoh]
  exact smFind?_set_self ..

end Sys2Proof.Machine
end

section
/-! PROOF. Evictions that end, ways that fall free, snoops that time out, PMEs fetched. -/

namespace Sys2Proof.Machine

open Sys2Proof

/-! ## Evictions and freed ways (06 R152-R154) -/

/-- With no transaction waiting, releasing a lock changes the line locks alone. -/
theorem State.unlock_idle {s : State} (h : s.coh.txns = []) (ln : Nat) :
    ∃ l, s.unlock ln = { s with coh := { s.coh with locks := l } } := by
  have hadmit (l : SMap Lock) : ({ s with coh := { s.coh with locks := l } } : State).admitWaiting =
      { s with coh := { s.coh with locks := l } } := by
    simp [State.admitWaiting, h]
  unfold State.unlock
  split
  · exact ⟨s.coh.locks, rfl⟩
  · exact ⟨_, hadmit _⟩

/-- The entry of a line whose eviction ends goes, or stays in S after an agent's snoop round. -/
def State.entryEnded (s : State) (ln : Nat) (down : Bool) : State :=
  match s.dirFind ln with
  | some (k, e) => if down then s.dirPut k { e with m := false } else s.dirDel k
  | none => s

theorem State.entryEnded_eq (s : State) (ln : Nat) (down : Bool) : ∃ d, s.entryEnded ln down = { s with coh := { s.coh with dir := d } } ∧
    ∀ k e, s.dirFind ln = some (k, e) → smFind? d k = if down then some { e with m := false } else none := by
  unfold State.entryEnded
  cases hf : s.dirFind ln with
  | none => exact ⟨s.coh.dir, rfl, nofun⟩
  | some p =>
    obtain ⟨k, e⟩ := p
    cases down with
    | true => exact ⟨_, rfl, by rintro k e ⟨⟩; exact smFind?_set_self ..⟩
    | false => exact ⟨_, rfl, by rintro k e ⟨⟩; exact smFind?_del_self ..⟩

/-- A key walk no longer waits on the line (06 R158). -/
def State.walkPast (s : State) (ln : Nat) : State :=
  match s.coh.walk with
  | some l => { s with coh := { s.coh with walk := some (l.filter (· != ln)) } }
  | none => s

theorem State.walkPast_eq (s : State) (ln : Nat) : ∃ w, s.walkPast ln = { s with coh := { s.coh with walk := w } } := by
  unfold State.walkPast
  split
  · exact ⟨_, rfl⟩
  · exact ⟨s.coh.walk, rfl⟩

/-- An eviction that no answer and no transaction waits for ends. -/
theorem evictionComplete_answered {s : State} {ln : BitVec 40} {v : Evict} (hv : smFind? s.coh.evicts ln.toNat = some v)
    (hs : v.snoops = []) (ht : v.forTxn = none) (hp : v.poisonIfNoWb = false) : evictionComplete ln s =
      ((({ s with coh := { s.coh with evicts := smDel s.coh.evicts ln.toNat } } : State).entryEnded ln.toNat v.down).walkPast
        ln.toNat).unlock ln.toNat := by
  simp only [evictionComplete, hv, hs, ht, hp, List.isEmpty_nil, Bool.not_true, Bool.false_eq_true, if_false]
  rfl

/-- An eviction that still waits for answers goes on. -/
theorem evictionComplete_waiting {s : State} {ln : BitVec 40} {v : Evict} (hv : smFind? s.coh.evicts ln.toNat = some v)
    (hs : v.snoops ≠ []) : evictionComplete ln s = s := by
  simp only [evictionComplete, hv]
  exact if_pos (by simpa using hs)

/-- With no transaction waiting it changes COH alone: the eviction is over, and the entry goes or stays in S. -/
theorem evictionComplete_idle {s : State} {ln : BitVec 40} {v : Evict} (hv : smFind? s.coh.evicts ln.toNat = some v) (hs : v.snoops = [])
    (ht : v.forTxn = none) (hp : v.poisonIfNoWb = false) (hq : s.coh.txns = []) : ∃ d w l,
      evictionComplete ln s = { s with coh := { s.coh with evicts := smDel s.coh.evicts ln.toNat, dir := d, walk := w, locks := l } } ∧
      ∀ k e, s.dirFind ln.toNat = some (k, e) → smFind? d k = if v.down then some { e with m := false } else none := by
  obtain ⟨d, hd, hdir⟩ := State.entryEnded_eq { s with coh := { s.coh with evicts := smDel s.coh.evicts ln.toNat } } ln.toNat v.down
  obtain ⟨w, hw⟩ := State.walkPast_eq { s with coh := { s.coh with evicts := smDel s.coh.evicts ln.toNat, dir := d } } ln.toNat
  obtain ⟨l, hl⟩ := State.unlock_idle
    (s := { s with coh := { s.coh with evicts := smDel s.coh.evicts ln.toNat, dir := d, walk := w } }) hq ln.toNat
  exact ⟨d, w, l, by rw [evictionComplete_answered hv hs ht hp, hd, hw, hl], hdir⟩

/-- The directory step of a transaction that finds a free way for its new entry: the entry is written, and the transaction goes on to
memory. -/
theorem State.dirDone_free {s : State} {n w : Nat} {x : Txn} {e : DirEntry} (hx : s.txn? n = some x) (hu : x.unkLost = false)
    (hf : s.dirFind x.ln = none) (he : s.entryAfter x none = some e) (hp : s.pickWay x.ln = .free w) (hd : x.Direct s) : ∃ tx,
      s.dirDone n = { s with coh := { s.coh with dir := smSet s.coh.dir w e, txns := tx } } ∧ smFind? tx n = some (x.atCredit s.wclk) := by
  obtain ⟨tx, hmem, htx⟩ := State.toMemory_direct (s := s.dirPut w e) hx ⟨hd.tiered, hd.dyed, hd.serves⟩
  refine ⟨tx, ?_, htx⟩
  simp only [State.dirDone, hx, hu, Bool.false_eq_true, if_false, hf, Option.map_none, he, hp]
  exact hmem

/-- A freed way goes to the first of its set's waiters, which leaves the retry queue. -/
theorem wayFreed_free {s : State} {set : BitVec 16} {n w : Nat} {rest : List Nat} {x : Txn} {e : DirEntry}
    (hr : smGet s.coh.retry set.toNat [] = n :: rest) (hx : s.txn? n = some x) (hp : s.pickWay x.ln = .free w)
    (hf : s.dirFind x.ln = none) (he : s.entryAfter x none = some e) (hu : x.unkLost = false) (hd : x.Direct s) : ∃ q tx,
      wayFreed set s = { s with coh := { s.coh with dir := smSet s.coh.dir w e, txns := tx, retry := q } } ∧
      smGet q set.toNat [] = rest ∧ smFind? tx n = some (x.atCredit s.wclk) := by
  obtain ⟨q, hq, hrest⟩ : ∃ q, (if rest.isEmpty then smDel s.coh.retry set.toNat else smSet s.coh.retry set.toNat rest) = q ∧
      smGet q set.toNat [] = rest := by
    cases rest with
    | nil => exact ⟨_, rfl, smGet_del_self ..⟩
    | cons a l => exact ⟨_, rfl, smGet_set_self ..⟩
  generalize hv : ({ s with coh := { s.coh with retry := q } } : State) = v
  have hxv : (v.phase n .lockWait).txn? n = some { x with phase := .lockWait } := by
    subst hv
    exact (State.modTxn_txn_self ..).trans (congrArg _ hx)
  have hfreed : wayFreed set s = (v.phase n .lockWait).dirDone n := by
    simp only [wayFreed, hr, hx, hp, hq, hv, reduceCtorEq, if_false]
  subst hv
  obtain ⟨tx, hdone, htx⟩ := State.dirDone_free hxv hu hf he hp ⟨hd.tiered, hd.dyed, hd.serves⟩
  exact ⟨q, tx, hfreed.trans hdone, hrest, htx⟩

/-! ## Snoop timeouts (06 R144) -/

/-- A snoop that has timed out is reported as COH class 5, and counted. -/
def State.timeoutSeen (s : State) (p : Target) (ln : Nat) : State := (s.cohFault 5 ln p).finc COH_SNPTO.TIMEOUTS

/-- Its pair enters the timeout table; a full table drops its oldest pair under class 6. -/
def State.timeoutKept (s : State) (p : Target) (ln : Nat) : State :=
  let full := decide (64 ≤ s.coh.timeouts.length)
  let t := if full then s.cohFault 6 ln p else s
  { t with coh := { t.coh with timeouts := (if full then t.coh.timeouts.drop 1 else t.coh.timeouts) ++ [(p, ln)] } }

theorem snoopTimeout_due {s : State} {node : NodeId} {h : Head} {ln : BitVec 40} {q : Nat} {at_ : Time}
    (hf : s.coh.sent.find? (fun e => (e.1 == node.toNat * 16 + h.val || e.1 == 1024 + node.toNat && h.val == 0) && e.2.1 == ln.toNat) =
      some (q, ln.toNat, at_))
    (he : s.elapsed at_ (usT (max 100 (s.fget COH_CTL.SNPTO))) = true) :
    snoopTimeout node h ln s = ((s.timeoutSeen q ln.toNat).timeoutKept q ln.toNat).snoopLost q ln.toNat := by
  simp only [snoopTimeout, hf, he, Bool.not_true, Bool.false_eq_true, if_false]
  rfl

theorem State.timeoutSeen_fault (s : State) (p : Target) (ln : Nat) : (s.timeoutSeen p ln).inFault setCOH 5 = true ∧
    (s.timeoutSeen p ln).fget COH_SNPTO.TIMEOUTS = min (2 ^ COH_SNPTO.TIMEOUTS.width - 1) (s.fget COH_SNPTO.TIMEOUTS + 1) := by
  have hcount : (s.cohFault 5 ln p).fget COH_SNPTO.TIMEOUTS = s.fget COH_SNPTO.TIMEOUTS :=
    State.report_fget _ _ _ _ _ _ _ (by decide) (by decide)
  have hclass : (s.timeoutSeen p ln).fget FLT_STATUS.CLASS setCOH = (s.cohFault 5 ln p).fget FLT_STATUS.CLASS setCOH :=
    State.fget_fset_ne _ _ _ _ (by decide) (by decide) (by decide)
  refine ⟨(State.inFault_congr hclass 5).trans (State.report_inFault _ _ _ _ _ (by decide)), ?_⟩
  rw [State.timeoutSeen, State.finc_fget_self, hcount]

theorem LineWay.timeoutKept {s t : State} (h : LineWay s t) (p : Target) (ln : Nat) : LineWay s (t.timeoutKept p ln) := by
  unfold State.timeoutKept
  extract_lets full u
  have hu : LineWay s u := h.report.ite h
  exact hu.pass

theorem LineRegs.timeoutKept {s t : State} (h : LineRegs s t) (p : Target) (ln : Nat) : LineRegs s (t.timeoutKept p ln) := by
  unfold State.timeoutKept
  extract_lets full u
  have hu : LineRegs s u := h.report.ite h
  exact hu.pass

/-- A snoop given up: COH class 5 is in fault state, the timeout is counted and the pair is in the timeout table; fuses, channels, fuse
controller and security are left alone. -/
theorem State.snoopGivenUp (s : State) (p : Target) (ln : Nat) {t : State}
    (ht : ((s.timeoutSeen p ln).timeoutKept p ln).snoopLost p ln = t) :
    t.inFault setCOH 5 = true ∧ t.fget COH_SNPTO.TIMEOUTS = min (2 ^ COH_SNPTO.TIMEOUTS.width - 1) (s.fget COH_SNPTO.TIMEOUTS + 1) ∧
      (p, ln) ∈ t.coh.timeouts ∧ t.nv = s.nv ∧ t.chans = s.chans ∧ t.ifc = s.ifc ∧ t.sec = s.sec := by
  have htable : (p, ln) ∈ ((s.timeoutSeen p ln).timeoutKept p ln).coh.timeouts := List.mem_append_right _ (List.mem_singleton_self _)
  have hlost := (WayKept.refl ((s.timeoutSeen p ln).timeoutKept p ln)).snoopLost p ln
  have hway : LineWay (s.timeoutSeen p ln) t := ht ▸ (LineWay.refl.timeoutKept p ln).snoopLost p ln
  have hregs : LineRegs (s.timeoutSeen p ln) t := ht ▸ ((LineRegs.refl _).timeoutKept p ln).snoopLost p ln
  obtain ⟨hfault, hcount⟩ := s.timeoutSeen_fault p ln
  obtain ⟨hifc, hsec, -, hnv, hchans, -⟩ := hway.kept
  refine ⟨hway.inFault (by decide) hfault, (hregs.same _ _ (by decide) (by decide)).trans hcount, ?_, hnv.trans (State.report_nv ..),
    hchans.trans (State.report_chans ..), hifc.trans (State.report_ifc ..), hsec.trans (State.report_sec ..)⟩
  rw [← ht, hlost.timeouts]
  exact htable

/-! ## The PME fetch (05 R126; 09 R231, R246, R247) -/

theorem smFind?_of_mem {α : Type} {m : SMap α} {e : Nat × α} (h : e ∈ m) : smFind? m e.1 ≠ none := by
  induction m with
  | nil => simp at h
  | cons f m ih =>
    obtain ⟨k, v⟩ := f
    by_cases hk : e.1 = k
    · simp [smFind?, hk]
    · have hm : e ∈ m := (List.mem_cons.1 h).resolve_left fun he => hk (by rw [he])
      simpa [smFind?, hk] using ih hm

/-- Bringing a block up to date changes Sluice's stored PMEs and block records alone, and of a stored PME its count alone. -/
theorem State.catchUp_eq (s : State) (b : Nat) : ∃ d r, s.catchUp b = { s with slc := { s.slc with dpm := d, rec2 := r } } ∧
    ∀ k, ∃ c, smGet d k {} = { s.dpm k with count := c } := by
  unfold State.catchUp
  split
  · exact ⟨s.slc.dpm, s.slc.rec2, rfl, fun k => ⟨(s.dpm k).count, rfl⟩⟩
  · refine ⟨_, _, rfl, fun k => ?_⟩
    simp only [smGet, smFind?_smMap, State.dpm]
    cases smFind? s.slc.dpm k with
    | none => exact ⟨_, rfl⟩
    | some p =>
      by_cases hb : blk2 k = b
      · exact ⟨s.effCount k, by simp [hb]⟩
      · exact ⟨p.count, by simp [hb]⟩

/-- A way that leaves the PME cache takes its page with it, and changes the stored PMEs; of another page it changes the count alone. -/
theorem State.pmeDrop_eq (s : State) (k : Nat) : ∃ m d r, s.pmeDrop k =
    { s with dec := { s.dec with pmec := m }, slc := { s.slc with dpm := d, rec2 := r } } ∧
    ∀ pn, pn ≠ k → ∃ c, smGet d pn {} = { s.dpm pn with count := c } := by
  unfold State.pmeDrop
  split
  · exact ⟨s.dec.pmec, s.slc.dpm, s.slc.rec2, rfl, fun pn _ => ⟨(s.dpm pn).count, rfl⟩⟩
  · next l _ =>
    obtain ⟨d, r, hc, hcount⟩ := s.catchUp_eq (blk2 k)
    refine ⟨smDel s.dec.pmec k, smPut d k {} l.pme, r, ?_, fun pn hk => ?_⟩
    · simp only [State.putDpm, hc]
    · rw [smGet_put_ne _ _ _ _ hk]
      exact hcount pn

/-- A full set of the PME cache gives up one of its unpinned ways (05 R126). -/
def State.pmeRoom (s : State) (pn : Nat) : State :=
  let ways := s.pmeWays (s.pmeSet pn)
  let free := ways.filter fun e => !e.2.pinned
  if ways.length < 8 then s else
    match free[(s.freeVal 3).toNat % max 1 free.length]? with
    | some e => s.freeTaken.pmeDrop e.1
    | none => s

/-- Room for a page that is not cached costs another page its way. -/
theorem State.pmeRoom_eq {s : State} {pn : Nat} (hc : s.pmeCached pn = false) : ∃ f m d r, s.pmeRoom pn =
    { s with free := f, dec := { s.dec with pmec := m }, slc := { s.slc with dpm := d, rec2 := r } } ∧
    ∃ c, smGet d pn {} = { s.dpm pn with count := c } := by
  have hsame : ∃ f m d r, s = { s with free := f, dec := { s.dec with pmec := m }, slc := { s.slc with dpm := d, rec2 := r } } ∧
      ∃ c, smGet d pn {} = { s.dpm pn with count := c } :=
    ⟨s.free, s.dec.pmec, s.slc.dpm, s.slc.rec2, rfl, (s.dpm pn).count, rfl⟩
  unfold State.pmeRoom
  extract_lets ways free
  split
  · exact hsame
  · split
    · next e he =>
      have hmem : e ∈ s.dec.pmec := List.mem_of_mem_filter (List.mem_of_mem_filter (List.mem_of_getElem? he))
      have hne : pn ≠ e.1 := fun h => smFind?_of_mem hmem (by simpa [State.pmeCached, smHas, h] using hc)
      obtain ⟨m, d, r, hd, hcount⟩ := s.freeTaken.pmeDrop_eq e.1
      exact ⟨_, m, d, r, hd, hcount pn hne⟩
    · exact hsame

/-- A page's stored PME is copied into the cache, with its effective count. -/
def State.pmeCopied (s : State) (pn : Nat) : State :=
  { s with dec := { s.dec with pmec := smSet s.dec.pmec pn { pme := { s.dpm pn with count := s.effCount pn } } } }

/-- A page's PME is installed: it is cached, with its stored tier and flags; the cache, the stored PMEs and the free value that picks the
way that leaves are all that changes. -/
theorem State.pmeInstall_eq (s : State) (pn : Nat) : ∃ f m d r, s.pmeInstall pn =
    { s with free := f, dec := { s.dec with pmec := m }, slc := { s.slc with dpm := d, rec2 := r } } ∧ smHas m pn = true ∧
    (s.pmeCached pn = false → ∃ c, smFind? m pn = some { pme := { s.dpm pn with count := c } }) := by
  cases hc : s.pmeCached pn with
  | true => exact ⟨s.free, s.dec.pmec, s.slc.dpm, s.slc.rec2, by simp [State.pmeInstall, hc], hc, nofun⟩
  | false =>
    obtain ⟨f, m, d, r, hroom, c, hdpm⟩ := State.pmeRoom_eq hc
    have hinstall : s.pmeInstall pn = (s.pmeRoom pn).pmeCopied pn := by
      unfold State.pmeInstall
      rw [hc]
      rfl
    have hstored : (s.pmeRoom pn).dpm pn = { s.dpm pn with count := c } := by rw [hroom]; exact hdpm
    unfold State.pmeCopied at hinstall
    rw [hstored] at hinstall
    generalize (s.pmeRoom pn).effCount pn = k at hinstall
    rw [hroom] at hinstall
    exact ⟨f, smSet m pn { pme := { s.dpm pn with count := k } }, d, r, hinstall, by simp [smHas], fun _ => ⟨k, smFind?_set_self ..⟩⟩

/-- What a fetched PME's checks make of it: the mirror copy repairs the primary one, and a PME whose copies are both lost is poisoned. -/
def State.pmeChecked (s : State) (pn : Nat) (primaryOk mirrorOk : Bool) : State :=
  if primaryOk then s
  else if mirrorOk then s.report setSLC 1 { addr := pn * 4096, dpa := some (pn * 4096) }
  else s.pmeLost pn

/-- The loss of a PME is reported of a state in which Sluice's leaks and records have changed, and the stored PME is UNBACKED and
poisoned. -/
theorem State.pmeLost_eq (s : State) (pn : Nat) : ∃ (u : State) (c : Capture), s.pmeLost pn = u.report setSLC 2 c ∧
    u = { s with regs := u.regs, slc := { s.slc with dpm := u.slc.dpm, rec2 := u.slc.rec2, rec1 := u.slc.rec1 } } ∧
    u.dpm pn = { tier := 3, poison := true } := by
  generalize hv : (s.fadd SLC_LEAK.UNITS 0 (pmeUnits (s.dpm pn))).tierCount pn (s.dpm pn).tier 3 = v
  obtain ⟨d, r, hc, -⟩ := v.catchUp_eq (blk2 pn)
  refine ⟨v.putDpm pn { tier := 3, poison := true }, { addr := pn * 4096, dpa := some (pn * 4096) }, by rw [← hv]; rfl, ?_, ?_⟩
  · simp only [State.putDpm, hc]
    rw [← hv]
    rfl
  · simp [State.dpm, State.putDpm]

theorem State.pmeChecked_coh (s : State) (pn : Nat) (a b : Bool) : (s.pmeChecked pn a b).coh = s.coh := by
  unfold State.pmeChecked
  split
  · rfl
  · split
    · exact State.report_coh ..
    · obtain ⟨u, c, hl, hu, -⟩ := s.pmeLost_eq pn
      rw [hl, State.report_coh, hu]

/-- A page's miss is no longer outstanding. -/
def State.missOver (s : State) (pn : Nat) : State := { s with dec := { s.dec with misses := s.dec.misses.filter (· != pn) } }

/-- The requests that wait for a page's PME go on, and the next miss is fetched. -/
def State.pmeWaitersOn (s : State) (pn : Nat) : State :=
  let s := s.each ((s.coh.txns.filter fun e => e.2.phase == .pme && e.2.ln / 64 == pn).map (·.1)) fun t s => s.pmeKnown t
  match s.coh.txns.find? fun e => e.2.phase == .pme && !s.dec.misses.contains (e.2.ln / 64) with
  | some e => { s with dec := { s.dec with misses := s.dec.misses ++ [e.2.ln / 64] } }
  | none => s

theorem State.pmeWaitersOn_idle {s : State} (h : s.coh.txns = []) (pn : Nat) : s.pmeWaitersOn pn = s := by simp [State.pmeWaitersOn, h]

/-- While the transaction table is empty, PME_FETCH_RETURN checks a PME that was missed and installs it. -/
theorem pmeFetchReturn_idle {s : State} {page : BitVec 33} (hm : page.toNat + 2 ^ 32 ∈ s.dec.misses) (ht : s.coh.txns = []) (a b : Bool) :
    pmeFetchReturn page a b s =
      ((s.missOver (page.toNat + 2 ^ 32)).pmeChecked (page.toNat + 2 ^ 32) a b).pmeInstall (page.toNat + 2 ^ 32) := by
  have hreturn : pmeFetchReturn page a b s = (((s.missOver (page.toNat + 2 ^ 32)).pmeChecked (page.toNat + 2 ^ 32) a b).pmeInstall
      (page.toNat + 2 ^ 32)).pmeWaitersOn (page.toNat + 2 ^ 32) := by
    unfold pmeFetchReturn
    exact if_neg (by simpa using hm)
  obtain ⟨f, m, d, r, hi, -⟩ := ((s.missOver (page.toNat + 2 ^ 32)).pmeChecked (page.toNat + 2 ^ 32) a b).pmeInstall_eq
    (page.toNat + 2 ^ 32)
  rw [hreturn, State.pmeWaitersOn_idle]
  rw [hi]
  exact (congrArg Coh.txns (State.pmeChecked_coh ..)).trans ht

theorem pmeFetchReturn_unasked {s : State} {page : BitVec 33} (hm : page.toNat + 2 ^ 32 ∉ s.dec.misses) (a b : Bool) :
    pmeFetchReturn page a b s = s := by
  unfold pmeFetchReturn
  exact if_pos (by simpa using hm)

/-- A lost PME of a page that is not cached: SLC class 2 is in fault state, and the page reads as UNBACKED and poisoned. -/
theorem State.pmeInstall_lost {s t : State} {pn : Nat} (hc : s.pmeCached pn = false) (ht : (s.pmeLost pn).pmeInstall pn = t) :
    t.inFault setSLC 2 = true ∧ (t.pme pn).poison = true ∧ (t.pme pn).tier = 3 ∧ t.coh = s.coh ∧ t.dram = s.dram := by
  obtain ⟨u, c, hlost, hu, hdpm⟩ := s.pmeLost_eq pn
  have hfault : (u.report setSLC 2 c).inFault setSLC 2 = true := State.report_inFault _ _ _ _ _ (by decide)
  have hslc : (u.report setSLC 2 c).slc = u.slc := u.report_slc ..
  have hdec : (u.report setSLC 2 c).dec = s.dec := (u.report_dec ..).trans (congrArg State.dec hu :)
  have hcoh : (u.report setSLC 2 c).coh = s.coh := (u.report_coh ..).trans (congrArg State.coh hu :)
  have hdram : (u.report setSLC 2 c).dram = s.dram := (u.report_dram ..).trans (congrArg State.dram hu :)
  rw [hlost] at ht
  generalize u.report setSLC 2 c = v at *
  obtain ⟨f, m, d, r, hi, -, hcopy⟩ := v.pmeInstall_eq pn
  obtain ⟨k, hk⟩ := hcopy (by rw [State.pmeCached, hdec]; exact hc)
  have hpme : t.pme pn = { v.dpm pn with count := k } := by
    have hk' : smFind? t.dec.pmec pn = some { pme := { v.dpm pn with count := k } } := by rw [← ht, hi]; exact hk
    simp only [State.pme, hk']
  have hstored : v.dpm pn = { tier := 3, poison := true } := by rw [State.dpm, hslc]; exact hdpm
  rw [hpme, hstored, ← ht, hi]
  exact ⟨hfault, rfl, rfl, hcoh, hdram⟩

end Sys2Proof.Machine
end

section
/-! PROOF. The coherence events: each is the effect that the lemmas above say, on the state whose last outputs are gone. -/

namespace Sys2Proof.Machine

open Sys2Proof

/-- A command with no path to fuses or queue ends where its effect ends, but for both of them. -/
theorem volatile_kept (f : State → State) (s : State) : volatile f s = .next (s.kept (f s.clearOut)) := rfl

/-- Settles O51: a response acts on its snoop and pointer alone, a granted or waiting transaction goes on to memory, an idle device's
eviction and fetched PME change COH and the page map alone, and a snoop given up leaves its fault, count and pair behind. -/
theorem coherenceEvents : Obligations.CoherenceEvents := by
  refine ⟨?response, ?late, ?conflict, ?grant, ?contended, ?evicted, ?evicting, ?wayFreed, ?timeout, ?fetched, ?lost, ?unasked⟩
  case response =>
    intro h ln left at_ s hs hto hq
    obtain ⟨d, ev, mv, he, hd⟩ := State.snoopAnswer_quiet (s := s.clearOut) hs hq left
    have hend := volatile_ends ((m2sBirsp_sent (s := s.clearOut) hs hto left).trans he) rfl rfl
    refine ⟨_, hend, rfl, fun hne => ?_, fun k e hI hn hf ho hp => ?_, rfl⟩
    · exact hd.trans (by rw [if_neg hne]; rfl)
    · have hlt : s.localPtr h < 1024 := by
        have := h.isLt
        show s.selfNode * 16 + h.val < 1024
        omega
      show smFind? d k = none
      rw [hd, if_pos hI, State.dropPtr_last (s := s.clearOut) hf ho hp hlt]
      exact smFind?_del_self ..
  case late =>
    intro h ln left s hto
    refine ⟨_, volatile_ends (m2sBirsp_late (s := s.clearOut) hto left) rfl rfl, rfl, State.finc_fget_self .., rfl, ?_⟩
    exact (RegsSame.refl (s := s)).fset 0 _ (by decide)
  case conflict =>
    intro h ln s ha ht
    exact volatile_ends (biconflict_acked (s := s.clearOut) ha ht ln) rfl rfl
  case grant =>
    intro ln n r x s hk hc hx hsh ht hln hdye hch
    have ho : arbOrder (s.fget COH_ROT.ROT) (s.contenders ln.toNat) = [(n, r)] := by
      rw [hc]
      exact arbOrder_of_rising (List.pairwise_singleton ..)
    obtain ⟨hlock, htxn, hrot, hdram, -, hchans, hslc⟩ := lineLockGrant_direct (s := s.clearOut) hk ho (by simp) hx hsh
      ⟨ht, hdye, by rw [hln]; exact hch⟩ rfl
    exact ⟨_, volatile_kept .., hlock, htxn.trans (by rw [Txn.atCredit, hln]; rfl), hrot, hdram, rfl, hchans, hslc⟩
  case contended =>
    intro ln a ra b rb x s hk hc hlt hx hsh ht hln hdye hch
    have ho : arbOrder (s.fget COH_ROT.ROT) (s.contenders ln.toNat) = [(a, ra), (b, rb)] := by
      have hrise : arbOrder (s.fget COH_ROT.ROT) [(a, ra), (b, rb)] = [(a, ra), (b, rb)] := arbOrder_of_rising (by simpa using hlt)
      rcases hc with hc | hc
      · rw [hc, hrise]
      · rw [hc, arbOrder_swap hlt.ne, hrise]
    obtain ⟨hlock, -, hrot, hdram, -, -, -⟩ := lineLockGrant_direct (s := s.clearOut) hk ho (by simp) hx hsh
      ⟨ht, hdye, by rw [hln]; exact hch⟩ rfl
    refine ⟨_, volatile_kept .., hlock, hrot.trans ?_, hdram, rfl⟩
    exact (State.fget_fset_self ..).trans (Nat.mod_eq_of_lt ((Nat.mod_lt _ (by decide)).trans (by decide)))
  case evicted =>
    intro ln v s hv hs ht hp hq
    obtain ⟨d, w, l, he, hdir⟩ := evictionComplete_idle (s := s.clearOut) hv hs ht hp hq
    exact ⟨_, volatile_ends he rfl rfl, smFind?_del_self .., hdir, rfl⟩
  case evicting =>
    intro ln v s hv hs
    exact volatile_ends (evictionComplete_waiting (s := s.clearOut) hv hs) rfl rfl
  case wayFreed =>
    intro set n w rest x e s hr hx hp hf he hu ht hdye hch
    obtain ⟨q, tx, hfreed, hrest, htx⟩ := wayFreed_free (s := s.clearOut) hr hx hp hf he hu ⟨ht, hdye, hch⟩
    exact ⟨_, volatile_ends hfreed rfl rfl, smFind?_set_self .., hrest, htx, rfl, rfl, rfl⟩
  case timeout =>
    intro node h ln q at_ s hf he
    have hgone := snoopTimeout_due (s := s.clearOut) hf he
    obtain ⟨hfault, hcount, htable, -, hchans, hifc, hsec⟩ := s.clearOut.snoopGivenUp q ln.toNat hgone.symm
    exact ⟨_, volatile_kept .., hfault, hcount, htable, rfl, hchans, hifc, hsec⟩
  case fetched =>
    intro page s hm ht
    obtain ⟨f, m, d, r, hi, hcached, -⟩ := (s.clearOut.missOver (page.toNat + 2 ^ 32)).pmeInstall_eq (page.toNat + 2 ^ 32)
    exact ⟨_, volatile_ends ((pmeFetchReturn_idle (s := s.clearOut) hm ht true true).trans hi) rfl rfl, rfl, hcached, rfl, rfl, rfl, rfl⟩
  case lost =>
    intro page s hm ht hc
    have hreturn := pmeFetchReturn_idle (s := s.clearOut) hm ht false false
    obtain ⟨hfault, hpoison, htier, hcoh, hdram⟩ := State.pmeInstall_lost (s := s.clearOut.missOver (page.toNat + 2 ^ 32)) hc hreturn.symm
    exact ⟨_, volatile_kept .., hfault, hpoison, htier, hcoh, hdram, rfl⟩
  case unasked =>
    intro page a b s hm
    exact volatile_ends (pmeFetchReturn_unasked (s := s.clearOut) hm a b) rfl rfl

end Sys2Proof.Machine
end

section
/-! PROOF. The end of a transaction and the answers to reads and writes (01 R17 step 9; 06 R138-R140; 18 R435): what they leave of the
device, and what stands after them. -/

namespace Sys2Proof.Machine

open Sys2Proof

/-! ## The table after a transaction has gone -/

/-- The state without the transaction table, the line locks and the registers. -/
def State.offTable (s : State) : State := { s with regs := [], coh := {} }

theorem State.enterCoh_offTable (s : State) (n : Nat) : (s.enterCoh n).offTable = s.offTable := by
  cases hn : s.txn? n with
  | none => simp only [State.enterCoh, hn]
  | some y =>
    obtain ⟨ph, r, he, -⟩ := State.enterCoh_eq hn
    rw [he]
    rfl

theorem State.admitWaiting_offTable (s : State) : s.admitWaiting.offTable = s.offTable :=
  State.each_inv State.offTable _ _ (fun n t => t.enterCoh_offTable n) s

theorem State.unlockBy_offTable (s : State) (n ln : Nat) : (s.unlockBy n ln).offTable = s.offTable := by
  unfold State.unlockBy State.unlock
  split
  · split
    · split
      · rfl
      · exact State.admitWaiting_offTable _
    · rfl
  · rfl

/-- A transaction that goes changes the table, the locks and the registers of what they admit. -/
theorem State.dropTxn_offTable (s : State) (n : Nat) : (s.dropTxn n).offTable = s.offTable := by
  unfold State.dropTxn
  split
  · rfl
  · exact (State.admitWaiting_offTable _).trans (State.unlockBy_offTable _ _ _)

theorem State.dropTxn_out (s : State) (n : Nat) : (s.dropTxn n).out = s.out := (congrArg State.out (s.dropTxn_offTable n) :)

/-- What waits is admitted, or stays: no number that is free is given away. -/
theorem State.admitWaiting_free {s : State} {n : Nat} (h : s.txn? n = none) : s.admitWaiting.txn? n = none := by
  refine State.each_keeps (fun t => t.txn? n = none) _ _ (fun k t ht => ?_) h
  cases hk : t.txn? k with
  | none => simpa only [State.enterCoh, hk] using ht
  | some y =>
    obtain ⟨ph, r, he, -⟩ := State.enterCoh_eq hk
    have hne : n ≠ k := fun e => by simp [e, hk] at ht
    rw [he]
    exact (smFind?_adj_ne _ _ hne).trans ht

theorem State.unlockBy_free {s : State} {n : Nat} (h : s.txn? n = none) (k ln : Nat) : (s.unlockBy k ln).txn? n = none := by
  unfold State.unlockBy State.unlock
  split
  · split
    · split
      · exact h
      · exact State.admitWaiting_free h
    · exact h
  · exact h

theorem State.dropTxn_gone (s : State) (n : Nat) : (s.dropTxn n).txn? n = none := by
  unfold State.dropTxn
  split
  · next h => exact h
  · refine State.admitWaiting_free (State.unlockBy_free ?_ ..)
    exact smFind?_del_self ..

/-! ## What answers leave -/

/-- A dye record is written in the PMU; where the records reach their threshold, their bit sets and the PMU's cause is signalled. -/
theorem State.dyeRecord_keeps (P : State → Prop) (hpmu : ∀ s x, P s → P { s with pmu := x })
    (hthr : ∀ s : State, P s → P ((s.fset PMU_DYESTAT.THR 0 1).signal setPMU)) {s : State} (x : Txn) (ch : Nat) (ab : Bool) (hs : P s) :
    P (s.dyeRecord x ch ab) := by
  unfold State.dyeRecord
  split
  · exact hs
  · extract_lets node st tier r fill v u th
    have hu : P u := hpmu _ _ hs
    split
    · exact hthr _ hu
    · exact hu

/-- The state without what the answers to requests and fault reports reach: COH, the Press, the drawers, the Span and the counters. -/
def State.offAnswer (s : State) : State := { s.offFault with coh := {}, press := {}, drw := {}, spn := {}, pmu := {} }

theorem offAnswer_of_offFault {s t : State} (h : t.offFault = s.offFault) : t.offAnswer = s.offAnswer :=
  congrArg (fun x : State => { x with coh := {}, press := {}, drw := {}, spn := {}, pmu := {} }) h

theorem State.count_offAnswer (s : State) (u ev : Nat) (a : Attr) (k : Nat) : (s.count u ev a k).offAnswer = s.offAnswer :=
  offAnswer_of_offFault (offFault_of_offCount (s.count_off u ev a k))

theorem State.dropTxn_offAnswer (s : State) (n : Nat) : (s.dropTxn n).offAnswer = s.offAnswer :=
  (congrArg State.offAnswer (s.dropTxn_offTable n) :)

theorem State.dyeRecord_offAnswer (s : State) (x : Txn) (ch : Nat) (ab : Bool) : (s.dyeRecord x ch ab).offAnswer = s.offAnswer :=
  State.dyeRecord_keeps (fun t => t.offAnswer = s.offAnswer) (fun _ _ h => h)
    (fun t h => (offAnswer_of_offFault (offFault_of_offHeads (State.signal_off (t.fset PMU_DYESTAT.THR 0 1) setPMU))).trans h) x ch ab rfl

theorem State.opBack_offAnswer (s : State) (o k : Nat) (line : Option (Data × Bool)) : (s.opBack o k line).offAnswer = s.offAnswer := by
  unfold State.opBack
  split
  · rfl
  · next op _ =>
    extract_lets u v
    have hu : u.offAnswer = s.offAnswer := rfl
    have hv : v.offAnswer = s.offAnswer := (u.finc DRW_STAT.STALE op.drawer).count_offAnswer ..
    have hgone : (v.dropOp o).offAnswer = s.offAnswer := hv
    split
    · exact hu
    · split
      · exact hgone
      · exact hv

theorem State.answerRead_offAnswer (s : State) (x : Txn) (d : Data) (po : Bool) : (s.answerRead x d po).offAnswer = s.offAnswer := by
  unfold State.answerRead
  split
  · exact State.count_offAnswer ..
  · exact offAnswer_of_offFault (State.sendSpan_off ..)
  · exact State.opBack_offAnswer ..
  · rfl

theorem State.answerWrite_offAnswer (s : State) (x : Txn) (po : Bool) : (s.answerWrite x po).offAnswer = s.offAnswer := by
  unfold State.answerWrite
  split
  · exact State.count_offAnswer ..
  · exact offAnswer_of_offFault (State.sendSpan_off ..)
  · exact State.opBack_offAnswer ..
  · rfl

theorem State.finishRead_offAnswer (s : State) (n : Nat) (d : Data) (po : Bool) : (s.finishRead n d po).offAnswer = s.offAnswer := by
  unfold State.finishRead
  split
  · rfl
  · exact ((State.dropTxn_offAnswer ..).trans (State.dyeRecord_offAnswer ..)).trans (State.answerRead_offAnswer ..)

theorem State.finishWrite_offAnswer (s : State) (n : Nat) (po : Bool) : (s.finishWrite n po).offAnswer = s.offAnswer := by
  unfold State.finishWrite
  split
  · rfl
  · exact ((State.dropTxn_offAnswer ..).trans (State.dyeRecord_offAnswer ..)).trans (State.answerWrite_offAnswer ..)

/-! ## The answer to a head -/

theorem State.signal_out (s : State) (v : Nat) {o : Out} (ho : o ∈ s.out) : o ∈ (s.signal v).out :=
  State.each_keeps (fun t => o ∈ t.out) _ _ (fun h t ht => t.signalHead_out v h ht) ho

theorem State.dyeRecord_out (s : State) (x : Txn) (ch : Nat) (ab : Bool) {o : Out} (ho : o ∈ s.out) : o ∈ (s.dyeRecord x ch ab).out :=
  State.dyeRecord_keeps (fun t => o ∈ t.out) (fun _ _ h => h) (fun t h => (t.fset PMU_DYESTAT.THR 0 1).signal_out setPMU h) x ch ab ho

/-- A read of a head is answered, and its number is free. -/
theorem State.finishRead_head {s : State} {n : Nat} {x : Txn} {h : Head} (hx : s.txn? n = some x) (hh : x.src = .head h) (d : Data)
    (po : Bool) : .drs h x.ln d (po || x.poison || s.boot.fatal) x.devload ∈ (s.finishRead n d po).out ∧
      (s.finishRead n d po).txn? n = none := by
  simp only [State.finishRead, hx]
  refine ⟨?_, State.dropTxn_gone ..⟩
  rw [State.dropTxn_out, State.answerRead_head hh]
  exact State.dyeRecord_out _ _ _ _ (State.emit_count_out ..)

end Sys2Proof.Machine
end

section
/-! PROOF. DRAM commands, refresh and idle rows (07 R164-R173): each command's work on its bank and channel, and what it leaves. -/

namespace Sys2Proof.Machine

open Sys2Proof

/-! ## Banks -/

theorem State.modBank_bank_self (s : State) (c b : Nat) (f : Bank → Bank) : (s.modBank c b f).bank c b = f (s.bank c b) := by
  simp [State.bank, State.modBank]

theorem State.modBank_bank_ne (s : State) (c : Nat) {b k : Nat} (hk : k ≠ b) (f : Bank → Bank) :
    (s.modBank c b f).bank c k = s.bank c k := by
  simp [State.bank, State.modBank, smGet_mod_ne _ _ _ _ hk]

theorem State.bank_congr {s t : State} (h : t.chans = s.chans) (c b : Nat) : t.bank c b = s.bank c b := by
  rw [State.bank, State.bank, State.chan, State.chan, h]

/-! ## The work of one command slot -/

/-- What a command of a bank can change between two states: outputs are added, and the bank and the channel's tables, counters and free
values move; memory, keys, directory, the queues of the channel and its other banks stay. -/
structure BankWork (c b : Nat) (s t : State) : Prop where
  out : ∀ o ∈ s.out, o ∈ t.out
  dram : t.dram = s.dram
  dramLoss : t.dramLoss = s.dramLoss
  inl : t.inl = s.inl
  dir : t.coh.dir = s.coh.dir
  inflight : (t.chan c).inflight = (s.chan c).inflight
  wq : (t.chan c).wq = (s.chan c).wq
  others : ∀ k, k ≠ b → t.bank c k = s.bank c k

namespace BankWork

theorem refl (c b : Nat) (s : State) : BankWork c b s s := ⟨fun _ h => h, rfl, rfl, rfl, rfl, rfl, rfl, fun _ _ => rfl⟩

variable {c b : Nat} {s t : State} (w : BankWork c b s t)
include w

theorem trans {u : State} (v : BankWork c b t u) : BankWork c b s u :=
  ⟨fun o h => v.out o (w.out o h), v.dram.trans w.dram, v.dramLoss.trans w.dramLoss, v.inl.trans w.inl, v.dir.trans w.dir,
    v.inflight.trans w.inflight, v.wq.trans w.wq, fun k hk => (v.others k hk).trans (w.others k hk)⟩

/-- A step that leaves memory, keys, directory and channels alone is passed over. -/
theorem pass {u : State} (out : ∀ o ∈ t.out, o ∈ u.out := by exact fun _ h => h) (dram : u.dram = t.dram := by rfl)
    (dramLoss : u.dramLoss = t.dramLoss := by rfl) (inl : u.inl = t.inl := by rfl) (dir : u.coh.dir = t.coh.dir := by rfl)
    (chans : u.chans = t.chans := by rfl) : BankWork c b s u :=
  w.trans ⟨out, dram, dramLoss, inl, dir, by rw [State.chan, State.chan, chans], by rw [State.chan, State.chan, chans],
    fun k _ => State.bank_congr chans c k⟩

theorem emit (o : Out) : BankWork c b s (t.emit o) := w.pass (out := fun _ h => List.mem_append_left _ h)

theorem count (u ev : Nat) (a : Attr) (k : Nat) : BankWork c b s (t.count u ev a k) :=
  w.pass (fun _ h => t.count_out u ev a k h) (t.count_dram ..) (t.count_dramLoss ..) (t.count_inl ..) (by rw [t.count_coh])
    (t.count_chans ..)

theorem finc (f : Fld) (i : Nat) : BankWork c b s (t.finc f i) := w.pass

theorem stamp4 (n : Nat) : BankWork c b s (t.stamp4 n) := w.pass

theorem modBank (f : Bank → Bank) : BankWork c b s (t.modBank c b f) :=
  w.trans ⟨fun _ h => h, rfl, rfl, rfl, rfl, by simp [State.modBank], by simp [State.modBank], fun k hk => t.modBank_bank_ne c hk f⟩

theorem ite {p : Prop} [Decidable p] {u : State} (v : BankWork c b s u) : BankWork c b s (if p then t else u) := by
  split
  · exact w
  · exact v

theorem countAct (row : Nat) : BankWork c b s (t.countAct c b row) := by
  unfold State.countAct
  exact BankWork.modBank (w.pass.ite w) _

theorem rfm (sub : Bool) (row : Nat) : BankWork c b s (t.rfm c sub b row) := by
  unfold State.rfm
  extract_lets k th n cmd u v tgt
  have hcmd {x : State} (hx : BankWork c b s x) (d : DramCmd) : BankWork c b s (cmd x d) := hx.emit _
  have hu : BankWork c b s u := (w.modBank _).finc ..
  have hv : BankWork c b s v := ((hcmd hu _).ite ((hcmd hu _).finc ..)).ite w
  exact ((hcmd (hv.modBank _) _).finc ..).ite hv

end BankWork

/-- Counting an activate leaves the row open (R173). -/
theorem State.countAct_row (s : State) (c b row : Nat) : ((s.countAct c b row).bank c b).row = (s.bank c b).row := by
  unfold State.countAct
  extract_lets k rows from_ full rows' u n rows''
  have hu : u.bank c b = s.bank c b := by
    unfold u
    split <;> rfl
  rw [State.modBank_bank_self, hu]

/-- Refresh management leaves the row open (R173). -/
theorem State.rfm_row (s : State) (c b row : Nat) (sub : Bool) : ((s.rfm c sub b row).bank c b).row = (s.bank c b).row := by
  have hmod (x : State) (f : Bank → Bank) (hf : ∀ k, (f k).row = k.row) : ((x.modBank c b f).bank c b).row = (x.bank c b).row := by
    rw [State.modBank_bank_self, hf]
  unfold State.rfm
  extract_lets k th n cmd u v tgt
  have hu : (u.bank c b).row = (s.bank c b).row := hmod s _ fun _ => rfl
  have hv : (v.bank c b).row = (s.bank c b).row := by
    unfold v
    split
    · split
      · exact hu
      · exact hu
    · rfl
  split
  · exact (hmod v (fun k => { k with raa := k.raa - tgt }) fun _ => rfl).trans hv
  · exact hv

/-! ## The choice of a command slot (R165) -/

theorem dmcCommandIssue_idle {s : State} {ch : Chan} (h : s.fget DMC_STATUS.STATE ch ≠ 2) (sub : Bool) (bl : List Nat) :
    dmcCommandIssue ch sub bl s = s := by
  simp [dmcCommandIssue, h]

/-- Where no refresh is owed, the slot goes to the request that R165 chooses. -/
theorem dmcCommandIssue_chosen {s : State} {ch : Chan} {sub : Bool} {bl : List Nat} {i : Item} (h2 : s.fget DMC_STATUS.STATE ch = 2)
    (ho : s.owing ch sub = []) (hc : s.choose ch bl (s.slate ch sub) = some i) :
    dmcCommandIssue ch sub bl s = s.issue ch sub (s.slate ch sub).all i := by
  unfold State.slate at hc
  simp [dmcCommandIssue, h2, ho, hc, State.slate]

/-! ## The commands (R165-R169, R173) -/

/-- A request's command on the pins, its first one stamped (18 R434). -/
def State.command (s : State) (ch : Chan) (sub : Bool) (i : Item) (d : DramCmd) : State := (s.emit (.dramCmd ch sub i.p.bankNo d)).stamp4 i.t

theorem State.command_out (s : State) (ch : Chan) (sub : Bool) (i : Item) (d : DramCmd) :
    .dramCmd ch sub i.p.bankNo d ∈ (s.command ch sub i d).out := List.mem_append_right _ (List.mem_singleton_self _)

theorem BankWork.command {c b : Nat} {s t : State} (w : BankWork c b s t) (ch : Chan) (sub : Bool) (i : Item) (d : DramCmd) :
    BankWork c b s (t.command ch sub i d) := (w.emit _).stamp4 _

/-- The state at an activate's command: the row is open, and the activate counted. -/
def State.rowOpened (s : State) (ch : Chan) (i : Item) : State :=
  ((s.modBank ch i.p.bankNo fun k => { k with row := some i.p.row, hint := i.x.hint, streak := 0 }).countAct ch i.p.bankNo i.p.row).count 3 3
    { ch := some ch.val, cls := some i.x.cls }

/-- The state with a hit of an open streak counted. -/
def State.hitCounted (s : State) (ch : Chan) (i : Item) : State :=
  if 0 < (s.bank ch i.p.bankNo).streak then s.count 3 4 { ch := some ch.val, cls := some i.x.cls } else s

/-- The state at a column command: the bank's row closed or its streak moved on, the access counted as an event of the DMC. -/
def State.columnReady (s : State) (ch : Chan) (all : List Item) (i : Item) (ev : Nat) : State :=
  ((s.hitCounted ch i).columnBank ch all i).count 3 ev { ch := some ch.val, cls := some i.x.cls }

section
variable {s : State} {ch : Chan} {sub : Bool} {all : List Item} {i : Item}

theorem State.issue_pre (h : s.need ch i = .pre) : s.issue ch sub all i =
    (s.modBank ch i.p.bankNo fun k => { k with row := none, streak := 0 }).command ch sub i .pre := by
  simp only [State.issue, h, Fin.ofNat_val_eq_self, State.command]

theorem State.issue_act (h : s.need ch i = .act) : s.issue ch sub all i =
    ((s.rowOpened ch i).command ch sub i (.act i.p.row)).rfm ch sub i.p.bankNo i.p.row := by
  simp only [State.issue, h, Fin.ofNat_val_eq_self, State.command, State.rowOpened]

theorem State.issue_read (h : s.need ch i = .column) (hk : i.x.kind ≠ .write) : s.issue ch sub all i =
    ((s.columnReady ch all i 1).command ch sub i (if (s.hitCounted ch i).closes ch all i then .rdAp else .rd)).readOut ch i := by
  simp only [State.issue, h, hk, if_false, Fin.ofNat_val_eq_self, State.command, State.columnReady, State.hitCounted]
  rfl

theorem State.issue_write (h : s.need ch i = .column) (hk : i.x.kind = .write) : s.issue ch sub all i =
    ((s.columnReady ch all i 2).command ch sub i (if (s.hitCounted ch i).closes ch all i then .wrAp else .wr)).writeOut ch i := by
  simp only [State.issue, h, hk, if_true, Fin.ofNat_val_eq_self, State.command, State.columnReady, State.hitCounted]
  rfl

end

theorem State.columnReady_work (s : State) (ch : Chan) (all : List Item) (i : Item) (ev : Nat) :
    BankWork ch i.p.bankNo s (s.columnReady ch all i ev) := by
  have hstart := BankWork.refl ch i.p.bankNo s
  have hhit : BankWork ch i.p.bankNo s (s.hitCounted ch i) := (hstart.count ..).ite hstart
  exact BankWork.count (hhit.modBank _) ..

/-! ## What a burst does to memory (R166, R179, R181) -/

theorem State.rawLine_congr {s t : State} (hd : t.dram = s.dram) (hl : t.dramLoss = s.dramLoss) (m : Nat) : t.rawLine m = s.rawLine m := by
  rw [State.rawLine, State.rawLine, hd, hl]

/-- A written line depends on memory and on the key slots alone. -/
theorem State.writeLine_congr {s t : State} (hd : t.dram = s.dram) (hi : t.inl = s.inl) (m : Nat) (k : KeyId) (d : Data) (sl po : Bool) :
    (t.writeLine m k d sl po).dram = (s.writeLine m k d sl po).dram := by
  simp only [State.writeLine, State.putLine, State.keyInst, State.keyUsable, State.slot_congr hi, hd]

theorem State.writeLine_rawLine (s : State) {m n : Nat} (hn : n ≠ m) (k : KeyId) (d : Data) (sl po : Bool) :
    (s.writeLine m k d sl po).rawLine n = s.rawLine n := by
  rw [State.writeLine, State.rawLine_putLine, if_neg hn]

/-- A read's burst joins those under way, with what the line holds. -/
theorem State.readOut_eq {i : Item} {m : Nat} (hm : i.x.mpa = some m) (s : State) (c : Nat) : s.readOut c i =
    (s.modChan c fun x => { x with inflight := x.inflight ++ [(i.t, s.rawLine m)] }).modTxn i.t fun x => { x with phase := .issued } := by
  simp only [State.readOut, hm]

/-- The state in which a write's burst has stored its line, and the write has left its queue. -/
def State.written (s : State) (c : Nat) (i : Item) (m : Nat) : State :=
  (s.writeLine m i.x.key i.x.data i.x.slab i.x.poison).modChan c fun x => { x with wq := x.wq.filter (· != i.t) }

/-- The state after its credit has gone back, the drain mark has followed the queue's length, and the transaction is stamped (R166). -/
def State.writeCredited (s : State) (c : Nat) (i : Item) : State :=
  (if decide (((s.creditBack c i.x.cls).chan c).wq.length ≤ (s.creditBack c i.x.cls).fget DMC_QCTL.WR_LOW c) then
    (s.creditBack c i.x.cls).fset DMC_STATUS.DRAIN c 0 else s.creditBack c i.x.cls).stampTxn i.t 5

theorem State.writeCredited_same (s : State) (c : Nat) (i : Item) :
    (s.writeCredited c i).offAnswer = s.offAnswer ∧ (s.writeCredited c i).out = s.out := by
  unfold State.writeCredited
  split <;> exact ⟨rfl, rfl⟩

/-- A write's burst stores its line and leaves the queue; the transaction's end leaves the rest (R166). -/
theorem State.writeOut_leaves {i : Item} {m : Nat} (hm : i.x.mpa = some m) (s : State) (c : Nat) :
    (s.writeOut c i).offAnswer = (s.written c i m).offAnswer ∧ ∀ o ∈ s.out, o ∈ (s.writeOut c i).out := by
  obtain ⟨hoff, hout⟩ := (s.written c i m).writeCredited_same c i
  have hend : s.writeOut c i = match ((s.written c i m).writeCredited c i).txn? i.t with
      | some x => (((s.written c i m).writeCredited c i).dyeRecord x c false).dropTxn i.t
      | none => (s.written c i m).writeCredited c i := by
    simp only [State.writeOut, hm]
    rfl
  rw [hend]
  split
  · refine ⟨((State.dropTxn_offAnswer ..).trans (State.dyeRecord_offAnswer ..)).trans hoff, fun o ho => ?_⟩
    rw [State.dropTxn_out]
    exact State.dyeRecord_out _ _ _ _ (hout ▸ ho)
  · exact ⟨hoff, fun o ho => hout ▸ ho⟩

/-! ## Refresh and idle rows (R168, R169, R171) -/

/-- A rank of a subchannel owes one more refresh, four at most. -/
def State.oweRefresh (s : State) (ch : Chan) (rk : Nat) : State :=
  let n := min 4 (smGet (s.chan ch).owed rk 0 + 1)
  s.modChan ch fun x => { x with
    owed := smPut x.owed rk 0 n
    forced := if n = 4 ∧ !x.forced.contains rk then x.forced ++ [rk] else x.forced
    sameBank := smPut x.sameBank rk false (s.fget DMC_REFCTL.MODE ch == 1) }

theorem refreshDue_serves {s : State} {ch : Chan} (h : s.fget DMC_STATUS.STATE ch = 2) (rk : Fin 16) :
    refreshDue ch rk s = (s.oweRefresh ch rk).oweRefresh ch (16 + rk.val) := by
  simp only [refreshDue, h]
  rfl

section
variable (s : State) (ch : Chan) (rk : Nat)

theorem State.oweRefresh_owed : smGet ((s.oweRefresh ch rk).chan ch).owed rk 0 = min 4 (smGet (s.chan ch).owed rk 0 + 1) := by
  rw [State.oweRefresh, State.modChan_chan_self]
  exact smGet_put_self ..

theorem State.oweRefresh_owed_ne {j : Nat} (hj : j ≠ rk) : smGet ((s.oweRefresh ch rk).chan ch).owed j 0 = smGet (s.chan ch).owed j 0 := by
  rw [State.oweRefresh, State.modChan_chan_self]
  exact smGet_put_ne _ _ _ _ hj

/-- What was forced stays forced, and the fourth refresh owed forces its rank. -/
theorem State.oweRefresh_forced {j : Nat} (h : j ∈ (s.chan ch).forced ∨ j = rk ∧ 3 ≤ smGet (s.chan ch).owed rk 0) :
    j ∈ ((s.oweRefresh ch rk).chan ch).forced := by
  rw [State.oweRefresh, State.modChan_chan_self]
  dsimp only
  split
  · simp only [List.mem_append, List.mem_singleton]
    exact h.imp_right And.left
  · next hn =>
    rcases h with h | ⟨rfl, h⟩
    · exact h
    · have h4 : min 4 (smGet (s.chan ch).owed j 0 + 1) = 4 := by omega
      simpa [h4] using hn

theorem State.oweRefresh_chan_ne {c : Nat} (hc : c ≠ ch.val) : (s.oweRefresh ch rk).chan c = s.chan c := s.modChan_chan_ne _ hc

end

/-- An AUTO row of a channel without requests closes. -/
theorem autoPageIdle_quiet {s : State} {ch : Chan} {b : Nat} (hh : (s.bank ch b).hint = 2) (hr : (s.bank ch b).row.isSome = true)
    (hrq : (s.chan ch).rq = []) (hwq : (s.chan ch).wq = []) :
    autoPageIdle ch b s = (s.modBank ch b fun k => { k with row := none, streak := 0 }).emit (.dramCmd ch (512 ≤ b) b .pre) := by
  simp [autoPageIdle, hh, hr, hrq, hwq, State.items]

end Sys2Proof.Machine
end

section
/-! PROOF. The return of a read and its checks (01 R17 step 7; 07 R180-R185, R467), and the statement on DRAM commands. -/

namespace Sys2Proof.Machine

open Sys2Proof

/-! ## Register fields alone -/

/-- The state without its registers. -/
def State.offRegs (s : State) : State := { s with regs := [] }

/-- Fields of a list are written, and nothing else. -/
structure FieldsSet (l : List Fld) (s t : State) : Prop where
  off : t.offRegs = s.offRegs
  regs : RegsSame l s t

namespace FieldsSet

theorem refl (l : List Fld) (s : State) : FieldsSet l s s := ⟨rfl, RegsSame.refl⟩

variable {l : List Fld} {s t : State} (h : FieldsSet l s t)
include h

theorem set (g : Fld) (i v : Nat) (hg : g.id < 1024 ∧ g.id ∈ l.map (·.id) := by decide) : FieldsSet l s (t.fset g i v) :=
  ⟨h.off, h.regs.fset i v hg⟩

theorem eq : t = { s with regs := t.regs } := congrArg (fun x : State => { x with regs := t.regs }) h.off

theorem exists_eq : ∃ r, t = { s with regs := r } := ⟨_, h.eq⟩

/-- A field outside the list reads the same. -/
theorem fget {f : Fld} (i : Nat) (hf : f.id < 1024 ∧ f.id ∉ l.map (·.id) := by decide) : t.fget f i = s.fget f i := h.regs f i hf.1 hf.2

theorem ite {p : Prop} [Decidable p] {u : State} (k : FieldsSet l s u) : FieldsSet l s (if p then t else u) := by
  split
  · exact h
  · exact k

end FieldsSet

/-! ## An uncorrectable error (R185, R187) -/

/-- Register fields that the location of an error writes (R187). -/
def eccLocFlds : List Fld := [DMC_ECCLOC0.UE, DMC_ECCLOC0.SUB, DMC_ECCLOC0.RANK, DMC_ECCLOC0.BG, DMC_ECCLOC0.BANK, DMC_ECCLOC0.DEVICE,
  DMC_ECCLOC0.ROW, DMC_ECCLOC1.COL]

theorem State.eccLoc_sets {l : List Fld} {s t : State} (h : FieldsSet l s t) (c : Nat) (p : Place) (dev : Nat) (ue : Bool)
    (hl : ∀ f ∈ eccLocFlds, f.id < 1024 ∧ f.id ∈ l.map (·.id) := by decide) : FieldsSet l s (t.eccLoc c p dev ue) := by
  simp only [eccLocFlds, List.forall_mem_cons] at hl
  obtain ⟨hue, hsub, hrank, hbg, hbank, hdev, hrow, hcol, -⟩ := hl
  have h4 := (((h.set _ c ue.toNat hue).set _ c p.sub hsub).set _ c p.rank hrank).set _ c p.bg hbg
  exact (((h4.set _ c p.bank hbank).set _ c dev hdev).set _ c p.row hrow).set _ c p.col hcol

/-- The state with an uncorrectable error counted and its location held. -/
def State.ueCounted (s : State) (c : Nat) (p : Place) : State := (s.finc DMC_ECC.UE c).eccLoc c p 15 true

theorem State.ueCounted_sets (s : State) (c : Nat) (p : Place) : FieldsSet (DMC_ECC.UE :: eccLocFlds) s (s.ueCounted c p) :=
  State.eccLoc_sets ((FieldsSet.refl _ s).set ..) ..

theorem State.ueCounted_ue (s : State) (c : Nat) (p : Place) :
    (s.ueCounted c p).fget DMC_ECC.UE c = min (2 ^ DMC_ECC.UE.width - 1) (s.fget DMC_ECC.UE c + 1) := by
  rw [← State.finc_fget_self]
  exact (State.eccLoc_sets (FieldsSet.refl eccLocFlds (s.finc DMC_ECC.UE c)) c p 15 true).fget c

/-- Whether a line is Sluice's own is read from the sets, the regions and the pools (09 R221). -/
theorem State.inMeta_congr {s t : State} (hd : t.dec = s.dec) (hs : t.slc = s.slc)
    (hr : ∀ f ∈ [DEC_SET.VALID, DEC_SETBASE.BASE, DEC_SETBASE.SIZE], ∀ i, t.fget f i = s.fget f i) (m : Nat) : t.inMeta m = s.inMeta m := by
  simp only [List.forall_mem_cons] at hr
  obtain ⟨hv, hb, hsz, -⟩ := hr
  simp only [State.inMeta, State.setOfMpa, State.regionAt, State.fone, hv, hb, hsz, hd, hs]

theorem State.ueCounted_inMeta (s : State) (c : Nat) (p : Place) (m : Nat) : (s.ueCounted c p).inMeta m = s.inMeta m := by
  have h := s.ueCounted_sets c p
  have hd : (s.ueCounted c p).dec = s.dec := (congrArg State.dec h.off :)
  have hs : (s.ueCounted c p).slc = s.slc := (congrArg State.slc h.off :)
  refine State.inMeta_congr hd hs ?_ m
  simp only [List.forall_mem_cons]
  exact ⟨fun i => h.fget i, fun i => h.fget i, fun i => h.fget i, fun f hf => nomatch hf⟩

section
variable (s : State) (c : Nat) (p : Place) (m : Nat) (r : Bool) (dpa : Option Nat) (same : Bool)

/-- Uncorrected, a line that is still what was read, and not Sluice's own, is rewritten; the error is counted, placed and reported. -/
theorem State.uncorrected_eq : s.uncorrected c p m r dpa same =
    (if same ∧ !s.inMeta m then (s.ueCounted c p).poisonLine m r else s.ueCounted c p).report (setDMC c) 2
      { addr := dpa.getD (m * 64), unit := c, dpa := dpa } := by
  rw [← s.ueCounted_inMeta c p m]
  rfl

theorem State.uncorrected_rawLine (k : Nat) : (s.uncorrected c p m r dpa same).rawLine k =
    (if same ∧ !s.inMeta m then s.poisonLine m r else s).rawLine k := by
  obtain ⟨g, hg⟩ := (s.ueCounted_sets c p).exists_eq
  rw [State.uncorrected_eq, State.rawLine_congr (State.report_dram ..) (State.report_dramLoss ..), hg]
  split <;> rfl

/-- No line but the failing one changes. -/
theorem State.uncorrected_rawLine_ne {k : Nat} (hk : k ≠ m) : (s.uncorrected c p m r dpa same).rawLine k = s.rawLine k := by
  rw [State.uncorrected_rawLine]
  split
  · rw [State.poisonLine, State.rawLine_putLine, if_neg hk]
  · rfl

/-- A line that no write has replaced, and that is not Sluice's own, is rewritten as poison. -/
theorem State.uncorrected_poison (hi : s.inMeta m = false) : ((s.uncorrected c p m r dpa true).rawLine m).poison = true := by
  rw [State.uncorrected_rawLine, if_pos (by simp [hi]), State.poisonLine, State.rawLine_putLine, if_pos rfl]

theorem State.uncorrected_inFault : (s.uncorrected c p m r dpa same).inFault (setDMC c) 2 = true := by
  rw [State.uncorrected_eq]
  exact State.report_inFault _ _ _ _ _ (by decide)

theorem State.uncorrected_coh : (s.uncorrected c p m r dpa same).coh = s.coh := by
  obtain ⟨g, hg⟩ := (s.ueCounted_sets c p).exists_eq
  rw [State.uncorrected_eq, State.report_coh, hg]
  split <;> rfl

theorem State.uncorrected_ue :
    (s.uncorrected c p m r dpa same).fget DMC_ECC.UE c = min (2 ^ DMC_ECC.UE.width - 1) (s.fget DMC_ECC.UE c + 1) := by
  rw [← s.ueCounted_ue c p, State.uncorrected_eq, State.report_regs _ _ _ _ _ _ _ (by decide) (by decide)]
  split <;> rfl

end

/-! ## The checks of a returned line (R180-R183; 10 R272) -/

section
variable {s : State} {x : Txn} {m : Nat} {l : Line}

/-- A line that passes every check comes back with its data. -/
theorem State.checkLine_good (hb : (s.seen l m x.key x.slab).bad = false) (hr : x.retired = false) (c : Nat) (p : Place) :
    s.checkLine c x p m l .clean = ((s.seen l m x.key x.slab).data, false, s) := by
  simp only [Seen.bad, Bool.or_eq_false_iff] at hb
  obtain ⟨⟨hp, hk⟩, hs⟩ := hb
  simp [State.checkLine, hp, hk, hs, hr]

/-- A line stored as poison comes back as poison. -/
theorem State.checkLine_poison (hl : l.poison = true) (c : Nat) (p : Place) :
    s.checkLine c x p m l .clean = ((s.seen l m x.key x.slab).data, true, s) := by
  have hp : (s.seen l m x.key x.slab).poison = true := hl
  simp [State.checkLine, hp]

/-- A line that cannot be corrected comes back as poison. -/
theorem State.checkLine_uncorrectable (c : Nat) (p : Place) (r : Bool) : s.checkLine c x p m l (.uncorrectable r) =
    (0, true, s.uncorrected c p m r (some (x.ln * 64)) (s.rawLine m == l)) := rfl

end

/-! ## The way of a returned read -/

/-- A line's place is read from the sets and the channels' rows. -/
theorem State.placeOf_modChan (s : State) (c : Nat) {f : Channel → Channel} (hf : ∀ x, (f x).rows = x.rows) (m : Nat) :
    (s.modChan c f).placeOf m = s.placeOf m := by
  have hrows (k : Nat) : ((s.modChan c f).chan k).rows = (s.chan k).rows := by
    by_cases hk : k = c
    · rw [hk, State.modChan_chan_self, hf]
    · rw [s.modChan_chan_ne f hk]
  simp only [State.placeOf_eq, hrows]
  rfl

/-- The state in which the oldest burst under way has left the channel. -/
def State.burstTaken (s : State) (c n : Nat) (rest : List (Nat × Line)) : State :=
  s.modChan c fun x => { x with inflight := rest, rq := x.rq.filter (· != n) }

/-- The state in which a read's credit has gone back, and the read is stamped and carries its device load (11 R277, R291). -/
def State.readCredited (s : State) (c n : Nat) (x : Txn) : State :=
  let u := (s.creditBack c x.cls).stampTxn n 5
  u.modTxn n fun y => { y with devload := max y.devload (u.devLoad c x.cls x.waited) }

theorem dramReadReturn_read {s : State} {ch : Chan} {n m : Nat} {l : Line} {rest : List (Nat × Line)} {x : Txn} {p : Place}
    (hf : (s.chan ch).inflight = (n, l) :: rest) (hx : s.txn? n = some x) (hm : x.mpa = some m) (hp : s.placeOf m = some p)
    (hk : x.kind = .read) {ecc : Ecc} {d : Data} {bad : Bool} {u : State}
    (hc : (s.burstTaken ch n rest).checkLine ch x p m l ecc = (d, bad, u)) :
    dramReadReturn ch ecc s = (u.readCredited ch n x).readBack n x d bad := by
  have hx' : (s.burstTaken ch n rest).txn? n = some x := hx
  have hp' : (s.burstTaken ch n rest).placeOf m = some p := by rw [State.burstTaken, State.placeOf_modChan, hp]; exact fun _ => rfl
  simp only [State.burstTaken] at hx' hp' hc
  simp only [dramReadReturn, hf, hx', hm, Option.bind_some, hp', hc, hk, if_true]
  rfl

/-- A credited read is the same read, but for its stamps and device load. -/
theorem State.readCredited_txn {u : State} {n : Nat} {x : Txn} (hx : u.txn? n = some x) (c : Nat) :
    ∃ st dl, (u.readCredited c n x).txn? n = some { x with stamps := st, devload := dl } := by
  obtain ⟨st, hst⟩ := State.stampTxn_eq (s := u.creditBack c x.cls) hx 5
  rw [State.readCredited, hst]
  exact ⟨st, _, (State.modTxn_txn_self ..).trans (by rw [State.txn?, smFind?_set_self]; rfl)⟩

/-- A read of a head that no key or decode job holds back is answered; beside it, the table, the records and the counters, nothing changes. -/
theorem State.readBack_head {u : State} {n : Nat} {x : Txn} {h : Head} {bad : Bool} (hx : u.txn? n = some x) (hh : x.src = .head h)
    (hj : x.job = none) (hb : bad = true ∨ (u.slot x.key.toNat).mode ≠ 1) (c : Nat) (d : Data) {t : State}
    (ht : (u.readCredited c n x).readBack n x d bad = t) :
    (∃ dl, .drs h x.ln d (bad || x.poison || u.boot.fatal) dl ∈ t.out) ∧ t.txn? n = none ∧ t.offAnswer = u.offAnswer ∧
      (∀ set code, code - 1 < 16 → u.inFault set code = true → t.inFault set code = true) := by
  obtain ⟨st, dl, hy⟩ := State.readCredited_txn hx c
  have hfin : (u.readCredited c n x).readBack n x d bad = (u.readCredited c n x).finishRead n d bad := by
    have hx1 : (!bad && ((u.readCredited c n x).slot x.key.toNat).mode == 1) = false := by
      rcases hb with rfl | hb
      · rfl
      · exact Bool.and_eq_false_iff.mpr (.inr (beq_eq_false_iff_ne.mpr hb))
    simp only [State.readBack, hx1, hj, Bool.false_eq_true, if_false]
  rw [hfin] at ht
  obtain ⟨hout, hgone⟩ := State.finishRead_head hy hh d bad
  rw [← ht]
  refine ⟨⟨_, hout⟩, hgone, State.finishRead_offAnswer .., fun set code hc hs => ?_⟩
  have hcredit : (u.readCredited c n x).inFault set code = u.inFault set code :=
    State.inFault_congr (State.fget_fset_ne u set (c * 8 + x.cls) _ (by decide) (by decide) (by decide)) code
  exact ((LineWay.refl (s := u.readCredited c n x)).finishRead n d bad).inFault hc (hcredit.trans hs)

end Sys2Proof.Machine
end

section
/-! PROOF. The statement on DRAM commands: each clause is the effect that the lemmas above say, on the state whose last outputs are gone. -/

namespace Sys2Proof.Machine

open Sys2Proof

/-- A command with no path to fuses or queue ends in what its effect comes to, but for both of them. -/
theorem volatile_next {f : State → State} {s t : State} (h : f s.clearOut = t) : volatile f s = .next (s.kept t) := by rw [volatile_kept, h]

/-! ## The chosen request's command -/

section
variable {s : State} {ch : Chan} {sub : Bool} {all : List Item} {i : Item}

/-- An activate opens its row, and leaves memory and the other banks (R165, R173). -/
theorem State.issue_opens (hn : s.need ch i = .act) {t : State} (ht : s.issue ch sub all i = t) :
    .dramCmd ch sub i.p.bankNo (.act i.p.row) ∈ t.out ∧ (t.bank ch i.p.bankNo).row = some i.p.row ∧ BankWork ch i.p.bankNo s t := by
  rw [State.issue_act hn] at ht
  have hrow : ((s.rowOpened ch i).bank ch i.p.bankNo).row = some i.p.row := by
    rw [State.rowOpened, State.bank_congr (State.count_chans ..), State.countAct_row, State.modBank_bank_self]
  have hopen : BankWork ch i.p.bankNo s (s.rowOpened ch i) := (((BankWork.refl ..).modBank _).countAct _).count ..
  have hrfm := (BankWork.refl ch i.p.bankNo ((s.rowOpened ch i).command ch sub i (.act i.p.row))).rfm sub i.p.row
  rw [← ht]
  exact ⟨hrfm.out _ (State.command_out ..), (State.rfm_row ..).trans hrow, (hopen.command ..).trans hrfm⟩

/-- A precharge closes its row, and leaves the registers, memory and the other banks (R165). -/
theorem State.issue_closes (hn : s.need ch i = .pre) {t : State} (ht : s.issue ch sub all i = t) :
    .dramCmd ch sub i.p.bankNo .pre ∈ t.out ∧ (t.bank ch i.p.bankNo).row = none ∧ t.regs = s.regs ∧ BankWork ch i.p.bankNo s t := by
  rw [State.issue_pre hn] at ht
  rw [← ht]
  have hrow := congrArg Bank.row (s.modBank_bank_self ch i.p.bankNo fun k => { k with row := none, streak := 0 })
  exact ⟨State.command_out .., hrow, rfl, ((BankWork.refl ..).modBank _).command ..⟩

/-- A read's burst carries what the line holds, and leaves memory (R166, R179). -/
theorem State.issue_reads (hn : s.need ch i = .column) (hk : i.x.kind ≠ .write) {m : Nat} (hm : i.x.mpa = some m) {t : State}
    (ht : s.issue ch sub all i = t) : (t.chan ch).inflight = (s.chan ch).inflight ++ [(i.t, s.rawLine m)] ∧
      (.dramCmd ch sub i.p.bankNo .rd ∈ t.out ∨ .dramCmd ch sub i.p.bankNo .rdAp ∈ t.out) ∧ t.dram = s.dram := by
  rw [State.issue_read hn hk, State.readOut_eq hm] at ht
  have hcmd := (s.columnReady ch all i 1).command_out ch sub i (if (s.hitCounted ch i).closes ch all i then .rdAp else .rd)
  have hw := (s.columnReady_work ch all i 1).command ch sub i (if (s.hitCounted ch i).closes ch all i then .rdAp else .rd)
  generalize (s.columnReady ch all i 1).command .. = u at ht hcmd hw
  rw [← ht]
  refine ⟨?_, ?_, hw.dram⟩
  · rw [← hw.inflight, ← State.rawLine_congr hw.dram hw.dramLoss]
    exact congrArg Channel.inflight (u.modChan_chan_self ch fun y => { y with inflight := y.inflight ++ [(i.t, u.rawLine m)] })
  · split at hcmd
    · exact .inr hcmd
    · exact .inl hcmd

/-- A write's burst stores its line alone, and takes it from the queue (R166, R181). -/
theorem State.issue_writes (hn : s.need ch i = .column) (hk : i.x.kind = .write) {m : Nat} (hm : i.x.mpa = some m) {t : State}
    (ht : s.issue ch sub all i = t) : t.dram = (s.writeLine m i.x.key i.x.data i.x.slab i.x.poison).dram ∧
      (∀ n, n ≠ m → t.rawLine n = s.rawLine n) ∧ i.t ∉ (t.chan ch).wq ∧
      (.dramCmd ch sub i.p.bankNo .wr ∈ t.out ∨ .dramCmd ch sub i.p.bankNo .wrAp ∈ t.out) := by
  rw [State.issue_write hn hk] at ht
  have hcmd := (s.columnReady ch all i 2).command_out ch sub i (if (s.hitCounted ch i).closes ch all i then .wrAp else .wr)
  have hw := (s.columnReady_work ch all i 2).command ch sub i (if (s.hitCounted ch i).closes ch all i then .wrAp else .wr)
  generalize (s.columnReady ch all i 2).command .. = u at ht hcmd hw
  obtain ⟨hoff, hout⟩ := State.writeOut_leaves hm u ch
  rw [ht] at hoff hout
  have hdram : t.dram = (s.writeLine m i.x.key i.x.data i.x.slab i.x.poison).dram :=
    (congrArg State.dram hoff :).trans (State.writeLine_congr hw.dram hw.inl ..)
  have hloss : t.dramLoss = s.dramLoss := (congrArg State.dramLoss hoff :).trans hw.dramLoss
  have hchans : t.chans = (u.written ch i m).chans := (congrArg State.chans hoff :)
  refine ⟨hdram, fun n hne => ?_, ?_, ?_⟩
  · rw [State.rawLine_congr hdram hloss, State.writeLine_rawLine _ hne]
  · rw [State.chan, hchans, ← State.chan, State.written, State.modChan_chan_self]
    simp
  · split at hcmd
    · exact .inr (hout _ hcmd)
    · exact .inl (hout _ hcmd)

end

/-! ## The returned read of a head -/

section
variable {s : State} {ch : Chan} {n m : Nat} {l : Line} {rest : List (Nat × Line)} {x : Txn} {p : Place} {h : Head}
  (hf : (s.chan ch).inflight = (n, l) :: rest) (hx : s.txn? n = some x) (hm : x.mpa = some m) (hp : s.placeOf m = some p)
  (hk : x.kind = .read) (hh : x.src = .head h) (hj : x.job = none)
include hf hx hm hp hk hh hj

/-- A good line goes back to its head. -/
theorem dramReadReturn_good (hr : x.retired = false) (hmode : (s.slot x.key.toNat).mode ≠ 1) (hb : (s.seen l m x.key x.slab).bad = false)
    {t : State} (ht : dramReadReturn ch .clean s = t) :
    (∃ dl, .drs h x.ln (s.seen l m x.key x.slab).data (x.poison || s.boot.fatal) dl ∈ t.out) ∧ t.txn? n = none ∧
      (t.chan ch).inflight = rest ∧ t.dram = s.dram ∧ t.slc = s.slc ∧ t.inl = s.inl := by
  have hc := State.checkLine_good (s := s.burstTaken ch n rest) (x := x) (m := m) (l := l) hb hr ch p
  obtain ⟨⟨dl, hout⟩, hgone, hoff, -⟩ := State.readBack_head (u := s.burstTaken ch n rest) (bad := false) hx hh hj (.inr hmode) ch
    (s.seen l m x.key x.slab).data ((dramReadReturn_read hf hx hm hp hk hc).symm.trans ht)
  refine ⟨⟨dl, hout⟩, hgone, ?_, (congrArg State.dram hoff :), (congrArg State.slc hoff :), (congrArg State.inl hoff :)⟩
  have hchans : t.chans = (s.burstTaken ch n rest).chans := (congrArg State.chans hoff :)
  rw [State.chan, hchans, ← State.chan, State.burstTaken, State.modChan_chan_self]

/-- A line stored as poison goes back as poison. -/
theorem dramReadReturn_poison (hl : l.poison = true) {t : State} (ht : dramReadReturn ch .clean s = t) :
    (∃ d dl, .drs h x.ln d true dl ∈ t.out) ∧ t.txn? n = none ∧ t.dram = s.dram := by
  have hc := State.checkLine_poison (s := s.burstTaken ch n rest) (x := x) (m := m) hl ch p
  obtain ⟨⟨dl, hout⟩, hgone, hoff, -⟩ := State.readBack_head (u := s.burstTaken ch n rest) (bad := true) hx hh hj (.inl rfl) ch _
    ((dramReadReturn_read hf hx hm hp hk hc).symm.trans ht)
  exact ⟨⟨_, dl, hout⟩, hgone, (congrArg State.dram hoff :)⟩

/-- A line that cannot be corrected goes back as poison and is rewritten so, and raises DMC class 2 (R185). -/
theorem dramReadReturn_uncorrectable (r : Bool) (hl : s.rawLine m = l) (hi : s.inMeta m = false) {t : State}
    (ht : dramReadReturn ch (.uncorrectable r) s = t) : (∃ dl, .drs h x.ln 0 true dl ∈ t.out) ∧
      t.inFault (setDMC ch) 2 = true ∧ (t.rawLine m).poison = true ∧ ∀ k, k ≠ m → t.rawLine k = s.rawLine k := by
  have hc : (s.burstTaken ch n rest).checkLine ch x p m l (.uncorrectable r) =
      (0, true, (s.burstTaken ch n rest).uncorrected ch p m r (some (x.ln * 64)) true) := by
    rw [State.checkLine_uncorrectable]
    simp [State.rawLine_congr (s := s) (t := s.burstTaken ch n rest) rfl rfl, hl]
  have hxu : ((s.burstTaken ch n rest).uncorrected ch p m r (some (x.ln * 64)) true).txn? n = some x := by
    rw [State.txn?, State.uncorrected_coh]
    exact hx
  obtain ⟨⟨dl, hout⟩, -, hoff, hfault⟩ := State.readBack_head (bad := true) hxu hh hj (.inl rfl) ch 0
    ((dramReadReturn_read hf hx hm hp hk hc).symm.trans ht)
  have hraw (k : Nat) : t.rawLine k = ((s.burstTaken ch n rest).uncorrected ch p m r (some (x.ln * 64)) true).rawLine k :=
    State.rawLine_congr (congrArg State.dram hoff :) (congrArg State.dramLoss hoff :) k
  refine ⟨⟨dl, hout⟩, hfault _ _ (by decide) (State.uncorrected_inFault ..), ?_, fun k hne => ?_⟩
  · rw [hraw]
    exact State.uncorrected_poison _ _ _ _ _ _ hi
  · rw [hraw, State.uncorrected_rawLine_ne _ _ _ _ _ _ _ hne]
    rfl

end

/-! ## The statement -/

/-- Settles O53: the slot goes to the chosen request, whose command works on its bank, and whose burst on its line; a returned read is answered
as its checks find it; a refresh falls due at both subchannels, and an idle row closes. -/
theorem dramCommands : Obligations.DramCommands := by
  refine ⟨?idle, ?act, ?pre, ?read, ?write, ?good, ?poisoned, ?uncorrectable, ?refresh, ?pageIdle⟩
  case idle =>
    intro ch sub b s h
    exact volatile_ends (dmcCommandIssue_idle (s := s.clearOut) h sub b) rfl rfl
  case act =>
    intro ch sub b i s h2 ho hc hn
    obtain ⟨hout, hrow, hw⟩ := State.issue_opens (s := s.clearOut) hn rfl
    exact ⟨_, volatile_next (dmcCommandIssue_chosen (s := s.clearOut) h2 ho hc), hout, hrow, hw.others, hw.dram, rfl, hw.dir⟩
  case pre =>
    intro ch sub b i s h2 ho hc hn
    obtain ⟨hout, hrow, hregs, hw⟩ := State.issue_closes (s := s.clearOut) hn rfl
    exact ⟨_, volatile_next (dmcCommandIssue_chosen (s := s.clearOut) h2 ho hc), hout, hrow, hw.others, hw.dram, rfl, hregs⟩
  case read =>
    intro ch sub b i m s h2 ho hc hn hk hm
    obtain ⟨hin, hout, hdram⟩ := State.issue_reads (s := s.clearOut) hn hk hm rfl
    exact ⟨_, volatile_next (dmcCommandIssue_chosen (s := s.clearOut) h2 ho hc), hin, hout, hdram, rfl⟩
  case write =>
    intro ch sub b i m s h2 ho hc hn hk hm
    obtain ⟨hdram, hraw, hwq, hout⟩ := State.issue_writes (s := s.clearOut) hn hk hm rfl
    exact ⟨_, volatile_next (dmcCommandIssue_chosen (s := s.clearOut) h2 ho hc), hdram, hraw, hwq, hout, rfl⟩
  case good =>
    intro ch n m l rest x p h s hf hx hm hp hk hh hj hr hmode hb
    obtain ⟨⟨dl, hout⟩, hgone, hrest, hdram, hslc, hinl⟩ :=
      dramReadReturn_good (s := s.clearOut) hf hx hm hp hk hh hj hr hmode hb rfl
    exact ⟨_, dl, volatile_kept .., hout, hgone, hrest, hdram, rfl, hslc, hinl⟩
  case poisoned =>
    intro ch n m l rest x p h s hf hx hm hp hk hh hj hl
    obtain ⟨⟨d, dl, hout⟩, hgone, hdram⟩ := dramReadReturn_poison (s := s.clearOut) hf hx hm hp hk hh hj hl rfl
    exact ⟨_, d, dl, volatile_kept .., hout, hgone, hdram, rfl⟩
  case uncorrectable =>
    intro ch n m l rest x p h r s hf hx hm hp hk hh hj hl hi
    obtain ⟨⟨dl, hout⟩, hfault, hpoison, hraw⟩ :=
      dramReadReturn_uncorrectable (s := s.clearOut) hf hx hm hp hk hh hj r hl hi rfl
    exact ⟨_, dl, volatile_kept .., hout, hfault, hpoison, hraw, rfl⟩
  case refresh =>
    intro ch rk s h2
    have hne : rk.val ≠ 16 + rk.val := by omega
    refine ⟨_, volatile_ends (refreshDue_serves (s := s.clearOut) h2 rk) rfl rfl, ?_, ?_, fun h3 => ?_, fun c hc => ?_, rfl⟩
    · rw [State.oweRefresh_owed_ne _ _ _ hne, State.oweRefresh_owed]
      rfl
    · rw [State.oweRefresh_owed, State.oweRefresh_owed_ne _ _ _ hne.symm]
      rfl
    · exact State.oweRefresh_forced _ _ _ (.inl (State.oweRefresh_forced _ _ _ (.inr ⟨rfl, h3⟩)))
    · rw [State.oweRefresh_chan_ne _ _ _ hc, State.oweRefresh_chan_ne _ _ _ hc]
      rfl
  case pageIdle =>
    intro ch b s hh hr hrq hwq
    refine ⟨_, volatile_ends (autoPageIdle_quiet (s := s.clearOut) hh hr hrq hwq) rfl rfl, rfl, ?_, fun k hk => ?_, rfl⟩
    · exact State.modBank_bank_self ..
    · exact State.modBank_bank_ne _ _ hk _

end Sys2Proof.Machine
end

section
/-! PROOF. What the upkeep of the DRAM can change (07 R172-R190): register fields and channels, fault reports (16 R382-R393) and Weir's limits
(11 R289, R290). -/

namespace Sys2Proof.Machine

open Sys2Proof

/-! ## Register fields and channels -/

/-- The state without outputs, registers and channels. -/
def State.offChan (s : State) : State := { s with out := [], regs := [], chans := [] }

/-- Fields of a list, channels and outputs are written, and nothing else. -/
structure ChanWork (l : List Fld) (s t : State) : Prop where
  off : t.offChan = s.offChan
  regs : RegsSame l s t

namespace ChanWork

theorem refl (l : List Fld) (s : State) : ChanWork l s s := ⟨rfl, RegsSame.refl⟩

variable {l : List Fld} {s t : State} (h : ChanWork l s t)
include h

theorem set (g : Fld) (i v : Nat) (hg : g.id < 1024 ∧ g.id ∈ l.map (·.id) := by decide) : ChanWork l s (t.fset g i v) :=
  ⟨h.off, h.regs.fset i v hg⟩

theorem modChan (c : Nat) (f : Channel → Channel) : ChanWork l s (t.modChan c f) := ⟨h.off, h.regs⟩

theorem emit (o : Out) : ChanWork l s (t.emit o) := ⟨h.off, h.regs⟩

theorem ite {p : Prop} [Decidable p] {u : State} (k : ChanWork l s u) : ChanWork l s (if p then t else u) := by
  split
  · exact h
  · exact k

theorem fpeak (g : Fld) (i v : Nat) (hg : g.id < 1024 ∧ g.id ∈ l.map (·.id) := by decide) : ChanWork l s (t.fpeak g i v) :=
  (h.set g i v hg).ite h

theorem trans {u : State} (k : ChanWork l t u) : ChanWork l s u := ⟨k.off.trans h.off, h.regs.trans k.regs⟩

theorem mono {m : List Fld} (hm : ∀ n ∈ l.map (·.id), n ∈ m.map (·.id) := by decide) : ChanWork m s t := ⟨h.off, h.regs.mono hm⟩

theorem eq : t = { s with out := t.out, regs := t.regs, chans := t.chans } :=
  congrArg (fun x : State => { x with out := t.out, regs := t.regs, chans := t.chans }) h.off

/-- A field outside the list reads the same. -/
theorem fget {f : Fld} (i : Nat) (hf : f.id < 1024 ∧ f.id ∉ l.map (·.id) := by decide) : t.fget f i = s.fget f i := h.regs f i hf.1 hf.2

end ChanWork

/-! ## Weir's limits (11 R289, R290) -/

section
variable (P : State → Prop) (hset : ∀ s, ∀ f ∈ weirFlds, ∀ i v, P s → P (s.fset f i v))
include hset

theorem State.weirSetChan_keeps {s : State} (c : Nat) (hs : P s) : P (s.weirSetChan c) := by
  unfold State.weirSetChan
  extract_lets eff cfg x spare y
  have hx : P x := State.each_keeps P _ _
    (fun k z hz => hset _ _ (by decide) _ _ (hset _ _ (by decide) _ _ (hset _ _ (by decide) _ _ hz))) hs
  have hy : P y := hset _ _ (by decide) _ _ (hset _ _ (by decide) _ _ hx)
  exact hset _ _ (by decide) _ _ (hset _ _ (by decide) _ _ (hset _ _ (by decide) _ _ (hset _ _ (by decide) _ _ hy)))

variable (hrep : ∀ s c, P s → P (s.report setWEIR 1 c)) (hflt : ∀ s x, P s → P { s with flt := x })
include hrep hflt

theorem State.weirBit_keeps {s : State} (hs : P s) (unit : Nat) (old new : Bool) (d sum : Nat) : P (s.weirBit unit old new d sum) := by
  unfold State.weirBit
  split
  · exact hrep _ _ (hset _ _ (by decide) _ _ hs)
  · split
    · exact hflt _ _ hs
    · exact hs

/-- A recomputation writes Weir's fields, reports shortfalls, and starts their quiet time again. -/
theorem State.weirRecompute_keeps {s : State} (hs : P s) : P s.weirRecompute := by
  unfold State.weirRecompute
  extract_lets u v mask w
  have hu : P u := State.each_keeps P _ _ (fun c t ht => State.weirSetChan_keeps P hset c ht) hs
  have hv : P v := hset _ _ (by decide) _ _ (hset _ _ (by decide) _ _ hu)
  have hw : P w := hset _ _ (by decide) _ _ (hset _ _ (by decide) _ _ hv)
  have hbits := State.each_keeps P (List.range 12) (fun c t => t.weirBit c (s.fbitAt WEIR_SHORT.CH 0 c) (s.chShort c) (s.capD c)
    (s.cfgMins c).sum) (fun c t ht => State.weirBit_keeps P hset hrep hflt ht ..) hw
  exact State.weirBit_keeps P hset hrep hflt hbits ..

end

theorem State.weirRecompute_off (s : State) : s.weirRecompute.offFault = s.offFault :=
  State.weirRecompute_keeps (fun t => t.offFault = s.offFault) (fun _ _ _ _ _ h => h) (fun t c h => (t.report_off setWEIR 1 c 0).trans h)
    (fun _ _ h => h) rfl

theorem State.weirRecompute_chans (s : State) : s.weirRecompute.chans = s.chans := (congrArg State.chans s.weirRecompute_off :)

theorem State.weirRecompute_regs (s : State) : RegsSame (weirFlds ++ faultFlds) s s.weirRecompute := by
  have hmem : ∀ f ∈ weirFlds, f.id < 1024 ∧ f.id ∈ (weirFlds ++ faultFlds).map (·.id) := by decide
  exact State.weirRecompute_keeps (RegsSame (weirFlds ++ faultFlds) s) (fun _ f hf i v h => h.fset i v (hmem f hf))
    (fun t c h => h.trans ((t.report_regs setWEIR 1 c 0).mono (by decide))) (fun _ _ h => h) RegsSame.refl

/-- A recomputation leaves classes in their fault state. -/
theorem State.weirRecompute_inFault {s : State} {set code : Nat} (hc : code - 1 < 16) (h : s.inFault set code = true) :
    s.weirRecompute.inFault set code = true := by
  have hne : ∀ f ∈ weirFlds, f.id < 1024 ∧ FLT_STATUS.CLASS.id ≠ f.id := by decide
  refine State.weirRecompute_keeps (fun t => t.inFault set code = true) (fun t f hf i v ht => ?_)
    (fun t c ht => State.report_inFault_kept hc ht ..) (fun _ _ ht => ht) h
  exact (State.inFault_congr (State.fget_fset_ne _ _ _ _ (by decide) (hne f hf).1 (hne f hf).2) _).trans ht

/-! ## Upkeep with fault reports -/

/-- The state without channels and what a fault report reaches. -/
def State.offUpkeep (s : State) : State := { s.offFault with chans := [] }

theorem State.eq_of_offUpkeep {s t : State} (h : t.offUpkeep = s.offUpkeep) : t = { s with
    out := t.out, regs := t.regs, heads := t.heads, chans := t.chans, wit := t.wit, flt := t.flt
    boot := { s.boot with fatal := t.boot.fatal }
    spn := { s.spn with withdrawn := t.spn.withdrawn, ageSeq := t.spn.ageSeq, links := t.spn.links } } := by
  have h' : t.offFault = ({ s with chans := t.chans } : State).offFault := congrArg (fun x : State => { x with chans := t.chans }) h
  exact State.eq_of_offFault h'

/-- Fields of a list and channels are written, and faults reported: classes in fault state stay there, and the rest of the device is as it
was. -/
structure Upkeep (l : List Fld) (s t : State) : Prop where
  off : t.offUpkeep = s.offUpkeep
  regs : RegsSame l s t
  faults : ∀ set code, code - 1 < 16 → s.inFault set code = true → t.inFault set code = true

namespace Upkeep

theorem refl (l : List Fld) (s : State) : Upkeep l s s := ⟨rfl, RegsSame.refl, fun _ _ _ h => h⟩

variable {l : List Fld} {s t : State} (h : Upkeep l s t)
include h

theorem trans {u : State} (k : Upkeep l t u) : Upkeep l s u :=
  ⟨k.off.trans h.off, h.regs.trans k.regs, fun set code hc hs => k.faults set code hc (h.faults set code hc hs)⟩

theorem set (g : Fld) (i v : Nat)
    (hg : g.id < 1024 ∧ g.id ∈ l.map (·.id) ∧ FLT_STATUS.CLASS.id ≠ g.id := by decide) : Upkeep l s (t.fset g i v) :=
  ⟨h.off, h.regs.fset i v ⟨hg.1, hg.2.1⟩, fun set code hc hs =>
    (State.inFault_congr (State.fget_fset_ne t set i v (by decide) hg.1 hg.2.2) code).trans (h.faults set code hc hs)⟩

theorem modChan (c : Nat) (f : Channel → Channel) : Upkeep l s (t.modChan c f) := ⟨h.off, h.regs, h.faults⟩

theorem report (set code : Nat) (c : Capture) (base : Nat) (hl : ∀ n ∈ faultFlds.map (·.id), n ∈ l.map (·.id) := by decide) :
    Upkeep l s (t.report set code c base) :=
  ⟨(congrArg (fun x : State => { x with chans := [] }) (t.report_off set code c base)).trans h.off,
    h.regs.trans ((t.report_regs set code c base).mono hl), fun set' code' hc hs => State.report_inFault_kept hc (h.faults set' code' hc hs) ..⟩

theorem logEvent (n level : Nat) (e : EvRec) : Upkeep l s (t.logEvent n level e) :=
  ⟨(congrArg (fun x : State => { x with chans := [] }) (offFault_of_offHeads (t.logEvent_off n level e))).trans h.off,
    h.regs.trans (RegsSame.of_regs (t.logEvent_regs ..)), fun set code hc hs =>
      (State.inFault_congr (State.regs_fget (t.logEvent_regs ..) ..) code).trans (h.faults set code hc hs)⟩

theorem weirRecompute (hl : ∀ n ∈ (weirFlds ++ faultFlds).map (·.id), n ∈ l.map (·.id) := by decide) : Upkeep l s t.weirRecompute :=
  ⟨(congrArg (fun x : State => { x with chans := [] }) t.weirRecompute_off).trans h.off, h.regs.trans (t.weirRecompute_regs.mono hl),
    fun set code hc hs => State.weirRecompute_inFault hc (h.faults set code hc hs)⟩

theorem ite {p : Prop} [Decidable p] {u : State} (k : Upkeep l s u) : Upkeep l s (if p then t else u) := by
  split
  · exact h
  · exact k

theorem mono {m : List Fld} (hm : ∀ n ∈ l.map (·.id), n ∈ m.map (·.id) := by decide) : Upkeep m s t := ⟨h.off, h.regs.mono hm, h.faults⟩

/-- A field outside the list reads the same. -/
theorem fget {f : Fld} (i : Nat) (hf : f.id < 1024 ∧ f.id ∉ l.map (·.id) := by decide) : t.fget f i = s.fget f i := h.regs f i hf.1 hf.2

/-- Fuses and queue stand in any case. -/
theorem kept : s.kept t = { s with
    out := t.out, regs := t.regs, heads := t.heads, chans := t.chans, wit := t.wit, flt := t.flt
    boot := { s.boot with fatal := t.boot.fatal }
    spn := { s.spn with withdrawn := t.spn.withdrawn, ageSeq := t.spn.ageSeq, links := t.spn.links } } :=
  State.eq_of_offUpkeep (s := s) (t := s.kept t) (congrArg (fun x : State => { x with nv := s.nv, pending := s.pending }) h.off)

end Upkeep

/-! ## A channel that fails (R190) -/

/-- What a failing channel's clean-up leaves: memory, the channels and their states, and classes in fault state. -/
structure Spared (s t : State) : Prop where
  dram : t.dram = s.dram
  chans : t.chans = s.chans
  states : ∀ i, t.fget DMC_STATUS.STATE i = s.fget DMC_STATUS.STATE i
  faults : ∀ set code, code - 1 < 16 → s.inFault set code = true → t.inFault set code = true

namespace Spared

theorem refl (s : State) : Spared s s := ⟨rfl, rfl, fun _ => rfl, fun _ _ _ h => h⟩

variable {s t : State} (h : Spared s t)
include h

theorem trans {u : State} (k : Spared t u) : Spared s u :=
  ⟨k.dram.trans h.dram, k.chans.trans h.chans, fun i => (k.states i).trans (h.states i),
    fun set code hc hs => k.faults set code hc (h.faults set code hc hs)⟩

/-- A step that leaves memory, channels and registers alone is passed over. -/
theorem pass {u : State} (dram : u.dram = t.dram := by rfl) (chans : u.chans = t.chans := by rfl) (regs : u.regs = t.regs := by rfl) :
    Spared s u :=
  h.trans ⟨dram, chans, fun i => State.regs_fget regs _ i, fun set code _ hs => (State.inFault_congr (State.regs_fget regs _ set) code).trans hs⟩

theorem set (g : Fld) (i v : Nat)
    (hg : g.id < 1024 ∧ DMC_STATUS.STATE.id ≠ g.id ∧ FLT_STATUS.CLASS.id ≠ g.id := by decide) : Spared s (t.fset g i v) :=
  h.trans ⟨rfl, rfl, fun j => State.fget_fset_ne t j i v (by decide) hg.1 hg.2.1,
    fun set code _ hs => (State.inFault_congr (State.fget_fset_ne t set i v (by decide) hg.1 hg.2.2) code).trans hs⟩

theorem ite {p : Prop} [Decidable p] {u : State} (k : Spared s u) : Spared s (if p then t else u) := by
  split
  · exact h
  · exact k

theorem each {α : Type} {l : List α} {f : α → State → State} (hf : ∀ a u, Spared s u → Spared s (f a u)) : Spared s (t.each l f) :=
  State.each_keeps (Spared s) l f hf h

/-- The way of a request's answer: only its registers, tables and outputs move. -/
theorem answer {u : State} (off : u.offAnswer = t.offAnswer) (regs : LineRegs t u) (way : LineWay t u) : Spared s u :=
  h.trans ⟨(congrArg State.dram off :), (congrArg State.chans off :), fun i => regs.same _ i (by decide) (by decide),
    fun _ _ hc hs => way.inFault hc hs⟩

theorem finishRead (n : Nat) (d : Data) (po : Bool) : Spared s (t.finishRead n d po) :=
  h.answer (t.finishRead_offAnswer n d po) ((LineRegs.refl t).finishRead n d po) (LineWay.refl.finishRead n d po)

theorem finishWrite (n : Nat) (po : Bool) : Spared s (t.finishWrite n po) :=
  h.answer (t.finishWrite_offAnswer n po) ((LineRegs.refl t).finishWrite n po) (LineWay.refl.finishWrite n po)

theorem dropTxn (n : Nat) : Spared s (t.dropTxn n) :=
  h.answer (t.dropTxn_offAnswer n) ((LineRegs.refl t).dropTxn n) (LineWay.refl.dropTxn n)

theorem sendSpan (dest op : Nat) (m : SpanMsg) : Spared s (t.sendSpan dest op m) :=
  h.answer (offAnswer_of_offFault (t.sendSpan_off dest op m)) ((LineRegs.refl t).sendSpan dest op m) (LineWay.refl.sendSpan dest op m)

theorem floodSelf (b : Bool) : Spared s (t.floodSelf b) :=
  State.floodSelf_keeps (Spared s) (fun _ _ k => k.pass) (fun _ _ k => k.pass) (fun _ _ k => k.pass) h b

theorem weirRecompute : Spared s t.weirRecompute :=
  h.trans ⟨(congrArg State.dram t.weirRecompute_off :), t.weirRecompute_chans, fun i => t.weirRecompute_regs _ i (by decide) (by decide),
    fun _ _ hc hs => State.weirRecompute_inFault hc hs⟩

theorem withdrawFrom (node granted : Nat) : Spared s (t.withdrawFrom node granted) := by
  unfold State.withdrawFrom
  extract_lets g u
  have hu : Spared s u := h.sendSpan ..
  split
  · exact h
  · exact (hu.pass).set ..

theorem donorLoss (c : Nat) : Spared s (t.donorLoss c) := by
  unfold State.donorLoss
  extract_lets gone pools u
  have hu : Spared s u := h.pass
  split
  · exact h
  · exact (hu.each fun e v hv => hv.withdrawFrom ..).floodSelf _

end Spared

/-- One request of a failed channel ends (R190): a decode job's read is ready and bad, a head's is poison, a write is given its completion or
is gone with it. -/
def State.failRequest (s : State) (e : Nat × Txn) : State :=
  if e.2.kind = .read then
    match e.2.job with
    | some j => (s.modJob j fun k => { k with ready := true, bad := true }).phase e.1 .press
    | none => s.finishRead e.1 0 true
  else if e.2.phase = .credit then s.finishWrite e.1 false
  else s.dropTxn e.1

theorem Spared.failRequest {s t : State} (h : Spared s t) (e : Nat × Txn) : Spared s (t.failRequest e) := by
  unfold State.failRequest
  split
  · split
    · exact h.pass
    · exact h.finishRead ..
  · split
    · exact h.finishWrite ..
    · exact h.dropTxn ..

/-- The requests of a failed channel. -/
def State.requestsOn (s : State) (c : Nat) : List (Nat × Txn) := s.coh.txns.filter fun e =>
  (e.2.phase == .credit || e.2.phase == .dmcq || e.2.phase == .issued) && ((e.2.mpa.bind s.placeOf).map (·.chan)) == some c

theorem State.failRequests_eq (s : State) (c : Nat) : s.failRequests c =
    ((s.each (s.requestsOn c) fun e s => s.failRequest e).modChan c fun x => { x with rq := [], wq := [], inflight := [] }).each (List.range 8)
      fun k s => s.fset WEIR_OUT.NOW (c * 8 + k) 0 := rfl

/-- A channel that fails is in state 4, with its class in fault state and its queues empty; memory is as it was (R190). -/
theorem State.failChan_leaves (s : State) (c : Nat) {code : Nat} (hc : code - 1 < 16) {t : State} (ht : s.failChan c code = t) :
    t.fget DMC_STATUS.STATE c = 4 ∧ t.inFault (setDMC c) code = true ∧
      ((t.chan c).rq = [] ∧ (t.chan c).wq = [] ∧ (t.chan c).inflight = []) ∧ t.dram = s.dram := by
  have hreported : ((s.fset DMC_STATUS.STATE c 4).report (setDMC c) code { unit := c }).fget DMC_STATUS.STATE c = 4 := by
    rw [State.report_regs _ _ _ _ _ _ _ (by decide) (by decide), State.fget_fset_self]
    rfl
  have hfault := State.report_inFault (s.fset DMC_STATUS.STATE c 4) (setDMC c) code { unit := c } 0 hc
  have hdram := State.report_dram (s.fset DMC_STATUS.STATE c 4) (setDMC c) code { unit := c } 0
  simp only [State.failChan] at ht
  generalize (s.fset DMC_STATUS.STATE c 4).report (setDMC c) code { unit := c } = u at ht hreported hfault hdram
  have hended : Spared u (u.each (u.requestsOn c) fun e s => s.failRequest e) := (Spared.refl u).each fun e v hv => hv.failRequest e
  rw [State.failRequests_eq] at ht
  generalize u.each (u.requestsOn c) (fun e s => s.failRequest e) = v at ht hended
  have hrest : Spared (v.modChan c fun x => { x with rq := [], wq := [], inflight := [] }) t :=
    ht ▸ (((Spared.refl _).each fun k w hw => hw.set ..).weirRecompute).donorLoss c
  have hchan : t.chan c = { v.chan c with rq := [], wq := [], inflight := [] } := by
    rw [State.chan, hrest.chans, ← State.chan, State.modChan_chan_self]
  refine ⟨?_, ?_, ?_, ?_⟩
  · exact (hrest.states c).trans ((hended.states c).trans hreported)
  · exact hrest.faults _ _ hc (hended.faults _ _ hc hfault)
  · rw [hchan]
    exact ⟨rfl, rfl, rfl⟩
  · exact hrest.dram.trans (hended.dram.trans hdram)

end Sys2Proof.Machine
end

section
/-! PROOF. Training, sensors, calibration, scrub and replay (07 R172-R176, R186, R190): what each command comes to. -/

namespace Sys2Proof.Machine

open Sys2Proof

/-- A counter field reads what was added to it, up to its width. -/
theorem State.fadd_fget_self (s : State) (f : Fld) (i n : Nat) : (s.fadd f i n).fget f i = min (2 ^ f.width - 1) (s.fget f i + n) := by
  rw [State.fadd, State.fget_fset_self]
  have := Nat.two_pow_pos f.width
  exact Nat.mod_eq_of_lt (by omega)

/-- A high-water field reads the highest value it was raised to. -/
theorem State.fpeak_fget_self (s : State) {f : Fld} {v : Nat} (hv : v < 2 ^ f.width) (i : Nat) :
    (s.fpeak f i v).fget f i = max (s.fget f i) v := by
  unfold State.fpeak
  split
  · rw [State.fget_fset_self, Nat.mod_eq_of_lt hv]
    omega
  · omega

/-- Work without fault reports is upkeep. -/
theorem ChanWork.upkeep {l m : List Fld} {s t : State} (h : ChanWork l s t) (hl : FLT_STATUS.CLASS.id ∉ l.map (·.id) := by decide)
    (hm : ∀ n ∈ l.map (·.id), n ∈ m.map (·.id) := by decide) : Upkeep m s t :=
  ⟨(congrArg State.offUpkeep h.off :), h.regs.mono hm, fun set code _ hs =>
    (State.inFault_congr (h.regs _ set (by decide) hl) code).trans hs⟩

/-- A command ends in its work. -/
theorem ChanWork.ends {l : List Fld} {f : State → State} {s t : State} (h : ChanWork l s.clearOut t) (ht : f s.clearOut = t) :
    volatile f s = .next t :=
  volatile_ends ht (congrArg State.nv h.off :) (congrArg State.pending h.off :)

/-! ## Training (R174, R190) -/

/-- The state of a channel that training puts into service. -/
def State.trained (s : State) (c : Nat) (spd : Spd) : State :=
  ((((((s.fset DMC_STATUS.STATE c 2).fset DMC_STATUS.INSVC c (s.insvc c)).fbit DMC_RH.RFM c spd.rfm).fbit DMC_RH.DRFM c spd.drfm).fset
    DMC_STATUS.RETRAIN c 0).modChan c fun x => { x with trained := 2, raaimt := if spd.rfm then spd.raaimt else 0 })

section
variable {s : State} {ch : Chan} {spd : Spd}

theorem dramTrainingComplete_passed (h1 : s.fget DMC_STATUS.STATE ch = 1) (hm : spd.matchesCut = true) :
    dramTrainingComplete ch true spd s = s.trained ch spd := by
  simp [dramTrainingComplete, h1, hm, State.trained]

theorem dramTrainingComplete_failed {ok : Bool} (h1 : s.fget DMC_STATUS.STATE ch = 1) (hf : ok = false ∨ spd.matchesCut = false) :
    dramTrainingComplete ch ok spd s = s.failChan ch 7 := by
  have hor : (!ok || !spd.matchesCut) = true := by simpa using hf
  simp [dramTrainingComplete, h1, hor]

theorem dramTrainingComplete_untrained {ok : Bool} (h1 : s.fget DMC_STATUS.STATE ch ≠ 1) : dramTrainingComplete ch ok spd s = s := by
  simp [dramTrainingComplete, h1]

end

theorem State.trained_work (s : State) (c : Nat) (spd : Spd) :
    ChanWork [DMC_STATUS.STATE, DMC_STATUS.INSVC, DMC_STATUS.RETRAIN, DMC_RH.RFM, DMC_RH.DRFM] s (s.trained c spd) :=
  ((((((ChanWork.refl _ s).set ..).set ..).set ..).set ..).set ..).modChan ..

theorem State.trained_fget (s : State) (c : Nat) (spd : Spd) : (s.trained c spd).fget DMC_STATUS.STATE c = 2 ∧
    (s.trained c spd).fget DMC_STATUS.INSVC c = s.insvc c % 2 ^ DMC_STATUS.INSVC.width ∧ (s.trained c spd).fget DMC_STATUS.RETRAIN c = 0 := by
  unfold State.trained State.fbit
  simp (disch := decide) only [State.modChan_fget, State.fget_fset_ne, State.fget_fset_self]
  exact ⟨rfl, trivial, rfl⟩

theorem State.trained_out (s : State) (c : Nat) (spd : Spd) : (s.trained c spd).out = s.out := by
  simp only [State.trained, State.fbit, State.modChan_out, State.fset_out]

theorem State.trained_chan (s : State) (c : Nat) (spd : Spd) :
    (s.trained c spd).chan c = { s.chan c with trained := 2, raaimt := if spd.rfm then spd.raaimt else 0 } := by
  rw [State.trained, State.modChan_chan_self]
  simp only [State.chan, State.fbit, State.fset_chans]

theorem State.trained_chan_ne (s : State) {c k : Nat} (hk : k ≠ c) (spd : Spd) : (s.trained c spd).chan k = s.chan k := by
  rw [State.trained, State.modChan_chan_ne _ _ hk]
  simp only [State.chan, State.fbit, State.fset_chans]

/-! ## The hubs' readings (R172) -/

/-- The state of a channel whose one hub has been read: its reading, the reads that failed in a row, and what follows for the rate. -/
def State.thermalNoted (s : State) (c : Nat) (r : BitVec 16) (fails : Nat) (hot blind : Bool) : State :=
  ((s.fset DMC_TEMP.SLOT0 c r.toNat).fset DMC_TEMP.SLOT1 c 0x8000).modChan c fun x =>
    { x with sensorFails := (fails, 0), hot := hot, blind := blind }

theorem State.thermalNoted_work (s : State) (c : Nat) (r : BitVec 16) (fails : Nat) (hot blind : Bool) :
    ChanWork [DMC_TEMP.SLOT0, DMC_TEMP.SLOT1] s (s.thermalNoted c r fails hot blind) :=
  (((ChanWork.refl _ s).set ..).set ..).modChan ..

theorem State.thermalNoted_slot0 (s : State) (c : Nat) (r : BitVec 16) (fails : Nat) (hot blind : Bool) :
    (s.thermalNoted c r fails hot blind).fget DMC_TEMP.SLOT0 c = r.toNat := by
  unfold State.thermalNoted
  rw [State.modChan_fget, State.fget_fset_ne _ _ _ _ (by decide) (by decide) (by decide), State.fget_fset_self]
  exact Nat.mod_eq_of_lt r.isLt

theorem State.thermalNoted_chan (s : State) (c : Nat) (r : BitVec 16) (fails : Nat) (hot blind : Bool) :
    (s.thermalNoted c r fails hot blind).chan c = { s.chan c with sensorFails := (fails, 0), hot := hot, blind := blind } :=
  State.modChan_chan_self ..

theorem State.thermalNoted_chan_ne (s : State) {c k : Nat} (hk : k ≠ c) (r : BitVec 16) (fails : Nat) (hot blind : Bool) :
    (s.thermalNoted c r fails hot blind).chan k = s.chan k :=
  State.modChan_chan_ne _ _ hk

theorem State.doubled_of_chan {s : State} {c : Nat} (h : (s.chan c).hot = true ∨ (s.chan c).blind = true) : s.doubled c = true := by
  simp only [State.doubled, Bool.or_eq_true]
  exact .inl h

/-- A change of the rate is recorded at every head (R172). -/
def State.rateRecords (s : State) (c : Nat) : State :=
  s.each s.headsOn fun h s => s.logEvent h 0 { kind := 2, set := setDMC c, cls := 0 }

theorem State.rateRecords_upkeep (l : List Fld) (s : State) (c : Nat) : Upkeep l s (s.rateRecords c) :=
  State.each_keeps (Upkeep l s) _ _ (fun _ _ hv => hv.logEvent ..) (Upkeep.refl l s)

theorem State.rateRecords_chans (s : State) (c : Nat) : (s.rateRecords c).chans = s.chans :=
  State.each_inv State.chans _ _ (fun _ v => v.logEvent_chans ..) s

/-- Where the doubled rate is in force after a change, REF2X says so, and Weir's limits follow. -/
theorem State.rateChange_doubled {s : State} {c : Nat} (hd : s.doubled c = true) (before own : Bool) {t : State}
    (ht : s.rateChange c before own = t) :
    Upkeep ([DMC_STATUS.REF2X] ++ weirFlds ++ faultFlds) s t ∧ t.fget DMC_STATUS.REF2X c = 1 ∧ t.chans = s.chans := by
  have hbit : (s.fset DMC_STATUS.REF2X c 1).fget DMC_STATUS.REF2X c = 1 := State.fget_fset_self ..
  have hset : Upkeep ([DMC_STATUS.REF2X] ++ weirFlds ++ faultFlds) s (s.fset DMC_STATUS.REF2X c 1) := (Upkeep.refl _ s).set ..
  have hchans : (s.fset DMC_STATUS.REF2X c 1).chans = s.chans := rfl
  simp only [State.rateChange, hd, State.fbit, Bool.toNat_true] at ht
  generalize s.fset DMC_STATUS.REF2X c 1 = u at ht hbit hset hchans
  split at ht
  · exact ⟨ht ▸ hset, ht ▸ hbit, ht ▸ hchans⟩
  · have hup := u.rateRecords_upkeep (weirFlds ++ faultFlds) c
    have hsame := u.rateRecords_chans c
    simp only [State.rateRecords] at hup hsame
    generalize u.each u.headsOn (fun h s => s.logEvent h 0 { kind := 2, set := setDMC c, cls := 0 }) = v at ht hup hsame
    have hdone : Upkeep (weirFlds ++ faultFlds) u t := ht ▸ (hup.ite (Upkeep.refl _ u)).weirRecompute
    refine ⟨hset.trans (hdone.mono (by decide)), (hdone.fget c).trans hbit, ?_⟩
    rw [← ht, State.weirRecompute_chans]
    split
    · exact hsame.trans hchans
    · exact hchans

/-- A hub that reads above HOT_T, the one slot in use. -/
theorem spdThermalRead_hot {s : State} {ch : Chan} {r : BitVec 16} (hs : s.fget DMC_CFG.SLOTS ch = 1)
    (hr : (4 * s.fget DMC_REFCTL.HOT_T ch : Int) < r.toInt) :
    spdThermalRead ch (some r) none s =
      let u := s.thermalNoted ch r 0 true false
      let v := if (s.chan ch).hot then u else u.report (setDMC ch) 10 { unit := ch }
      v.rateChange ch (s.doubled ch) (!v.doubled ch) := by
  have h0 : Nat.testBit 1 0 = true := rfl
  have h1 : Nat.testBit 1 1 = false := rfl
  have hT : ((s.fset DMC_TEMP.SLOT0 ch r.toNat).fset DMC_TEMP.SLOT1 ch 32768).fget DMC_REFCTL.HOT_T ch = s.fget DMC_REFCTL.HOT_T ch := by
    simp (disch := decide) only [State.fget_fset_ne]
  have hC : ((s.fset DMC_TEMP.SLOT0 ch r.toNat).fset DMC_TEMP.SLOT1 ch 32768).chan ch = s.chan ch := rfl
  cases hhot : (s.chan ch).hot <;> simp [spdThermalRead, hs, h0, h1, quarterC, hT, hr, hC, hhot, State.thermalNoted]

/-- The third failing read in a row of the one slot in use. -/
theorem spdThermalRead_blind {s : State} {ch : Chan} (hs : s.fget DMC_CFG.SLOTS ch = 1) (hf : (s.chan ch).sensorFails.1 = 2) :
    spdThermalRead ch none none s =
      let v := (s.thermalNoted ch 0x8000#16 3 (s.chan ch).hot true).report (setDMC ch) 9 { unit := ch }
      v.rateChange ch (s.doubled ch) (!v.doubled ch) := by
  have h0 : Nat.testBit 1 0 = true := rfl
  have h1 : Nat.testBit 1 1 = false := rfl
  have hC : ((s.fset DMC_TEMP.SLOT0 ch 32768).fset DMC_TEMP.SLOT1 ch 32768).chan ch = s.chan ch := rfl
  simp [spdThermalRead, hs, h0, h1, hC, hf, State.thermalNoted]

/-- What a reading leaves when the doubled rate is in force after it. -/
structure ThermalDone (s : State) (c : Nat) (r : BitVec 16) (t : State) : Prop where
  work : Upkeep ([DMC_STATUS.REF2X, DMC_TEMP.SLOT0, DMC_TEMP.SLOT1] ++ weirFlds ++ faultFlds) s t
  slot0 : t.fget DMC_TEMP.SLOT0 c = r.toNat
  ref2x : t.fget DMC_STATUS.REF2X c = 1

theorem State.thermalNoted_done {s : State} {c : Nat} {r : BitVec 16} {fails : Nat} {hot blind : Bool} {v t : State}
    (hv : Upkeep faultFlds (s.thermalNoted c r fails hot blind) v) (hc : v.chans = (s.thermalNoted c r fails hot blind).chans)
    (hb : hot = true ∨ blind = true) {before own : Bool} (ht : v.rateChange c before own = t) :
    ThermalDone s c r t ∧ t.chans = v.chans ∧ Upkeep (DMC_STATUS.REF2X :: weirFlds ++ faultFlds) v t := by
  have hchan : v.chan c = { s.chan c with sensorFails := (fails, 0), hot := hot, blind := blind } := by
    rw [State.chan, hc, ← State.chan, State.thermalNoted_chan]
  have hd : v.doubled c = true := State.doubled_of_chan (by rw [hchan]; exact hb)
  obtain ⟨hup, hbit, hchans⟩ := State.rateChange_doubled hd before own ht
  have hnoted := (s.thermalNoted_work c r fails hot blind).upkeep
    (m := [DMC_STATUS.REF2X, DMC_TEMP.SLOT0, DMC_TEMP.SLOT1] ++ weirFlds ++ faultFlds)
  exact ⟨⟨(hnoted.trans (hv.mono (by decide))).trans (hup.mono (by decide)),
    (hup.fget c).trans ((hv.fget c).trans (s.thermalNoted_slot0 ..)), hbit⟩, hchans, hup⟩

/-- A reading above HOT_T doubles the rate, and is reported when the channel was not hot (R172). -/
theorem spdThermalRead_hot_done {s : State} {ch : Chan} {r : BitVec 16} (hs : s.fget DMC_CFG.SLOTS ch = 1)
    (hr : (4 * s.fget DMC_REFCTL.HOT_T ch : Int) < r.toInt) {t : State} (ht : spdThermalRead ch (some r) none s = t) :
    ThermalDone s ch r t ∧ t.chans = (s.thermalNoted ch r 0 true false).chans ∧
      ((s.chan ch).hot = false → t.inFault (setDMC ch) 10 = true) := by
  rw [spdThermalRead_hot hs hr] at ht
  dsimp only at ht
  cases hhot : (s.chan ch).hot <;> simp only [hhot, if_true, Bool.false_eq_true, if_false] at ht
  case true =>
    obtain ⟨hdone, hchans, -⟩ := State.thermalNoted_done (Upkeep.refl _ _) rfl (.inl rfl) ht
    exact ⟨hdone, hchans, nofun⟩
  case false =>
    obtain ⟨hdone, hchans, hup⟩ := State.thermalNoted_done ((Upkeep.refl ..).report ..) (State.report_chans ..) (.inl rfl) ht
    exact ⟨hdone, hchans.trans (State.report_chans ..), fun _ => hup.faults _ _ (by decide) (State.report_inFault _ _ _ _ _ (by decide))⟩

/-- The third failing read doubles the rate and raises class 9 (R172). -/
theorem spdThermalRead_blind_done {s : State} {ch : Chan} (hs : s.fget DMC_CFG.SLOTS ch = 1) (hf : (s.chan ch).sensorFails.1 = 2) {t : State}
    (ht : spdThermalRead ch none none s = t) : ThermalDone s ch 0x8000#16 t ∧ (t.chan ch).blind = true ∧ t.inFault (setDMC ch) 9 = true := by
  rw [spdThermalRead_blind hs hf] at ht
  dsimp only at ht
  obtain ⟨hdone, hchans, hup⟩ := State.thermalNoted_done ((Upkeep.refl ..).report ..) (State.report_chans ..) (.inr rfl) ht
  refine ⟨hdone, ?_, hup.faults _ _ (by decide) (State.report_inFault _ _ _ _ _ (by decide))⟩
  rw [State.chan, hchans, State.report_chans, ← State.chan, State.thermalNoted_chan]

/-! ## Calibration (R175, R176) -/

theorem State.stall_work (s : State) (c n : Nat) : ChanWork [DMC_CAL.MAXSTALL] s (s.stall c n) := (ChanWork.refl _ s).fpeak ..

theorem State.stall_maxstall (s : State) (c n : Nat) : (s.stall c n).fget DMC_CAL.MAXSTALL c = max (s.fget DMC_CAL.MAXSTALL c) (min 40 n) := by
  have hw : DMC_CAL.MAXSTALL.width = 8 := rfl
  exact State.fpeak_fget_self s (by rw [hw]; omega) c

theorem State.recalDone_work (s : State) (c : Nat) : ChanWork [DMC_CAL.RECAL] s (s.recalDone c) :=
  ((ChanWork.refl _ s).set ..).ite (ChanWork.refl _ s)

theorem State.recalDone_chans (s : State) (c : Nat) : (s.recalDone c).chans = s.chans := by
  unfold State.recalDone
  split <;> rfl

theorem State.recalDone_out (s : State) (c : Nat) : (s.recalDone c).out = s.out := by
  unfold State.recalDone
  split <;> rfl

/-- The state of a channel that a calibration step has stalled and passed. -/
def State.stepped (s : State) (c n : Nat) (f : Channel → Channel) : State := (s.stall c n).modChan c f

section
variable (s : State) (c n : Nat) (f : Channel → Channel)

theorem State.stepped_work : ChanWork [DMC_CAL.MAXSTALL] s (s.stepped c n f) := (s.stall_work c n).modChan ..

theorem State.stepped_maxstall : (s.stepped c n f).fget DMC_CAL.MAXSTALL c = max (s.fget DMC_CAL.MAXSTALL c) (min 40 n) := s.stall_maxstall c n

theorem State.stepped_out : (s.stepped c n f).out = s.out := by
  unfold State.stepped State.stall State.fpeak
  split <;> rfl

theorem State.stepped_chan : (s.stepped c n f).chan c = f (s.chan c) := by
  have hstall : (s.stall c n).chans = s.chans := by
    unfold State.stall State.fpeak
    split <;> rfl
  rw [State.stepped, State.modChan_chan_self, State.chan, hstall, State.chan]

end

section
variable {s : State} {ch : Chan} (h2 : s.fget DMC_STATUS.STATE ch = 2) (rk : Fin 16) (n : Nat)
include h2

theorem dqsOscMeasure_absorbed : dqsOscMeasure ch rk true n s =
    (s.stepped ch n fun x => { x with recalDqs := x.recalDqs.filter (· != rk.val) }).recalDone ch := by
  simp [dqsOscMeasure, h2, State.stepped]

theorem dqsOscMeasure_drifted : dqsOscMeasure ch rk false n s =
    (((s.stepped ch n fun x => { x with recalDqs := x.recalDqs.filter (· != rk.val) }).fset DMC_STATUS.RETRAIN ch 1).report (setDMC ch) 5
      { unit := ch }).recalDone ch := by
  simp [dqsOscMeasure, h2, State.stepped]

theorem zqCalibration_serves : zqCalibration ch rk n s =
    (((s.stepped ch n fun x => { x with recalZq := x.recalZq.filter (· != rk.val) }).emit (.dramCmd ch false (rk.val * 32) .zqCal)).emit
      (.dramCmd ch true ((16 + rk.val) * 32) .zqCal)).recalDone ch := by
  simp [zqCalibration, h2, State.stepped]

/-- A step that takes its drift up is stalled for, and done for its rank. -/
theorem dqsOscMeasure_absorbed_done {t : State} (ht : dqsOscMeasure ch rk true n s = t) :
    t.fget DMC_CAL.MAXSTALL ch = max (s.fget DMC_CAL.MAXSTALL ch) (min 40 n) ∧
      t.chan ch = { s.chan ch with recalDqs := (s.chan ch).recalDqs.filter (· != rk.val) } ∧ t.out = s.out ∧
      ChanWork [DMC_CAL.MAXSTALL, DMC_CAL.RECAL] s t := by
  rw [dqsOscMeasure_absorbed h2] at ht
  subst ht
  refine ⟨?_, ?_, ?_, ?_⟩
  · rw [(State.recalDone_work ..).fget, State.stepped_maxstall]
  · rw [State.chan, State.recalDone_chans, ← State.chan, State.stepped_chan]
  · rw [State.recalDone_out, State.stepped_out]
  · exact ((State.stepped_work ..).mono).trans ((State.recalDone_work ..).mono)

/-- Drift that is not taken up marks the channel for retraining, and is reported (R175). -/
theorem dqsOscMeasure_drifted_done {t : State} (ht : dqsOscMeasure ch rk false n s = t) :
    t.fget DMC_STATUS.RETRAIN ch = 1 ∧ t.inFault (setDMC ch) 5 = true ∧
      Upkeep ([DMC_CAL.MAXSTALL, DMC_CAL.RECAL, DMC_STATUS.RETRAIN] ++ faultFlds) s t := by
  rw [dqsOscMeasure_drifted h2] at ht
  subst ht
  have hdone (u : State) : Upkeep [DMC_CAL.RECAL] u (u.recalDone ch) := (u.recalDone_work ch).upkeep
  refine ⟨?_, (hdone _).faults _ _ (by decide) (State.report_inFault _ _ _ _ _ (by decide)), ?_⟩
  · rw [(hdone _).fget, State.report_fget _ _ _ _ _ _ _ (by decide) (by decide), State.fget_fset_self]
    rfl
  · exact ((((s.stepped_work ch n _).upkeep).set ..).report ..).trans ((hdone _).mono)

/-- A ZQ calibration goes to both subchannels, is stalled for, and done for its rank (R175). -/
theorem zqCalibration_done {t : State} (ht : zqCalibration ch rk n s = t) :
    t.fget DMC_CAL.MAXSTALL ch = max (s.fget DMC_CAL.MAXSTALL ch) (min 40 n) ∧
      t.chan ch = { s.chan ch with recalZq := (s.chan ch).recalZq.filter (· != rk.val) } ∧
      t.out = s.out ++ [.dramCmd ch false (rk.val * 32) .zqCal] ++ [.dramCmd ch true ((16 + rk.val) * 32) .zqCal] ∧
      ChanWork [DMC_CAL.MAXSTALL, DMC_CAL.RECAL] s t := by
  rw [zqCalibration_serves h2] at ht
  have hwork := s.stepped_work ch n fun x => { x with recalZq := x.recalZq.filter (· != rk.val) }
  have hmax := s.stepped_maxstall ch n fun x => { x with recalZq := x.recalZq.filter (· != rk.val) }
  have hchan := s.stepped_chan ch n fun x => { x with recalZq := x.recalZq.filter (· != rk.val) }
  have hout := s.stepped_out ch n fun x => { x with recalZq := x.recalZq.filter (· != rk.val) }
  generalize s.stepped ch n _ = u at ht hwork hmax hchan hout
  subst ht
  refine ⟨?_, ?_, ?_, ?_⟩
  · rw [(State.recalDone_work ..).fget]
    exact hmax
  · rw [State.chan, State.recalDone_chans]
    exact hchan
  · rw [State.recalDone_out, ← hout]
    rfl
  · exact (((hwork.emit _).emit _).mono).trans ((State.recalDone_work ..).mono)

end

/-! ## Patrol scrub (R186) -/

theorem State.scrubOn_work (s : State) (c : Nat) : ChanWork [DMC_SCRUB.PASSES, DMC_SCRUBPOS.POS] s (s.scrubOn c) :=
  ((((ChanWork.refl _ s).set DMC_SCRUB.PASSES c _).ite (ChanWork.refl _ s)).set ..).modChan ..

/-- The lines of a pass: of the ranks in service, and of the spare rank. -/
def State.passLines (s : State) (c : Nat) : Nat :=
  s.rankLines c * ((s.rankList c).length + (if s.fget DMC_CFG.SPARE c = 15 then 0 else max 1 (s.fget DMC_CFG.HEIGHT c)))

theorem State.scrubOn_eq (s : State) (c : Nat) : s.scrubOn c =
    if s.passLines c ≤ (s.chan c).scrubbed + 1 then
      ((s.finc DMC_SCRUB.PASSES c).fset DMC_SCRUBPOS.POS c 0).modChan c fun x => { x with scrubbed := 0 }
    else
      (s.fset DMC_SCRUBPOS.POS c (((s.chan c).scrubbed + 1) / 64)).modChan c fun x => { x with scrubbed := (s.chan c).scrubbed + 1 } := by
  by_cases h : s.passLines c ≤ (s.chan c).scrubbed + 1
  · rw [if_pos h]
    rw [State.passLines] at h
    simp only [State.scrubOn, if_pos h, Nat.zero_div]
  · rw [if_neg h]
    rw [State.passLines] at h
    simp only [State.scrubOn, if_neg h]

/-- The scrub is a line further, or at the beginning of the next pass. -/
theorem State.scrubOn_scrubbed (s : State) (c : Nat) :
    ((s.scrubOn c).chan c).scrubbed = (s.chan c).scrubbed + 1 ∨ ((s.scrubOn c).chan c).scrubbed = 0 := by
  rw [State.scrubOn_eq]
  split
  · exact .inr (congrArg Channel.scrubbed (State.modChan_chan_self ..))
  · exact .inl (congrArg Channel.scrubbed (State.modChan_chan_self ..))

theorem State.scrubOn_chan_ne (s : State) {c k : Nat} (hk : k ≠ c) : (s.scrubOn c).chan k = s.chan k := by
  rw [State.scrubOn_eq]
  split <;> exact State.modChan_chan_ne _ _ hk

theorem State.scrubOn_out (s : State) (c : Nat) : (s.scrubOn c).out = s.out := by
  rw [State.scrubOn_eq]
  split <;> rfl

theorem State.scrubOn_rawLine (s : State) (c k : Nat) : (s.scrubOn c).rawLine k = s.rawLine k :=
  State.rawLine_congr (congrArg State.dram (s.scrubOn_work c).off :) (congrArg State.dramLoss (s.scrubOn_work c).off :) k

theorem State.scrubOn_inMeta (s : State) (c m : Nat) : (s.scrubOn c).inMeta m = s.inMeta m := by
  have h := s.scrubOn_work c
  have hd : (s.scrubOn c).dec = s.dec := (congrArg State.dec h.off :)
  have hs : (s.scrubOn c).slc = s.slc := (congrArg State.slc h.off :)
  refine State.inMeta_congr hd hs ?_ m
  simp only [List.forall_mem_cons]
  exact ⟨fun i => h.fget i, fun i => h.fget i, fun i => h.fget i, fun f hf => nomatch hf⟩

section
variable {s : State} {ch : Chan} {m : Nat} {p : Place} (he : s.fone DMC_SCRUB.EN ch = true) (h2 : s.fget DMC_STATUS.STATE ch = 2)
  (hp : s.placeOf m = some p) (hc : p.chan = ch.val) (hb : s.lineBusy m = false) (rk : Fin 16) (row : Nat)
include he h2 hp hc hb

theorem patrolScrubStep_clean : patrolScrubStep ch (some m) .clean rk row s = s.scrubOn ch := by
  simp [patrolScrubStep, he, h2, hp, hc, hb]

theorem patrolScrubStep_uncorrectable (r : Bool) : patrolScrubStep ch (some m) (.uncorrectable r) rk row s =
    (s.scrubOn ch).uncorrected ch p m r (if (s.regionAt (m * 64)).isSome then some (m * 64) else none) true := by
  simp [patrolScrubStep, he, h2, hp, hc, hb]

/-- A line that the scrub cannot correct is rewritten as poison, counted and reported (R186). -/
theorem patrolScrubStep_uncorrectable_done (r : Bool) {t : State} (ht : patrolScrubStep ch (some m) (.uncorrectable r) rk row s = t) :
    t.inFault (setDMC ch) 2 = true ∧ t.fget DMC_ECC.UE ch = min (2 ^ DMC_ECC.UE.width - 1) (s.fget DMC_ECC.UE ch + 1) ∧
      (s.inMeta m = false → (t.rawLine m).poison = true) ∧ ∀ k, k ≠ m → t.rawLine k = s.rawLine k := by
  rw [patrolScrubStep_uncorrectable he h2 hp hc hb] at ht
  subst ht
  refine ⟨State.uncorrected_inFault .., ?_, fun hi => ?_, fun k hk => ?_⟩
  · rw [State.uncorrected_ue, (s.scrubOn_work ch).fget]
  · exact State.uncorrected_poison _ _ _ _ _ _ ((s.scrubOn_inMeta ..).trans hi)
  · rw [State.uncorrected_rawLine_ne _ _ _ _ _ _ _ hk, State.scrubOn_rawLine]

end

/-! ## Replay (R190) -/

/-- The counter of an alert's kind. -/
def alertCounter : AlertKind → Fld
  | .caParity => DMC_CAERR.CA
  | .writeCrc => DMC_CAERR.WCRC

section
variable {s : State} {ch : Chan} (h2 : s.fget DMC_STATUS.STATE ch = 2) (k : AlertKind)
include h2

theorem alertReplay_lost : alertReplay ch k 8 false s = (s.fadd (alertCounter k) ch 8).failChan ch 6 := by
  cases k <;> simp [alertReplay, h2, alertCounter]

theorem alertReplay_cleared : alertReplay ch k 2 true s = (s.fadd (alertCounter k) ch 3).report (setDMC ch) 5 { unit := ch } := by
  cases k <;> simp [alertReplay, h2, alertCounter]

/-- A replay that succeeds counts the failures before it, and is reported. -/
theorem alertReplay_cleared_done {t : State} (ht : alertReplay ch k 2 true s = t) : t.fget DMC_STATUS.STATE ch = 2 ∧
    t.inFault (setDMC ch) 5 = true ∧ t.fget (alertCounter k) ch = min (2 ^ (alertCounter k).width - 1) (s.fget (alertCounter k) ch + 3) ∧
      t.chans = s.chans ∧ t.dram = s.dram := by
  rw [alertReplay_cleared h2] at ht
  subst ht
  refine ⟨?_, State.report_inFault _ _ _ _ _ (by decide), ?_, State.report_chans .., State.report_dram ..⟩
  · rw [State.report_fget _ _ _ _ _ _ _ (by decide) (by decide), State.fadd, State.fget_fset_ne _ _ _ _ (by decide)]
    · exact h2
    · cases k <;> decide
    · cases k <;> decide
  · rw [State.report_fget, State.fadd_fget_self] <;> cases k <;> decide

end

end Sys2Proof.Machine
end

section
/-! PROOF. Sparing, self-test, the writes of the management paths, and repair (07 R176-R178, R187-R189): what each command comes to. -/

namespace Sys2Proof.Machine

open Sys2Proof

/-! ## Sparing comes to its end (R189) -/

/-- The rank map with the spare in the failing rank's place. -/
def State.sparedMap (s : State) (c : Nat) : Nat :=
  ((List.range 4).map fun i =>
    let r := bits (s.fget DMC_RANKMAP.MAP c) (4 * i) 4
    (if r = s.fget DMC_SPARE.FROM c then s.fget DMC_CFG.SPARE c else r) <<< (4 * i)).sum

/-- The state of a channel whose spare rank has taken the failing rank's place. -/
def State.spared (s : State) (c : Nat) : State :=
  ((((s.fset DMC_SPAREPOS.POS c (s.rankUnits c)).fset DMC_RANKMAP.MAP c (s.sparedMap c)).fset DMC_SPARE.STATE c 2).fset DMC_SPARE.DONE c
    1).modChan c fun x => { x with outRank := some (s.fget DMC_SPARE.FROM c) }

theorem State.spared_upkeep (s : State) (c : Nat) :
    Upkeep ([DMC_RANKMAP.MAP, DMC_SPARE.DONE, DMC_SPARE.STATE, DMC_SPAREPOS.POS, DMC_STATUS.INSVC] ++ weirFlds ++ faultFlds) s (s.spared c) :=
  (((((Upkeep.refl _ s).set ..).set ..).set ..).set ..).modChan ..

theorem State.spared_fget (s : State) (c : Nat) :
    (s.spared c).fget DMC_SPARE.STATE c = 2 ∧ (s.spared c).fget DMC_SPARE.DONE c = 1 := by
  unfold State.spared
  simp (disch := decide) only [State.modChan_fget, State.fget_fset_ne, State.fget_fset_self]
  exact ⟨rfl, rfl⟩

theorem State.spared_chan (s : State) (c : Nat) :
    (s.spared c).chan c = { s.chan c with outRank := some (s.fget DMC_SPARE.FROM c) } := by
  rw [State.spared, State.modChan_chan_self]
  simp only [State.chan, State.fset_chans]

section
variable {s : State} {ch : Chan} (h1 : s.fget DMC_SPARE.STATE ch = 1) (hpos : s.rankUnits ch ≤ s.sparePos ch)
include h1 hpos

theorem sparingComplete_ended : sparingComplete ch s =
    (((s.spared ch).fset DMC_STATUS.INSVC ch ((s.spared ch).insvc ch)).report (setDMC ch) 8
      { unit := ch, syn := s.fget DMC_SPARE.FROM ch }).weirRecompute := by
  have hgo : ¬ (s.fget DMC_SPARE.STATE ch ≠ 1 ∨ s.sparePos ch < s.rankUnits ch) := by omega
  simp only [sparingComplete, if_neg hgo]
  rfl

/-- At the end of the copy the failing rank is out of use, and class 8 says so. -/
theorem sparingComplete_done {t : State} (ht : sparingComplete ch s = t) : t.fget DMC_SPARE.STATE ch = 2 ∧ t.fget DMC_SPARE.DONE ch = 1 ∧
    t.chan ch = { s.chan ch with outRank := some (s.fget DMC_SPARE.FROM ch) } ∧ t.inFault (setDMC ch) 8 = true ∧
      Upkeep ([DMC_RANKMAP.MAP, DMC_SPARE.DONE, DMC_SPARE.STATE, DMC_SPAREPOS.POS, DMC_STATUS.INSVC] ++ weirFlds ++ faultFlds) s t := by
  rw [sparingComplete_ended h1 hpos] at ht
  have hspared := s.spared_upkeep ch
  obtain ⟨hstate, hdone⟩ := s.spared_fget ch
  have hchan := s.spared_chan ch
  generalize s.spared ch = u at *
  have hrep := (((Upkeep.refl ([DMC_STATUS.INSVC] ++ faultFlds) u).set DMC_STATUS.INSVC ch (u.insvc ch)).report (setDMC ch) 8
    { unit := ch, syn := s.fget DMC_SPARE.FROM ch } 0)
  have hfault := State.report_inFault (u.fset DMC_STATUS.INSVC ch (u.insvc ch)) (setDMC ch) 8
    { unit := ch, syn := s.fget DMC_SPARE.FROM ch } 0 (by decide)
  have hchans := State.report_chans (u.fset DMC_STATUS.INSVC ch (u.insvc ch)) (setDMC ch) 8 { unit := ch, syn := s.fget DMC_SPARE.FROM ch } 0
  generalize (u.fset DMC_STATUS.INSVC ch (u.insvc ch)).report (setDMC ch) 8 { unit := ch, syn := s.fget DMC_SPARE.FROM ch } = v at *
  have hw : Upkeep (weirFlds ++ faultFlds) v t := ht ▸ (Upkeep.refl _ v).weirRecompute
  refine ⟨(hw.fget ch).trans ((hrep.fget ch).trans hstate), (hw.fget ch).trans ((hrep.fget ch).trans hdone), ?_,
    hw.faults _ _ (by decide) hfault, (hspared.trans (hrep.mono (by decide))).trans (hw.mono (by decide))⟩
  rw [← hchan, ← ht, State.chan, State.weirRecompute_chans, hchans]
  rfl

end

/-! ## Self-test comes to its end (R177, R187) -/

/-- The state of a channel whose test has ended with its miscompares. -/
def State.tested (s : State) (c n : Nat) : State :=
  ((s.modChan c fun x => { x with test := none }).testEnd c (if 0 < n then 1 else 0)).fset DMC_TESTRES.ERRORS c (min 0xFFFFFFFF n)

theorem State.tested_upkeep (s : State) (c n : Nat) :
    Upkeep ([DMC_ECC.CE, DMC_TEST.DONE, DMC_TEST.GO, DMC_TEST.RESULT, DMC_TESTRES.ERRORS] ++ faultFlds) s (s.tested c n) :=
  (((((Upkeep.refl _ s).modChan ..).set ..).set ..).set ..).set ..

theorem State.tested_fget (s : State) (c n : Nat) : (s.tested c n).fget DMC_TEST.GO c = 0 ∧ (s.tested c n).fget DMC_TEST.DONE c = 1 ∧
    (s.tested c n).fget DMC_TEST.RESULT c = (if 0 < n then 1 else 0) ∧ (s.tested c n).fget DMC_TESTRES.ERRORS c = min 0xFFFFFFFF n := by
  unfold State.tested State.testEnd
  simp (disch := decide) only [State.fget_fset_ne, State.fget_fset_self]
  refine ⟨rfl, rfl, ?_, ?_⟩
  · split <;> rfl
  · have hw : DMC_TESTRES.ERRORS.width = 32 := rfl
    rw [hw]
    omega

section
variable {s : State} {ch : Chan} (hrun : (s.chan ch).test.isSome = true) (n : Nat)
include hrun

theorem dmcSelfTestEnd_ended : dmcSelfTestEnd ch n s =
    if 0 < n then ((s.tested ch n).fadd DMC_ECC.CE ch n).report (setDMC ch) 1 { unit := ch } else s.tested ch n := by
  have hrun' : ¬ (s.chan ch).test.isNone = true := by
    rw [Option.isNone_iff_eq_none]
    exact Option.isSome_iff_ne_none.mp hrun
  simp only [dmcSelfTestEnd, if_neg hrun']
  rfl

/-- A test ends with its result, and its miscompares count as corrected errors. -/
theorem dmcSelfTestEnd_done {t : State} (ht : dmcSelfTestEnd ch n s = t) : t.chan ch = { s.chan ch with test := none } ∧
    (t.fget DMC_TEST.GO ch = 0 ∧ t.fget DMC_TEST.DONE ch = 1 ∧ t.fget DMC_TEST.RESULT ch = (if 0 < n then 1 else 0) ∧
      t.fget DMC_TESTRES.ERRORS ch = min 0xFFFFFFFF n) ∧
    Upkeep ([DMC_ECC.CE, DMC_TEST.DONE, DMC_TEST.GO, DMC_TEST.RESULT, DMC_TESTRES.ERRORS] ++ faultFlds) s t := by
  rw [dmcSelfTestEnd_ended hrun] at ht
  have hchan : (s.tested ch n).chan ch = { s.chan ch with test := none } := s.modChan_chan_self ch fun x => { x with test := none }
  have hfields := s.tested_fget ch n
  have htested := s.tested_upkeep ch n
  generalize s.tested ch n = u at *
  have hw : Upkeep (DMC_ECC.CE :: faultFlds) u t := ht ▸ (((Upkeep.refl _ u).set DMC_ECC.CE ch _).report ..).ite (Upkeep.refl _ u)
  have hchans : t.chans = u.chans := by
    rw [← ht]
    split
    · exact State.report_chans ..
    · rfl
  refine ⟨?_, ?_, htested.trans (hw.mono (by decide))⟩
  · rw [← hchan, State.chan, hchans, ← State.chan]
  · rw [hw.fget, hw.fget, hw.fget, hw.fget]
    exact hfields

end

/-! ## The writes of a management path -/

section
variable (s : State) (p : Path)

theorem State.onAccess_mgmt : (s.onAccess p).mgmt p = s.mgmt p := by
  cases p <;> simp [State.mgmt, State.headMgmt, State.fbitAt]

theorem State.onAccess_chSel : (s.onAccess p).chSel p = s.chSel p := by simp [State.chSel]

theorem State.onAccess_chan (c : Nat) : (s.onAccess p).chan c = s.chan c := by rw [State.chan, State.onAccess_chans, ← State.chan]

theorem State.onAccess_regsSame (l : List Fld) : RegsSame l s (s.onAccess p) := fun f i _ _ => s.onAccess_fget p f i

end

/-- Fields written are work. -/
theorem FieldsSet.work {l : List Fld} {s t : State} (h : FieldsSet l s t) : ChanWork l s t := ⟨(congrArg State.offChan h.off :), h.regs⟩

/-- Work on an admitted access is where the command ends. -/
theorem ChanWork.access_ends {l : List Fld} {c : Instr} {p : Path} {f : State → State} {s t : State} (h : ChanWork l (s.onAccess p) t)
    (ha : s.admits p = true) (ht : f (s.onAccess p) = t) : volatile (access c p f) s = .next t :=
  (Sys2Proof.Machine.access_ends ha ht ((congrArg State.nv h.off :).trans (s.onAccess_nv p))
    ((congrArg State.pending h.off :).trans (s.onAccess_pending p))).1

/-- Work that makes no outputs writes registers and channels. -/
theorem ChanWork.quiet {l : List Fld} {s t : State} (h : ChanWork l s t) (ho : t.out = s.out) :
    t = { s with regs := t.regs, chans := t.chans } := h.eq.trans (by rw [ho])

/-- Upkeep on an admitted access, seen from the state before it. -/
theorem Upkeep.kept_access {l : List Fld} {p : Path} {s t : State} (h : Upkeep l (s.onAccess p) t) : s.kept t = { s with
    out := t.out, regs := t.regs, heads := t.heads, chans := t.chans, wit := t.wit, flt := t.flt
    boot := { s.boot with fatal := t.boot.fatal }
    spn := { s.spn with withdrawn := t.spn.withdrawn, ageSeq := t.spn.ageSeq, links := t.spn.links }
    pwr := { s.pwr with latched := t.pwr.latched, held := t.pwr.held } } := by
  obtain ⟨w, hw⟩ : ∃ w, s.onAccess p = { s with out := [], pwr := { s.pwr with latched := w } } := ⟨_, s.onAccess_eq p⟩
  rw [hw] at h
  have hp : t.pwr = { s.pwr with latched := w } := (congrArg State.pwr h.off :)
  rw [hp]
  exact h.kept

/-! ## Recalibration asked for (R176) -/

/-- The state of a channel whose recalibration begins with the given ranks. -/
def State.recalAsked (s : State) (c : Nat) (ranks : List Nat) : State :=
  (s.fset DMC_CAL.RECAL c 1).modChan c fun x => { x with recalDqs := ranks, recalZq := ranks }

theorem State.recalAsked_work (s : State) (c : Nat) (ranks : List Nat) : ChanWork [DMC_CAL.RECAL] s (s.recalAsked c ranks) :=
  ((ChanWork.refl _ s).set ..).modChan ..

theorem State.recalAsked_recal (s : State) (c : Nat) (ranks : List Nat) : (s.recalAsked c ranks).fget DMC_CAL.RECAL c = 1 := by
  rw [State.recalAsked, State.modChan_fget, State.fget_fset_self]
  rfl

theorem State.recalAsked_chan (s : State) (c : Nat) (ranks : List Nat) :
    (s.recalAsked c ranks).chan c = { s.chan c with recalDqs := ranks, recalZq := ranks } := by
  rw [State.recalAsked, State.modChan_chan_self]
  simp only [State.chan, State.fset_chans]

theorem State.recalAsked_chan_ne (s : State) {c k : Nat} (hk : k ≠ c) (ranks : List Nat) : (s.recalAsked c ranks).chan k = s.chan k :=
  State.modChan_chan_ne _ _ hk

section
variable {s : State} {p : Path} {c : Nat} (hm : s.mgmt p = true) (hsel : s.chSel p = [c])
include hm hsel

theorem dmcCalRecal_asks (hr : s.fone DMC_CAL.RECAL c = false) (h2 : s.fget DMC_STATUS.STATE c = 2) :
    dmcCalRecal p (s.onAccess p) = (s.onAccess p).recalAsked c (s.rankList c) := by
  have hranks : (s.onAccess p).rankList c = s.rankList c := by simp [State.rankList]
  have hgo : ¬ ((s.onAccess p).fone DMC_CAL.RECAL c = true ∨ (s.onAccess p).fget DMC_STATUS.STATE c ≠ 2) := by
    simpa [State.fone, h2] using hr
  rw [dmcCalRecal, State.onAccess_mgmt, if_pos hm, State.onAccess_chSel, hsel, State.each_cons, State.each_nil, State.recal, if_neg hgo, hranks]
  rfl

end

/-! ## Self-test asked for (R177, R178) -/

/-- The state of a channel whose test register has been written. -/
def State.testWritten (s : State) (c : Nat) (rk : Fin 16) (pat : Byte) : State :=
  (s.fset DMC_TEST.RANK c rk).fset DMC_TEST.PATTERN c pat.toNat

theorem State.testWritten_work (s : State) (c : Nat) (rk : Fin 16) (pat : Byte) :
    FieldsSet [DMC_TEST.RANK, DMC_TEST.PATTERN] s (s.testWritten c rk pat) := ((FieldsSet.refl _ s).set ..).set ..

theorem State.testWritten_rank (s : State) (c : Nat) (rk : Fin 16) (pat : Byte) :
    (s.testWritten c rk pat).fget DMC_TEST.RANK c = rk := by
  rw [State.testWritten, State.fget_fset_ne _ _ _ _ (by decide) (by decide) (by decide), State.fget_fset_self]
  exact Nat.mod_eq_of_lt rk.isLt

theorem State.testWritten_pattern (s : State) (c : Nat) (rk : Fin 16) (pat : Byte) :
    (s.testWritten c rk pat).fget DMC_TEST.PATTERN c = pat.toNat := by
  rw [State.testWritten, State.fget_fset_self]
  exact Nat.mod_eq_of_lt pat.isLt

/-- A pattern of the first kind runs on a rank that exists, with no test or copy under way. -/
theorem State.testGo_runs {s : State} {c : Nat} (hp : s.fget DMC_TEST.PATTERN c = 1) (hx : s.rankExists c (s.fget DMC_TEST.RANK c) = true)
    (hi : (s.chan c).test = none) (hs : s.fget DMC_SPARE.STATE c ≠ 1) (h2 : s.fget DMC_STATUS.STATE c = 2) : s.testGo c =
      ((s.fset DMC_TEST.GO c 1).fset DMC_TESTRES.ERRORS c 0).modChan c fun x => { x with test := some (s.fget DMC_TEST.RANK c, 1) } := by
  simp [State.testGo, hp, patternKind, hx, hi, hs, h2]

/-- No pattern has the code 0. -/
theorem State.testGo_badPattern {s : State} {c : Nat} (hp : s.fget DMC_TEST.PATTERN c = 0) : s.testGo c = s.testEnd c 3 := by
  simp [State.testGo, hp, patternKind]

section
variable {s : State} {p : Path} {c : Nat} (hm : s.mgmt p = true) (hsel : s.chSel p = [c]) (rk : Fin 16)
include hm hsel

theorem dmcTestGo_writes (pat : Byte) : dmcTestGo p rk pat (s.onAccess p) = ((s.onAccess p).testWritten c rk pat).testGo c := by
  rw [dmcTestGo, State.onAccess_mgmt, if_pos hm, State.onAccess_chSel, hsel, State.each_cons, State.each_nil, State.testWritten]

/-- A test that may run is under way. -/
theorem dmcTestGo_runs (hx : s.rankExists c rk = true) (hi : (s.chan c).test = none) (hs : s.fget DMC_SPARE.STATE c ≠ 1)
    (h2 : s.fget DMC_STATUS.STATE c = 2) {t : State} (ht : dmcTestGo p rk 1 (s.onAccess p) = t) :
    t.fget DMC_TEST.GO c = 1 ∧ t.fget DMC_TESTRES.ERRORS c = 0 ∧ t.chan c = { s.chan c with test := some (rk.val, 1) } ∧
      ChanWork [DMC_TEST.RANK, DMC_TEST.PATTERN, DMC_TEST.GO, DMC_TESTRES.ERRORS] (s.onAccess p) t ∧ t.out = (s.onAccess p).out := by
  rw [dmcTestGo_writes hm hsel] at ht
  have hw := (s.onAccess p).testWritten_work c rk 1
  have hrank := (s.onAccess p).testWritten_rank c rk 1
  have hpat := (s.onAccess p).testWritten_pattern c rk 1
  generalize (s.onAccess p).testWritten c rk 1 = u at ht hw hrank hpat
  have hchans : u.chans = s.chans := (congrArg State.chans hw.off :).trans (s.onAccess_chans p)
  have hchan : u.chan c = s.chan c := by rw [State.chan, hchans, ← State.chan]
  have hexists : u.rankExists c (u.fget DMC_TEST.RANK c) = true := by
    rw [hrank, ← hx]
    simp only [State.rankExists, hw.fget (f := DMC_CFG.RANKS), hw.fget (f := DMC_CFG.SLOTS), State.onAccess_fget]
  rw [State.testGo_runs hpat hexists (hchan ▸ hi) (by rwa [hw.fget, State.onAccess_fget]) (by rwa [hw.fget, State.onAccess_fget]), hrank] at ht
  have hwork : ChanWork [DMC_TEST.RANK, DMC_TEST.PATTERN, DMC_TEST.GO, DMC_TESTRES.ERRORS] (s.onAccess p) u :=
    hw.work.mono
  have hout : u.out = (s.onAccess p).out := (congrArg State.out hw.off :)
  subst ht
  refine ⟨?_, ?_, ?_, ((hwork.set ..).set ..).modChan .., hout⟩
  · rw [State.modChan_fget, State.fget_fset_ne _ _ _ _ (by decide) (by decide) (by decide), State.fget_fset_self]
    rfl
  · rw [State.modChan_fget, State.fget_fset_self]
    rfl
  · rw [State.modChan_chan_self, ← hchan]
    simp only [State.chan, State.fset_chans]

/-- A code without a pattern ends the test at once with result 3. -/
theorem dmcTestGo_badPattern {t : State} (ht : dmcTestGo p rk 0 (s.onAccess p) = t) : t.fget DMC_TEST.GO c = 0 ∧
    t.fget DMC_TEST.DONE c = 1 ∧ t.fget DMC_TEST.RESULT c = 3 ∧
      FieldsSet [DMC_TEST.RANK, DMC_TEST.PATTERN, DMC_TEST.GO, DMC_TEST.DONE, DMC_TEST.RESULT] (s.onAccess p) t := by
  rw [dmcTestGo_writes hm hsel, State.testGo_badPattern ((s.onAccess p).testWritten_pattern c rk 0)] at ht
  have hw := (s.onAccess p).testWritten_work c rk 0
  generalize (s.onAccess p).testWritten c rk 0 = u at ht hw
  have hwork : FieldsSet [DMC_TEST.RANK, DMC_TEST.PATTERN, DMC_TEST.GO, DMC_TEST.DONE, DMC_TEST.RESULT] (s.onAccess p) u :=
    ⟨hw.off, hw.regs.mono (by decide)⟩
  subst ht
  unfold State.testEnd
  simp (disch := decide) only [State.fget_fset_ne, State.fget_fset_self]
  exact ⟨rfl, rfl, rfl, ((hwork.set ..).set ..).set ..⟩

end

/-! ## Sparing asked for (R178, R189) -/

theorem State.fromWritten_fget (s : State) (c : Nat) (rk : Fin 16) : (s.fset DMC_SPARE.FROM c rk).fget DMC_SPARE.FROM c = rk ∧
    FieldsSet [DMC_SPARE.FROM] s (s.fset DMC_SPARE.FROM c rk) :=
  ⟨(State.fget_fset_self ..).trans (Nat.mod_eq_of_lt rk.isLt), (FieldsSet.refl _ s).set ..⟩

/-- The state of a channel whose copy begins. -/
def State.spareWritten (s : State) (c : Nat) (rk : Fin 16) : State :=
  (((s.fset DMC_SPARE.STATE c 1).fset DMC_SPARE.FROM c rk).fset DMC_SPAREPOS.POS c 0).modChan c fun x => { x with spareFrom := s.wclk }

theorem State.spareStart_eq (s : State) (c : Nat) (rk : Fin 16) : s.spareStart c rk = (s.spareWritten c rk).weirRecompute := rfl

theorem State.spareWritten_upkeep (s : State) (c : Nat) (rk : Fin 16) :
    Upkeep ([DMC_SPARE.FROM, DMC_SPARE.STATE, DMC_SPAREPOS.POS] ++ weirFlds ++ faultFlds) s (s.spareWritten c rk) :=
  ((((Upkeep.refl _ s).set ..).set ..).set ..).modChan ..

theorem State.spareWritten_fget (s : State) (c : Nat) (rk : Fin 16) : (s.spareWritten c rk).fget DMC_SPARE.STATE c = 1 ∧
    (s.spareWritten c rk).fget DMC_SPARE.FROM c = rk ∧ (s.spareWritten c rk).fget DMC_SPAREPOS.POS c = 0 := by
  unfold State.spareWritten
  simp (disch := decide) only [State.modChan_fget, State.fget_fset_ne, State.fget_fset_self]
  exact ⟨rfl, Nat.mod_eq_of_lt rk.isLt, rfl⟩

theorem State.spareWritten_chan (s : State) (c : Nat) (rk : Fin 16) :
    (s.spareWritten c rk).chan c = { s.chan c with spareFrom := s.wclk } := by
  rw [State.spareWritten, State.modChan_chan_self]
  simp only [State.chan, State.fset_chans]

/-- A copy begins with its pointer at 0, and Weir learns of it. -/
theorem State.spareStart_done (s : State) (c : Nat) (rk : Fin 16) {t : State} (ht : s.spareStart c rk = t) :
    (t.fget DMC_SPARE.STATE c = 1 ∧ t.fget DMC_SPARE.FROM c = rk ∧ t.fget DMC_SPAREPOS.POS c = 0) ∧
      t.chan c = { s.chan c with spareFrom := s.wclk } ∧
        Upkeep ([DMC_SPARE.FROM, DMC_SPARE.STATE, DMC_SPAREPOS.POS] ++ weirFlds ++ faultFlds) s t := by
  rw [State.spareStart_eq] at ht
  have hwritten := s.spareWritten_upkeep c rk
  have hfields := s.spareWritten_fget c rk
  have hchan := s.spareWritten_chan c rk
  generalize s.spareWritten c rk = u at *
  have hw : Upkeep (weirFlds ++ faultFlds) u t := ht ▸ (Upkeep.refl _ u).weirRecompute
  refine ⟨?_, ?_, hwritten.trans (hw.mono (by decide))⟩
  · rw [hw.fget, hw.fget, hw.fget]
    exact hfields
  · rw [← hchan, ← ht, State.chan, State.weirRecompute_chans, ← State.chan]

section
variable {s : State} {p : Path} {c : Nat} (hm : s.mgmt p = true) (hsel : s.chSel p = [c]) (rk : Fin 16)
include hm hsel

/-- A copy begins from the rank that is written. -/
theorem dmcSpareGo_starts (h0 : s.fget DMC_SPARE.STATE c = 0) (hsp : s.fget DMC_CFG.SPARE c ≠ 15) (hmap : s.rankMapped c rk = true)
    (hi : (s.chan c).test = none) :
    dmcSpareGo p rk (s.onAccess p) = ((s.onAccess p).fset DMC_SPARE.FROM c rk).spareStart c rk := by
  have hgo : (s.onAccess p).fget DMC_SPARE.STATE c ≠ 1 := by
    rw [State.onAccess_fget]
    omega
  rw [dmcSpareGo, State.onAccess_mgmt, if_pos hm, State.onAccess_chSel, hsel, State.each_cons, State.each_nil, if_neg hgo, State.spareGo,
    if_pos, ((s.onAccess p).fromWritten_fget c rk).1]
  obtain ⟨hfrom, hsame⟩ := (s.onAccess p).fromWritten_fget c rk
  have hidle : ((s.onAccess p).fset DMC_SPARE.FROM c rk).chan c = s.chan c := s.onAccess_chan p c
  rw [hfrom, hidle, hi, State.rankMapped, hsame.fget, hsame.fget, hsame.fget, State.onAccess_fget, State.onAccess_fget, State.onAccess_fget]
  exact ⟨h0, hsp, hmap, rfl⟩

/-- A copy begins with its pointer at 0, and Weir learns of it. -/
theorem dmcSpareGo_done (h0 : s.fget DMC_SPARE.STATE c = 0) (hsp : s.fget DMC_CFG.SPARE c ≠ 15) (hmap : s.rankMapped c rk = true)
    (hi : (s.chan c).test = none) {t : State} (ht : dmcSpareGo p rk (s.onAccess p) = t) :
    (t.fget DMC_SPARE.STATE c = 1 ∧ t.fget DMC_SPARE.FROM c = rk ∧ t.fget DMC_SPAREPOS.POS c = 0) ∧
      t.chan c = { s.chan c with spareFrom := s.wclk } ∧
        Upkeep ([DMC_SPARE.FROM, DMC_SPARE.STATE, DMC_SPAREPOS.POS] ++ weirFlds ++ faultFlds) (s.onAccess p) t := by
  rw [dmcSpareGo_starts hm hsel rk h0 hsp hmap hi] at ht
  obtain ⟨hfields, hchan, hw⟩ := State.spareStart_done _ c rk ht
  have hidle : ((s.onAccess p).fset DMC_SPARE.FROM c rk).chan c = s.chan c := s.onAccess_chan p c
  have hclock : ((s.onAccess p).fset DMC_SPARE.FROM c rk).wclk = s.wclk := s.onAccess_wclk p
  rw [hidle, hclock] at hchan
  exact ⟨hfields, hchan, ((Upkeep.refl _ (s.onAccess p)).set DMC_SPARE.FROM c rk).trans hw⟩

end

/-! ## Repair (R188) -/

/-- A management command that the Bench serves comes to its effect. -/
theorem State.adminCmd_ready {s : State} {p : Path} (ha : s.adminReady p = true) (go : State → State) :
    (s.onAccess p).adminCmd p go = go (s.onMailbox p) := by
  simp only [State.adminReady, Bool.and_eq_true, Bool.not_eq_true'] at ha
  obtain ⟨⟨-, hpath⟩, hfw⟩ := ha
  have hfw' : ¬ (s.onMailbox p).boot.fwRestart = true := by simp [hfw]
  have hpath' : (s.onMailbox p).admin p = true := by simp [hpath]
  exact (if_neg hfw').trans (if_pos hpath')

theorem State.adminReady_admits {s : State} {p : Path} (ha : s.adminReady p = true) : s.admits p = true := by
  simp only [State.adminReady, Bool.and_eq_true] at ha
  exact ha.1.1

theorem State.onMailbox_chan (s : State) (p : Path) (c : Nat) : (s.onMailbox p).chan c = s.chan c := by
  simp [State.chan, State.onMailbox]

section
variable {s : State} {p : Path} (ha : s.adminReady p = true) (ch : Chan) (sub : Bool) (rank bank row : Nat)
include ha

/-- A repair that finds no resource is refused. -/
theorem repair_refused (soft : Bool) :
    repair soft p ch sub rank bank row false (s.onAccess p) = (s.onMailbox p).reply p .resourcesExhausted := State.adminCmd_ready ha _

/-- A soft repair takes effect now. -/
theorem repair_soft : repair true p ch sub rank bank row true (s.onAccess p) =
    ((s.onMailbox p).modChan ch fun x => { x with pprSoft := x.pprSoft ++ [(sub.toNat, rank, bank, row)] }).reply p .success :=
  State.adminCmd_ready ha _

/-- A hard repair is queued. -/
theorem repair_hard : repair false p ch sub rank bank row true (s.onAccess p) =
    ((s.onMailbox p).modChan ch fun x => { x with pprHard := x.pprHard ++ [(sub.toNat, rank, bank, row)] }).reply p .success :=
  State.adminCmd_ready ha _

/-- A repair ends in the answer that its effect gives. -/
theorem repair_ends {c : Instr} {f : State → State} {g : Channel → Channel} {rc : Rc}
    (hf : f (s.onAccess p) = ((s.onMailbox p).modChan ch g).reply p rc) :
    volatile (access c p f) s = .next (((s.onMailbox p).modChan ch g).reply p rc) :=
  (access_ends (State.adminReady_admits ha) hf (s.onMailbox_nv p) (s.onMailbox_pending p)).1

theorem repair_refused_ends (c : Instr) (soft : Bool) : volatile (access c p (repair soft p ch sub rank bank row false)) s =
    .next ((s.onMailbox p).reply p .resourcesExhausted) :=
  (access_ends (State.adminReady_admits ha) (repair_refused ha ch sub rank bank row soft) (s.onMailbox_nv p) (s.onMailbox_pending p)).1

end

theorem State.repaired_chan (s : State) (p : Path) (c : Nat) (g : Channel → Channel) (rc : Rc) :
    (((s.onMailbox p).modChan c g).reply p rc).chan c = g (s.chan c) :=
  ((s.onMailbox p).modChan_chan_self c g).trans (by rw [State.onMailbox_chan])

end Sys2Proof.Machine
end

section
/-! PROOF. The statement on the DRAM's upkeep: each clause is what its command comes to, on the state whose last outputs are gone. -/

namespace Sys2Proof.Machine

open Sys2Proof

/-- What a command's effect comes to, and the outcome of the command. -/
theorem volatile_outcome (f : State → State) (s : State) : ∃ t, f s.clearOut = t ∧ volatile f s = .next (s.kept t) := ⟨_, rfl, rfl⟩

/-- What an admitted access comes to, and the outcome of the command. -/
theorem access_outcome (c : Instr) (f : State → State) {p : Path} {s : State} (ha : s.admits p = true) :
    ∃ t, f (s.onAccess p) = t ∧ volatile (access c p f) s = .next (s.kept t) := ⟨_, rfl, volatile_access_admits c p f s ha⟩

/-- Settles O54: each command of the upkeep is work on its channel's registers and queues, with the fault reports that follow, and the rest of
the device is as it was. -/
theorem dramUpkeep : Obligations.DramUpkeep := by
  refine ⟨?passed, ?failed, ?untrained, ?hot, ?blind, ?calibration, ?scrub, ?replay, ?sparing, ?selfTestEnd, ?recal, ?selfTestGo, ?spareGo,
    ?repairs⟩
  case passed =>
    intro ch spd s h1 hm
    have hw := State.trained_work s.clearOut ch spd
    obtain ⟨hstate, hinsvc, hretrain⟩ := State.trained_fget s.clearOut ch spd
    exact ⟨_, hw.ends (dramTrainingComplete_passed (s := s.clearOut) h1 hm), hstate, hinsvc, hretrain, State.trained_chan ..,
      fun c hc => State.trained_chan_ne _ hc _, hw.quiet (State.trained_out ..), hw.regs⟩
  case failed =>
    intro ch ok spd s h1 hf
    obtain ⟨t, ht, hx⟩ := volatile_outcome (dramTrainingComplete ch ok spd) s
    obtain ⟨hstate, hfault, ⟨hrq, hwq, hin⟩, hdram⟩ := State.failChan_leaves s.clearOut ch (by decide)
      ((dramTrainingComplete_failed (s := s.clearOut) h1 hf).symm.trans ht)
    exact ⟨_, hx, hstate, hfault, hrq, hwq, hin, hdram, rfl⟩
  case untrained =>
    intro ch ok spd s h1
    exact volatile_ends (dramTrainingComplete_untrained (s := s.clearOut) h1) rfl rfl
  case hot =>
    intro ch r s hs hr
    obtain ⟨t, ht, hx⟩ := volatile_outcome (spdThermalRead ch (some r) none) s
    obtain ⟨⟨hw, hslot, hbit⟩, hchans, hfault⟩ := spdThermalRead_hot_done (s := s.clearOut) hs hr ht
    have hchan (k : Nat) : t.chan k = (s.clearOut.thermalNoted ch r 0 true false).chan k := by rw [State.chan, hchans, ← State.chan]
    have hself := (hchan ch).trans (State.thermalNoted_chan ..)
    exact ⟨_, hx, hslot, congrArg Channel.hot hself, congrArg Channel.blind hself, hbit, hfault,
      fun c hc => (hchan c).trans (State.thermalNoted_chan_ne _ hc ..), hw.kept, hw.regs.mono (by decide)⟩
  case blind =>
    intro ch s hs hf
    obtain ⟨t, ht, hx⟩ := volatile_outcome (spdThermalRead ch none none) s
    obtain ⟨⟨hw, hslot, hbit⟩, hblind, hfault⟩ := spdThermalRead_blind_done (s := s.clearOut) hs hf ht
    exact ⟨_, hx, hblind, hslot, hbit, hfault, hw.kept, hw.regs.mono (by decide)⟩
  case calibration =>
    intro ch rk n s h2
    refine ⟨?absorbed, ?drifted, ?zq⟩
    case absorbed =>
      obtain ⟨t, ht, -⟩ := volatile_outcome (dqsOscMeasure ch rk true n) s
      obtain ⟨hmax, hchan, hout, hw⟩ := dqsOscMeasure_absorbed_done (s := s.clearOut) h2 rk n ht
      exact ⟨_, hw.ends ht, hmax, hchan, hw.quiet hout, hw.regs⟩
    case drifted =>
      obtain ⟨t, ht, hx⟩ := volatile_outcome (dqsOscMeasure ch rk false n) s
      obtain ⟨hretrain, hfault, hw⟩ := dqsOscMeasure_drifted_done (s := s.clearOut) h2 rk n ht
      exact ⟨_, hx, hretrain, hfault, hw.kept, hw.regs⟩
    case zq =>
      obtain ⟨t, ht, -⟩ := volatile_outcome (zqCalibration ch rk n) s
      obtain ⟨hmax, hchan, hout, hw⟩ := zqCalibration_done (s := s.clearOut) h2 rk n ht
      exact ⟨_, hw.ends ht, hmax, hchan, hout, hw.eq, hw.regs⟩
  case scrub =>
    intro ch m p rk row s he h2 hp hc hb
    refine ⟨?clean, ?uncorrectable⟩
    case clean =>
      have hw := State.scrubOn_work s.clearOut ch
      exact ⟨_, hw.ends (patrolScrubStep_clean (s := s.clearOut) he h2 hp hc hb rk row), State.scrubOn_scrubbed s.clearOut ch,
        fun c hc => State.scrubOn_chan_ne s.clearOut hc, hw.quiet (State.scrubOn_out ..), hw.regs⟩
    case uncorrectable =>
      obtain ⟨t, ht, hx⟩ := volatile_outcome (patrolScrubStep ch (some m) (.uncorrectable false) rk row) s
      obtain ⟨hfault, hue, hpoison, hraw⟩ := patrolScrubStep_uncorrectable_done (s := s.clearOut) he h2 hp hc hb rk row false ht
      exact ⟨_, hx, hfault, hue, hpoison, hraw, rfl⟩
  case replay =>
    intro ch k s h2
    refine ⟨?lost, ?cleared⟩
    case lost =>
      obtain ⟨t, ht, hx⟩ := volatile_outcome (alertReplay ch k 8 false) s
      obtain ⟨hstate, hfault, -, hdram⟩ := State.failChan_leaves _ ch (by decide) ((alertReplay_lost (s := s.clearOut) h2 k).symm.trans ht)
      exact ⟨_, hx, hstate, hfault, hdram, rfl⟩
    case cleared =>
      obtain ⟨t, ht, hx⟩ := volatile_outcome (alertReplay ch k 2 true) s
      obtain ⟨hstate, hfault, hcount, hchans, hdram⟩ := alertReplay_cleared_done (s := s.clearOut) h2 k ht
      refine ⟨_, hx, hstate, hfault, fun hk => ?_, hchans, hdram, rfl⟩
      subst hk
      exact hcount
  case sparing =>
    intro ch s h1 hpos
    obtain ⟨t, ht, hx⟩ := volatile_outcome (sparingComplete ch) s
    obtain ⟨hstate, hdone, hchan, hfault, hw⟩ := sparingComplete_done (s := s.clearOut) h1 hpos ht
    exact ⟨_, hx, hstate, hdone, hchan, hfault, hw.kept, hw.regs.mono (by decide)⟩
  case selfTestEnd =>
    intro ch n s hrun
    obtain ⟨t, ht, hx⟩ := volatile_outcome (dmcSelfTestEnd ch n) s
    obtain ⟨hchan, ⟨hgo, hdone, hresult, herrors⟩, hw⟩ := dmcSelfTestEnd_done (s := s.clearOut) hrun n ht
    exact ⟨_, hx, hchan, hgo, hdone, hresult, herrors, hw.kept, hw.regs⟩
  case recal =>
    intro p c s ha hm hsel _ hr h2
    have hw := (s.onAccess p).recalAsked_work c (s.rankList c)
    refine ⟨_, hw.access_ends ha (dmcCalRecal_asks hm hsel hr h2), State.recalAsked_recal .., ?_, fun k hk => ?_, hw.quiet rfl,
      (s.onAccess_regsSame p _).trans hw.regs⟩
    · rw [State.recalAsked_chan, State.onAccess_chan]
    · rw [State.recalAsked_chan_ne _ hk, State.onAccess_chan]
  case selfTestGo =>
    intro p c rk s ha hm hsel _
    refine ⟨fun hx hi hs h2 => ?_, ?_⟩
    · obtain ⟨t, ht, -⟩ := access_outcome (.dmcTestGo p rk 1) (dmcTestGo p rk 1) ha
      obtain ⟨hgo, herrors, hchan, hw, hout⟩ := dmcTestGo_runs hm hsel rk hx hi hs h2 ht
      exact ⟨_, hw.access_ends ha ht, hgo, herrors, hchan, hw.quiet hout, (s.onAccess_regsSame p _).trans hw.regs⟩
    · obtain ⟨t, ht, -⟩ := access_outcome (.dmcTestGo p rk 0) (dmcTestGo p rk 0) ha
      obtain ⟨hgo, hdone, hresult, hw⟩ := dmcTestGo_badPattern hm hsel rk ht
      exact ⟨_, hw.work.access_ends ha ht, hgo, hdone, hresult, hw.eq, (s.onAccess_regsSame p _).trans hw.regs⟩
  case spareGo =>
    intro p c rk s ha hm hsel _ h0 hsp hmap hi
    obtain ⟨t, ht, hx⟩ := access_outcome (.dmcSpareGo p rk) (dmcSpareGo p rk) ha
    obtain ⟨⟨hstate, hfrom, hpos⟩, hchan, hw⟩ := dmcSpareGo_done hm hsel rk h0 hsp hmap hi ht
    exact ⟨_, hx, hstate, hfrom, hpos, hchan, hw.kept_access, (s.onAccess_regsSame p _).trans (hw.regs.mono (by decide))⟩
  case repairs =>
    intro p ch sub rank bank row s ha
    exact ⟨⟨_, repair_ends ha ch (repair_soft ha ch sub rank bank row), State.repaired_chan .., rfl⟩,
      ⟨_, repair_ends ha ch (repair_hard ha ch sub rank bank row), State.repaired_chan .., rfl⟩,
      repair_refused_ends ha ch sub rank bank row _ true, repair_refused_ends ha ch sub rank bank row _ false⟩

end Sys2Proof.Machine
end

section
/-! PROOF. The Press's coding (08 R192-R197): little-endian bytes, slices and words, residues, widths and packed groups, each with what
reads it back. -/

namespace Sys2Proof.Machine

open Sys2Proof

/-! ## Bytes, slices and words (R192) -/

@[simp] theorem leBytes_length (n v : Nat) : (leBytes n v).length = n := by
  induction n generalizing v with
  | zero => rfl
  | succ n ih => simp [leBytes, ih]

theorem leNat_leBytes (n v : Nat) : leNat (leBytes n v) = v % 256 ^ n := by
  induction n generalizing v with
  | zero => simp [leBytes, leNat, Nat.mod_one]
  | succ n ih =>
    have hbyte : (BitVec.ofNat 8 v).toNat = v % 256 := rfl
    rw [leBytes, leNat, ih, hbyte, Nat.pow_succ', Nat.mod_mul]

/-- A slice that starts and ends where a part of the bytes does is that part. -/
theorem sliceBytes_middle (a b c : List Byte) : sliceBytes (a ++ b ++ c) a.length b.length = b := by
  simp [sliceBytes]

@[simp] theorem bytesOfWords_cons (x : Nat) (l : List Nat) : bytesOfWords (x :: l) = leBytes 2 x ++ bytesOfWords l := rfl

@[simp] theorem bytesOfWords_length (l : List Nat) : (bytesOfWords l).length = 2 * l.length := by
  induction l with
  | nil => rfl
  | cons x l ih => simp [ih]; omega

theorem wordsOf_bytesOfWords {l : List Nat} (hl : ∀ x ∈ l, x < 65536) : wordsOf (bytesOfWords l) = l := by
  induction l with
  | nil => rfl
  | cons x l ih =>
    rw [List.forall_mem_cons] at hl
    have hx : x % 256 + 256 * (x / 256 % 256) = x := by omega
    simpa [leBytes, wordsOf, ih hl.2] using hx

/-! ## Residues (R193, R194) -/

theorem zigzag_lt (w u : Nat) : zigzag w u < 65536 := by
  simp only [zigzag]
  split <;> omega

/-- The zigzag form of a residue gives the word back from the word it was taken against. -/
theorem add_unzigzag_zigzag {w u : Nat} (hw : w < 65536) (hu : u < 65536) : (u + unzigzag (zigzag w u)) % 65536 = w := by
  simp only [zigzag]
  split
  case isTrue hr =>
    rw [unzigzag, if_pos (by omega)]
    omega
  case isFalse hr =>
    rw [unzigzag, if_neg (by omega)]
    omega

/-- The next word from the words before it and its stored value, with stride a (R194). -/
def addWord (a : Nat) (acc : List Nat) (z : Nat) : List Nat := acc ++ [(acc.getD (acc.length - a) 0 + unzigzag z) % 65536]

/-- The first m stored values on the anchor words give the first m words behind them. -/
theorem foldl_addWord_take {w : List Nat} {a : Nat} (hw : ∀ x ∈ w, x < 65536) (ha : 0 < a) (m : Nat) :
    ((List.zipWith zigzag (w.drop a) w).take m).foldl (addWord a) (w.take a) = w.take (a + m) := by
  induction m with
  | zero => simp
  | succ m ih =>
    rw [List.take_add_one, List.foldl_append, ih, ← Nat.add_assoc, List.take_add_one (i := a + m)]
    by_cases hm : a + m < w.length
    · have hu : m < w.length := by omega
      have hval : (List.zipWith zigzag (w.drop a) w)[m]? = some (zigzag w[a + m] w[m]) := by
        simp [List.getElem?_zipWith, hm, hu]
      have hlen : (w.take (a + m)).length - a = m := by rw [List.length_take]; omega
      have hbefore : (w.take (a + m)).getD m 0 = w[m] := by simp [hu, ha]
      have hword : (w[m] + unzigzag (zigzag w[a + m] w[m])) % 65536 = w[a + m] :=
        add_unzigzag_zigzag (hw _ (List.getElem_mem _)) (hw _ (List.getElem_mem _))
      rw [hval, List.getElem?_eq_getElem hm, Option.toList_some, List.foldl_cons, addWord, hlen, hbefore, hword]
      rfl
    · have hval : (List.zipWith zigzag (w.drop a) w)[m]? = none := by
        rw [List.getElem?_eq_none_iff, List.length_zipWith, List.length_drop]
        omega
      rw [hval, List.getElem?_eq_none (by omega), Option.toList_none, List.foldl_nil, List.append_nil]

/-- Stored values on the anchor words give the words. -/
theorem foldl_addWord_zigzag {w : List Nat} {a : Nat} (hw : ∀ x ∈ w, x < 65536) (ha : 0 < a) :
    (List.zipWith zigzag (w.drop a) w).foldl (addWord a) (w.take a) = w := by
  have hz : (List.zipWith zigzag (w.drop a) w).length ≤ w.length := by
    rw [List.length_zipWith]
    exact Nat.min_le_right ..
  have h := foldl_addWord_take hw ha w.length
  rwa [List.take_of_length_le hz, List.take_of_length_le (Nat.le_add_left ..)] at h

/-! ## Widths (R195) -/

/-- The widths a group can have (R195). -/
def IsWidth (n : Nat) : Prop := n ≤ 14 ∨ n = 16

theorem isWidth_widthOf (l : List Nat) : IsWidth (widthOf l) := by
  unfold widthOf
  cases h : (List.range 15).find? fun n => l.all fun z => decide (z < 2 ^ n) with
  | none => exact .inr rfl
  | some n =>
    have hn := List.mem_range.mp (List.mem_of_find?_eq_some h)
    exact .inl (Nat.le_of_lt_succ hn)

theorem lt_two_pow_widthOf {l : List Nat} (hl : ∀ z ∈ l, z < 65536) : ∀ z ∈ l, z < 2 ^ widthOf l := by
  unfold widthOf
  cases h : (List.range 15).find? fun n => l.all fun z => decide (z < 2 ^ n) with
  | none => exact hl
  | some n => simpa using List.find?_some h

theorem widthOf_eq_zero {l : List Nat} (hl : ∀ z ∈ l, z = 0) : widthOf l = 0 := by
  have h : (l.all fun z => decide (z < 2 ^ 0)) = true := by simpa using hl
  rw [widthOf, List.range_succ_eq_map, List.find?_cons, h]
  rfl

theorem widthCode_lt {n : Nat} (h : IsWidth n) : widthCode n < 16 := by
  unfold widthCode IsWidth at *
  split <;> omega

theorem codeWidth_widthCode {n : Nat} (h : IsWidth n) : codeWidth (widthCode n) = n := by
  obtain h | rfl := h
  · rw [widthCode, if_neg (by omega), codeWidth, if_neg (by omega)]
  · rfl

/-! ## Groups (R195) -/

@[simp] theorem packGroup_length (n : Nat) (l : List Nat) : (packGroup n l).length = n := leBytes_length ..

/-- The slots of a group are the digits of its packed value. -/
theorem sum_shifted_eq_ofDigits (n : Nat) (l : List Nat) :
    (l.zipIdx.map fun (z, k) => z <<< (k * n)).sum = Nat.ofDigits (2 ^ n) l := by
  rw [Nat.ofDigits_eq_sum_mapIdx, List.mapIdx_eq_zipIdx_map]
  congr 2
  funext ⟨z, k⟩
  simp [Nat.shiftLeft_eq, Nat.pow_mul']

/-- A slot reads back the value packed in it. -/
theorem slotAt_packGroup {n : Nat} {l : List Nat} {k : Nat} (hlen : l.length = 8) (hl : ∀ z ∈ l, z < 2 ^ n) (hk : k < 8) :
    slotAt (packGroup n l) n k = l[k] := by
  obtain ⟨c, hc⟩ : ∃ c, 8 = k + 1 + c := ⟨7 - k, by omega⟩
  have hpow : 256 ^ n = 2 ^ (k * n) * (2 ^ n * 2 ^ (c * n)) := by
    rw [← Nat.pow_add, ← Nat.pow_add, show (256 : Nat) = 2 ^ 8 from rfl, ← Nat.pow_mul, hc]
    ring_nf
  have hdigit : Nat.ofDigits (2 ^ n) l / 2 ^ (k * n) = Nat.ofDigits (2 ^ n) (l.drop k) := by
    rw [Nat.pow_mul']
    exact Nat.ofDigits_div_pow_eq_ofDigits_drop k (Nat.two_pow_pos n) l hl
  have hlt : l[k] < 2 ^ n := hl _ (List.getElem_mem _)
  rw [slotAt, packGroup, sum_shifted_eq_ofDigits, leNat_leBytes, bits_eq, hpow, Nat.mod_mul_right_div_self,
    Nat.mod_mod_of_dvd _ (Nat.dvd_mul_right ..), hdigit, List.drop_eq_getElem_cons (by omega), Nat.ofDigits_cons]
  simp [Nat.mod_eq_of_lt hlt]

theorem slots_packGroup {n : Nat} {l : List Nat} (hlen : l.length = 8) (hl : ∀ z ∈ l, z < 2 ^ n) :
    (List.range 8).map (slotAt (packGroup n l) n) = l := by
  refine List.ext_getElem (by simp [hlen]) fun k hk _ => ?_
  have hk : k < 8 := by simpa using hk
  simp [slotAt_packGroup hlen hl hk]

@[simp] theorem groupsOf_length (l : List Nat) : (groupsOf l).length = 16 := by simp [groupsOf]

/-- The first groups hold the first values. -/
theorem flatten_take_groupsOf (l : List Nat) {k : Nat} (hk : k ≤ 16) : ((groupsOf l).take k).flatten = l.take (8 * k) := by
  rw [groupsOf, ← List.map_take, List.take_range, Nat.min_eq_left hk]
  clear hk
  induction k with
  | zero => rfl
  | succ k ih => simp [List.range_succ, ih, Nat.mul_add, List.take_add]

theorem flatten_groupsOf {l : List Nat} (hl : l.length = 128) : (groupsOf l).flatten = l := by
  have h := flatten_take_groupsOf l (Nat.le_refl 16)
  rwa [List.take_of_length_le (by simp), List.take_of_length_le (by omega)] at h

theorem length_of_mem_groupsOf {l g : List Nat} (hl : l.length = 128) (hg : g ∈ groupsOf l) : g.length = 8 := by
  obtain ⟨k, hk, rfl⟩ := List.mem_map.mp hg
  have hk := List.mem_range.mp hk
  rw [List.length_take, List.length_drop]
  omega

theorem mem_of_mem_groupsOf {l g : List Nat} (hg : g ∈ groupsOf l) {z : Nat} (hz : z ∈ g) : z ∈ l := by
  obtain ⟨k, -, rfl⟩ := List.mem_map.mp hg
  exact List.mem_of_mem_drop (List.mem_of_mem_take hz)

/-! ## Group bodies -/

/-- The offsets of the group bodies of the given widths, the first at o (R197). -/
def bodyStarts : Nat → List Nat → List Nat
  | _, [] => []
  | o, n :: ns => o :: bodyStarts (o + n) ns

theorem foldl_starts (ns acc : List Nat) (o : Nat) :
    (ns.foldl (fun (acc : List Nat × Nat) w => (acc.1 ++ [acc.2], acc.2 + w)) (acc, o)).1 = acc ++ bodyStarts o ns := by
  induction ns generalizing acc o with
  | nil => simp [bodyStarts]
  | cons n ns ih => simp [bodyStarts, ih]

/-- The bodies of groups, each packed at its width. -/
def groupBodies (gs : List (List Nat)) : List Byte := (List.zipWith packGroup (gs.map widthOf) gs).flatten

@[simp] theorem groupBodies_cons (g : List Nat) (gs : List (List Nat)) :
    groupBodies (g :: gs) = packGroup (widthOf g) g ++ groupBodies gs := rfl

@[simp] theorem groupBodies_length (gs : List (List Nat)) : (groupBodies gs).length = (gs.map widthOf).sum := by
  induction gs with
  | nil => rfl
  | cons g gs ih => simp [ih]

/-- The groups read at their offsets behind `pre` are the groups packed there. -/
theorem slots_groupBodies (pre : List Byte) {gs : List (List Nat)} (hlen : ∀ g ∈ gs, g.length = 8) (hlt : ∀ g ∈ gs, ∀ z ∈ g, z < 65536) :
    List.zipWith (fun st n => (List.range 8).map (slotAt (sliceBytes (pre ++ groupBodies gs) st n) n))
      (bodyStarts pre.length (gs.map widthOf)) (gs.map widthOf) = gs := by
  induction gs generalizing pre with
  | nil => rfl
  | cons g gs ih =>
    rw [List.forall_mem_cons] at hlen hlt
    have hhead : sliceBytes (pre ++ packGroup (widthOf g) g ++ groupBodies gs) pre.length (widthOf g) = packGroup (widthOf g) g := by
      simpa using sliceBytes_middle pre (packGroup (widthOf g) g) (groupBodies gs)
    have hrest := ih (pre ++ packGroup (widthOf g) g) hlen.2 hlt.2
    rw [List.length_append, packGroup_length] at hrest
    rw [groupBodies_cons, ← List.append_assoc, List.map_cons, bodyStarts, List.zipWith_cons_cons, hhead, hrest,
      slots_packGroup hlen.1 (lt_two_pow_widthOf hlt.1)]

end Sys2Proof.Machine
end

section
/-! PROOF. A coded segment (08 R193-R197, R213): its parts, its size, the exact check and its decode, and the encoder's choice. -/

namespace Sys2Proof.Machine

open Sys2Proof

/-! ## Stored values and widths of a segment (R193-R195) -/

theorem residues_length {w : List Nat} (hw : w.length = 128) (d : Nat) : (residues w d).length = 128 := by
  simp [residues, hw]
  omega

theorem residues_drop {w : List Nat} (hw : w.length = 128) {d : Nat} (hd : d ≤ 128) :
    (residues w d).drop d = List.zipWith zigzag (w.drop d) w := by
  rw [residues, List.take_of_length_le (by simp [hw]; omega)]
  exact List.drop_left' List.length_replicate

theorem residues_anchor {w : List Nat} {d k : Nat} (hk : k ≤ d) : ∀ z ∈ (residues w d).take k, z = 0 := by
  intro z hz
  have hz : z ∈ (List.replicate d 0 ++ List.zipWith zigzag (w.drop d) w).take k :=
    List.mem_of_mem_take (by rwa [residues, List.take_take, Nat.min_comm, ← List.take_take] at hz)
  rw [List.take_append_of_le_length (by simpa using hk)] at hz
  exact List.eq_of_mem_replicate (List.mem_of_mem_take hz)

theorem residues_lt (w : List Nat) (d : Nat) : ∀ z ∈ residues w d, z < 65536 := by
  intro z hz
  obtain hz | hz := List.mem_append.mp (List.mem_of_mem_take hz)
  · rw [List.eq_of_mem_replicate hz]
    decide
  · obtain ⟨i, hi, rfl⟩ := List.mem_iff_getElem.mp hz
    rw [List.getElem_zipWith]
    exact zigzag_lt ..

theorem anchors_le (p : Nat) : anchors p ≤ 32 := by
  unfold anchors stride
  repeat' split
  all_goals decide

/-- The predictors P1 to P5 take as many anchor words as their stride, and their zero groups hold anchor slots alone (R193, R195). -/
theorem stride_of_coded {p : Nat} (hp : p < 8) (h : ¬(p = 0 ∨ p = 6 ∨ p = 7)) :
    0 < stride p ∧ anchors p = stride p ∧ 8 * zeroGroups p ≤ stride p := by
  have hcases : p = 1 ∨ p = 2 ∨ p = 3 ∨ p = 4 ∨ p = 5 := by omega
  obtain rfl | rfl | rfl | rfl | rfl := hcases <;> decide

theorem zeroGroups_le (p : Nat) : zeroGroups p ≤ 16 := by
  unfold zeroGroups
  repeat' split
  all_goals decide

/-! ## The parts of a coded segment (R197) -/

/-- The widths of a segment's 16 groups: all 0 where the predictor has no group bodies. -/
def segWidths (w : List Nat) (p : Nat) : List Nat := if p = 0 ∨ p = 6 ∨ p = 7 then List.replicate 16 0 else widthsOf w p

/-- The predictor's byte and the eight bytes of width codes. -/
def segHead (p : Nat) (ns : List Nat) : List Byte :=
  BitVec.ofNat 8 p :: (List.range 8).map fun k => BitVec.ofNat 8 (widthCode (ns.getD (2 * k) 0) + 16 * widthCode (ns.getD (2 * k + 1) 0))

/-- What follows the anchor words: a raw segment's words, or the group bodies. -/
def segBody (w : List Nat) (p : Nat) : List Byte :=
  if p = 7 then bytesOfWords w else if p = 0 ∨ p = 6 then [] else groupBodies (groupsOf (residues w (stride p)))

theorem segWidths_coded {w : List Nat} {p : Nat} (h : ¬(p = 0 ∨ p = 6 ∨ p = 7)) :
    segWidths w p = (groupsOf (residues w (stride p))).map widthOf := if_neg h

theorem segBody_coded {w : List Nat} {p : Nat} (h : ¬(p = 0 ∨ p = 6 ∨ p = 7)) :
    segBody w p = groupBodies (groupsOf (residues w (stride p))) := by
  rw [segBody, if_neg (by omega), if_neg (by omega)]

theorem segBytes_eq (w : List Nat) (p : Nat) :
    segBytes w p = segHead p (segWidths w p) ++ bytesOfWords (w.take (anchors p)) ++ segBody w p := by
  have hnil (i : Nat) : (List.replicate 16 0).getD i 0 = ([] : List Nat).getD i 0 := by
    rw [List.getD_eq_getElem?_getD, List.getElem?_getD_replicate_default_eq, List.getD_nil]
  unfold segBytes segHead segWidths segBody
  by_cases h : p = 0 ∨ p = 6 ∨ p = 7
  · simp only [if_pos h, hnil]
    by_cases h7 : p = 7
    · simp [h7]
    · simp [h7, (by omega : p = 0 ∨ p = 6)]
  · simp only [if_neg h, if_neg (by omega : ¬p = 7), if_neg (by omega : ¬(p = 0 ∨ p = 6))]
    rfl

@[simp] theorem segHead_length (p : Nat) (ns : List Nat) : (segHead p ns).length = 9 := by simp [segHead]

theorem segWidths_length (w : List Nat) (p : Nat) : (segWidths w p).length = 16 := by
  unfold segWidths
  split
  · exact List.length_replicate
  · simp [widthsOf]

theorem isWidth_of_mem_segWidths {w : List Nat} {p n : Nat} (hn : n ∈ segWidths w p) : IsWidth n := by
  unfold segWidths at hn
  split at hn
  · exact .inl (by simp [List.eq_of_mem_replicate hn])
  · obtain ⟨g, -, rfl⟩ := List.mem_map.mp hn
    exact isWidth_widthOf g

/-- The groups that R195 wants at width 0 are. -/
theorem segWidths_zeroGroups {w : List Nat} {p : Nat} (hp : p < 8) : ∀ n ∈ (segWidths w p).take (zeroGroups p), n = 0 := by
  intro n hn
  by_cases h : p = 0 ∨ p = 6 ∨ p = 7
  · rw [segWidths, if_pos h] at hn
    exact List.eq_of_mem_replicate (List.mem_of_mem_take hn)
  · rw [segWidths_coded h, ← List.map_take] at hn
    obtain ⟨g, hg, rfl⟩ := List.mem_map.mp hn
    obtain ⟨-, -, hzero⟩ := stride_of_coded hp h
    refine widthOf_eq_zero fun z hz => residues_anchor (w := w) hzero z ?_
    rw [← flatten_take_groupsOf _ (zeroGroups_le p)]
    exact List.mem_flatten_of_mem hg hz

/-- A group's code is the nibble of its byte behind the predictor's (R197). -/
theorem nibble_segHead {ns : List Nat} (hns : ∀ n ∈ ns, IsWidth n) (p : Nat) (rest : List Byte) {g : Nat} (hg : g < 16) :
    bits ((segHead p ns ++ rest).getD (1 + g / 2) 0).toNat (4 * (g % 2)) 4 = widthCode (ns.getD g 0) := by
  have hlt (i : Nat) : widthCode (ns.getD i 0) < 16 := by
    by_cases hi : i < ns.length
    · rw [List.getD_eq_getElem _ _ hi]
      exact widthCode_lt (hns _ (List.getElem_mem _))
    · rw [List.getD_eq_default _ _ (Nat.not_lt.mp hi)]
      decide
  have hbyte (k : Nat) (hk : k < 8) : ((segHead p ns ++ rest).getD (1 + k) 0).toNat =
      widthCode (ns.getD (2 * k) 0) + 16 * widthCode (ns.getD (2 * k + 1) 0) := by
    have heven := hlt (2 * k)
    have hodd := hlt (2 * k + 1)
    rw [List.getD_append _ _ _ _ (by rw [segHead_length]; omega), segHead, Nat.add_comm, List.getD_cons_succ,
      List.getD_eq_getElem _ _ (by simpa using hk), List.getElem_map, List.getElem_range, BitVec.toNat_ofNat]
    omega
  rw [hbyte (g / 2) (by omega), bits_eq]
  obtain ⟨k, rfl | rfl⟩ := Nat.even_or_odd' g
  · have heven := hlt (2 * k)
    rw [Nat.mul_div_cancel_left k (by decide), Nat.mul_mod_right]
    omega
  · have heven := hlt (2 * k)
    have hodd := hlt (2 * k + 1)
    rw [show (2 * k + 1) / 2 = k by omega, show (2 * k + 1) % 2 = 1 by omega]
    omega

/-- The width codes read back from the bytes that hold them. -/
theorem segCodes_segHead {ns : List Nat} (hlen : ns.length = 16) (hns : ∀ n ∈ ns, IsWidth n) (p : Nat) (rest : List Byte) :
    segCodes (segHead p ns ++ rest) = ns.map widthCode := by
  refine List.ext_getElem (by simp [segCodes, hlen]) fun g hg hg' => ?_
  rw [List.length_map] at hg'
  simp only [segCodes, List.getElem_map, List.getElem_range, nibble_segHead hns p rest (hlen ▸ hg'), List.getD_eq_getElem _ _ hg']

section
variable {w : List Nat} {p : Nat}

theorem segCodes_segBytes : segCodes (segBytes w p) = (segWidths w p).map widthCode := by
  rw [segBytes_eq, List.append_assoc]
  exact segCodes_segHead (segWidths_length w p) (fun _ => isWidth_of_mem_segWidths) p _

theorem codeWidths_segBytes : (segCodes (segBytes w p)).map codeWidth = segWidths w p := by
  rw [segCodes_segBytes, List.map_map]
  exact (List.map_congr_left fun n hn => codeWidth_widthCode (isWidth_of_mem_segWidths hn)).trans (List.map_id _)

theorem headD_segBytes (hp : p < 8) : ((segBytes w p).headD 0).toNat = p := by
  have h : (BitVec.ofNat 8 p).toNat = p := by
    rw [BitVec.toNat_ofNat]
    omega
  exact h

theorem segSize_eq (hp : p < 8) : segSize w p = if p = 7 then 265 else 9 + 2 * anchors p + (segWidths w p).sum := by
  interval_cases p <;> rfl

theorem segBytes_length (hw : w.length = 128) (hp : p < 8) : (segBytes w p).length = segSize w p := by
  have ha : (w.take (anchors p)).length = anchors p := by
    have := anchors_le p
    rw [List.length_take]
    omega
  rw [segBytes_eq, segSize_eq hp, List.length_append, List.length_append, segHead_length, bytesOfWords_length, ha]
  by_cases h : p = 0 ∨ p = 6 ∨ p = 7
  · obtain rfl | rfl | rfl := h <;> simp [segBody, segWidths, hw, anchors, stride]
  · rw [segBody_coded h, segWidths_coded h, groupBodies_length, if_neg (by omega)]

/-- A coded segment passes the exact check of its decode (R213). -/
theorem segOk_segBytes (hw : w.length = 128) (hp : p < 8) : segOk (segBytes w p) (p == 7) = true := by
  have hzero : ((segCodes (segBytes w p)).take (zeroGroups p)).all (· == 0) = true := by
    rw [segCodes_segBytes, ← List.map_take, List.all_map, List.all_eq_true]
    intro n hn
    rw [segWidths_zeroGroups hp n hn]
    rfl
  have hlen := (segBytes_length hw hp).trans (segSize_eq hp)
  simp only [segOk, headD_segBytes hp, codeWidths_segBytes]
  simp [hp, hzero, hlen]

/-! ## Decoding (R197) -/

theorem wordsOf_anchors (hw : ∀ x ∈ w, x < 65536) (hlen : w.length = 128) :
    wordsOf (sliceBytes (segBytes w p) 9 (2 * anchors p)) = w.take (anchors p) := by
  have ha := anchors_le p
  have h := sliceBytes_middle (segHead p (segWidths w p)) (bytesOfWords (w.take (anchors p))) (segBody w p)
  rw [segHead_length, bytesOfWords_length, List.length_take, hlen, Nat.min_eq_left (by omega), ← segBytes_eq] at h
  rw [h, wordsOf_bytesOfWords fun x hx => hw x (List.mem_of_mem_take hx)]

theorem decodeSeg_zero (hlen : w.length = 128) (h : applies w 0 = true) : decodeSeg (segBytes w 0) = w := by
  have hw : w = List.replicate 128 0 := List.eq_replicate_iff.mpr ⟨hlen, by simpa [applies] using h⟩
  exact hw.symm

theorem decodeSeg_constant (hw : ∀ x ∈ w, x < 65536) (hlen : w.length = 128) (h : applies w 6 = true) :
    decodeSeg (segBytes w 6) = w := by
  have hall : w = List.replicate 128 (w.headD 0) := List.eq_replicate_iff.mpr ⟨hlen, by simpa [applies] using h⟩
  have hd : (w.take (anchors 6)).headD 0 = w.headD 0 := by
    cases w with
    | nil => rfl
    | cons x l => rfl
  have hdec : decodeSeg (segBytes w 6) = List.replicate 128 ((wordsOf (sliceBytes (segBytes w 6) 9 (2 * anchors 6))).headD 0) := rfl
  rw [hdec, wordsOf_anchors hw hlen, hd, ← hall]

theorem decodeSeg_raw (hw : ∀ x ∈ w, x < 65536) (hlen : w.length = 128) : decodeSeg (segBytes w 7) = w := by
  have h := sliceBytes_middle (segHead 7 (segWidths w 7)) (bytesOfWords w) []
  rw [segHead_length, bytesOfWords_length, hlen] at h
  have hbytes : segBytes w 7 = segHead 7 (segWidths w 7) ++ bytesOfWords w ++ [] := by
    rw [segBytes_eq]
    simp [segBody, anchors, stride, bytesOfWords]
  have hdec : decodeSeg (segBytes w 7) = wordsOf (sliceBytes (segBytes w 7) 9 256) := rfl
  rw [hdec, hbytes, h, wordsOf_bytesOfWords hw]

/-- Under P1 to P5 the group bodies read back as the stored values, and these rebuild the words from the anchor words. -/
theorem decodeSeg_coded (hw : ∀ x ∈ w, x < 65536) (hlen : w.length = 128) (hp : p < 8) (h : ¬(p = 0 ∨ p = 6 ∨ p = 7)) :
    decodeSeg (segBytes w p) = w := by
  obtain ⟨hpos, hanch, -⟩ := stride_of_coded hp h
  have hle : stride p ≤ 32 := hanch ▸ anchors_le p
  have hres := residues_length hlen (stride p)
  have hpre : (segHead p (segWidths w p) ++ bytesOfWords (w.take (stride p))).length = 9 + 2 * stride p := by
    rw [List.length_append, segHead_length, bytesOfWords_length, List.length_take, hlen, Nat.min_eq_left (by omega)]
  have hslots := slots_groupBodies (segHead p (segWidths w p) ++ bytesOfWords (w.take (stride p)))
    (gs := groupsOf (residues w (stride p))) (fun g hg => length_of_mem_groupsOf hres hg)
    (fun g hg z hz => residues_lt w _ z (mem_of_mem_groupsOf hg hz))
  rw [hpre, ← segBody_coded h, ← segWidths_coded h, ← hanch, ← segBytes_eq, hanch] at hslots
  simp only [decodeSeg, headD_segBytes hp, Nat.mod_eq_of_lt hp, if_neg (by omega : ¬p = 0), if_neg (by omega : ¬p = 6),
    if_neg (by omega : ¬p = 7), codeWidths_segBytes, foldl_starts, List.nil_append, wordsOf_anchors hw hlen]
  rw [hanch, hslots, flatten_groupsOf hres, residues_drop hlen (by omega)]
  exact (congrArg (List.take 128) (foldl_addWord_zigzag hw hpos)).trans (List.take_of_length_le (by omega))

theorem decodeSeg_segBytes (hw : ∀ x ∈ w, x < 65536) (hlen : w.length = 128) (hp : p < 8) (h : applies w p = true) :
    decodeSeg (segBytes w p) = w := by
  by_cases hc : p = 0 ∨ p = 6 ∨ p = 7
  · obtain rfl | rfl | rfl := hc
    · exact decodeSeg_zero hlen h
    · exact decodeSeg_constant hw hlen h
    · exact decodeSeg_raw hw hlen
  · exact decodeSeg_coded hw hlen hp hc

end

/-! ## The encoder's choice (R196) -/

/-- The encoder chooses P7, or a predictor that applies and codes below 256 bytes. -/
theorem choosePred_cases (w : List Nat) (en : Nat) :
    choosePred w en = 7 ∨ applies w (choosePred w en) = true ∧ choosePred w en < 8 ∧ segSize w (choosePred w en) < 256 := by
  unfold choosePred
  extract_lets best
  have hbest : ∀ p, best = some p → applies w p = true ∧ p < 8 := by
    refine List.foldlRecOn (motive := fun b => ∀ p, b = some p → applies w p = true ∧ p < 8) _ _ (by simp) fun b hb p hp => ?_
    have hp8 : p < 8 := by
      revert p
      decide
    split
    case isFalse => exact hb
    case isTrue hon =>
      have hgood : ∀ q, some p = some q → applies w q = true ∧ q < 8 := by
        rintro q ⟨⟩
        exact ⟨(Bool.and_eq_true_iff.mp hon).2, hp8⟩
      split
      · exact hgood
      · split
        · exact hgood
        · exact hb
  cases h : best with
  | none => exact .inl rfl
  | some p =>
    obtain ⟨happ, hp⟩ := hbest p h
    by_cases hsize : 256 ≤ segSize w p
    · exact .inl (if_pos hsize)
    · simp only [if_neg hsize]
      exact .inr ⟨happ, hp, Nat.not_le.mp hsize⟩

theorem choosePred_applies (w : List Nat) (en : Nat) : applies w (choosePred w en) = true ∧ choosePred w en < 8 := by
  obtain h | ⟨happ, hp, -⟩ := choosePred_cases w en
  · rw [h]
    exact ⟨rfl, by decide⟩
  · exact ⟨happ, hp⟩

theorem segSize_choosePred_le (w : List Nat) (en : Nat) : segSize w (choosePred w en) ≤ 265 := by
  obtain h | ⟨-, -, hsize⟩ := choosePred_cases w en
  · rw [h]
    exact Nat.le_refl 265
  · omega

/-- Settles O55: each part of a coded segment reads back, so the decode undoes the coding under every predictor that applies, the one
chosen among them. -/
theorem pressIsLossless : Obligations.PressIsLossless := by
  refine ⟨fun w p hlen hw hp happ => ?every, fun w en hlen hw => ?chosen⟩
  case every => exact ⟨segBytes_length hlen hp, segOk_segBytes hlen hp, decodeSeg_segBytes hw hlen hp happ⟩
  case chosen =>
    obtain ⟨happ, hp⟩ := choosePred_applies w en
    exact ⟨happ, hp, segSize_choosePred_le w en, decodeSeg_segBytes hw hlen hp happ⟩

end Sys2Proof.Machine
end

section
/-! PROOF. The key commands that the Bench serves: KEY_LOAD, KEY_FREE, KEY_QUERY and KEY_RETIRE (10 R262-R270; 17 R419). -/

namespace Sys2Proof.Machine

open Sys2Proof

/-! ## A key command on the state on which the Bench serves it (10 R264) -/

@[simp] theorem State.onMailbox_inl (s : State) (p : Path) : (s.onMailbox p).inl = s.inl := (congrArg State.inl (s.onMailbox_eq p) :)
@[simp] theorem State.onMailbox_sec (s : State) (p : Path) : (s.onMailbox p).sec = s.sec := (congrArg State.sec (s.onMailbox_eq p) :)

theorem State.onMailbox_slot (s : State) (p : Path) (k : Nat) : (s.onMailbox p).slot k = s.slot k := State.slot_congr (s.onMailbox_inl p) k

theorem State.onMailbox_mgmt (s : State) (p q : Path) : (s.onMailbox p).mgmt q = s.mgmt q := by
  cases q with
  | head h => exact State.fbitAt_congr (s.onMailbox_regs p GLB_HEADS.MGMT 0 (by decide) (by decide)) h.val
  | sideband | bench => rfl

theorem State.onMailbox_keyPath (s : State) (p q : Path) (k : Nat) : (s.onMailbox p).keyPath q k = s.keyPath q k := by
  cases q with
  | head h =>
    simp only [State.keyPath, State.headOn, State.keyPermitted, State.fbitAt,
      s.onMailbox_regs p GLB_HEADS.ENABLED 0 (by decide) (by decide), s.onMailbox_regs p DEC_KEYMASK.PERMIT _ (by decide) (by decide)]
  | sideband | bench => rfl

theorem State.onMailbox_keyOwner (s : State) (p q : Path) (k : Nat) : (s.onMailbox p).keyOwner q k = s.keyOwner q k := by
  simp only [State.keyOwner, State.onMailbox_slot, State.onMailbox_admin]

theorem State.onMailbox_keyLoadBad (s : State) (p q : Path) (w : WrappedKey) : (s.onMailbox p).keyLoadBad q w = s.keyLoadBad q w := by
  simp only [State.keyLoadBad, State.sessionLive, State.onMailbox_sec, State.onMailbox_inl]

theorem State.onMailbox_retireBusy (s : State) (p : Path) : (s.onMailbox p).fone INL_RETIRE.BUSY = s.fone INL_RETIRE.BUSY := by
  simp only [State.fone, s.onMailbox_regs p INL_RETIRE.BUSY 0 (by decide) (by decide)]

/-- With the firmware running the Bench comes to a mailbox command's effect. -/
theorem State.mailbox_served {s : State} (hr : s.boot.fwRestart = false) (p : Path) (go : State → State) :
    (s.onAccess p).mailbox p go = go (s.onMailbox p) := by
  have hr' : ¬ (s.onMailbox p).boot.fwRestart = true := by simp [hr]
  exact if_neg hr'

/-- An admitted mailbox command that leaves fuses, flash and queue alone ends in the state that its effect leaves. -/
theorem mailbox_ends {c : Instr} {p : Path} {go : State → State} {s t : State} (ha : s.admits p = true)
    (hr : s.boot.fwRestart = false) (ht : go (s.onMailbox p) = t) (hn : t.nv = s.nv) (hp : t.pending = s.pending) :
    volatile (access c p fun s => s.mailbox p go) s = .next t :=
  (access_ends ha ((State.mailbox_served hr p go).trans ht) hn hp).1

/-- A mailbox command that is only answered. -/
theorem mailbox_replies {c : Instr} {p : Path} {go : State → State} {s : State} (ha : s.admits p = true) (hr : s.boot.fwRestart = false)
    {rc : Rc} {l : List Nat} (ht : go (s.onMailbox p) = (s.onMailbox p).reply p rc l) :
    volatile (access c p fun s => s.mailbox p go) s = .next ((s.onMailbox p).reply p rc l) :=
  mailbox_ends ha hr ht (s.onMailbox_nv p) (s.onMailbox_pending p)

/-- The state in which the Bench has served a key command of a path: slot k is changed by f, the rest of Inlay is as in i, and the path
is answered. -/
def State.keyServed (s : State) (p : Path) (rc : Rc) (k : Nat) (f : Slot → Slot) (i : Inlay) : State :=
  { s.onMailbox p with inl := { i with slots := smMod s.inl.slots k {} f } }.reply p rc

section
variable (s : State) {p : Path} {rc : Rc} {k : Nat} {f : Slot → Slot} {i : Inlay}

theorem State.keyServed_slot_self : (s.keyServed p rc k f i).slot k = f (s.slot k) := smGet_mod_self ..

theorem State.keyServed_slot_ne : ∀ j, j ≠ k → (s.keyServed p rc k f i).slot j = s.slot j := fun _ hj => smGet_mod_ne _ _ _ _ hj

theorem State.keyServed_replies : .reply p rc [] ∈ (s.keyServed p rc k f i).out := List.mem_append_right _ (List.mem_singleton_self _)

theorem State.keyServed_regs : RegsSame pmuFlds s (s.keyServed p rc k f i) := s.onMailbox_regs p

/-- A served key command changes the access's parts of the state, and Inlay. -/
theorem State.keyServed_eq : s.keyServed p rc k f i = { s with
    out := (s.keyServed p rc k f i).out, regs := (s.keyServed p rc k f i).regs, heads := (s.keyServed p rc k f i).heads
    inl := (s.keyServed p rc k f i).inl
    pwr := { s.pwr with
      latched := (s.keyServed p rc k f i).pwr.latched, held := (s.keyServed p rc k f i).pwr.held
      idleFrom := (s.keyServed p rc k f i).pwr.idleFrom } } := by
  have hpwr : (s.onMailbox p).pwr = { s.pwr with
      latched := (s.onMailbox p).pwr.latched, held := (s.onMailbox p).pwr.held, idleFrom := (s.onMailbox p).pwr.idleFrom } := by
    rw [s.onMailbox_eq p]
  have h := congrArg (fun x : State => { x with
    out := (s.keyServed p rc k f i).out, inl := (s.keyServed p rc k f i).inl, pwr := (s.onMailbox p).pwr }) (s.onMailbox_eq p)
  exact h.trans (congrArg (fun w => { s with
    out := (s.keyServed p rc k f i).out, regs := (s.onMailbox p).regs, heads := (s.onMailbox p).heads
    inl := (s.keyServed p rc k f i).inl, pwr := w }) hpwr)

/-- A command whose effect serves a key slot ends in that state. -/
theorem keyServed_ends {c : Instr} {go : State → State} {s : State} (ha : s.admits p = true) (hr : s.boot.fwRestart = false)
    (ht : go (s.onMailbox p) = s.keyServed p rc k f i) :
    volatile (access c p fun s => s.mailbox p go) s = .next (s.keyServed p rc k f i) :=
  mailbox_ends ha hr ht (s.onMailbox_nv p) (s.onMailbox_pending p)

end

/-! ## KEY_LOAD, KEY_FREE and KEY_QUERY (10 R264-R267; 17 R419) -/

/-- A key that passes its checks is loaded into its FREE slot (10 R266). -/
theorem exec_keyLoad {p : Path} {w : WrappedKey} {s : State} (ha : s.admits p = true) (hr : s.boot.fwRestart = false)
    (hp : s.keyPath p w.keyId.toNat = true) (hl : lifecycle s.nv < 4) (hm : w.mode = 2 → lifecycle s.nv = 2)
    (hd : s.sec.dbgUntil = none) (hb : s.keyLoadBad p w = false) (hs : (s.slot w.keyId.toNat).state = 0) :
    exec (.keyLoad p w) s = .next (s.keyServed p .success w.keyId.toNat
      (fun x => { state := 1, mode := w.mode.toNat, owner := pathNo p, load := x.load + 1 })
      { s.inl with ivs := smSet s.inl.ivs w.session.toNat w.ivCount.toNat }) := by
  have hmay : ¬ ((!(s.onMailbox p).keyPath p w.keyId.toNat) = true ∨ 4 ≤ lifecycle (s.onMailbox p).nv ∨
      (w.mode = 2 ∧ lifecycle (s.onMailbox p).nv ≠ 2) ∨ (s.onMailbox p).sec.dbgUntil.isSome = true) := by
    simpa [State.onMailbox_keyPath, hp, hd, hl] using hm
  have hgood : ¬ (s.onMailbox p).keyLoadBad p w = true := by simp [State.onMailbox_keyLoadBad, hb]
  have hfree : ¬ ((s.onMailbox p).slot w.keyId.toNat).state ≠ 0 := by simp [State.onMailbox_slot, hs]
  refine keyServed_ends ha hr ((if_neg hmay).trans ((if_neg hgood).trans ((if_neg hfree).trans ?_)))
  rw [State.keyServed, ← s.onMailbox_inl p]
  rfl

/-- While a debug session lasts no key is loaded (17 R419). -/
theorem exec_keyLoad_debug {p : Path} {s : State} (ha : s.admits p = true) (hr : s.boot.fwRestart = false)
    (hd : s.sec.dbgUntil.isSome = true) (w : WrappedKey) :
    exec (.keyLoad p w) s = .next ((s.onMailbox p).reply p .unsupported) := by
  have hd' : (s.onMailbox p).sec.dbgUntil.isSome = true := by rw [State.onMailbox_sec, hd]
  exact mailbox_replies ha hr (if_pos (.inr (.inr (.inr hd'))))

/-- Is a path allowed to free a slot (10 R264, R267; 17 R419)? -/
def State.mayFree (s : State) (p : Path) (k : Nat) : Bool := if k = 0 then s.mgmt p && s.sec.dbgUntil.isNone else s.keyOwner p k

/-- A RETIRED slot that its path may free becomes FREE; key ID 0 takes a fresh key (10 R262, R267). -/
theorem exec_keyFree {p : Path} {k : KeyId} {s : State} (ha : s.admits p = true) (hr : s.boot.fwRestart = false)
    (hp : s.mayFree p k.toNat = true) (hs : (s.slot k.toNat).state = 4) :
    exec (.keyFree p k) s = .next (s.keyServed p .success k.toNat
      (fun x => if k.toNat = 0 then { state := 1, owner := 17, load := x.load + 1 } else { load := x.load }) s.inl) := by
  have hmay : ¬ (!(s.onMailbox p).mayFree p k.toNat) = true := by
    have h : (s.onMailbox p).mayFree p k.toNat = s.mayFree p k.toNat := by
      simp only [State.mayFree, State.onMailbox_mgmt, State.onMailbox_sec, State.onMailbox_keyOwner]
    simp [h, hp]
  have hretired : ¬ ((s.onMailbox p).slot k.toNat).state ≠ 4 := by simp [State.onMailbox_slot, hs]
  refine keyServed_ends ha hr ((if_neg hmay).trans ((if_neg hretired).trans ?_))
  rw [State.keyServed, ← s.onMailbox_inl p]
  rfl

/-- A slot's state, mode, owner and count, and what is left of its fill ranges, are told to a path that may ask (10 R264). -/
theorem exec_keyQuery {p : Path} {k : KeyId} {s : State} (ha : s.admits p = true) (hr : s.boot.fwRestart = false)
    (hp : s.mgmt p = true ∨ s.keyPath p k.toNat = true) :
    exec (.keyQuery p k) s = .next ((s.onMailbox p).reply p .success
      ([(s.slot k.toNat).state, (s.slot k.toNat).mode, (s.slot k.toNat).owner, (s.slot k.toNat).count] ++
        (s.slot k.toNat).ranges.map fun r => r.2 - r.1)) := by
  have hmay : ¬ (!((s.onMailbox p).mgmt p || (s.onMailbox p).keyPath p k.toNat)) = true := by
    simpa [State.onMailbox_mgmt, State.onMailbox_keyPath, or_iff_not_imp_left] using hp
  refine mailbox_replies ha hr ((if_neg hmay).trans ?_)
  rw [State.onMailbox_slot]

/-! ## KEY_RETIRE, the first step of a retirement (10 R270) -/

/-- The state in which the Bench has served KEY_RETIRE of a path, but for the retirement's register fields. -/
def State.retiring (s : State) (p : Path) (k : Nat) (rs : List FillRange) : State :=
  s.keyServed p .background k (fun x => { x with state := 3, ranges := fillRanges rs, hadRanges := !(fillRanges rs).isEmpty })
    { s.inl with retirer := some p, aborted := false }

/-- The state in which a retirement of key k stands at its first step. -/
def State.retireBegun (s : State) (k : Nat) : State :=
  ((s.fset INL_RETIRE.BUSY 0 1).fset INL_RETIRE.STEP 0 1).fset INL_RETIRE.KEY 0 k

/-- A retirement that has begun shows that it is in progress, its first step and its key. -/
theorem State.retireBegun_fget (s : State) (k : KeyId) : (s.retireBegun k.toNat).fget INL_RETIRE.BUSY = 1 ∧
    (s.retireBegun k.toNat).fget INL_RETIRE.STEP = 1 ∧ (s.retireBegun k.toNat).fget INL_RETIRE.KEY = k.toNat := by
  have hk : k.toNat % 2 ^ INL_RETIRE.KEY.width = k.toNat := Nat.mod_eq_of_lt k.isLt
  simp (disch := decide) only [State.retireBegun, State.fget_fset_ne, State.fget_fset_self, hk]
  decide

/-- Register fields that the first step of a retirement writes. -/
def retireFlds : List Fld := [INL_RETIRE.BUSY, INL_RETIRE.KEY, INL_RETIRE.STEP]

theorem State.retireBegun_regs (s : State) (k : Nat) : RegsSame retireFlds s (s.retireBegun k) :=
  ((RegsSame.refl.fset 0 1 (by decide)).fset 0 1 (by decide)).fset 0 k (by decide)

section
variable {p : Path} {k : KeyId} {rs : List FillRange} {s : State} (ha : s.admits p = true) (hr : s.boot.fwRestart = false)
  (hp : s.keyOwner p k.toNat = true) (hk : k ≠ 0) (hrs : rs.length ≤ 4)
include hp hk hrs

/-- The checks on the path and the operands of KEY_RETIRE pass. -/
theorem keyRetire_checks : ¬ (!(s.onMailbox p).keyOwner p k.toNat) = true ∧ ¬ (k.toNat = 0 ∨ 4 < rs.length) := by
  have hk' : k.toNat ≠ 0 := fun h => hk (BitVec.eq_of_toNat_eq h)
  rw [State.onMailbox_keyOwner, hp]
  exact ⟨by decide, by omega⟩

include ha hr

/-- A slot that is neither FREE nor RETIRED becomes RETIRING, and its retirement begins. -/
theorem exec_keyRetire (hb : s.fone INL_RETIRE.BUSY = false) (h0 : (s.slot k.toNat).state ≠ 0) (h4 : (s.slot k.toNat).state ≠ 4) :
    exec (.keyRetire p k rs) s = .next ((s.retiring p k.toNat rs).retireBegun k.toNat) := by
  obtain ⟨hown, hops⟩ := keyRetire_checks hp hk hrs
  have hidle : ¬ (s.onMailbox p).fone INL_RETIRE.BUSY = true := by simp [State.onMailbox_retireBusy, hb]
  have hheld : ¬ (((s.onMailbox p).slot k.toNat).state = 0 ∨ ((s.onMailbox p).slot k.toNat).state = 4) := by
    simp [State.onMailbox_slot, h0, h4]
  refine mailbox_ends ha hr ((if_neg hown).trans ((if_neg hops).trans ((if_neg hidle).trans ((if_neg hheld).trans ?_))))
    (s.onMailbox_nv p) (s.onMailbox_pending p)
  rw [State.retiring, State.keyServed, ← s.onMailbox_inl p]
  rfl

/-- A retirement in progress holds another one off. -/
theorem exec_keyRetire_busy (hb : s.fone INL_RETIRE.BUSY = true) :
    exec (.keyRetire p k rs) s = .next ((s.onMailbox p).reply p .busy) := by
  obtain ⟨hown, hops⟩ := keyRetire_checks hp hk hrs
  have hbusy : (s.onMailbox p).fone INL_RETIRE.BUSY = true := (s.onMailbox_retireBusy p).trans hb
  exact mailbox_replies ha hr ((if_neg hown).trans ((if_neg hops).trans (if_pos hbusy)))

end

end Sys2Proof.Machine
end

section
/-! PROOF. The steps of a retirement and the key walk (06 R158; 10 R270-R273), and the statement on key slots. -/

namespace Sys2Proof.Machine

open Sys2Proof

/-! ## The walk: its evictions (06 R134, R158) -/

/-- The state without what evictions reach: what a fault report reaches, and COH's evictions, locks and snoops under way. -/
def State.offEvict (s : State) : State := { s.offFault with coh := { s.coh with sent := [], evicts := [], locks := [] } }

theorem offEvict_of_offFault {s t : State} (h : s.offFault = t.offFault) : s.offEvict = t.offEvict :=
  congrArg (fun x : State => { x with coh := { x.coh with sent := [], evicts := [], locks := [] } }) h

theorem State.count_offEvict (s : State) (u ev : Nat) (a : Attr) (k : Nat) : (s.count u ev a k).offEvict = s.offEvict :=
  offEvict_of_offFault (offFault_of_offCount (s.count_off u ev a k))

theorem State.snoop_offEvict (s : State) (ln : Nat) (inv : Bool) (p : Target) : (s.snoop ln inv p).offEvict = s.offEvict := by
  unfold State.snoop
  dsimp only
  split
  · exact (State.count_offEvict ..).trans (State.count_offEvict _ 2 3 {} 1)
  · exact (offEvict_of_offFault (State.sendSpan_off ..)).trans (State.count_offEvict _ 2 3 {} 1)

theorem State.snoopAll_offEvict (s : State) (ln : Nat) (inv : Bool) (l : List Target) : (s.snoopAll ln inv l).offEvict = s.offEvict := by
  refine (State.each_inv State.offEvict l _ (fun p u => u.snoop_offEvict ln inv p) _).trans ?_
  split
  · exact State.count_offEvict ..
  · rfl

theorem State.agentEvict_offEvict (s : State) (key : Nat) (e : DirEntry) : (s.agentEvict key e).offEvict = s.offEvict := by
  unfold State.agentEvict
  dsimp only
  split
  · rfl
  · exact (State.count_offEvict ..).trans (State.snoopAll_offEvict ..)

theorem State.walkTick_offEvict (s : State) : s.walkTick.offEvict = s.offEvict := by
  unfold State.walkTick
  split
  · rfl
  · refine State.each_inv State.offEvict _ _ (fun e u => ?_) s
    split
    · exact u.agentEvict_offEvict e.1 e.2
    · rfl

/-- The walk's evictions write counters, and no field of a walk or a retirement. -/
theorem LineRegs.walkTick {s t : State} (h : LineRegs s t) : LineRegs s t.walkTick := by
  unfold State.walkTick
  split
  · exact h
  · refine h.each fun e u hu => ?_
    have hev : LineRegs s (u.agentEvict e.1 e.2) := hu.ite (hu.evict ..)
    exact hev.ite hu

theorem State.walkTick_fget (s : State) (f : Fld) (i : Nat) (hf : f.id < 1024 ∧ f.id ∉ lineFlds.map (·.id) := by decide) :
    s.walkTick.fget f i = s.fget f i :=
  (LineRegs.refl s).walkTick.same f i hf.1 hf.2

/-- The evictions of a walk leave the list it waits for, the moves and the DRAM alone. -/
theorem State.walkTick_keeps (s : State) : s.walkTick.coh.walk = s.coh.walk ∧ s.walkTick.slc = s.slc ∧ s.walkTick.dram = s.dram :=
  ⟨(congrArg (fun x : State => x.coh.walk) s.walkTick_offEvict :), (congrArg State.slc s.walkTick_offEvict :),
    (congrArg State.dram s.walkTick_offEvict :)⟩

/-! ## The steps of a retirement (04 R106; 10 R270) -/

/-- A retirement that is not to be aborted passes to its next step. -/
theorem State.retireNext_kept {s : State} (h : s.inl.aborted = false) (n : Nat) : s.retireNext n = s.fset INL_RETIRE.STEP 0 n :=
  if_neg (by simp [h])

/-- A retirement that ends, or passes to its next step, writes its register fields, and Inlay. -/
theorem State.retireNext_eq (s : State) (n : Nat) :
    s.retireNext n = { s with regs := (s.retireNext n).regs, inl := (s.retireNext n).inl } := by
  unfold State.retireNext State.retireOver
  split <;> rfl

theorem RegsSame.retireOver {l : List Fld} {s t : State} (h : RegsSame l s t) (hb : INL_RETIRE.BUSY.id ∈ l.map (·.id))
    (hn : INL_RETIRE.STEP.id ∈ l.map (·.id)) : RegsSame l s t.retireOver := by
  have hset := (h.fset (g := INL_RETIRE.BUSY) 0 0 ⟨by decide, hb⟩).fset (g := INL_RETIRE.STEP) 0 0 ⟨by decide, hn⟩
  exact hset.trans (RegsSame.of_regs rfl)

theorem RegsSame.retireNext {l : List Fld} {s t : State} (h : RegsSame l s t) (n : Nat) (hb : INL_RETIRE.BUSY.id ∈ l.map (·.id))
    (hn : INL_RETIRE.STEP.id ∈ l.map (·.id)) : RegsSame l s (t.retireNext n) := by
  unfold State.retireNext
  split
  · exact h.retireOver hb hn
  · exact h.fset 0 n ⟨by decide, hn⟩

/-- The state in which the walk for a key begins: its list is taken, none of its evictions has begun. -/
def State.walkBegun (s : State) (k : Nat) : State :=
  let l := (s.entriesUnder k).map fun e => dirLine e.1 e.2
  let u := ((s.fset COH_KWALK.KEY 0 k).fset COH_KWALK.GO 0 1).fset COH_KWALK.LINES 0 (min (2 ^ 20 - 1) l.length)
  { u with coh := { u.coh with walk := some l } }

/-- The Bench's walk begins, with a retirement of the key at its first step passed on (06 R158; 10 R270). -/
theorem cohKwalkGo_begins {s : State} (hw : s.coh.walk = none) (k : KeyId) : cohKwalkGo .bench k s =
    ((if s.retireAt 1 = true ∧ s.fget INL_RETIRE.KEY = k.toNat then s.retireNext 2 else s).walkBegun k.toNat).walkTick :=
  if_neg (by simp [hw])

/-- A walk that has begun shows its key, and leaves the step of a retirement as it is. -/
theorem State.walkBegun_fget (s : State) (k : KeyId) : (s.walkBegun k.toNat).walkTick.fget COH_KWALK.KEY = k.toNat ∧
    (s.walkBegun k.toNat).walkTick.fget COH_KWALK.GO = 1 ∧
    (s.walkBegun k.toNat).walkTick.fget INL_RETIRE.STEP = s.fget INL_RETIRE.STEP := by
  rw [State.walkTick_fget _ COH_KWALK.KEY, State.walkTick_fget _ COH_KWALK.GO, State.walkTick_fget _ INL_RETIRE.STEP]
  have hset (f : Fld) : (s.walkBegun k.toNat).fget f = (((s.fset COH_KWALK.KEY 0 k.toNat).fset COH_KWALK.GO 0 1).fset COH_KWALK.LINES 0
      (min (2 ^ 20 - 1) ((s.entriesUnder k.toNat).map fun e => dirLine e.1 e.2).length)).fget f := rfl
  have hk : k.toNat % 2 ^ COH_KWALK.KEY.width = k.toNat := Nat.mod_eq_of_lt k.isLt
  simp (disch := decide) only [hset, State.fget_fset_ne, State.fget_fset_self, hk]
  decide

/-- The walk waits for every line under the key, and changes neither moves nor DRAM: what may pass on before it begins is a
retirement, by registers and Inlay. -/
theorem cohKwalkGo_walks {s : State} (hw : s.coh.walk = none) (k : KeyId) : (cohKwalkGo .bench k s).fget COH_KWALK.KEY = k.toNat ∧
    (cohKwalkGo .bench k s).fget COH_KWALK.GO = 1 ∧
    (cohKwalkGo .bench k s).coh.walk = some ((s.entriesUnder k.toNat).map fun e => dirLine e.1 e.2) ∧
    (cohKwalkGo .bench k s).slc = s.slc ∧ (cohKwalkGo .bench k s).dram = s.dram := by
  obtain ⟨r, i, hu⟩ : ∃ r i, (if s.retireAt 1 = true ∧ s.fget INL_RETIRE.KEY = k.toNat then s.retireNext 2 else s) =
      { s with regs := r, inl := i } := by
    split
    · exact ⟨_, _, s.retireNext_eq 2⟩
    · exact ⟨s.regs, s.inl, rfl⟩
  rw [cohKwalkGo_begins hw, hu]
  obtain ⟨hkey, hgo, -⟩ := State.walkBegun_fget { s with regs := r, inl := i } k
  obtain ⟨hwalk, hslc, hdram⟩ := State.walkTick_keeps (State.walkBegun { s with regs := r, inl := i } k.toNat)
  exact ⟨hkey, hgo, hwalk, hslc, hdram⟩

/-- The walk for the key of a retirement at its first step is its second step. -/
theorem cohKwalkGo_step {s : State} (hw : s.coh.walk = none) {k : KeyId} (h1 : s.retireAt 1 = true)
    (hk : s.fget INL_RETIRE.KEY = k.toNat) (hn : s.inl.aborted = false) : (cohKwalkGo .bench k s).fget INL_RETIRE.STEP = 2 := by
  obtain ⟨-, -, hstep⟩ := (s.retireNext 2).walkBegun_fget k
  rw [cohKwalkGo_begins hw, if_pos ⟨h1, hk⟩, hstep, State.retireNext_kept hn, State.fget_fset_self]
  rfl

/-- The state in which a walk has ended. -/
def State.walkEnded (s : State) : State :=
  ({ s with coh := { s.coh with walk := none } }.fset COH_KWALK.GO 0 0).fset COH_KWALK.DONE 0 1

theorem State.walkEnded_regs (s : State) : s.walkEnded.regs = ((s.fset COH_KWALK.GO 0 0).fset COH_KWALK.DONE 0 1).regs := rfl

/-- The end of a walk leaves a retirement where it stands. -/
theorem State.walkEnded_retireAt (s : State) (n : Nat) : s.walkEnded.retireAt n = s.retireAt n := by
  simp (disch := decide) only [State.retireAt, State.fone, State.regs_fget s.walkEnded_regs, State.fget_fset_ne]
  rfl

/-- Register fields that the end of a walk, and a retirement that passes on with it, write. -/
def kwalkFlds : List Fld := [COH_KWALK.GO, COH_KWALK.DONE, INL_RETIRE.STEP, INL_RETIRE.BUSY]

/-- The state without registers, COH and Inlay. -/
def State.offWalk (s : State) : State := { s with regs := [], coh := {}, inl := {} }

/-- What the end of a walk does to a state: fields of a walk and of a retirement are written, COH has no walk, and Inlay may change. -/
structure WalkDone (s t : State) : Prop where
  coh : t.coh = { s.coh with walk := none }
  go : t.fget COH_KWALK.GO = 0
  done : t.fget COH_KWALK.DONE = 1
  off : t.offWalk = s.offWalk
  regs : RegsSame kwalkFlds s t

theorem State.walkEnded_done (s : State) : WalkDone s s.walkEnded := by
  have hregs : RegsSame kwalkFlds s ((s.fset COH_KWALK.GO 0 0).fset COH_KWALK.DONE 0 1) :=
    (RegsSame.refl.fset 0 0 (by decide)).fset 0 1 (by decide)
  refine ⟨rfl, ?_, ?_, rfl, hregs.trans (RegsSame.of_regs s.walkEnded_regs)⟩
  · rw [State.regs_fget s.walkEnded_regs, State.fget_fset_ne _ _ _ _ (by decide) (by decide) (by decide), State.fget_fset_self]
    rfl
  · rw [State.regs_fget s.walkEnded_regs, State.fget_fset_self]
    rfl

/-- A retirement that passes on leaves the end of the walk as it is. -/
theorem WalkDone.retireNext {s t : State} (h : WalkDone s t) (n : Nat) : WalkDone s (t.retireNext n) := by
  have hregs : RegsSame [INL_RETIRE.BUSY, INL_RETIRE.STEP] t (t.retireNext n) := RegsSame.refl.retireNext n (by decide) (by decide)
  have he := t.retireNext_eq n
  exact ⟨(congrArg State.coh he :).trans h.coh, (hregs COH_KWALK.GO 0 (by decide) (by decide)).trans h.go,
    (hregs COH_KWALK.DONE 0 (by decide) (by decide)).trans h.done, (congrArg State.offWalk he :).trans h.off,
    h.regs.retireNext n (by decide) (by decide)⟩

section
variable {l : List Nat} {s : State} (hw : s.coh.walk = some l) (hl : ∀ ln ∈ l, s.walkWaits (s.fget COH_KWALK.KEY) ln = false)
include hw hl

/-- A walk that waits for no line ends, and a retirement at its second step passes on (06 R158; 10 R270). -/
theorem keyWalkDone_ends : keyWalkDone s = if s.walkEnded.retireAt 2 = true then s.walkEnded.retireNext 3 else s.walkEnded := by
  have hnone : ¬ (l.any (s.walkWaits (s.fget COH_KWALK.KEY))) = true := by simpa using hl
  unfold keyWalkDone
  rw [hw]
  exact if_neg hnone

theorem keyWalkDone_done : WalkDone s (keyWalkDone s) := by
  rw [keyWalkDone_ends hw hl]
  split
  · exact s.walkEnded_done.retireNext 3
  · exact s.walkEnded_done

theorem keyWalkDone_step (h2 : s.retireAt 2 = true) (hn : s.inl.aborted = false) : (keyWalkDone s).fget INL_RETIRE.STEP = 3 := by
  have hn' : s.walkEnded.inl.aborted = false := hn
  rw [keyWalkDone_ends hw hl, if_pos ((s.walkEnded_retireAt 2).trans h2), State.retireNext_kept hn', State.fget_fset_self]
  rfl

end

/-! ## The end of a retirement (10 R270, R276) -/

theorem State.inlEvent_off (s : State) (n : Nat) : (s.inlEvent n).offCount = s.offCount := by
  unfold State.inlEvent
  dsimp only
  split
  · rfl
  · split
    · exact (offCount_of_offHeads (State.signal_off ..)).trans rfl
    · rfl

/-- An Inlay event writes its one bit. -/
theorem State.inlEvent_regs (s : State) (n : Nat) (hf : (evtFld n).id < 1024) : RegsSame [evtFld n] s (s.inlEvent n) := by
  have hset : RegsSame [evtFld n] s (s.fset (evtFld n) 0 1) := RegsSame.refl.fset 0 1 ⟨hf, by simp⟩
  unfold State.inlEvent
  dsimp only
  split
  · exact RegsSame.refl
  · split
    · exact hset.trans (RegsSame.of_regs (State.signal_regs ..))
    · exact hset

/-- The event's bit is set afterwards. -/
theorem State.inlEvent_fget (s : State) (n : Nat) (hw : (evtFld n).width = 1) : (s.inlEvent n).fget (evtFld n) = 1 := by
  have hset : (s.fset (evtFld n) 0 1).fget (evtFld n) = 1 := by rw [State.fget_fset_self, hw]; rfl
  unfold State.inlEvent
  dsimp only
  split
  · next h => simpa [State.fone] using h
  · split
    · rw [State.signal_fget, hset]
    · exact hset

/-- The state in which key k's slot is RETIRED and its retirement over, before the path that began it hears of it. -/
def State.retired (s : State) (k : Nat) : State := ((s.slotTo k 4).inlEvent 2).retireOver

/-- The message to the path that began a retirement reaches heads and outputs. -/
theorem State.retireDone_off (s : State) (k : Nat) : (s.retireDone k).offHeads = (s.retired k).offHeads := by
  unfold State.retireDone
  dsimp only
  split
  · exact State.signalHead_off ..
  · rfl
  · rfl

theorem State.retireDone_sideband {s : State} (h : s.inl.retirer = some .sideband) (k : Nat) :
    .reply .sideband .success [] ∈ (s.retireDone k).out := by
  unfold State.retireDone
  rw [h]
  exact List.mem_append_right _ (List.mem_singleton_self _)

/-- Register fields that the end of a retirement writes. -/
def retiredFlds : List Fld := [INL_RETIRE.BUSY, INL_RETIRE.STEP, INL_EVT.RETIRED]

theorem State.retired_regs (s : State) (k : Nat) : RegsSame retiredFlds s (s.retired k) := by
  have hslot : RegsSame retiredFlds s (s.slotTo k 4) := RegsSame.of_regs rfl
  have hevt := hslot.trans (((s.slotTo k 4).inlEvent_regs 2 (by decide)).mono (m := retiredFlds) (by decide))
  exact hevt.retireOver (by decide) (by decide)

theorem State.retired_fget (s : State) (k : Nat) : (s.retired k).fget INL_RETIRE.BUSY = 0 ∧ (s.retired k).fget INL_RETIRE.STEP = 0 ∧
    (s.retired k).fget INL_EVT.RETIRED = 1 := by
  have hset (f : Fld) : (s.retired k).fget f =
    ((((s.slotTo k 4).inlEvent 2).fset INL_RETIRE.BUSY 0 0).fset INL_RETIRE.STEP 0 0).fget f := rfl
  have hevt : ((s.slotTo k 4).inlEvent 2).fget INL_EVT.RETIRED = 1 := (s.slotTo k 4).inlEvent_fget 2 rfl
  simp (disch := decide) only [hset, State.fget_fset_ne, State.fget_fset_self, hevt]
  decide

/-- Of Inlay the end of a retirement changes the slot and who retires. -/
theorem State.retired_inl (s : State) (k : Nat) : (s.retired k).inl = { (s.slotTo k 4).inl with retirer := none, aborted := false } :=
  congrArg (fun x : State => { x.inl with retirer := none, aborted := false }) ((s.slotTo k 4).inlEvent_off 2)

theorem State.retireDone_inl (s : State) (k : Nat) :
    (s.retireDone k).inl = { (s.slotTo k 4).inl with retirer := none, aborted := false } :=
  (congrArg State.inl (s.retireDone_off k) :).trans (s.retired_inl k)

theorem State.retireDone_slot (s : State) (k : Nat) : (s.retireDone k).slot k = { s.slot k with state := 4 } := by
  unfold State.slot
  rw [State.retireDone_inl]
  exact s.modSlot_slot_self k fun x => { x with state := 4 }

theorem State.retireDone_regs (s : State) (k : Nat) : (s.retireDone k).regs = (s.retired k).regs :=
  (congrArg State.regs (s.retireDone_off k) :)

/-- Beside registers, heads and outputs the end of a retirement changes Inlay. -/
theorem State.retireDone_eq (s : State) (k : Nat) : s.retireDone k = { s with
    out := (s.retireDone k).out, regs := (s.retireDone k).regs, heads := (s.retireDone k).heads, inl := (s.retireDone k).inl } := by
  have h : (s.retireDone k).offCount = { s.offCount with inl := (s.retired k).inl } := by
    refine (offCount_of_offHeads (s.retireDone_off k)).trans ?_
    exact congrArg (fun x : State => { x with inl := (s.retired k).inl }) ((s.slotTo k 4).inlEvent_off 2)
  exact congrArg (fun x : State => { x with
    out := (s.retireDone k).out, regs := (s.retireDone k).regs, heads := (s.retireDone k).heads, inl := (s.retireDone k).inl }) h

/-! ## The statement -/

/-- Settles O40: a key command that the Bench serves changes one slot and is answered; the walk, the drain and the verified zeroization each
pass the retirement on by its register fields. -/
theorem keySlots : Obligations.KeySlots := by
  unfold Obligations.KeySlots
  refine ⟨fun p w s ha hr hp hl hm hd hb hs => ?load, fun p w s ha hr hd => exec_keyLoad_debug ha hr hd w,
    fun p k rs s ha hr hp hk hrs hb h0 h4 => ?retire, fun p k rs s ha hr hp hk hrs hb => exec_keyRetire_busy ha hr hp hk hrs hb,
    fun k s ha hw => ?walk, fun l s hw hl => ?walked, fun s hs hf hn => ?drained, fun s hs => ?zeroized,
    fun p k s ha hr hk hp hs => ?free, fun p s ha hr hp hd hs => ?free0, fun p k s ha hr hp => exec_keyQuery ha hr hp⟩
  case load =>
    exact ⟨_, exec_keyLoad ha hr hp hl hm hd hb hs, s.keyServed_slot_self, s.keyServed_slot_ne, rfl, s.keyServed_replies,
      s.keyServed_eq, s.keyServed_regs⟩
  case retire =>
    obtain ⟨hbusy, hstep, hkey⟩ := (s.retiring p k.toNat rs).retireBegun_fget k
    have hserved : RegsSame pmuFlds s (s.retiring p k.toNat rs) := s.keyServed_regs
    have hbegun := (s.retiring p k.toNat rs).retireBegun_regs k.toNat
    refine ⟨_, exec_keyRetire ha hr hp hk hrs hb h0 h4, s.keyServed_slot_self (p := p) (rc := .background),
      s.keyServed_slot_ne (p := p) (rc := .background), hbusy, hstep, hkey, s.keyServed_replies, ?_,
      (hserved.mono (by decide)).trans (hbegun.mono (by decide))⟩
    exact congrArg (fun x : State => { x with regs := ((s.retiring p k.toNat rs).retireBegun k.toNat).regs }) s.keyServed_eq
  case walk =>
    obtain ⟨hkey, hgo, hwalk, hslc, hdram⟩ := cohKwalkGo_walks (s := s.clearOut) hw k
    exact ⟨_, volatile_access_admits _ .bench _ s ha, hkey, hgo, hwalk, fun h1 hk hn => cohKwalkGo_step (s := s.clearOut) hw h1 hk hn,
      rfl, hslc, hdram⟩
  case walked =>
    obtain ⟨hcoh, hgo, hdone, hoff, hregs⟩ := keyWalkDone_done (s := s.clearOut) hw hl
    generalize ht : keyWalkDone s.clearOut = t at *
    refine ⟨t, volatile_ends ht (congrArg State.nv hoff :) (congrArg State.pending hoff :), hcoh, hgo, hdone, fun h2 hn => ?_, ?_,
      RegsSame.clearOut.trans hregs⟩
    · exact ht ▸ keyWalkDone_step (s := s.clearOut) hw hl h2 hn
    · exact congrArg (fun x : State => { x with out := t.out, regs := t.regs, coh := t.coh, inl := t.inl }) hoff
  case drained =>
    have hgo : s.clearOut.retireAt 3 = true ∧ (!s.clearOut.inFlightUnder (s.clearOut.fget INL_RETIRE.KEY)) = true :=
      ⟨hs, congrArg not hf⟩
    exact volatile_ends ((if_pos hgo).trans (State.retireNext_kept (s := s.clearOut) hn 4)) rfl rfl
  case zeroized =>
    have heq := s.clearOut.retireDone_eq (s.fget INL_RETIRE.KEY)
    have hinl := s.clearOut.retireDone_inl (s.fget INL_RETIRE.KEY)
    have hslot := s.clearOut.retireDone_slot (s.fget INL_RETIRE.KEY)
    have hget := State.regs_fget (s.clearOut.retireDone_regs (s.fget INL_RETIRE.KEY))
    have hregs := s.clearOut.retired_regs (s.fget INL_RETIRE.KEY)
    obtain ⟨hbusy, hstep, hevt⟩ := s.clearOut.retired_fget (s.fget INL_RETIRE.KEY)
    refine ⟨_, volatile_ends (if_pos hs) (congrArg State.nv heq :) (congrArg State.pending heq :), hslot, (hget ..).trans hbusy,
      (hget ..).trans hstep, (hget ..).trans hevt, congrArg Inlay.retirer hinl, fun hside => ?_, heq,
      RegsSame.clearOut.trans (hregs.trans fun f i _ _ => hget f i)⟩
    exact State.retireDone_sideband (s := s.clearOut) hside _
  case free =>
    have hk' : k.toNat ≠ 0 := fun h => hk (BitVec.eq_of_toNat_eq h)
    have hmay : s.mayFree p k.toNat = true := (if_neg hk').trans hp
    exact ⟨_, exec_keyFree ha hr hmay hs, s.keyServed_slot_self.trans (if_neg hk'), s.keyServed_slot_ne, s.keyServed_replies,
      s.keyServed_eq, s.keyServed_regs⟩
  case free0 =>
    have hmay : s.mayFree p 0 = true := by simp [State.mayFree, hp, hd]
    exact ⟨_, exec_keyFree (k := 0) ha hr hmay hs, s.keyServed_slot_self, s.keyServed_slot_ne, s.keyServed_replies, s.keyServed_eq,
      s.keyServed_regs⟩

end Sys2Proof.Machine
end

section
/-! PROOF. A grant of Weir (11 R277-R285; 07 R163): the charge to its class, the transaction it marks, and the queue it enters. -/

namespace Sys2Proof.Machine

open Sys2Proof

/-! ## What a grant leaves -/

/-- What a grant leaves once its channel has changed: all that neither answers to requests nor fault reports reach, and the directory. -/
structure GrantKept (s t : State) : Prop where
  off : t.offAnswer = s.offAnswer
  dir : t.coh.dir = s.coh.dir

namespace GrantKept

theorem refl (s : State) : GrantKept s s := ⟨rfl, rfl⟩

variable {s t : State} (h : GrantKept s t)
include h

theorem trans {u : State} (k : GrantKept t u) : GrantKept s u := ⟨k.off.trans h.off, k.dir.trans h.dir⟩

/-- A step within what a grant may change. -/
theorem pass {u : State} (off : u.offAnswer = t.offAnswer := by rfl) (dir : u.coh.dir = t.coh.dir := by rfl) : GrantKept s u :=
  h.trans ⟨off, dir⟩

theorem count (u ev : Nat) (a : Attr) (k : Nat) : GrantKept s (t.count u ev a k) :=
  h.pass (t.count_offAnswer u ev a k) (by rw [t.count_coh])

theorem ite {p : Prop} [Decidable p] {u : State} (k : GrantKept s u) : GrantKept s (if p then t else u) := by
  split
  · exact h
  · exact k

theorem modChan (c : Nat) (f : Channel → Channel) : GrantKept (s.modChan c f) (t.modChan c f) :=
  ⟨(congrArg (fun x : State => x.modChan c f) h.off :), h.dir⟩

theorem emit (o : Out) : GrantKept s (t.emit o) := h.pass

theorem modTxn (n : Nat) (f : Txn → Txn) : GrantKept s (t.modTxn n f) := h.pass

theorem stampTxn (n stage : Nat) : GrantKept s (t.stampTxn n stage) := h.modTxn ..

theorem enterCoh (n : Nat) : GrantKept s (t.enterCoh n) := by
  cases hn : t.txn? n with
  | none => simpa only [State.enterCoh, hn] using h
  | some y =>
    obtain ⟨ph, r, he, -⟩ := State.enterCoh_eq hn
    rw [he]
    exact h.pass

theorem admitWaiting : GrantKept s t.admitWaiting := State.each_keeps (GrantKept s) _ _ (fun n _ hu => hu.enterCoh n) h

theorem unlockBy (n ln : Nat) : GrantKept s (t.unlockBy n ln) := by
  unfold State.unlockBy State.unlock
  split
  · split
    · split
      · exact h
      · exact h.pass.admitWaiting
    · exact h
  · exact h

theorem drainStart (c : Nat) : GrantKept s (t.drainStart c) := GrantKept.ite (GrantKept.count h.pass ..) h

theorem chan (k : Nat) : t.chan k = s.chan k := (congrArg (fun x : State => x.chan k) h.off :)

theorem dram : t.dram = s.dram := (congrArg State.dram h.off :)

omit h in
/-- The channel of a grant has changed in two steps, its charge and the entry into a queue. -/
theorem chan_self {c : Nat} {f g : Channel → Channel} (h : GrantKept ((s.modChan c f).modChan c g) t) : t.chan c = g (f (s.chan c)) := by
  rw [h.chan, State.modChan_chan_self, State.modChan_chan_self]

omit h in
theorem chan_ne {c k : Nat} {f g : Channel → Channel} (h : GrantKept ((s.modChan c f).modChan c g) t) (hk : k ≠ c) :
    t.chan k = s.chan k := by
  rw [h.chan, State.modChan_chan_ne _ _ hk, State.modChan_chan_ne _ _ hk]

end GrantKept

/-! ## The charge (R277, R285) -/

/-- Register fields in which a grant is tallied beside its class's count (11 R277, R282; 18 R425-R429). -/
def tallyFlds : List Fld := [WEIR_OUT.PEAK, WEIR_WAIT.MAXWAIT, WEIR_WAIT.AGED] ++ pmuFlds

/-- The state without what the tally of a grant reaches: registers, heads, outputs and the drawers' user counters. -/
def State.offTally (s : State) : State := { s.offCount with drw := {} }

/-- What the tally of a grant can change. -/
structure Tally (s t : State) : Prop where
  off : t.offTally = s.offTally
  regs : RegsSame tallyFlds s t

namespace Tally

theorem refl (s : State) : Tally s s := ⟨rfl, RegsSame.refl⟩

variable {s t : State} (h : Tally s t)
include h

theorem ite {p : Prop} [Decidable p] {u : State} (k : Tally s u) : Tally s (if p then t else u) := by
  split
  · exact h
  · exact k

theorem set (g : Fld) (i v : Nat) (hg : g.id < 1024 ∧ g.id ∈ tallyFlds.map (·.id) := by decide) : Tally s (t.fset g i v) :=
  ⟨h.off, h.regs.fset i v hg⟩

theorem fpeak (g : Fld) (i v : Nat) (hg : g.id < 1024 ∧ g.id ∈ tallyFlds.map (·.id) := by decide) : Tally s (t.fpeak g i v) :=
  (h.set g i v hg).ite h

theorem count (u ev : Nat) (a : Attr) (k : Nat) : Tally s (t.count u ev a k) :=
  ⟨(congrArg (fun x : State => { x with drw := {} }) (t.count_off u ev a k)).trans h.off,
    h.regs.trans ((t.count_regs u ev a k).mono (by decide))⟩

theorem userEvent (d ev k : Nat) : Tally s (t.userEvent d ev k) := by
  have hdrw := t.userEvent_offDrw d ev k
  generalize t.userEvent d ev k = u at hdrw ⊢
  exact ⟨(congrArg State.offCount hdrw).trans h.off, h.regs.trans fun f i _ _ => State.fget_of_offDrw hdrw f i⟩

theorem kept : GrantKept s t := ⟨(congrArg State.offAnswer h.off :), (congrArg (fun x : State => x.coh.dir) h.off :)⟩

theorem coh : t.coh = s.coh := (congrArg State.coh h.off :)

end Tally

/-- A channel with a transaction's bytes counted for its class (R285). -/
def Channel.charged (x : Txn) (ch : Channel) : Channel := { ch with bytes := smMod ch.bytes x.cls 0 (· + x.grantBytes) }

theorem Channel.charged_bytes (x : Txn) (ch : Channel) :
    smGet (ch.charged x).bytes x.cls 0 = smGet ch.bytes x.cls 0 + x.grantBytes :=
  smGet_mod_self ch.bytes x.cls 0 (· + x.grantBytes)

/-- The state with a transaction's credit taken and its bytes counted. -/
def State.credited (s : State) (c : Nat) (x : Txn) : State :=
  (s.fset WEIR_OUT.NOW (c * 8 + x.cls) (s.fget WEIR_OUT.NOW (c * 8 + x.cls) + 1)).modChan c (Channel.charged x)

/-- A charge takes the credit and counts the bytes; the rest of it is tally. -/
theorem State.charge_tally (s : State) (c : Nat) (x : Txn) (aged : Bool) : Tally (s.credited c x) (s.charge c x aged) := by
  unfold State.charge
  extract_lets k s1 s2 s3 s4 s5 a s6 s7 s8
  have h3 : Tally (s.credited c x) s3 := by
    have hpeak : s3 = (s.credited c x).fpeak WEIR_OUT.PEAK k (s1.fget WEIR_OUT.NOW k) :=
      apply_ite (fun u : State => u.modChan c (Channel.charged x)) ..
    rw [hpeak]
    exact (Tally.refl _).fpeak ..
  have h4 : Tally (s.credited c x) s4 := h3.fpeak ..
  have h5 : Tally (s.credited c x) s5 := (h4.set ..).ite h4
  have h6 : Tally (s.credited c x) s6 := (h5.count ..).count ..
  have h7 : Tally (s.credited c x) s7 := (h6.count ..).ite h6
  have h8 : Tally (s.credited c x) s8 := (h7.count ..).ite h7
  split
  · split
    · exact h8.userEvent ..
    · exact h8
  · exact h8

theorem State.charge_now (s : State) (c : Nat) (x : Txn) (aged : Bool) : (s.charge c x aged).fget WEIR_OUT.NOW (c * 8 + x.cls) =
    (s.fget WEIR_OUT.NOW (c * 8 + x.cls) + 1) % 256 :=
  ((s.charge_tally c x aged).regs _ _ (by decide) (by decide)).trans (State.fget_fset_self ..)

/-! ## The granted transaction (R280, R283, R291; 18 R434) -/

/-- The state with a picked transaction charged, and marked with its urgency, its wait and the stamp of its grant. -/
def State.chargedTxn (s : State) (c n : Nat) (x : Txn) (aged : Bool) : State :=
  ((s.charge c x aged).modTxn n fun y => { y with urg := s.urgencyOf x, waited := s.wclk - x.since }).stampTxn n 3

/-- The same with the device load of a write's completion. -/
def State.weirGranted (s : State) (c n : Nat) (x : Txn) (aged : Bool) : State :=
  (s.chargedTxn c n x aged).modTxn n fun y =>
    { y with devload := if y.kind = .read then y.devload else (s.chargedTxn c n x aged).devLoad c y.cls (s.wclk - x.since) }

/-- Where the channel grants and a transaction is picked, it enters a queue of the channel as the table then holds it. -/
theorem weirGrant_picks {s : State} {ch : Chan} {n : Nat} {x y : Txn} {aged : Bool} (hg : s.urgRefresh.grants ch = true)
    (hp : s.urgRefresh.weirPick ch = some ((n, x), aged)) (hy : (s.urgRefresh.weirGranted ch n x aged).txn? n = some y) :
    weirGrant ch s = (s.urgRefresh.weirGranted ch n x aged).enterDmc ch n y := by
  simp only [weirGrant, hg, hp, Bool.not_true, Bool.false_eq_true, if_false]
  split
  · next hz =>
    cases hz.symm.trans hy
    rfl
  · next hz => cases hz.symm.trans hy

/-- What a transaction is once it is granted. -/
def Txn.marked (x : Txn) (u w dl : Nat) (st : List Nat) : Txn := { x with urg := u, waited := w, devload := dl, stamps := st }

section
variable (s : State) (c n : Nat) (x : Txn) (aged : Bool)

theorem State.weirGranted_kept : GrantKept (s.modChan c (Channel.charged x)) (s.weirGranted c n x aged) := by
  have hcredit : GrantKept (s.modChan c (Channel.charged x)) (s.credited c x) := ⟨rfl, rfl⟩
  exact (((hcredit.trans (s.charge_tally c x aged).kept).modTxn ..).stampTxn ..).modTxn ..

theorem State.weirGranted_now : (s.weirGranted c n x aged).fget WEIR_OUT.NOW (c * 8 + x.cls) =
    (s.fget WEIR_OUT.NOW (c * 8 + x.cls) + 1) % 256 := s.charge_now c x aged

theorem State.charge_txn (k : Nat) : (s.charge c x aged).txn? k = s.txn? k := by
  rw [State.txn?, (s.charge_tally c x aged).coh]
  rfl

theorem State.weirGranted_txn_ne {k : Nat} (hk : k ≠ n) : (s.weirGranted c n x aged).txn? k = s.txn? k := by
  rw [State.weirGranted, State.modTxn_txn_ne _ _ hk, State.chargedTxn, State.stampTxn, State.modTxn_txn_ne _ _ hk,
    State.modTxn_txn_ne _ _ hk, State.charge_txn]

variable {s n x}

theorem State.weirGranted_txn (hx : s.txn? n = some x) :
    ∃ u w dl st, (s.weirGranted c n x aged).txn? n = some (x.marked u w dl st) := by
  have hcharged : ∃ st, (s.chargedTxn c n x aged).txn? n =
      some { x with urg := s.urgencyOf x, waited := s.wclk - x.since, stamps := st } := by
    have hmod := (s.charge c x aged).modTxn_txn_self n fun y => { y with urg := s.urgencyOf x, waited := s.wclk - x.since }
    rw [State.charge_txn, hx] at hmod
    obtain ⟨st, hst⟩ := State.stampTxn_eq hmod 3
    exact ⟨st, by rw [State.chargedTxn, hst]; exact smFind?_set_self ..⟩
  obtain ⟨st, ht⟩ := hcharged
  exact ⟨_, _, _, _, by rw [State.weirGranted, State.modTxn_txn_self, ht]; rfl⟩

end

/-! ## The queues (07 R163, R164, R166; 01 R23) -/

/-- A channel whose read queue has taken a transaction. -/
def Channel.readEntered (n : Nat) (ch : Channel) : Channel := { ch with rq := ch.rq ++ [n], arr := ch.arr + 1 }

/-- A channel whose write queue has taken a transaction. -/
def Channel.writeEntered (n : Nat) (ch : Channel) : Channel := { ch with wq := ch.wq ++ [n], arr := ch.arr + 1 }

/-- A read enters the read queue. -/
theorem State.enterDmc_read {s : State} {n : Nat} {x y : Txn} (hx : s.txn? n = some x) (hk : y.kind = .read) (c : Nat) {t : State}
    (ht : s.enterDmc c n y = t) :
    GrantKept (s.modChan c (Channel.readEntered n)) t ∧ (t.txn? n).map (·.phase) = some .dmcq ∧ t.regs = s.regs := by
  rw [← ht, State.enterDmc, if_pos hk]
  have hq : (s.modChan c (Channel.readEntered n)).txn? n = some x := hx
  refine ⟨(GrantKept.refl _).modTxn .., ?_, rfl⟩
  exact (congrArg (Option.map (·.phase)) ((State.modTxn_txn_self ..).trans (congrArg (Option.map _) hq)) :)

/-- Whether a write may merge depends on the write queue, and on the lines, keys and markings of the writes. -/
theorem State.mergeInto_congr {s t : State} {c : Nat} {x y : Txn} (hw : (t.chan c).wq = (s.chan c).wq)
    (ht : ∀ k, (t.txn? k).map (fun z => (z.mpa, z.key, z.slab)) = (s.txn? k).map fun z => (z.mpa, z.key, z.slab))
    (hy : (y.mpa, y.key, y.slab) = (x.mpa, x.key, x.slab)) : t.mergeInto c y = s.mergeInto c x := by
  simp only [Prod.mk.injEq] at hy
  obtain ⟨hm, hkey, hs⟩ := hy
  have hany (p : Option Nat × KeyId × Bool → Bool) (k : Nat) : ((t.txn? k).any fun z => p (z.mpa, z.key, z.slab)) =
      (s.txn? k).any fun z => p (z.mpa, z.key, z.slab) := by
    have := congrArg (Option.any p) (ht k)
    simpa only [Option.any_map, Function.comp_def] using this
  have hline := hany fun q => q.1 == x.mpa
  have hmark := hany fun q => q.2.1 == x.key && q.2.2 == x.slab
  dsimp only at hline hmark
  simp only [State.mergeInto, hw, hm, hkey, hs, hline, hmark]

/-- What has been sent stays sent when a drain starts. -/
theorem State.drainStart_out (s : State) (c : Nat) {o : Out} (ho : o ∈ s.out) : o ∈ (s.drainStart c).out := by
  unfold State.drainStart
  split
  · exact State.count_out _ _ _ _ _ ho
  · exact ho

/-- A head's write that has entered is completed. -/
theorem State.writeEntered_head {s : State} {n : Nat} {x : Txn} {h : Head} (hx : s.txn? n = some x) (hh : x.src = .head h) {t : State}
    (ht : s.writeEntered n = t) : GrantKept s t ∧ .ndr h x.ln false x.devload ∈ t.out := by
  simp only [State.writeEntered, hx, State.answerWrite_head hh] at ht
  have hsent := State.emit_count_out s (.ndr h x.ln false x.devload) 0 2 { head := some h.val } 1
  have hk := ((GrantKept.refl s).emit (.ndr h x.ln false x.devload)).count 0 2 { head := some h.val } 1
  generalize (s.emit (.ndr h x.ln false x.devload)).count 0 2 { head := some h.val } = u at ht hsent hk
  have hoff := (State.admitWaiting_offTable _).trans ((u.stampTxn n 7).unlockBy_offTable n x.ln)
  have hkept := ((hk.stampTxn n 7).unlockBy n x.ln).admitWaiting
  rw [ht] at hoff hkept
  have hout : t.out = u.out := (congrArg State.out hoff :)
  exact ⟨hkept, hout ▸ hsent⟩

/-- A head's write that merges into no other enters the write queue, and is completed. -/
theorem State.enterDmc_write {s : State} {n : Nat} {x : Txn} {h : Head} (hx : s.txn? n = some x) (hk : x.kind = .write)
    (hh : x.src = .head h) {c : Nat} (hm : s.mergeInto c x = none) {t : State} (ht : s.enterDmc c n x = t) :
    GrantKept (s.modChan c (Channel.writeEntered n)) t ∧ .ndr h x.ln false x.devload ∈ t.out := by
  have hne : x.kind ≠ .read := by simp [hk]
  have hq := (State.modTxn_txn_self (s.modChan c (Channel.writeEntered n)) n fun y =>
    { y with phase := .dmcq, arr := (s.chan c).arr, since := s.wclk }).trans (congrArg (Option.map _) hx)
  obtain ⟨hkept, hout⟩ := State.writeEntered_head hq hh rfl
  rw [State.enterDmc, if_neg hne, hm] at ht
  rw [← ht]
  exact ⟨(((GrantKept.refl _).modTxn ..).trans hkept).drainStart c, State.drainStart_out _ _ hout⟩

/-! ## A grant (R280) -/

/-- The levels of the ingress buffers are written, and nothing else (R283). -/
theorem State.urgRefresh_sets (s : State) : FieldsSet [WEIR_URGH.LEVEL, WEIR_URGS.LEVEL] s s.urgRefresh :=
  ((FieldsSet.refl _ s).set ..).set ..

theorem State.urgRefresh_kept (s : State) : GrantKept s s.urgRefresh := by
  obtain ⟨r, hr⟩ := s.urgRefresh_sets.exists_eq
  exact hr ▸ ⟨rfl, rfl⟩

theorem State.urgRefresh_txn (s : State) (n : Nat) : s.urgRefresh.txn? n = s.txn? n := by
  obtain ⟨r, hr⟩ := s.urgRefresh_sets.exists_eq
  rw [hr]
  rfl

theorem State.clearOut_urgRefresh (s : State) : s.clearOut.urgRefresh = s.urgRefresh.clearOut := rfl

/-- What Weir picks does not depend on what has been sent. -/
theorem State.clearOut_weirPick (s : State) (c : Nat) : s.clearOut.weirPick c = s.weirPick c := rfl

theorem State.clearOut_pick (s : State) {c : Nat} : s.clearOut.urgRefresh.weirPick c = s.urgRefresh.weirPick c := by
  rw [s.clearOut_urgRefresh, State.clearOut_weirPick]

theorem State.urgRefresh_grants (s : State) (c : Nat) : s.urgRefresh.grants c = s.grants c := by
  rw [State.grants, State.grants, s.urgRefresh_sets.fget c, s.urgRefresh_kept.chan]

theorem weirGrant_none {s : State} {ch : Chan} (h : s.grants ch = false ∨ s.urgRefresh.weirPick ch = none) :
    weirGrant ch s = s.urgRefresh := by
  rcases h with h | h
  · simp [weirGrant, State.urgRefresh_grants, h]
  · simp [weirGrant, h]

section
variable {s : State} {ch : Chan} {n : Nat} {x : Txn} {aged : Bool} (hg : s.grants ch = true)
  (hp : s.urgRefresh.weirPick ch = some ((n, x), aged)) (hx : s.txn? n = some x)
include hg hp hx

/-- A granted read is charged, and enters the read queue. -/
theorem weirGrant_read (hk : x.kind = .read) {t : State} (ht : weirGrant ch s = t) :
    GrantKept ((s.modChan ch (Channel.charged x)).modChan ch (Channel.readEntered n)) t ∧ (t.txn? n).map (·.phase) = some .dmcq ∧
      t.fget WEIR_OUT.NOW (ch.val * 8 + x.cls) = (s.fget WEIR_OUT.NOW (ch.val * 8 + x.cls) + 1) % 256 := by
  obtain ⟨u, w, dl, st, hy⟩ := State.weirGranted_txn ch aged ((s.urgRefresh_txn n).trans hx)
  have hkept := (s.urgRefresh_kept.modChan ch (Channel.charged x)).trans (s.urgRefresh.weirGranted_kept ch n x aged)
  have hnow := s.urgRefresh.weirGranted_now ch n x aged
  rw [weirGrant_picks ((s.urgRefresh_grants ch).trans hg) hp hy] at ht
  rw [s.urgRefresh_sets.fget] at hnow
  obtain ⟨hq, hphase, hregs⟩ := State.enterDmc_read hy hk ch ht
  exact ⟨(hkept.modChan ..).trans hq, hphase, (State.regs_fget hregs ..).trans hnow⟩

/-- A head's granted write that merges into no other is charged, enters the write queue, and is completed. -/
theorem weirGrant_write (hk : x.kind = .write) {h : Head} (hh : x.src = .head h) (hm : s.mergeInto ch x = none) {t : State}
    (ht : weirGrant ch s = t) :
    GrantKept ((s.modChan ch (Channel.charged x)).modChan ch (Channel.writeEntered n)) t ∧ ∃ dl, .ndr h x.ln false dl ∈ t.out := by
  obtain ⟨u, w, dl, st, hy⟩ := State.weirGranted_txn ch aged ((s.urgRefresh_txn n).trans hx)
  have hkept := (s.urgRefresh_kept.modChan ch (Channel.charged x)).trans (s.urgRefresh.weirGranted_kept ch n x aged)
  have hmerge : (s.urgRefresh.weirGranted ch n x aged).mergeInto ch (x.marked u w dl st) = none := by
    refine (State.mergeInto_congr ?_ (fun k => ?_) rfl).trans hm
    · rw [hkept.chan, State.modChan_chan_self]
      rfl
    · by_cases hk : k = n
      · rw [hk, hy, hx]
        rfl
      · rw [State.weirGranted_txn_ne _ _ _ _ _ hk, s.urgRefresh_txn]
  rw [weirGrant_picks ((s.urgRefresh_grants ch).trans hg) hp hy] at ht
  obtain ⟨hq, hout⟩ := State.enterDmc_write hy hk hh hmerge ht
  exact ⟨(hkept.modChan ..).trans hq, _, hout⟩

end

end Sys2Proof.Machine
end

section
/-! PROOF. Weir's windows and the parity of its counts (11 R285, R292), and the statement on Weir's grants. -/

namespace Sys2Proof.Machine

open Sys2Proof

/-! ## Windows and the parity of the counts (R285, R292) -/

/-- The state whose window of a class has ended: the byte count latched, and a new window begun. -/
def State.windowLatched (s : State) (c k i w : Nat) : State :=
  (s.fset WEIR_BYTES.LAST i (smGet (s.chan c).bytes k 0)).modChan c fun x =>
    { x with bytes := smSet x.bytes k 0, winStart := smSet x.winStart k (s.tb / w * w) }

theorem weirWindowEnd_passed {s : State} {cls : Fin 8} {ch : Chan}
    (h : smGet (s.chan ch).winStart cls 0 / (max 1 (s.fget WEIR_WINDOW.US (ch.val * 8 + cls.val)) * 1000) <
      s.tb / (max 1 (s.fget WEIR_WINDOW.US (ch.val * 8 + cls.val)) * 1000)) :
    weirWindowEnd cls ch s = s.windowLatched ch cls (ch.val * 8 + cls.val) (max 1 (s.fget WEIR_WINDOW.US (ch.val * 8 + cls.val)) * 1000) :=
  if_neg h.not_ge

theorem State.windowLatched_work (s : State) (c k i w : Nat) : ChanWork [WEIR_BYTES.LAST] s (s.windowLatched c k i w) :=
  ((ChanWork.refl _ s).set ..).modChan ..

theorem State.windowLatched_chan (s : State) (c k i w : Nat) : (s.windowLatched c k i w).chan c =
    { s.chan c with bytes := smSet (s.chan c).bytes k 0, winStart := smSet (s.chan c).winStart k (s.tb / w * w) } :=
  State.modChan_chan_self ..

/-- A channel whose counts are not trusted: it has no grants (R292). -/
def Channel.stopped (ch : Channel) : Channel := { ch with creditStop := true }

theorem creditParityError_chan (ch : Chan) (s : State) (c : Nat) :
    (creditParityError ch s).chan c = (s.modChan ch Channel.stopped).chan c := by
  rw [State.chan, creditParityError, State.report_chans]
  rfl

/-- Consecutive instances of a field that are all set to one value read it. -/
theorem State.each_fset_fget (f : Fld) (b v : Nat) {k : Nat} {l : List Nat} (s : State)
    (h : k ∈ l ∨ s.fget f (b + k) = v % 2 ^ f.width) :
    (s.each l fun j t => t.fset f (b + j) v).fget f (b + k) = v % 2 ^ f.width := by
  induction l generalizing s with
  | nil => exact h.resolve_left List.not_mem_nil
  | cons j l ih =>
    refine ih _ ?_
    by_cases hk : k = j
    · exact .inr (hk ▸ State.fget_fset_self ..)
    · refine h.imp (fun hm => List.mem_of_ne_of_mem hk hm) fun hv => ?_
      exact (State.fget_fset_inst _ _ (by omega)).trans hv

/-- A channel whose counts are trusted again. -/
def Channel.resumed (ch : Channel) : Channel := { ch with creditStop := false }

/-- The state of a channel whose grants go on, its counts at 0. -/
def State.creditsCleared (s : State) (c : Nat) : State :=
  (s.modChan c Channel.resumed).each (List.range 8) fun k t => t.fset WEIR_OUT.NOW (c * 8 + k) 0

theorem creditResync_empty {s : State} {ch : Chan} (hs : (s.chan ch).creditStop = true) (hr : (s.chan ch).rq = [])
    (hw : (s.chan ch).wq = []) : creditResync ch s = s.creditsCleared ch := by
  simp only [creditResync, hs, hr, hw, List.isEmpty_nil, and_self, if_true]
  rfl

theorem creditResync_waits {s : State} {ch : Chan} (h : (s.chan ch).rq ≠ [] ∨ (s.chan ch).wq ≠ []) : creditResync ch s = s := by
  rcases h with h | h <;> simp [creditResync, h]

/-- Clearing the counts writes them alone. -/
theorem State.creditsCleared_sets (s : State) (c : Nat) :
    FieldsSet [WEIR_OUT.NOW] (s.modChan c Channel.resumed) (s.creditsCleared c) :=
  State.each_keeps (FieldsSet _ _) _ _ (fun k _ ht => ht.set _ (c * 8 + k) 0) (FieldsSet.refl ..)

theorem State.creditsCleared_now (s : State) (c : Nat) {k : Nat} (hk : k < 8) :
    (s.creditsCleared c).fget WEIR_OUT.NOW (c * 8 + k) = 0 :=
  State.each_fset_fget WEIR_OUT.NOW (c * 8) 0 _ (.inl (List.mem_range.2 hk))

/-! ## The statement -/

/-- Settles O52: a grant is the charge of its class and the entry into a queue, on the state whose last outputs are gone; the end of a
window and a resynchronisation write their own fields and channel, and a parity error stops the channel with a report. -/
theorem weirGrants : Obligations.WeirGrants := by
  refine ⟨?read, ?write, ?none, ?window, ?parity, ?resync, ?waits⟩
  case read =>
    intro ch n x aged s hg hp hx hk
    obtain ⟨t, ht⟩ : ∃ t, weirGrant ch s.clearOut = t := ⟨_, rfl⟩
    obtain ⟨hkept, hphase, hnow⟩ := weirGrant_read (s := s.clearOut) hg (s.clearOut_pick.trans hp) hx hk ht
    have hch := hkept.chan_self
    have hbytes : smGet (t.chan ch).bytes x.cls 0 = smGet (s.chan ch).bytes x.cls 0 + x.grantBytes :=
      (congrArg (fun y : Channel => smGet y.bytes x.cls 0) hch).trans (Channel.charged_bytes ..)
    rw [Txn.grantBytes, if_neg (by simp [hk])] at hbytes
    exact ⟨_, volatile_next ht, (congrArg Channel.rq hch :), (congrArg Channel.wq hch :), hphase, hnow, hbytes,
      fun c hc => hkept.chan_ne hc, hkept.dram, rfl, hkept.dir⟩
  case write =>
    intro ch n h x aged s hg hp hx hk hh hm
    obtain ⟨t, ht⟩ : ∃ t, weirGrant ch s.clearOut = t := ⟨_, rfl⟩
    obtain ⟨hkept, dl, hout⟩ := weirGrant_write (s := s.clearOut) hg (s.clearOut_pick.trans hp) hx hk hh hm ht
    have hch := hkept.chan_self
    exact ⟨_, dl, volatile_next ht, (congrArg Channel.wq hch :), (congrArg Channel.rq hch :), hout, hkept.dram, rfl, hkept.dir⟩
  case none =>
    intro ch s h
    obtain ⟨r, hr⟩ := s.clearOut.urgRefresh_sets.exists_eq
    rw [hr]
    exact volatile_ends ((weirGrant_none (s := s.clearOut) (h.imp_right s.clearOut_pick.trans)).trans hr) rfl rfl
  case window =>
    intro cls ch s h
    have hwork := s.clearOut.windowLatched_work ch cls (ch.val * 8 + cls.val)
    have hbytes {w : Nat} := congrArg (fun y : Channel => smGet y.bytes cls 0)
      (s.clearOut.windowLatched_chan ch cls (ch.val * 8 + cls.val) w)
    exact ⟨_, (hwork _).ends (weirWindowEnd_passed (s := s.clearOut) h), State.fget_fset_self .., hbytes.trans (smGet_set_self ..),
      fun i hi => State.fget_fset_inst _ _ hi, fun c hc => State.modChan_chan_ne _ _ hc, rfl, RegsSame.clearOut.trans (hwork _).regs⟩
  case parity =>
    intro ch s
    have hstop : Upkeep faultFlds s (s.clearOut.modChan ch Channel.stopped) := ⟨rfl, RegsSame.clearOut, fun _ _ _ h => h⟩
    have hup : Upkeep faultFlds s (creditParityError ch s.clearOut) := hstop.report ..
    have hchan := creditParityError_chan ch s.clearOut
    exact ⟨_, volatile_kept .., (hchan ch).trans (State.modChan_chan_self ..), State.report_inFault _ _ _ _ _ (by decide),
      fun c hc => (hchan c).trans (State.modChan_chan_ne _ _ hc), hup.kept, hup.regs⟩
  case resync =>
    intro ch s hs hrq hwq
    have hsets := s.clearOut.creditsCleared_sets ch
    obtain ⟨r, hr⟩ := hsets.exists_eq
    exact ⟨_, volatile_ends ((creditResync_empty (s := s.clearOut) hs hrq hwq).trans hr) rfl rfl, s.modChan_chan_self ch Channel.resumed,
      fun k hk => hr ▸ s.clearOut.creditsCleared_now ch hk, fun c hc => s.modChan_chan_ne Channel.resumed hc, rfl,
      hr ▸ (RegsSame.of_regs rfl).trans hsets.regs⟩
  case waits =>
    intro ch s h
    exact volatile_ends (creditResync_waits (s := s.clearOut) h) rfl rfl

end Sys2Proof.Machine
end

section
/-! PROOF. Writes of the drawers' registers: the admin paths' and the drawer page's accesses, bindings and vectors (12 R294-R297, R309). -/

namespace Sys2Proof.Machine

open Sys2Proof

/-! ## Accesses of an admin path and of a drawer's page (R294, R297) -/

/-- What reads neither outputs nor power management reads the same after an access. -/
theorem State.onAccess_reads {β : Type} (g : State → β) (s : State) (p : Path)
    (hg : ∀ (u : State) (o : List Out) (w : Power), g { u with out := o, pwr := w } = g u := by intros; rfl) : g (s.onAccess p) = g s := by
  rw [s.onAccess_eq p]
  exact hg ..

@[simp] theorem State.onAccess_drw (s : State) (p : Path) : (s.onAccess p).drw = s.drw := s.onAccess_reads State.drw p

@[simp] theorem State.onAccess_drawer (s : State) (p : Path) (d : Nat) : (s.onAccess p).drawer d = s.drawer d := s.onAccess_reads (·.drawer d) p

@[simp] theorem State.onAccess_ring (s : State) (p : Path) (d r : Nat) : (s.onAccess p).ring d r = s.ring d r := s.onAccess_reads (·.ring d r) p

section
variable {c : Instr} {p : Path} {d : DrawerId} {f : State → State} {s t : State}

/-- An admin path's write that acts at once ends where its effect ends. -/
theorem adminWrite_open (ho : s.drwOpen p d = true) (ht : f (s.onAccess p) = t) (hn : t.nv = (s.onAccess p).nv := by rfl)
    (hp : t.pending = (s.onAccess p).pending := by rfl) : volatile (adminWrite c p d f) s = .next t := by
  simp only [State.drwOpen, Bool.and_eq_true] at ho
  obtain ⟨⟨hadm, hpath⟩, hex⟩ := ho
  have hmay : ((s.onAccess p).drwAdmin p && (s.onAccess p).drwExists d.val) = true := by
    rw [s.onAccess_reads (·.drwAdmin p) p (by intros; cases p <;> rfl), s.onAccess_reads (·.drwExists d) p, hpath, hex]
    rfl
  exact (access_ends (c := c) (f := fun u => if u.drwAdmin p && u.drwExists d.val then f u else u) hadm ((if_pos hmay).trans ht)
    (hn.trans (s.onAccess_nv p)) (hp.trans (s.onAccess_pending p))).1

/-- A path that is no admin path changes no register of a drawer. -/
theorem adminWrite_refused (ha : s.admits p = true) (hd : s.drwAdmin p = false) :
    volatile (adminWrite c p d f) s = .next (s.onAccess p) := by
  have hmay : ¬ ((s.onAccess p).drwAdmin p && (s.onAccess p).drwExists d.val) = true := by
    rw [s.onAccess_reads (·.drwAdmin p) p (by intros; cases p <;> rfl), hd]
    exact Bool.noConfusion
  exact (access_ends (c := c) (f := fun u => if u.drwAdmin p && u.drwExists d.val then f u else u) ha (if_neg hmay) (s.onAccess_nv p)
    (s.onAccess_pending p)).1

/-- A write in the page of a drawer that acts at once ends where its effect ends. -/
theorem pageWrite_open (ho : s.pageOpen d = true) (ht : f (s.onAccess (s.pagePath d)) = t)
    (hn : t.nv = (s.onAccess (s.pagePath d)).nv := by rfl) (hp : t.pending = (s.onAccess (s.pagePath d)).pending := by rfl) :
    volatile (pageWrite c d f) s = .next t := by
  simp only [State.pageOpen, Bool.and_eq_true] at ho
  obtain ⟨⟨⟨hex, hb⟩, hadm⟩, hmem⟩ := ho
  have hmay : (s.clearOut.drwExists d.val && s.clearOut.drwBound d.val) = true := Bool.and_eq_true_iff.mpr ⟨hex, hb⟩
  have hspace : memSpace ((s.onAccess (s.pagePath d)).head (s.drwHead d)) = true := by rw [State.onAccess_head]; exact hmem
  have hacc := access_ends (c := c) (f := fun u => if memSpace (u.head (s.drwHead d)) then f u else u) hadm ((if_pos hspace).trans ht)
    (hn.trans (s.onAccess_nv _)) (hp.trans (s.onAccess_pending _))
  rw [← hacc.1]
  unfold volatile
  exact congrArg (fun u : State => Host.Outcome.next { u with nv := s.nv, pending := s.pending }) (if_pos hmay)

end

/-! ## Register frames of a drawer's writes -/

/-- A write of a field under one number leaves every other number and field. -/
theorem State.fset_but (s : State) (f : Fld) (i v : Nat) (hf : f.id < 1024) : RegsBut f i s (s.fset f i v) := fun g j hg hne => by
  have hkey : fldKey g j ≠ fldKey f i := by unfold fldKey; omega
  exact smGet_put_ne _ _ _ _ hkey

/-- What an access leaves but for a field under one number. -/
theorem RegsBut.onAccess {f : Fld} {i : Nat} {s t : State} {p : Path} (h : RegsBut f i (s.onAccess p) t) : RegsBut f i s t :=
  fun g j hg hne => (h g j hg hne).trans (s.onAccess_fget p g j)

/-- What an access leaves but for a list of fields. -/
theorem RegsSame.onAccess {l : List Fld} {s t : State} {p : Path} (h : RegsSame l (s.onAccess p) t) : RegsSame l s t :=
  (s.onAccess_regsSame p l).trans h

/-- An ignored write of a drawer sets its ERR (R294, R295, R309, R310). -/
theorem State.bindErr_sets (s : State) (d : Nat) : (s.bindErr d).fget DRW_BIND.ERR d = 1 ∧ RegsBut DRW_BIND.ERR d s (s.bindErr d) :=
  ⟨State.fget_fset_self .., s.fset_but _ _ _ (by decide)⟩

/-! ## Bindings (R294, R295) -/

/-- The registers of a drawer bound to a head under a PASID. -/
def State.boundAs (s : State) (d h pasid : Nat) : State := ((s.fset DRW_BIND.EN d 1).fset DRW_BIND.HEAD d h).fset DRW_BIND.PASID d pasid

section
variable (s : State) (d h pasid : Nat)

theorem State.boundAs_fget (hh : h < 16) (hp : pasid < 2 ^ 20) : (s.boundAs d h pasid).fget DRW_BIND.EN d = 1 ∧
    (s.boundAs d h pasid).fget DRW_BIND.HEAD d = h ∧ (s.boundAs d h pasid).fget DRW_BIND.PASID d = pasid := by
  refine ⟨?_, ?_, (State.fget_fset_self ..).trans (Nat.mod_eq_of_lt hp)⟩
  · simp (disch := decide) only [State.boundAs, State.fget_fset_ne, State.fget_fset_self]
    rfl
  · simp (disch := decide) only [State.boundAs, State.fget_fset_ne, State.fget_fset_self]
    exact Nat.mod_eq_of_lt hh

theorem State.boundAs_other {e : Nat} (he : e ≠ d) : (s.boundAs d h pasid).fget DRW_BIND.EN e = s.fget DRW_BIND.EN e ∧
    (s.boundAs d h pasid).fget DRW_BIND.HEAD e = s.fget DRW_BIND.HEAD e ∧
    (s.boundAs d h pasid).fget DRW_BIND.PASID e = s.fget DRW_BIND.PASID e := by
  refine ⟨?_, ?_, ?_⟩ <;> simp (disch := decide) only [State.boundAs, State.fget_fset_ne, State.fget_fset_inst _ _ he]

theorem State.boundAs_sets : FieldsSet [DRW_BIND.EN, DRW_BIND.HEAD, DRW_BIND.PASID] s (s.boundAs d h pasid) :=
  (((FieldsSet.refl _ s).set _ d 1).set _ d h).set _ d pasid

end

/-- The head's number and the PASID of a bind fit their fields. -/
theorem drwBindWrite_binds {p : Path} {d : DrawerId} {h : Head} {pasid : BitVec 20} {s : State} (ho : s.drwOpen p d = true)
    (hb : s.bindBad d h pasid.toNat = false) :
    exec (.drwBindWrite p d h pasid) s = .next ((s.onAccess p).boundAs d h pasid.toNat) := by
  refine adminWrite_open ho ?_
  exact if_neg (by rw [s.onAccess_reads (·.bindBad d h pasid.toNat) p, hb]; exact Bool.noConfusion)

theorem drwBindWrite_ignored {p : Path} {d : DrawerId} {h : Head} {pasid : BitVec 20} {s : State} (ho : s.drwOpen p d = true)
    (hb : s.bindBad d h pasid.toNat = true) : exec (.drwBindWrite p d h pasid) s = .next ((s.onAccess p).bindErr d) :=
  adminWrite_open ho (if_pos ((s.onAccess_reads (·.bindBad d h pasid.toNat) p).trans hb))

theorem drwUnbind_unbinds {p : Path} {d : DrawerId} {s : State} (ho : s.drwOpen p d = true) (hd : d ≠ 0) (hr : s.ringsOff d = true) :
    exec (.drwUnbind p d) s = .next ((s.onAccess p).fset DRW_BIND.EN d 0) := by
  have hd' : d.val ≠ 0 := fun h => hd (Fin.ext h)
  refine adminWrite_open ho (if_neg ?_)
  rw [s.onAccess_reads (·.ringsOff d) p, hr]
  exact fun h => h.elim hd' Bool.noConfusion

theorem drwUnbind_ignored {p : Path} {d : DrawerId} {s : State} (ho : s.drwOpen p d = true) (h : d = 0 ∨ s.ringsOff d = false) :
    exec (.drwUnbind p d) s = .next ((s.onAccess p).bindErr d) := by
  refine adminWrite_open ho (if_pos ?_)
  rw [s.onAccess_reads (·.ringsOff d) p]
  exact h.imp (congrArg Fin.val) (congrArg not)

/-! ## Vectors (R309) -/

/-- The vector range of a drawer as written. -/
def State.vecsSet (s : State) (d n b : Nat) : State := (s.fset DRW_VEC.COUNT d n).fset DRW_VEC.BASE d b

theorem bits_lt (n lo w : Nat) : bits n lo w < 2 ^ w := by rw [bits_eq]; exact Nat.mod_lt _ (Nat.two_pow_pos w)

theorem State.vecsSet_fget (s : State) (d : Nat) {n b : Nat} (hn : n < 2 ^ 11) (hb : b < 2 ^ 11) :
    (s.vecsSet d n b).fget DRW_VEC.COUNT d = n ∧ (s.vecsSet d n b).fget DRW_VEC.BASE d = b := by
  refine ⟨?_, (State.fget_fset_self ..).trans (Nat.mod_eq_of_lt hb)⟩
  simp (disch := decide) only [State.vecsSet, State.fget_fset_ne, State.fget_fset_self]
  exact Nat.mod_eq_of_lt hn

/-- A range that is empty, or within 64-2,047 and apart from the head's other drawers, is taken. -/
theorem State.vecWrite_taken {s : State} {d v : Nat} (h : bits v 16 11 = 0 ∨ (64 ≤ bits v 0 11 ∧ bits v 0 11 + bits v 16 11 ≤ 2048 ∧
    ∀ e ∈ s.boundTo (s.drwHead d), e ≠ d → overlaps (bits v 0 11) (bits v 16 11) (s.fget DRW_VEC.BASE e) (s.fget DRW_VEC.COUNT e) = false)) :
    s.vecWrite d v = s.vecsSet d (bits v 16 11) (bits v 0 11) := by
  refine if_neg ?_
  rintro ⟨hn, hbad⟩
  obtain ⟨hlo, hhi, hclash⟩ := h.resolve_left hn
  rcases hbad with hbad | hbad | hbad
  · omega
  · omega
  · obtain ⟨e, he, hov⟩ := List.any_eq_true.mp hbad
    rw [Bool.and_eq_true, bne_iff_ne] at hov
    exact absurd (hclash e he hov.1) (by rw [hov.2]; exact Bool.noConfusion)

/-- A range that leaves 64-2,047 is ignored. -/
theorem State.vecWrite_ignored {s : State} {d v : Nat} (hn : bits v 16 11 ≠ 0) (h : bits v 0 11 < 64 ∨ 2048 < bits v 0 11 + bits v 16 11) :
    s.vecWrite d v = s.bindErr d :=
  if_pos ⟨hn, h.imp_right .inl⟩

end Sys2Proof.Machine
end

section
/-! PROOF. Rings of a drawer and its interrupt entries: what enabling, closing, doorbells and unmasking change (12 R298-R301, R309-R311). -/

namespace Sys2Proof.Machine

open Sys2Proof

/-! ## Visits of a list of updates -/

/-- What the visit of a member establishes, from what the other visits keep before it, and keep after it, holds after the list. -/
theorem State.each_visits {α : Type} (I Q : State → Prop) {l : List α} {f : α → State → State} {a : α} (hl : l.Nodup) (ha : a ∈ l)
    (hI : ∀ b ∈ l, b ≠ a → ∀ u, I u → I (f b u)) (hf : ∀ u, I u → Q (f a u)) (hQ : ∀ b ∈ l, b ≠ a → ∀ u, Q u → Q (f b u)) {s : State}
    (hs : I s) : Q (s.each l f) := by
  induction l generalizing s with
  | nil => cases ha
  | cons b l ih =>
    obtain ⟨hb, hl⟩ := List.nodup_cons.mp hl
    by_cases hab : b = a
    · subst hab
      exact State.each_keeps_mem Q l f (fun c hc u => hQ c (List.mem_cons_of_mem _ hc) (fun e => hb (e ▸ hc)) u) (hf s hs)
    · exact ih hl ((List.mem_cons.mp ha).resolve_left fun e => hab e.symm) (fun c hc => hI c (List.mem_cons_of_mem _ hc))
        (fun c hc => hQ c (List.mem_cons_of_mem _ hc)) (hI b List.mem_cons_self hab s hs)

/-- What the visit of a member establishes in any state, and every visit keeps, holds after the list. -/
theorem State.each_reaches {α : Type} (Q : State → Prop) {l : List α} {f : α → State → State} {a : α} (ha : a ∈ l)
    (hf : ∀ u, Q (f a u)) (hQ : ∀ b ∈ l, ∀ u, Q u → Q (f b u)) (s : State) : Q (s.each l f) := by
  induction l generalizing s with
  | nil => cases ha
  | cons b l ih =>
    rcases List.mem_cons.mp ha with rfl | ha
    · exact State.each_keeps_mem Q l f (fun c hc => hQ c (List.mem_cons_of_mem _ hc)) (hf s)
    · exact ih ha (fun c hc => hQ c (List.mem_cons_of_mem _ hc)) _

/-! ## Rings by number -/

theorem State.modRing_ring_ne (s : State) {d r e k : Nat} (f : RingSt → RingSt) (h : e ≠ d ∨ k ≠ r) : (s.modRing d r f).ring e k = s.ring e k := by
  unfold State.modRing State.ring
  by_cases he : e = d
  · subst he
    rw [State.modDrawer_drawer_self]
    exact smGet_mod_ne _ _ _ _ (h.resolve_left fun h => h rfl)
  · rw [State.modDrawer_drawer_ne _ _ he]

theorem State.modRing_drawer_ne (s : State) {d e : Nat} (r : Nat) (f : RingSt → RingSt) (he : e ≠ d) : (s.modRing d r f).drawer e = s.drawer e :=
  s.modDrawer_drawer_ne _ he

/-- The state without its drawers' parts: rings, interrupt entries and marks. -/
def State.offRings (s : State) : State := { s with drw := { s.drw with drawers := [] } }

/-- Whether a ring has operations in flight is read from the operations and their drawer's generation. -/
theorem State.ringBusy_congr {s t : State} (ho : t.drw.ops = s.drw.ops) (hg : ∀ i, t.fget DRW_STATE.GEN i = s.fget DRW_STATE.GEN i) (d r : Nat) :
    t.ringBusy d r = s.ringBusy d r := by
  simp only [State.ringBusy, State.opCurrent, ho, hg]

/-! ## Rings closing (R301, R311) -/

/-- A ring that closes with operations in flight, and one that closes for good. -/
def RingSt.closes (x : RingSt) : RingSt := { x with closing := true }
def RingSt.ended (past : Prop) [Decidable past] (x : RingSt) : RingSt := { x with state := 0, closing := false, cause := if past then 5 else 0 }

section
variable {s : State} {d r : Nat}

theorem State.ringClose_busy (h : (s.ring d r).state ≠ 0) (hb : s.ringBusy d r = true) :
    s.ringClose d r = s.modRing d r RingSt.closes :=
  (if_neg h).trans (if_pos (.inr hb))

theorem State.ringClose_idle (h : (s.ring d r).state ≠ 0) (hb : s.ringBusy d r = false) :
    s.ringClose d r = (s.modRing d r RingSt.closes).modRing d r (RingSt.ended (s.fget DRW_LIMIT.RINGS d < r)) := by
  refine (if_neg h).trans (if_neg ?_)
  rintro (hc | hc)
  · rw [State.modRing_ring_self] at hc
    exact Bool.noConfusion hc
  · exact Bool.noConfusion (hb.symm.trans hc)

/-- What a ring that closes is afterwards, with operations in flight or with none. -/
theorem State.ringClose_ring (h : (s.ring d r).state ≠ 0) : (s.ringClose d r).ring d r =
    if s.ringBusy d r = true then (s.ring d r).closes else (s.ring d r).closes.ended (s.fget DRW_LIMIT.RINGS d < r) := by
  by_cases hb : s.ringBusy d r = true
  · rw [State.ringClose_busy h hb, State.modRing_ring_self, if_pos hb]
  · rw [State.ringClose_idle h (Bool.eq_false_iff.mpr hb), State.modRing_ring_self, State.modRing_ring_self, if_neg hb]

variable (s d r)

/-- What two changes of a ring keep, its closing keeps. -/
theorem State.ringClose_keeps (P : State → Prop) (hmod : ∀ s f, P s → P (s.modRing d r f)) (hs : P s) : P (s.ringClose d r) := by
  unfold State.ringClose State.ringEnd
  split
  · exact hs
  · split
    · exact hmod _ _ hs
    · exact hmod _ _ (hmod _ _ hs)

theorem State.ringClose_ring_ne {k : Nat} (hk : k ≠ r) : (s.ringClose d r).ring d k = s.ring d k :=
  State.ringClose_keeps s d r (fun t => t.ring d k = s.ring d k) (fun t f h => (t.modRing_ring_ne f (.inr hk)).trans h) rfl

theorem State.ringClose_drawer_ne {e : Nat} (he : e ≠ d) : (s.ringClose d r).drawer e = s.drawer e :=
  State.ringClose_keeps s d r (fun t => t.drawer e = s.drawer e) (fun t f h => (t.modRing_drawer_ne r f he).trans h) rfl

theorem State.ringClose_off : (s.ringClose d r).offRings = s.offRings :=
  State.ringClose_keeps s d r (fun t => t.offRings = s.offRings) (fun _ _ h => h) rfl

/-- The rings that a limit no longer covers (R311). -/
def ringsOver (n : Nat) : List Nat := (List.range 4).filter fun r => decide (n < r)

theorem mem_ringsOver {n r : Nat} : r ∈ ringsOver n ↔ r < 4 ∧ n < r := by simp [ringsOver]

theorem ringsOver_nodup (n : Nat) : (ringsOver n).Nodup := List.nodup_range.filter _

theorem State.ringsShrink_off : (s.ringsShrink d).offRings = s.offRings :=
  State.each_inv State.offRings _ _ (fun r t => t.ringClose_off d r) s

theorem State.ringsShrink_drawer_ne {e : Nat} (he : e ≠ d) : (s.ringsShrink d).drawer e = s.drawer e :=
  State.each_inv (State.drawer · e) _ _ (fun r t => t.ringClose_drawer_ne d r he) s

/-- A ring that the limit covers stays as it is. -/
theorem State.ringsShrink_covered {k : Nat} (hk : k ≤ s.fget DRW_LIMIT.RINGS d) : (s.ringsShrink d).ring d k = s.ring d k :=
  State.each_keeps_mem (fun t => t.ring d k = s.ring d k) (ringsOver _) _
    (fun r hr t h => (t.ringClose_ring_ne d r (by have := (mem_ringsOver.mp hr).2; omega)).trans h) rfl

variable {s d r}

/-- A ring above the limit closes. -/
theorem State.ringsShrink_over (hr : r < 4) (hn : s.fget DRW_LIMIT.RINGS d < r) (h : (s.ring d r).state ≠ 0) :
    (s.ringsShrink d).ring d r = if s.ringBusy d r = true then (s.ring d r).closes else (s.ring d r).closes.ended True := by
  refine State.each_visits (fun t => t.ring d r = s.ring d r ∧ t.offRings = s.offRings)
    (fun t => t.ring d r = if s.ringBusy d r = true then (s.ring d r).closes else (s.ring d r).closes.ended True)
    (ringsOver_nodup _) (mem_ringsOver.mpr ⟨hr, hn⟩) (fun k _ hk t ht => ?_) (fun t ht => ?_) (fun k _ hk t ht => ?_) ⟨rfl, rfl⟩
  · exact ⟨(t.ringClose_ring_ne d k hk.symm).trans ht.1, (t.ringClose_off d k).trans ht.2⟩
  · obtain ⟨hring, hoff⟩ := ht
    have hbusy : t.ringBusy d r = s.ringBusy d r := (congrArg (State.ringBusy · d r) hoff :)
    have hlim : t.fget DRW_LIMIT.RINGS d = s.fget DRW_LIMIT.RINGS d := (congrArg (State.fget · DRW_LIMIT.RINGS d) hoff :)
    rw [State.ringClose_ring (hring ▸ h), hring, hbusy, hlim]
    simp only [hn]
  · exact (t.ringClose_ring_ne d k hk.symm).trans ht

end

/-! ## Limits (R310, R311) -/

/-- The limits of a drawer as written. -/
def State.limitsSet (s : State) (d v : Nat) : State :=
  ((s.fset DRW_LIMIT.RINGS d (bits v 29 2)).fset DRW_LIMIT.OPS d (bits v 16 13)).fset DRW_LIMIT.SHARE d (bits v 0 11)

section
variable (s : State) (d v : Nat)

theorem State.limitsSet_fget : (s.limitsSet d v).fget DRW_LIMIT.OPS d = bits v 16 13 ∧ (s.limitsSet d v).fget DRW_LIMIT.RINGS d = bits v 29 2 ∧
    (s.limitsSet d v).fget DRW_LIMIT.SHARE d = bits v 0 11 := by
  refine ⟨?_, ?_, (State.fget_fset_self ..).trans (Nat.mod_eq_of_lt (bits_lt ..))⟩
  · simp (disch := decide) only [State.limitsSet, State.fget_fset_ne, State.fget_fset_self]
    exact Nat.mod_eq_of_lt (bits_lt ..)
  · simp (disch := decide) only [State.limitsSet, State.fget_fset_ne, State.fget_fset_self]
    exact Nat.mod_eq_of_lt (bits_lt ..)

theorem State.limitsSet_sets : FieldsSet [DRW_LIMIT.OPS, DRW_LIMIT.RINGS, DRW_LIMIT.SHARE] s (s.limitsSet d v) :=
  (((FieldsSet.refl _ s).set _ d _).set _ d _).set _ d _

theorem State.limitsSet_ringBusy (r : Nat) : (s.limitsSet d v).ringBusy d r = s.ringBusy d r :=
  State.ringBusy_congr (s := s) (t := s.limitsSet d v) rfl (fun i => (s.limitsSet_sets d v).fget (f := DRW_STATE.GEN) i) d r

end

theorem State.limitWrite_taken {s : State} {d v : Nat} (h : s.opsSum d (bits v 16 13) ≤ 4096) :
    s.limitWrite d v = (s.limitsSet d v).ringsShrink d := if_neg (Nat.not_lt.mpr h)

/-! ## Enabling, disabling and resuming (R301, R317) -/

/-- A record that was held is written. -/
def State.heldWritten (s : State) (n : Nat) : State :=
  match smFind? s.drw.ops n with
  | some o => match o.status with
    | some st => s.opComplete n o st
    | none => s
  | none => s

theorem State.heldWritten_some {s : State} {n st : Nat} {o : Op} (hn : smFind? s.drw.ops n = some o) (hst : o.status = some st) :
    s.heldWritten n = s.opComplete n o st := by
  unfold State.heldWritten
  rw [hn]
  dsimp only
  rw [hst]

section
variable {s : State} {d r : Nat}

theorem State.ringEnable_starts (h0 : (s.ring d r).state = 0) (hr : (s.drawer d).resetting = false) (hv : s.ringValid d r = true) :
    s.ringEnable d r = (s.modRing d r fun _ => { state := 1 }).fset DRW_RCFG.EN (4 * d + r) 1 := by
  simp [State.ringEnable, h0, hr, hv]

theorem State.ringEnable_invalid (h0 : (s.ring d r).state = 0) (hr : (s.drawer d).resetting = false) (hv : s.ringValid d r = false) :
    s.ringEnable d r = s.modRing d r fun x => { x with cause := 1 } := by
  simp [State.ringEnable, h0, hr, hv]

/-- A ring that resumes, its held records written next. -/
def RingSt.resumed (x : RingSt) : RingSt := { x with state := 1, cause := 0, held := [] }

/-- A paused ring resumes, and its held records are written in order. -/
theorem State.ringResume_goes (h2 : (s.ring d r).state = 2) (hc : (s.ring d r).cause ≠ 3 ∨ s.hostReach d = true) :
    s.ringResume d r = (s.modRing d r RingSt.resumed).each (s.ring d r).held fun n s => s.heldWritten n := by
  refine if_neg ?_
  rintro (h | ⟨h3, hreach⟩)
  · exact h h2
  · rcases hc with hc | hc
    · exact hc h3
    · rw [hc] at hreach
      exact Bool.noConfusion hreach

theorem State.ringResume_noRecord (h2 : (s.ring d r).state = 2) (hc : (s.ring d r).cause ≠ 3 ∨ s.hostReach d = true)
    (hh : (s.ring d r).held = []) : s.ringResume d r = s.modRing d r RingSt.resumed := by
  rw [State.ringResume_goes h2 hc, hh]
  rfl

theorem RingSt.resumed_noRecord {x : RingSt} (h : x.held = []) : x.resumed = { x with state := 1, cause := 0 } := by
  rw [RingSt.resumed, ← h]

end

/-! ## Doorbells (R300) -/

/-- A doorbell has been seen: the drawer engines' clock is asked for, and the doorbell counted. -/
def State.rung (s : State) (d : Nat) : State := (s.unitStart 1).count 8 4 { drw := some d }

section
variable (s : State) (d : Nat)

theorem State.rung_off : (s.rung d).offFault = ({ s with boot := (s.unitStart 1).boot } : State).offFault := by
  refine (offFault_of_offCount (State.count_off ..)).trans ?_
  rw [s.unitStart_eq 1]

@[simp] theorem State.rung_drw : (s.rung d).drw = s.drw := (congrArg State.drw (s.rung_off d) :)
@[simp] theorem State.rung_dram : (s.rung d).dram = s.dram := (congrArg State.dram (s.rung_off d) :)
@[simp] theorem State.rung_nv : (s.rung d).nv = s.nv := (congrArg State.nv (s.rung_off d) :)
@[simp] theorem State.rung_pending : (s.rung d).pending = s.pending := (congrArg State.pending (s.rung_off d) :)

theorem State.rung_regs : RegsSame pmuFlds s (s.rung d) := by
  refine RegsSame.trans (RegsSame.of_regs ?_) ((s.unitStart 1).count_regs 8 4 _ 1)
  rw [s.unitStart_eq 1]

theorem State.rung_ring (e k : Nat) : (s.rung d).ring e k = s.ring e k := by
  rw [State.ring, State.drawer, State.rung_drw]
  rfl

theorem State.rung_drawer (e : Nat) : (s.rung d).drawer e = s.drawer e := by
  rw [State.drawer, State.rung_drw]
  rfl

end

/-- A doorbell that is ignored raises DRW class 1, and changes no drawer. -/
theorem State.doorbellBad_reports (s : State) (d r : Nat) {t : State} (ht : (s.rung d).doorbellBad d r = t) :
    t.inFault setDRW 1 = true ∧ t.drw = s.drw ∧ t.dram = s.dram ∧ t.nv = s.nv ∧ t.pending = s.pending ∧
      RegsSame (faultFlds ++ pmuFlds) s t := by
  subst ht
  refine ⟨State.report_inFault _ _ _ _ _ (by decide), ?_, ?_, ?_, ?_, ((s.rung_regs d).mono (by decide)).trans (((s.rung d).report_regs setDRW 1 _ 0).mono (by decide))⟩
  · exact (State.report_drw ..).trans (s.rung_drw d)
  · exact (State.report_dram ..).trans (s.rung_dram d)
  · exact (State.report_nv ..).trans (s.rung_nv d)
  · exact (State.report_pending ..).trans (s.rung_pending d)

/-- An index of a ring moves, on the state in which the doorbell has been seen. -/
theorem State.rung_modRing (s : State) (d r : Nat) (f : RingSt → RingSt) {t : State} (ht : (s.rung d).modRing d r f = t) :
    t.ring d r = f (s.ring d r) ∧ (∀ k, k ≠ r → t.ring d k = s.ring d k) ∧ (∀ e, e ≠ d → t.drawer e = s.drawer e) ∧ t.dram = s.dram ∧
      t.nv = s.nv ∧ t.pending = s.pending ∧ RegsSame pmuFlds s t := by
  subst ht
  refine ⟨?_, fun k hk => ?_, fun e he => ?_, s.rung_dram d, s.rung_nv d, s.rung_pending d, s.rung_regs d⟩
  · rw [State.modRing_ring_self, State.rung_ring]
  · rw [State.modRing_ring_ne _ _ (.inr hk), State.rung_ring]
  · rw [State.modRing_drawer_ne _ _ _ he, State.rung_drawer]

/-! ## Interrupt entries (R309) -/

/-- The entries of a drawer with one unmasked. -/
def State.entryOpen (s : State) (d k : Nat) : State :=
  s.modDrawer d fun x => { x with irqs := smMod x.irqs k {} fun y => { y with mask := false } }

theorem State.entryOpen_entry (s : State) (d k : Nat) :
    smGet ((s.entryOpen d k).drawer d).irqs k {} = { smGet (s.drawer d).irqs k {} with mask := false } := by
  rw [State.entryOpen, State.modDrawer_drawer_self]
  exact smGet_mod_self (s.drawer d).irqs k {} fun y => { y with mask := false }

section
variable {s : State} {d k : Nat} {x : IrqEntry} (hx : smGet (s.drawer d).irqs k {} = x)
include hx

theorem State.entryUnmask_waits (h : x.pend = false ∨ entryHeld (s.head (s.drwHead d)) = true) : s.entryUnmask d k = s.entryOpen d k := by
  refine if_pos ?_
  have he := hx ▸ s.entryOpen_entry d k
  have hheld : entryHeld ((s.entryOpen d k).head ((s.entryOpen d k).drwHead d)) = entryHeld (s.head (s.drwHead d)) := rfl
  unfold State.entryOpen at he hheld
  rw [he, hheld]
  rcases h with h | h <;> simp [h]

/-- An entry that waits, and that nothing holds any more, is sent. -/
theorem State.entryUnmask_sends (hb : s.drwBound d = true) (hp : x.pend = true) (hv : x.vec = false)
    (hh : entryHeld (s.head (s.drwHead d)) = false) : s.entryUnmask d k =
      ((s.entryOpen d k).modDrawer d fun y => { y with irqs := smSet y.irqs k { x with mask := false, pend := false } }).emit
        (.irqWrite (Fin.ofNat 16 (s.drwHead d)) x.addr x.data) := by
  have he := hx ▸ s.entryOpen_entry d k
  have hheld : entryHeld ((s.entryOpen d k).head ((s.entryOpen d k).drwHead d)) = entryHeld (s.head (s.drwHead d)) := rfl
  have hbound : (s.entryOpen d k).drwBound d = s.drwBound d := rfl
  have hgo : ¬ (!(smGet ((s.entryOpen d k).drawer d).irqs k {}).pend || (smGet ((s.entryOpen d k).drawer d).irqs k {}).mask ||
      !(s.entryOpen d k).drwBound d || entryHeld ((s.entryOpen d k).head ((s.entryOpen d k).drwHead d))) = true := by
    rw [he, hheld, hbound, hb, hh, hp]
    exact Bool.noConfusion
  refine (if_neg hgo).trans ?_
  rw [← State.entryOpen, he, State.entrySend, hv]
  rfl

end

end Sys2Proof.Machine
end

section
/-! PROOF. Resets of drawers: the generation that advances, operations squashed, drains that end (12 R312-R316). -/

namespace Sys2Proof.Machine

open Sys2Proof

/-! ## Members of the sparse store -/

theorem mem_smDel {α : Type} {m : SMap α} {k : Nat} {e : Nat × α} : e ∈ smDel m k ↔ e ∈ m ∧ e.1 ≠ k := by simp [smDel]

theorem mem_of_smFind? {α : Type} {m : SMap α} {k : Nat} {v : α} (h : smFind? m k = some v) : (k, v) ∈ m := by
  induction m with
  | nil => cases h
  | cons e m ih =>
    obtain ⟨j, w⟩ := e
    by_cases hk : k = j
    · subst hk
      simp only [smFind?, if_true, Option.some.injEq] at h
      exact h ▸ List.mem_cons_self
    · simp only [smFind?, hk, if_false] at h
      exact List.mem_cons_of_mem _ (ih h)

theorem mem_smSet {α : Type} {m : SMap α} {k : Nat} {v : α} {e : Nat × α} (h : e ∈ smSet m k v) : e = (k, v) ∨ e ∈ m := by
  induction m with
  | nil => exact .inl (List.mem_singleton.mp h)
  | cons x m ih =>
    obtain ⟨j, w⟩ := x
    unfold smSet at h
    split at h
    · exact List.mem_cons.mp h
    · split at h
      · exact (List.mem_cons.mp h).imp_right (List.mem_cons_of_mem _)
      · rcases List.mem_cons.mp h with rfl | h
        · exact .inr List.mem_cons_self
        · exact (ih h).imp_right (List.mem_cons_of_mem _)

/-- Changing one key's value leaves the entries of the others. -/
theorem mem_of_mem_smAdj {α : Type} {m : SMap α} {k : Nat} {f : α → α} {e : Nat × α} (h : e ∈ smAdj m k f) (hk : e.1 ≠ k) : e ∈ m := by
  unfold smAdj at h
  split at h
  · exact (mem_smSet h).resolve_left fun he => hk (congrArg Prod.fst he)
  · exact h

/-! ## Operations leave the table -/

/-- The state without its table of operations. -/
def State.offOps (s : State) : State := { s with drw := { s.drw with ops := [] } }

/-- Members of a list of entries are taken out of the table, one after the other. -/
theorem State.each_ops_gone {l : List (Nat × Op)} {f : Nat × Op → State → State}
    (hf : ∀ a u e, e ∈ (f a u).drw.ops → e ∈ u.drw.ops ∧ e.1 ≠ a.1) {s : State} {e : Nat × Op} (he : e ∈ (s.each l f).drw.ops) :
    e ∈ s.drw.ops ∧ ∀ a ∈ l, e.1 ≠ a.1 := by
  induction l generalizing s with
  | nil => exact ⟨he, fun a ha => nomatch ha⟩
  | cons b l ih =>
    obtain ⟨hmem, hne⟩ := ih he
    obtain ⟨hmem, hb⟩ := hf b s e hmem
    exact ⟨hmem, fun a ha => (List.mem_cons.mp ha).elim (fun h => h ▸ hb) (hne a)⟩

/-- With the entries of all its operations taken out, a drawer has no operation. -/
theorem State.drwOps_gone {f : Nat × Op → State → State} (hf : ∀ a u e, e ∈ (f a u).drw.ops → e ∈ u.drw.ops ∧ e.1 ≠ a.1) (s : State) (d : Nat)
    {e : Nat × Op} (he : e ∈ (s.each (s.drwOps d) f).drw.ops) : e.2.drawer ≠ d := fun hd => by
  obtain ⟨hmem, hne⟩ := State.each_ops_gone hf he
  exact hne e (List.mem_filter.mpr ⟨hmem, beq_iff_eq.mpr hd⟩) rfl

theorem State.dropOp_mem {a : Nat × Op} {s : State} {e : Nat × Op} (he : e ∈ (s.dropOp a.1).drw.ops) : e ∈ s.drw.ops ∧ e.1 ≠ a.1 :=
  mem_smDel.mp he

theorem State.squashOp_mem {a : Nat × Op} {s : State} {e : Nat × Op} (he : e ∈ (s.squashOp a.1 a.2).drw.ops) : e ∈ s.drw.ops ∧ e.1 ≠ a.1 := by
  obtain ⟨hmem, hne⟩ := mem_smDel.mp he
  have htags : (s.each a.2.tags fun t s => s.quarantine (s.drwHead a.2.drawer) t (2 + a.2.drawer)).drw = s.drw :=
    State.each_inv State.drw a.2.tags (fun t s => s.quarantine (s.drwHead a.2.drawer) t (2 + a.2.drawer)) (fun _ _ => rfl) s
  exact ⟨htags ▸ mem_of_mem_smAdj hmem hne, hne⟩

/-! ## Writes of fields, one list after the other -/

theorem FieldsSet.mono {l m : List Fld} {s t : State} (h : FieldsSet l s t) (hm : ∀ n ∈ l.map (·.id), n ∈ m.map (·.id)) : FieldsSet m s t :=
  ⟨h.off, h.regs.mono hm⟩

theorem FieldsSet.trans {l : List Fld} {s t u : State} (h : FieldsSet l s t) (k : FieldsSet l t u) : FieldsSet l s u :=
  ⟨k.off.trans h.off, h.regs.trans k.regs⟩

/-- A change of a drawer's parts does not meet the registers. -/
theorem FieldsSet.modDrawer {l : List Fld} {s t : State} (h : FieldsSet l s t) (d : Nat) (f : Drawer → Drawer) :
    FieldsSet l (s.modDrawer d f) (t.modDrawer d f) :=
  ⟨congrArg (fun x : State => x.modDrawer d f) h.off, h.regs⟩

/-! ## The steps of a reset (R312-R315) -/

/-- The operations with nothing outstanding leave the table (R313). -/
def State.opsFreed (s : State) (d : Nat) : State :=
  s.each (s.drwOps d) fun e s => if e.2.tags.isEmpty && e.2.outst == 0 then s.dropOp e.1 else s

/-- What a reset clears of a drawer's own parts (R312). -/
def Drawer.cleared (x : Drawer) : Drawer :=
  { x with rings := [], irqs := smMap x.irqs fun _ e => { e with mask := true, pend := false }, userCtr := [] }

/-- The registers of a ring, and of the rings of a drawer, return to their reset values. -/
def State.ringFldsReset (s : State) (i : Nat) : State := s.each ringResetFlds fun f s => s.fset f i (fldReset f i)
def State.ringRegsReset (s : State) (d : Nat) : State := s.each (List.range 4) fun r s => s.ringFldsReset (4 * d + r)

/-- A reset that was asked for by GO is done, with its result. -/
def State.resetDone (s : State) (d result : Nat) : State :=
  if s.fone DRW_RESET.GO d then ((s.fset DRW_RESET.GO d 0).fset DRW_RESET.DONE d 1).fset DRW_RESET.RESULT d result else s

/-- A binding ends with the reset that was to end it (R316). -/
def State.bindingOver (s : State) (d : Nat) : State := if (s.drawer d).unbindAfter then s.unbindDrawer d else s

/-- A drawer after its reset. -/
def Drawer.reset (x : Drawer) : Drawer := { x with resetting := false, unbindAfter := false }

/-- The state in which a drawer's next generation begins. -/
def State.nextGen (s : State) (d : Nat) : State := (s.fset DRW_STATE.GEN d ((s.fget DRW_STATE.GEN d + 1) % 65536)).opsFreed d

section
variable (s : State) (d result : Nat)

theorem State.clearDrawer_eq : s.clearDrawer d =
    (((s.modDrawer d Drawer.cleared).fset DRW_VEC.COUNT d 0).fset DRW_VEC.BASE d 0).ringRegsReset d := rfl

theorem State.advanceGen_eq : s.advanceGen d result =
    ((((s.nextGen d).clearDrawer d).resetDone d result).bindingOver d).modDrawer d Drawer.reset := rfl

/-! ### Operations -/

theorem State.opsFreed_off : (s.opsFreed d).offOps = s.offOps :=
  State.each_inv State.offOps _ _ (fun e t => by split <;> rfl) s

theorem State.opsFreed_mem {e : Nat × Op} (he : e ∈ (s.opsFreed d).drw.ops) : e ∈ s.drw.ops := by
  refine State.each_keeps (fun t => e ∈ t.drw.ops → e ∈ s.drw.ops) _ _ (fun a t h => ?_) id he
  split
  · exact fun hmem => h (mem_smDel.mp hmem).1
  · exact h

/-- A number that none of the drawer's operations has keeps its operation. -/
theorem State.opsFreed_other {k : Nat} (hk : ∀ e ∈ s.drwOps d, e.1 ≠ k) : smFind? (s.opsFreed d).drw.ops k = smFind? s.drw.ops k := by
  refine State.each_keeps_mem (fun t => smFind? t.drw.ops k = smFind? s.drw.ops k) _ _ (fun e he t h => ?_) rfl
  split
  · exact (smFind?_del_ne _ (hk e he).symm).trans h
  · exact h

/-- An operation with nothing outstanding has left. -/
theorem State.opsFreed_idle {k : Nat} {o : Op} (ho : smFind? s.drw.ops k = some o) (hd : o.drawer = d) (ht : o.tags = []) (hn : o.outst = 0) :
    smFind? (s.opsFreed d).drw.ops k = none := by
  have hmem : (k, o) ∈ s.drwOps d := List.mem_filter.mpr ⟨mem_of_smFind? ho, beq_iff_eq.mpr hd⟩
  refine State.each_reaches (fun t => smFind? t.drw.ops k = none) hmem (fun t => ?_) (fun e _ t h => ?_) s
  · rw [if_pos (by rw [ht, hn]; rfl)]
    exact smFind?_del_self ..
  · split
    · by_cases hk : k = e.1
      · rw [hk]
        exact smFind?_del_self ..
      · exact (smFind?_del_ne _ hk).trans h
    · exact h

/-! ### Registers -/

theorem State.ringFldsReset_sets (i : Nat) : FieldsSet ringResetFlds s (s.ringFldsReset i) := by
  have hid : ∀ f ∈ ringResetFlds, f.id < 1024 ∧ f.id ∈ ringResetFlds.map (·.id) := by decide
  exact State.each_keeps_mem (FieldsSet ringResetFlds s) _ _ (fun f hf t h => h.set f i _ (hid f hf)) (FieldsSet.refl _ s)

theorem State.ringRegsReset_sets : FieldsSet ringResetFlds s (s.ringRegsReset d) :=
  State.each_keeps (FieldsSet ringResetFlds s) _ _ (fun _ t h => h.trans (t.ringFldsReset_sets _)) (FieldsSet.refl _ s)

/-- A ring whose registers are reset is switched off, and one that is off stays off. -/
theorem State.ringFldsReset_en (i : Nat) : (s.ringFldsReset i).fget DRW_RCFG.EN i = 0 := by
  have hid : ∀ f ∈ ringResetFlds, f ≠ DRW_RCFG.EN → f.id < 1024 ∧ DRW_RCFG.EN.id ≠ f.id := by decide
  refine State.each_visits (fun _ => True) (fun t => t.fget DRW_RCFG.EN i = 0) (by decide) (by decide : DRW_RCFG.EN ∈ ringResetFlds)
    (fun _ _ _ _ _ => trivial) (fun t _ => State.fget_fset_self ..) (fun f hf hne t h => ?_) trivial
  exact (State.fget_fset_ne _ _ _ _ (by decide) (hid f hf hne).1 (hid f hf hne).2).trans h

theorem State.ringFldsReset_en_keeps {s : State} {i j : Nat} (h : s.fget DRW_RCFG.EN j = 0) : (s.ringFldsReset i).fget DRW_RCFG.EN j = 0 := by
  by_cases hij : j = i
  · subst hij
    exact State.ringFldsReset_en s j
  · have hid : ∀ f ∈ ringResetFlds, f.id < 1024 := by decide
    have hone (f : Fld) (hf : f ∈ ringResetFlds) (t : State) (ht : t.fget DRW_RCFG.EN j = 0) :
        (t.fset f i (fldReset f i)).fget DRW_RCFG.EN j = 0 :=
      (t.fset_but f i (fldReset f i) (hid f hf) DRW_RCFG.EN j (by decide) (.inr hij)).trans ht
    exact State.each_keeps_mem (fun t => t.fget DRW_RCFG.EN j = 0) ringResetFlds (fun f s => s.fset f i (fldReset f i)) hone h

/-- Every ring of a drawer that is reset is switched off. -/
theorem State.ringRegsReset_en {r : Nat} (hr : r < 4) : (s.ringRegsReset d).fget DRW_RCFG.EN (4 * d + r) = 0 :=
  State.each_reaches (fun t => t.fget DRW_RCFG.EN (4 * d + r) = 0) (f := fun r s => s.ringFldsReset (4 * d + r)) (List.mem_range.mpr hr)
    (fun t => t.ringFldsReset_en _) (fun _ _ _ h => State.ringFldsReset_en_keeps h) s

/-- Fields that the clearing of a drawer writes. -/
def clearFlds : List Fld := [DRW_VEC.COUNT, DRW_VEC.BASE] ++ ringResetFlds

theorem State.clearDrawer_sets : FieldsSet clearFlds (s.modDrawer d Drawer.cleared) (s.clearDrawer d) := by
  rw [State.clearDrawer_eq]
  exact (((FieldsSet.refl _ (s.modDrawer d Drawer.cleared)).set _ d 0).set _ d 0).trans ((State.ringRegsReset_sets _ d).mono (by decide))

theorem State.clearDrawer_count : (s.clearDrawer d).fget DRW_VEC.COUNT d = 0 := by
  rw [State.clearDrawer_eq, (State.ringRegsReset_sets _ d).fget d, State.fget_fset_ne _ _ _ _ (by decide) (by decide) (by decide)]
  exact State.fget_fset_self ..

theorem State.clearDrawer_en {r : Nat} (hr : r < 4) : (s.clearDrawer d).fget DRW_RCFG.EN (4 * d + r) = 0 := by
  rw [State.clearDrawer_eq]
  exact State.ringRegsReset_en _ d hr

theorem State.resetDone_sets : FieldsSet [DRW_RESET.GO, DRW_RESET.DONE, DRW_RESET.RESULT] s (s.resetDone d result) :=
  ((((FieldsSet.refl _ s).set _ d 0).set _ d 1).set _ d result).ite (FieldsSet.refl _ s)

/-- A reset that GO asked for is done, with its result. -/
theorem State.resetDone_fget (hg : s.fget DRW_RESET.GO d = 1) (hr : result < 4) : (s.resetDone d result).fget DRW_RESET.GO d = 0 ∧
    (s.resetDone d result).fget DRW_RESET.DONE d = 1 ∧ (s.resetDone d result).fget DRW_RESET.RESULT d = result := by
  have hgo : s.fone DRW_RESET.GO d = true := beq_iff_eq.mpr hg
  rw [State.resetDone, if_pos hgo]
  refine ⟨?_, ?_, (State.fget_fset_self ..).trans (Nat.mod_eq_of_lt hr)⟩
  · simp (disch := decide) only [State.fget_fset_ne, State.fget_fset_self]
    rfl
  · simp (disch := decide) only [State.fget_fset_ne, State.fget_fset_self]
    rfl

theorem State.bindingOver_sets : FieldsSet [DRW_BIND.EN, DRW_BIND.HEAD] s (s.bindingOver d) := by
  have hrefl := FieldsSet.refl [DRW_BIND.EN, DRW_BIND.HEAD] s
  unfold State.bindingOver State.unbindDrawer
  split
  · split
    · exact hrefl.set _ d 0
    · split
      · exact (hrefl.set _ 0 1).set _ 0 _
      · exact hrefl.set _ 0 0
  · exact hrefl

/-! ### The whole reset -/

theorem State.nextGen_off : (s.nextGen d).offOps = (s.fset DRW_STATE.GEN d ((s.fget DRW_STATE.GEN d + 1) % 65536)).offOps :=
  State.opsFreed_off _ d

theorem State.nextGen_regs : (s.nextGen d).regs = (s.fset DRW_STATE.GEN d ((s.fget DRW_STATE.GEN d + 1) % 65536)).regs :=
  (congrArg State.regs (s.nextGen_off d) :)

theorem State.drawer_of_drw {s t : State} (h : t.drw = s.drw) (e : Nat) : t.drawer e = s.drawer e := by
  unfold State.drawer
  rw [h]

theorem State.nextGen_drawer (e : Nat) : (s.nextGen d).drawer e = s.drawer e := (congrArg (fun u : State => u.drawer e) (s.nextGen_off d) :)

theorem State.nextGen_gen : (s.nextGen d).fget DRW_STATE.GEN d = (s.fget DRW_STATE.GEN d + 1) % 65536 := by
  rw [State.regs_fget (s.nextGen_regs d), State.fget_fset_self]
  exact Nat.mod_mod_of_dvd _ (by decide)

theorem State.nextGen_same : RegsSame [DRW_STATE.GEN] s (s.nextGen d) :=
  (RegsSame.refl.fset d _ (by decide)).trans (RegsSame.of_regs (s.nextGen_regs d))

/-- Fields that a reset writes whether or not it ends a binding. -/
def genFlds : List Fld := clearFlds ++ [DRW_RESET.GO, DRW_RESET.DONE, DRW_RESET.RESULT]

/-- A reset clears the parts of its drawer, and registers of a list, once the next generation has begun. -/
theorem State.genReset_sets : FieldsSet genFlds ((s.nextGen d).modDrawer d Drawer.cleared) (((s.nextGen d).clearDrawer d).resetDone d result) :=
  ((State.clearDrawer_sets (s.nextGen d) d).mono (by decide)).trans ((State.resetDone_sets _ d result).mono (by decide))

theorem State.advanceGen_sets : FieldsSet (genFlds ++ [DRW_BIND.EN, DRW_BIND.HEAD])
    (((s.nextGen d).modDrawer d Drawer.cleared).modDrawer d Drawer.reset) (s.advanceGen d result) := by
  rw [State.advanceGen_eq]
  exact (((s.genReset_sets d result).mono (by decide)).trans ((State.bindingOver_sets _ d).mono (by decide))).modDrawer d _

/-- A reset that ends no binding writes no binding's register. -/
theorem State.advanceGen_stays (h : (s.drawer d).unbindAfter = false) : FieldsSet genFlds
    (((s.nextGen d).modDrawer d Drawer.cleared).modDrawer d Drawer.reset) (s.advanceGen d result) := by
  have hsets := s.genReset_sets d result
  rw [State.advanceGen_eq]
  generalize ((s.nextGen d).clearDrawer d).resetDone d result = t at hsets ⊢
  have hdrawer : (t.drawer d).unbindAfter = false := by
    have hdrw : t.drw = ((s.nextGen d).modDrawer d Drawer.cleared).drw := (congrArg State.drw hsets.off :)
    rw [State.drawer_of_drw hdrw, State.modDrawer_drawer_self]
    exact (congrArg Drawer.unbindAfter (s.nextGen_drawer d d)).trans h
  have hbind : t.bindingOver d = t := if_neg (by rw [hdrawer]; exact Bool.noConfusion)
  rw [hbind]
  exact hsets.modDrawer d _

/-- The clearing's fields stand once it is done. -/
theorem State.advanceGen_cleared {f : Fld} (i : Nat)
    (hf : f.id < 1024 ∧ f.id ∉ [DRW_RESET.GO, DRW_RESET.DONE, DRW_RESET.RESULT, DRW_BIND.EN, DRW_BIND.HEAD].map (·.id) := by decide) :
    (s.advanceGen d result).fget f i = ((s.nextGen d).clearDrawer d).fget f i := by
  have hsets : FieldsSet [DRW_RESET.GO, DRW_RESET.DONE, DRW_RESET.RESULT, DRW_BIND.EN, DRW_BIND.HEAD] ((s.nextGen d).clearDrawer d)
      ((((s.nextGen d).clearDrawer d).resetDone d result).bindingOver d) :=
    ((State.resetDone_sets _ d result).mono (by decide)).trans ((State.bindingOver_sets _ d).mono (by decide))
  rw [State.advanceGen_eq]
  generalize (((s.nextGen d).clearDrawer d).resetDone d result).bindingOver d = t at hsets ⊢
  exact hsets.fget i hf

theorem State.advanceGen_gen : (s.advanceGen d result).fget DRW_STATE.GEN d = (s.fget DRW_STATE.GEN d + 1) % 65536 :=
  ((s.advanceGen_sets d result).fget d).trans (s.nextGen_gen d)

theorem State.advanceGen_count : (s.advanceGen d result).fget DRW_VEC.COUNT d = 0 :=
  (s.advanceGen_cleared d result d).trans (State.clearDrawer_count _ d)

theorem State.advanceGen_en {r : Nat} (hr : r < 4) : (s.advanceGen d result).fget DRW_RCFG.EN (4 * d + r) = 0 :=
  (s.advanceGen_cleared d result _).trans (State.clearDrawer_en _ d hr)

theorem State.advanceGen_done (hg : s.fget DRW_RESET.GO d = 1) (hr : result < 4) : (s.advanceGen d result).fget DRW_RESET.GO d = 0 ∧
    (s.advanceGen d result).fget DRW_RESET.DONE d = 1 ∧ (s.advanceGen d result).fget DRW_RESET.RESULT d = result := by
  have hclear := State.clearDrawer_sets (s.nextGen d) d
  rw [State.advanceGen_eq]
  generalize (s.nextGen d).clearDrawer d = t at hclear ⊢
  have hgo : t.fget DRW_RESET.GO d = 1 := (hclear.fget d).trans ((s.nextGen_same d _ d (by decide) (by decide)).trans hg)
  obtain ⟨h1, h2, h3⟩ := State.resetDone_fget t d result hgo hr
  have hbind := State.bindingOver_sets (t.resetDone d result) d
  exact ⟨(hbind.fget d).trans h1, (hbind.fget d).trans h2, (hbind.fget d).trans h3⟩

/-- A reset changes its drawer's parts and the operations alone among the drawers' state. -/
theorem State.advanceGen_drw : (s.advanceGen d result).drw = (((s.nextGen d).modDrawer d Drawer.cleared).modDrawer d Drawer.reset).drw :=
  (congrArg State.drw (s.advanceGen_sets d result).off :)

theorem State.advanceGen_drawer_self : (s.advanceGen d result).drawer d = (s.drawer d).cleared.reset := by
  rw [State.drawer_of_drw (s.advanceGen_drw d result), State.modDrawer_drawer_self, State.modDrawer_drawer_self, State.nextGen_drawer]

theorem State.advanceGen_drawer_ne {e : Nat} (he : e ≠ d) : (s.advanceGen d result).drawer e = s.drawer e := by
  rw [State.drawer_of_drw (s.advanceGen_drw d result), State.modDrawer_drawer_ne _ _ he, State.modDrawer_drawer_ne _ _ he,
    State.nextGen_drawer]

theorem State.advanceGen_ops : (s.advanceGen d result).drw.ops = (s.nextGen d).drw.ops := by
  rw [State.advanceGen_drw]
  rfl

theorem State.advanceGen_mem {e : Nat × Op} (he : e ∈ (s.advanceGen d result).drw.ops) : e ∈ s.drw.ops := by
  rw [State.advanceGen_ops] at he
  exact State.opsFreed_mem (s.fset DRW_STATE.GEN d ((s.fget DRW_STATE.GEN d + 1) % 65536)) d he

/-- The state without registers, its drawers' parts and operations. -/
def State.offGen (s : State) : State := { s with regs := [], drw := { s.drw with drawers := [], ops := [] } }

theorem State.offGen_modDrawer (f : Drawer → Drawer) : (s.modDrawer d f).offGen = s.offGen := rfl

theorem State.offGen_of_offRegs {s t : State} (h : t.offRegs = s.offRegs) : t.offGen = s.offGen := (congrArg State.offGen h :)

theorem State.offGen_of_offOps {s t : State} (h : t.offOps = s.offOps) : t.offGen = s.offGen := (congrArg State.offGen h :)

theorem State.advanceGen_off : (s.advanceGen d result).offGen = s.offGen :=
  (State.offGen_of_offRegs (s.advanceGen_sets d result).off).trans ((State.offGen_modDrawer ..).trans ((State.offGen_modDrawer ..).trans
    ((State.offGen_of_offOps (s.nextGen_off d)).trans rfl)))

theorem State.eq_of_offGen {s t : State} (h : t.offGen = s.offGen) :
    t = { s with regs := t.regs, drw := { s.drw with drawers := t.drw.drawers, ops := t.drw.ops } } :=
  congrArg (fun x : State => { x with regs := t.regs, drw := { x.drw with drawers := t.drw.drawers, ops := t.drw.ops } }) h

end

end Sys2Proof.Machine
end

section
/-! PROOF. A drawer's reset as GO, the end of a drain and the drain's limit make it (12 R312-R316). -/

namespace Sys2Proof.Machine

open Sys2Proof

/-! ## A reset that GO asks for (R312-R315) -/

/-- A reset at GO, of an ordinary drawer and of a privileged one. -/
def State.goReset (s : State) (d : Nat) : State := (s.fset DRW_RESET.GO d 1).advanceGen d 0
def State.goDrain (s : State) (d : Nat) : State := (s.fset DRW_RESET.GO d 1).resetDrain d

section
variable {s : State} {d : Nat}

theorem State.resetGo_ordinary (hr : (s.drawer d).resetting = false) (hp : s.drwPriv d = false)
    (ho : s.tooOld d ((s.fget DRW_STATE.GEN d + 1) % 65536) = []) : s.resetGo d = s.goReset d := by
  simp [State.resetGo, State.goReset, hr, hp, ho]

theorem State.resetGo_busy (hr : (s.drawer d).resetting = false) (hp : s.drwPriv d = false)
    (ho : s.tooOld d ((s.fget DRW_STATE.GEN d + 1) % 65536) ≠ []) :
    s.resetGo d = (s.fset DRW_RESET.DONE d 1).fset DRW_RESET.RESULT d 1 := by
  simp [State.resetGo, hr, hp, ho]

theorem State.resetGo_drains (hr : (s.drawer d).resetting = false) (hp : s.drwPriv d = true) :
    s.resetGo d = s.goDrain d := by
  simp [State.resetGo, State.goDrain, hr, hp]

variable (s d)

theorem State.resetGo_off : (s.resetGo d).offGen = s.offGen := by
  unfold State.resetGo
  split
  · rfl
  · split
    · rfl
    · split
      · exact State.advanceGen_off (s.fset DRW_RESET.GO d 1) d 0
      · rfl

end

/-- DRW_RESET_GO acts from the privileged page, or from an admin path. -/
theorem drwResetGo_acts {p : Option Path} {q : Path} {d : DrawerId} {s : State}
    (h : (p = none ∧ s.pageOpen d = true ∧ q = s.pagePath d) ∨ (p = some q ∧ s.drwOpen q d = true)) :
    exec (.drwResetGo p d) s = .next ((s.onAccess q).resetGo d) := by
  have hoff := State.resetGo_off (s.onAccess q) d
  have hnv : ((s.onAccess q).resetGo d).nv = (s.onAccess q).nv := (congrArg State.nv hoff :)
  have hpend : ((s.onAccess q).resetGo d).pending = (s.onAccess q).pending := (congrArg State.pending hoff :)
  rcases h with ⟨rfl, ho, rfl⟩ | ⟨rfl, ho⟩
  · exact pageWrite_open ho rfl hnv hpend
  · exact adminWrite_open ho rfl hnv hpend

/-! ### An ordinary drawer's generation advances at once -/

section
variable (s : State) (d : Nat)

theorem State.goReset_regs_gen : (s.goReset d).fget DRW_STATE.GEN d = (s.fget DRW_STATE.GEN d + 1) % 65536 := by
  rw [State.goReset, State.advanceGen_gen, State.fget_fset_ne _ _ _ _ (by decide) (by decide) (by decide)]

theorem State.goReset_done : (s.goReset d).fget DRW_RESET.GO d = 0 ∧ (s.goReset d).fget DRW_RESET.DONE d = 1 ∧
    (s.goReset d).fget DRW_RESET.RESULT d = 0 :=
  State.advanceGen_done _ d 0 (State.fget_fset_self ..) (by decide)

theorem State.goReset_drawer : (s.goReset d).drawer d = (s.drawer d).cleared.reset := State.advanceGen_drawer_self ..

theorem State.goReset_ring (r : Nat) : (s.goReset d).ring d r = {} := by
  rw [State.ring, State.goReset_drawer]
  rfl

theorem State.goReset_entry {k : Nat} {x : IrqEntry} (hx : smFind? (s.drawer d).irqs k = some x) :
    smFind? ((s.goReset d).drawer d).irqs k = some { x with mask := true, pend := false } := by
  rw [State.goReset_drawer]
  exact (smFind?_smMap _ (fun _ e => { e with mask := true, pend := false }) k).trans (congrArg (Option.map _) hx)

theorem State.goReset_count : (s.goReset d).fget DRW_VEC.COUNT d = 0 := State.advanceGen_count ..

theorem State.goReset_en {r : Nat} (hr : r < 4) : (s.goReset d).fget DRW_RCFG.EN (4 * d + r) = 0 := State.advanceGen_en _ d 0 hr

theorem State.goReset_drawer_ne {e : Nat} (he : e ≠ d) : (s.goReset d).drawer e = s.drawer e := State.advanceGen_drawer_ne _ d 0 he

theorem State.goReset_ops : (s.goReset d).drw.ops = ((s.fset DRW_RESET.GO d 1).nextGen d).drw.ops := State.advanceGen_ops ..

/-- An operation of another drawer keeps its place. -/
theorem State.goReset_other {k : Nat} {o : Op} (ho : smFind? s.drw.ops k = some o) (hd : o.drawer ≠ d)
    (hk : ∀ e ∈ s.drw.ops, e.1 = k → e.2 = o) : smFind? (s.goReset d).drw.ops k = some o := by
  rw [State.goReset_ops]
  refine (State.opsFreed_other _ d fun e he hek => ?_).trans ho
  obtain ⟨hmem, hed⟩ := List.mem_filter.mp he
  exact hd (hk e hmem hek ▸ beq_iff_eq.mp hed)

/-- An operation of the drawer with nothing outstanding is gone. -/
theorem State.goReset_idle {k : Nat} {o : Op} (ho : smFind? s.drw.ops k = some o) (hd : o.drawer = d) (ht : o.tags = []) (hn : o.outst = 0) :
    smFind? (s.goReset d).drw.ops k = none := by
  rw [State.goReset_ops]
  exact State.opsFreed_idle _ d ho hd ht hn

theorem State.goReset_off : (s.goReset d).offGen = s.offGen := State.advanceGen_off (s.fset DRW_RESET.GO d 1) d 0

theorem State.goReset_regs (h : (s.drawer d).unbindAfter = false) : RegsSame (DRW_STATE.GEN :: genFlds) s (s.goReset d) := by
  have hgo : RegsSame [DRW_RESET.GO] s (s.fset DRW_RESET.GO d 1) := RegsSame.refl.fset d 1 (by decide)
  have hgen := State.nextGen_same (s.fset DRW_RESET.GO d 1) d
  have hclear : RegsSame genFlds ((s.fset DRW_RESET.GO d 1).nextGen d) (s.goReset d) :=
    RegsSame.trans (RegsSame.of_regs rfl) (State.advanceGen_stays (s.fset DRW_RESET.GO d 1) d 0 h).regs
  exact (hgo.mono (by decide)).trans ((hgen.mono (by decide)).trans (hclear.mono (by decide)))

end

/-! ### A privileged drawer drains first -/

section
variable (s : State) (d : Nat)

theorem State.goDrain_go : (s.goDrain d).fget DRW_RESET.GO d = 1 := (State.fget_fset_self s DRW_RESET.GO d 1 :)

theorem State.goDrain_drawer : (s.goDrain d).drawer d = { s.drawer d with resetting := true, drainFrom := s.wclk } :=
  State.modDrawer_drawer_self ..

theorem State.goDrain_drawer_ne {e : Nat} (he : e ≠ d) : (s.goDrain d).drawer e = s.drawer e := State.modDrawer_drawer_ne _ _ he

theorem State.goDrain_ops : (s.goDrain d).drw.ops = s.drw.ops := rfl

theorem State.goDrain_off : (s.goDrain d).offGen = s.offGen := rfl

theorem State.goDrain_regs : RegsSame [DRW_RESET.GO] s (s.goDrain d) :=
  (RegsSame.refl.fset d 1 (by decide)).trans (RegsSame.of_regs (s := s.fset DRW_RESET.GO d 1) rfl)

end

/-! ## The end of a drain (R315) -/

section
variable (s : State) (d : Nat)

@[simp] theorem State.drainEnded_drw : (s.drainEnded d).drw = s.drw := rfl
@[simp] theorem State.drainEnded_drawer (e : Nat) : (s.drainEnded d).drawer e = s.drawer e := rfl
@[simp] theorem State.drainEnded_fget (f : Fld) (i : Nat) : (s.drainEnded d).fget f i = s.fget f i := rfl
@[simp] theorem State.drainEnded_inFault (set code : Nat) : (s.drainEnded d).inFault set code = s.inFault set code := rfl

/-- All operations of a drawer are squashed, which the limit of a drain reports. -/
def State.opsSquashed (s : State) (d : Nat) : State :=
  let t := s.each (s.drwOps d) fun e s => s.squashOp e.1 e.2
  if (s.drwOps d).isEmpty then t else t.drwFault 3 d 0

theorem State.opsSquashed_gone {e : Nat × Op} (he : e ∈ (s.opsSquashed d).drw.ops) : e.2.drawer ≠ d := by
  refine State.drwOps_gone (fun _ _ _ h => State.squashOp_mem h) s d ?_
  unfold State.opsSquashed at he
  split at he
  · exact he
  · exact (State.report_drw ..) ▸ he

theorem State.squashOp_regs (e : Nat × Op) : (s.squashOp e.1 e.2).regs = s.regs :=
  State.each_inv State.regs e.2.tags (fun t s => s.quarantine (s.drwHead e.2.drawer) t (2 + e.2.drawer)) (fun _ _ => rfl) s

theorem State.opsSquashed_regs : RegsSame faultFlds s (s.opsSquashed d) := by
  have hregs : (s.each (s.drwOps d) fun e s => s.squashOp e.1 e.2).regs = s.regs :=
    State.each_inv State.regs _ _ (fun e t => t.squashOp_regs e) s
  unfold State.opsSquashed
  split
  · exact RegsSame.of_regs hregs
  · exact (RegsSame.of_regs hregs).trans (State.report_regs _ setDRW 3 _ 0)

theorem State.opsSquashed_fault (h : s.drwOps d ≠ []) : (s.opsSquashed d).inFault setDRW 3 = true := by
  unfold State.opsSquashed
  rw [if_neg (by simp [h])]
  exact State.report_inFault _ _ _ _ _ (by decide)

theorem State.squashOp_off (e : Nat × Op) : (s.squashOp e.1 e.2).offReset = s.offReset :=
  State.each_inv State.offReset e.2.tags (fun t s => s.quarantine (s.drwHead e.2.drawer) t (2 + e.2.drawer)) (fun _ _ => rfl) s

theorem State.offReset_of_offFault {s t : State} (h : t.offFault = s.offFault) : t.offReset = s.offReset :=
  (congrArg (fun x : State => { x with drw := {} }) h :)

theorem State.offReset_of_offGen {s t : State} (h : t.offGen = s.offGen) : t.offReset = s.offReset := (congrArg State.offReset h :)

theorem State.opsSquashed_off : (s.opsSquashed d).offReset = s.offReset := by
  have hall := State.each_inv State.offReset (s.drwOps d) (fun e s => s.squashOp e.1 e.2) (fun e t => t.squashOp_off e) s
  unfold State.opsSquashed
  split
  · exact hall
  · exact (State.offReset_of_offFault (State.report_off ..)).trans hall

/-- The operations of a drawer that has drained leave the table. -/
def State.opsDropped (s : State) (d : Nat) : State := s.each (s.drwOps d) fun e s => s.dropOp e.1

theorem State.opsDropped_gone {e : Nat × Op} (he : e ∈ (s.opsDropped d).drw.ops) : e.2.drawer ≠ d :=
  State.drwOps_gone (fun _ _ _ h => State.dropOp_mem h) s d he

theorem State.opsDropped_off : (s.opsDropped d).offOps = s.offOps := State.each_inv State.offOps (s.drwOps d) (fun e s => s.dropOp e.1) (fun _ _ => rfl) s

end

/-! ### Resets once no operation is left -/

section
variable {s t : State} {d result : Nat}

/-- What is true of a drawer once its drain has ended: no reset is in progress, no operation of it is left, its generation has advanced,
and a reset that GO asked for has its result. -/
structure DrainOver (s : State) (d result : Nat) (t : State) : Prop where
  idle : (t.drawer d).resetting = false
  gone : ∀ e ∈ t.drw.ops, e.2.drawer ≠ d
  gen : t.fget DRW_STATE.GEN d = (s.fget DRW_STATE.GEN d + 1) % 65536
  done : s.fget DRW_RESET.GO d = 1 → t.fget DRW_RESET.GO d = 0 ∧ t.fget DRW_RESET.DONE d = 1 ∧ t.fget DRW_RESET.RESULT d = result

/-- A drain that has ended: the operations are gone, the generation advances, and heads that waited are told. -/
theorem DrainOver.of_gone (hgone : ∀ e ∈ t.drw.ops, e.2.drawer ≠ d) (hregs : RegsSame faultFlds s t) (hr : result < 4) :
    DrainOver s d result ((t.advanceGen d result).drainEnded d) where
  idle := by
    rw [State.drainEnded_drawer, State.advanceGen_drawer_self]
    rfl
  gone e he := by
    rw [State.drainEnded_drw] at he
    exact hgone e (t.advanceGen_mem d result he)
  gen := by rw [State.drainEnded_fget, State.advanceGen_gen, hregs _ _ (by decide) (by decide)]
  done hgo := by
    simp only [State.drainEnded_fget]
    exact t.advanceGen_done d result ((hregs _ _ (by decide) (by decide)).trans hgo) hr

end

theorem DrainOver.kept (h : DrainOver s.clearOut d result t) : DrainOver s d result (s.kept t) := ⟨h.idle, h.gone, h.gen, h.done⟩

section
variable (s : State) (d result : Nat)

/-- A drain that reaches its limit, and one that has ended before. -/
def State.drainCut (result : Nat) : State := ((s.opsSquashed d).advanceGen d result).drainEnded d
def State.drainClosed : State := ((s.opsDropped d).advanceGen d 2).drainEnded d

theorem State.drainCut_over (hr : result < 4) : DrainOver s d result (s.drainCut d result) :=
  DrainOver.of_gone (fun _ he => s.opsSquashed_gone d he) (s.opsSquashed_regs d) hr

theorem State.offReset_drainEnded : (s.drainEnded d).offReset = s.offReset := rfl

theorem State.drainCut_off : (s.drainCut d result).offReset = s.offReset :=
  (State.offReset_drainEnded _ d).trans ((State.offReset_of_offGen (State.advanceGen_off _ d result)).trans (s.opsSquashed_off d))

/-- What was squashed is reported as DRW class 3. -/
theorem State.drainCut_fault (h : s.drwOps d ≠ []) : (s.drainCut d result).inFault setDRW 3 = true := by
  have hclass : ((s.opsSquashed d).advanceGen d result).fget FLT_STATUS.CLASS setDRW = (s.opsSquashed d).fget FLT_STATUS.CLASS setDRW :=
    ((State.advanceGen_sets _ d result).fget setDRW).trans (State.nextGen_same (s.opsSquashed d) d _ _ (by decide) (by decide))
  rw [State.drainCut, State.drainEnded_inFault, State.inFault_congr hclass]
  exact s.opsSquashed_fault d h

theorem State.opsDropped_regs : (s.opsDropped d).regs = s.regs := State.each_inv State.regs (s.drwOps d) (fun e s => s.dropOp e.1) (fun _ _ => rfl) s

theorem State.drainClosed_over : DrainOver s d 2 (s.drainClosed d) :=
  DrainOver.of_gone (fun _ he => s.opsDropped_gone d he) (RegsSame.of_regs (s.opsDropped_regs d)) (by decide)

/-- The state without registers, heads and drawers. -/
def State.offDrain (s : State) : State := { s with regs := [], heads := [], drw := {} }

theorem State.offDrain_drainEnded : (s.drainEnded d).offDrain = s.offDrain := rfl

theorem State.offDrain_of_offGen {s t : State} (h : t.offGen = s.offGen) : t.offDrain = s.offDrain := (congrArg State.offDrain h :)

theorem State.offDrain_of_offOps {s t : State} (h : t.offOps = s.offOps) : t.offDrain = s.offDrain := (congrArg State.offDrain h :)

theorem State.eq_of_offDrain {s t : State} (h : t.offDrain = s.offDrain) : t = { s with regs := t.regs, heads := t.heads, drw := t.drw } :=
  congrArg (fun x : State => { x with regs := t.regs, heads := t.heads, drw := t.drw }) h

theorem State.drainClosed_off : (s.drainClosed d).offDrain = s.offDrain :=
  (State.offDrain_drainEnded _ d).trans ((State.offDrain_of_offGen (State.advanceGen_off _ d 2)).trans (State.offDrain_of_offOps (s.opsDropped_off d)))

end

section
variable {d : DrawerId} {s : State}

/-- The limit of a drain squashes what is left and completes the reset. -/
theorem drainMaxExpiry_squashes (hr : (s.drawer d).resetting = true) (he : s.elapsed (s.drawer d).drainFrom (usT s.drainMax) = true) :
    exec (.drainMaxExpiry d) s = .next (s.kept (s.clearOut.drainCut d (if (s.drwOps d).isEmpty then 2 else 3))) :=
  volatile_next (f := drainMaxExpiry d) (if_pos (Bool.and_eq_true_iff.mpr ⟨hr, he⟩))

theorem drainMaxExpiry_waits (he : s.elapsed (s.drawer d).drainFrom (usT s.drainMax) = false) :
    exec (.drainMaxExpiry d) s = .next s.clearOut := by
  refine volatile_ends (f := drainMaxExpiry d) (if_neg fun h => ?_) rfl rfl
  have helapsed := (Bool.and_eq_true_iff.mp h).2
  exact Bool.noConfusion (he.symm.trans helapsed)

/-- A privileged drawer that has drained completes its reset. -/
theorem privilegedDrainComplete_completes (hr : (s.drawer d).resetting = true) (hd : s.drained d = true) :
    exec (.privilegedDrainComplete d) s = .next (s.kept (s.clearOut.drainClosed d)) :=
  volatile_next (f := privilegedDrainComplete d) (if_pos (Bool.and_eq_true_iff.mpr ⟨hr, hd⟩))

theorem privilegedDrainComplete_waits (hd : s.drained d = false) : exec (.privilegedDrainComplete d) s = .next s.clearOut := by
  refine volatile_ends (f := privilegedDrainComplete d) (if_neg fun h => ?_) rfl rfl
  exact Bool.noConfusion (hd.symm.trans (Bool.and_eq_true_iff.mp h).2)

end

end Sys2Proof.Machine
end

section
/-! PROOF. Interrupt entries signalled, rings paused, and what an administrator's pause leaves (12 R301, R309). -/

namespace Sys2Proof.Machine

open Sys2Proof

/-! ## Outputs that a report leaves -/

theorem State.logEvent_out (s : State) (h l : Nat) (e : EvRec) {o : Out} (ho : o ∈ s.out) : o ∈ (s.logEvent h l e).out := by
  unfold State.logEvent
  dsimp only
  split
  · split
    · exact State.signalHead_out _ 32 h ho
    · exact ho
  · exact ho

theorem State.out_of_offSet {s t : State} (h : t.offSet = s.offSet) : t.out = s.out := (congrArg State.out h :)

/-- A report takes no output back. -/
theorem State.report_out (s : State) (set code : Nat) (c : Capture) (base : Nat) {o : Out} (ho : o ∈ s.out) :
    o ∈ (s.report set code c base).out := by
  refine State.report_keeps (fun t => o ∈ t.out) (fun t set code level esc c e => ?set) (fun t set r e => ?wit) (fun t e => ?fatal)
    set code c base ho
  case set =>
    exact State.reportRegs_keeps (fun t => o ∈ t.out) (fun t u hoff e => State.out_of_offSet hoff ▸ e)
      (fun t v k e => t.signalHead_out v k e) (fun t k l r e => t.logEvent_out k l r e) set code level esc c e
  case wit =>
    exact State.witReport_keeps (fun t => o ∈ t.out) (fun _ _ e => e) (fun _ _ _ e => e) (fun _ _ e => e) set r e
  case fatal =>
    exact State.goFatal_keeps (fun t => o ∈ t.out) (fun _ _ e => e) (fun _ _ e => e) (fun _ _ e => List.mem_append_left _ e) e

/-! ## Entries (R309) -/

section
variable (P : State → Prop) {d : Nat} (hirq : ∀ s n e, P s → P (s.modDrawer d fun x => { x with irqs := smSet x.irqs n e }))
  (hemit : ∀ s o, P s → P (s.emit o)) (hsig : ∀ s v h, P s → P (s.signalHead v h)) (hrep : ∀ s c, P s → P (s.report setDRW 2 c))
include hirq hemit hsig hrep

/-- What a change of a drawer's entries, an output, a vector and a report of DRW class 2 keep, an entry's signal keeps. -/
theorem State.entrySignal_keeps {s : State} (n : Nat) (hs : P s) : P (s.entrySignal d n) := by
  unfold State.entrySignal State.entrySend State.drwFault
  dsimp only
  split
  · exact hs
  · split
    · exact hirq _ _ _ hs
    · split
      · exact hemit _ _ hs
      · split
        · exact hsig _ _ _ hs
        · exact hrep _ _ hs

/-- A ring that enters PAUSED changes itself and signals its event entry. -/
theorem State.pauseRing_keeps {s : State} (r cause : Nat)
    (hpause : ∀ s, P s → P (s.modRing d r fun x => { x with state := 2, cause := cause })) (hs : P s) : P (s.pauseRing d r cause) := by
  unfold State.pauseRing
  dsimp only
  split
  · exact hs
  · split
    · exact State.entrySignal_keeps P hirq hemit hsig hrep _ (hpause _ hs)
    · exact hpause _ hs

end

section
variable (s : State) (d r cause n : Nat)

theorem State.ring_of_drw {s t : State} (h : t.drw = s.drw) (e k : Nat) : t.ring e k = s.ring e k := by
  unfold State.ring
  rw [State.drawer_of_drw h]

theorem State.modDrawer_irqs_ring (f : Drawer → SMap IrqEntry) (e k : Nat) :
    (s.modDrawer d fun x => { x with irqs := f x }).ring e k = s.ring e k := by
  unfold State.ring
  by_cases he : e = d
  · subst he
    rw [State.modDrawer_drawer_self]
  · rw [State.modDrawer_drawer_ne _ _ he]

theorem State.entrySignal_ring (e k : Nat) : (s.entrySignal d n).ring e k = s.ring e k :=
  State.entrySignal_keeps (fun t => t.ring e k = s.ring e k) (fun t n x h => (t.modDrawer_irqs_ring d (fun y => smSet y.irqs n x) e k).trans h) (fun _ _ h => h)
    (fun t v j h => (State.ring_of_drw (t.signalHead_drw v j) e k).trans h)
    (fun t c h => (State.ring_of_drw (t.report_drw setDRW 2 c 0) e k).trans h) n rfl

/-! ## Pauses (R301) -/

theorem State.pauseRing_stays (h : (s.ring d r).state ≠ 1) : s.pauseRing d r cause = s := if_pos h

/-- A ring that fetches pauses. -/
theorem State.pauseRing_ring (h : (s.ring d r).state = 1) :
    (s.pauseRing d r cause).ring d r = { s.ring d r with state := 2, cause := cause } := by
  have hmod := s.modRing_ring_self d r fun x => { x with state := 2, cause := cause }
  unfold State.pauseRing
  rw [if_neg (not_not_intro h)]
  dsimp only
  split
  · exact (State.entrySignal_ring ..).trans hmod
  · exact hmod

theorem State.pauseRing_ring_ne {e k : Nat} (h : e ≠ d ∨ k ≠ r) : (s.pauseRing d r cause).ring e k = s.ring e k := by
  unfold State.pauseRing
  dsimp only
  split
  · rfl
  · split
    · exact (State.entrySignal_ring ..).trans (s.modRing_ring_ne _ h)
    · exact s.modRing_ring_ne _ h

theorem State.pauseRing_drawer_ne {e : Nat} (he : e ≠ d) : (s.pauseRing d r cause).drawer e = s.drawer e :=
  State.pauseRing_keeps (fun t => t.drawer e = s.drawer e) (fun t _ _ h => (t.modDrawer_drawer_ne _ he).trans h) (fun _ _ h => h)
    (fun t v j h => (State.drawer_of_drw (t.signalHead_drw v j) e).trans h)
    (fun t c h => (State.drawer_of_drw (t.report_drw setDRW 2 c 0) e).trans h) r cause (fun t h => (t.modRing_drawer_ne r _ he).trans h) rfl

theorem State.pauseRing_ops : (s.pauseRing d r cause).drw.ops = s.drw.ops :=
  State.pauseRing_keeps (fun t => t.drw.ops = s.drw.ops) (fun _ _ _ h => h) (fun _ _ h => h)
    (fun t v j h => (congrArg Drawers.ops (t.signalHead_drw v j)).trans h)
    (fun t c h => (congrArg Drawers.ops (t.report_drw setDRW 2 c 0)).trans h) r cause (fun _ h => h) rfl

theorem State.pauseRing_off : (s.pauseRing d r cause).offReset = s.offReset :=
  State.pauseRing_keeps (fun t => t.offReset = s.offReset) (fun _ _ _ h => h) (fun _ _ h => h)
    (fun t v j h => (State.offReset_of_offFault (offFault_of_offHeads (t.signalHead_off v j))).trans h)
    (fun t c h => (State.offReset_of_offFault (t.report_off setDRW 2 c 0)).trans h) r cause (fun _ h => h) rfl

theorem State.pauseRing_regs : RegsSame faultFlds s (s.pauseRing d r cause) :=
  State.pauseRing_keeps (fun t => RegsSame faultFlds s t) (fun _ _ _ h => h) (fun _ _ h => h)
    (fun t v j h => h.trans fun f i _ _ => t.signalHead_fget v j f i)
    (fun t c h => h.trans (t.report_regs setDRW 2 c 0)) r cause (fun _ h => h) RegsSame.refl

theorem State.pauseRing_out {o : Out} (ho : o ∈ s.out) : o ∈ (s.pauseRing d r cause).out :=
  State.pauseRing_keeps (fun t => o ∈ t.out) (fun _ _ _ h => h) (fun _ _ h => List.mem_append_left _ h)
    (fun t v j h => t.signalHead_out v j h) (fun t c h => t.report_out setDRW 2 c 0 h) r cause (fun _ h => h) ho

end

/-! ## A pause by an administrator -/

/-- The rings that a pause names. -/
def ringsNamed (rs : BitVec 4) : List Nat := (List.range 4).filter fun r => rs.getLsbD r

theorem mem_ringsNamed {rs : BitVec 4} {r : Nat} : r ∈ ringsNamed rs ↔ r < 4 ∧ rs.getLsbD r = true := by simp [ringsNamed]

theorem ringsNamed_nodup (rs : BitVec 4) : (ringsNamed rs).Nodup := List.nodup_range.filter _

/-- Rings of a drawer that an administrator pauses. -/
def State.adminPaused (s : State) (d : Nat) (rs : BitVec 4) : State := s.each (ringsNamed rs) fun r s => s.pauseRing d r 4

section
variable (s : State) (d : Nat) (rs : BitVec 4)

theorem State.adminPaused_ring {r : Nat} (hr : r < 4) (hn : rs.getLsbD r = true) (h : (s.ring d r).state = 1) :
    (s.adminPaused d rs).ring d r = { s.ring d r with state := 2, cause := 4 } :=
  State.each_visits (fun t => t.ring d r = s.ring d r) (fun t => t.ring d r = { s.ring d r with state := 2, cause := 4 })
    (ringsNamed_nodup rs) (mem_ringsNamed.mpr ⟨hr, hn⟩) (fun k _ hk t ht => (t.pauseRing_ring_ne d k 4 (.inr hk.symm)).trans ht)
    (fun t ht => by rw [State.pauseRing_ring _ _ _ _ (ht ▸ h), ht])
    (fun k _ hk t ht => (t.pauseRing_ring_ne d k 4 (.inr hk.symm)).trans ht) rfl

/-- A ring that the pause does not name, or that does not fetch, stays as it is. -/
theorem State.adminPaused_ring_ne {r : Nat} (h : rs.getLsbD r = false ∨ (s.ring d r).state ≠ 1) :
    (s.adminPaused d rs).ring d r = s.ring d r := by
  refine State.each_keeps_mem (fun t => t.ring d r = s.ring d r) _ _ (fun k hk t ht => ?_) rfl
  by_cases hkr : r = k
  · subst hkr
    have hstate : (s.ring d r).state ≠ 1 := h.resolve_left fun hn => by
      rw [(mem_ringsNamed.mp hk).2] at hn
      exact Bool.noConfusion hn
    rw [State.pauseRing_stays _ _ _ _ (ht ▸ hstate), ht]
  · exact (t.pauseRing_ring_ne d k 4 (.inr hkr)).trans ht

theorem State.adminPaused_drawer_ne {e : Nat} (he : e ≠ d) : (s.adminPaused d rs).drawer e = s.drawer e :=
  State.each_inv (State.drawer · e) _ _ (fun r t => t.pauseRing_drawer_ne d r 4 he) s

theorem State.adminPaused_ops : (s.adminPaused d rs).drw.ops = s.drw.ops :=
  State.each_inv (fun t : State => t.drw.ops) _ _ (fun r t => t.pauseRing_ops d r 4) s

theorem State.adminPaused_off : (s.adminPaused d rs).offReset = s.offReset :=
  State.each_inv State.offReset _ _ (fun r t => t.pauseRing_off d r 4) s

theorem State.adminPaused_regs : RegsSame faultFlds s (s.adminPaused d rs) :=
  State.each_keeps (RegsSame faultFlds s) _ _ (fun r t h => h.trans (t.pauseRing_regs d r 4)) RegsSame.refl

end

theorem State.eq_of_offReset {s t : State} (h : t.offReset = s.offReset) : t = { s with
    out := t.out, regs := t.regs, heads := t.heads, drw := t.drw, wit := t.wit, flt := t.flt, boot := { s.boot with fatal := t.boot.fatal }
    spn := { s.spn with withdrawn := t.spn.withdrawn, ageSeq := t.spn.ageSeq, links := t.spn.links } } :=
  State.eq_of_offFault (s := { s with drw := t.drw }) (congrArg (fun x : State => { x with drw := t.drw }) h)

/-- What an access and, after it, a drawer's bookkeeping leave of a state. -/
theorem State.eq_of_onAccess_offReset {s t : State} {p : Path} (h : t.offReset = (s.onAccess p).offReset) : t = { s with
    out := t.out, regs := t.regs, heads := t.heads, drw := t.drw, wit := t.wit, flt := t.flt, boot := { s.boot with fatal := t.boot.fatal }
    spn := { s.spn with withdrawn := t.spn.withdrawn, ageSeq := t.spn.ageSeq, links := t.spn.links }
    pwr := { s.pwr with latched := t.pwr.latched, held := t.pwr.held } } := by
  rw [s.onAccess_eq p] at h
  have hpwr : t.pwr = { s.pwr with latched := t.pwr.latched, held := t.pwr.held } :=
    congrArg (fun x : State => { x.pwr with latched := t.pwr.latched, held := t.pwr.held }) h
  rw [← hpwr]
  exact State.eq_of_offReset (s := { s with pwr := t.pwr }) (congrArg (fun x : State => { x with pwr := t.pwr }) h)

/-- DRW_PAUSE by an admin path, or by the head that owns the drawer's page, pauses the rings that it names. -/
theorem drwPause_pauses {p : Path} {d : DrawerId} {rs : BitVec 4} {s : State} (ha : s.admits p = true) (he : s.drwExists d = true)
    (hp : s.drwAdmin p = true ∨ s.pageOwner p d = true) : exec (.drwPause p d rs) s = .next ((s.onAccess p).adminPaused d rs) := by
  have hoff := State.adminPaused_off (s.onAccess p) d rs
  have hmay : ((s.onAccess p).drwExists d.val && ((s.onAccess p).drwAdmin p || (s.onAccess p).pageOwner p d.val)) = true := by
    rw [s.onAccess_reads (·.drwExists d) p, s.onAccess_reads (·.drwAdmin p) p (by intros; cases p <;> rfl),
      s.onAccess_reads (·.pageOwner p d) p (by intros; cases p <;> rfl), he]
    rcases hp with hp | hp <;> simp [hp]
  exact (access_ends (c := .drwPause p d rs) (f := drwPause p d rs) ha (if_pos hmay) ((congrArg State.nv hoff).trans (s.onAccess_nv p))
    ((congrArg State.pending hoff).trans (s.onAccess_pending p))).1

end Sys2Proof.Machine
end

section
/-! PROOF. An operation's end: its record, what is counted of it, its entry, and the ring that pauses or closes with it (12 R300, R301, R308, R317). -/

namespace Sys2Proof.Machine

open Sys2Proof

/-! ## What the bookkeeping of an operation's end keeps -/

/-- The state without what an operation's end reaches: what a drawer's reset does, and the key slots. -/
def State.offOp (s : State) : State := { s.offReset with inl := {} }

/-- A step that leaves rings, operations and other drawers alone, takes no output back, and does not change what a ring does at a failure. -/
structure OpStep (d : Nat) (s t : State) : Prop where
  ring : ∀ e k, t.ring e k = s.ring e k
  ops : t.drw.ops = s.drw.ops
  drawer : ∀ e, e ≠ d → t.drawer e = s.drawer e
  out : ∀ o ∈ s.out, o ∈ t.out
  stop : ∀ i, t.fget DRW_RCFG.STOP i = s.fget DRW_RCFG.STOP i
  off : t.offOp = s.offOp

namespace OpStep

variable {d : Nat} {s t u : State}

theorem refl : OpStep d s s := ⟨fun _ _ => rfl, rfl, fun _ _ => rfl, fun _ h => h, fun _ => rfl, rfl⟩

theorem trans (h : OpStep d s t) (k : OpStep d t u) : OpStep d s u :=
  ⟨fun e i => (k.ring e i).trans (h.ring e i), k.ops.trans h.ops, fun e he => (k.drawer e he).trans (h.drawer e he),
    fun o ho => k.out o (h.out o ho), fun i => (k.stop i).trans (h.stop i), k.off.trans h.off⟩

theorem ite {p : Prop} [Decidable p] (h : OpStep d s t) (k : OpStep d s u) : OpStep d s (if p then t else u) := by
  split
  · exact h
  · exact k

/-- A step outside the drawers is one that leaves the rest alone. -/
theorem of_drw (hdrw : t.drw = s.drw) (hout : ∀ o ∈ s.out, o ∈ t.out) (hstop : ∀ i, t.fget DRW_RCFG.STOP i = s.fget DRW_RCFG.STOP i)
    (hoff : t.offOp = s.offOp) : OpStep d s t :=
  ⟨State.ring_of_drw hdrw, congrArg Drawers.ops hdrw, fun e _ => State.drawer_of_drw hdrw e, hout, hstop, hoff⟩

theorem each {α : Type} (l : List α) {f : α → State → State} (h : ∀ a s, OpStep d s (f a s)) : OpStep d s (s.each l f) :=
  State.each_keeps (OpStep d s) l f (fun a t k => k.trans (h a t)) refl

end OpStep

theorem State.offOp_of_offFault {s t : State} (h : t.offFault = s.offFault) : t.offOp = s.offOp :=
  (congrArg (fun x : State => { x with drw := {}, inl := {} }) h :)

section
variable (s : State) (d : Nat)

theorem State.count_step (u ev : Nat) (a : Attr) (k : Nat) : OpStep d s (s.count u ev a k) :=
  .of_drw (State.count_drw ..) (fun _ h => s.count_out u ev a k h) (fun i => s.count_fget u ev a k _ i (by decide) (by decide))
    (State.offOp_of_offFault (offFault_of_offCount (s.count_off u ev a k)))

theorem State.modDrawer_userCtr_ring (f : Drawer → SMap Nat) (e k : Nat) :
    (s.modDrawer d fun x => { x with userCtr := f x }).ring e k = s.ring e k := by
  unfold State.ring
  by_cases he : e = d
  · subst he
    rw [State.modDrawer_drawer_self]
  · rw [State.modDrawer_drawer_ne _ _ he]

theorem State.userEvent_step (ev k : Nat) : OpStep d s (s.userEvent d ev k) :=
  OpStep.each (d := d) (List.range 4) fun _ t => OpStep.ite
    ⟨fun e i => t.modDrawer_userCtr_ring d _ e i, rfl, fun _ he => t.modDrawer_drawer_ne _ he, fun _ h => h, fun _ => rfl, rfl⟩ .refl

theorem State.inlEvent_step (n : Nat) (h : (evtFld n).id < 1024 ∧ DRW_RCFG.STOP.id ≠ (evtFld n).id) : OpStep d s (s.inlEvent n) := by
  refine .of_drw (congrArg State.drw (s.inlEvent_off n) :) (fun o ho => ?_)
    (fun i => s.inlEvent_regs n h.1 _ i (by decide) (by simpa using h.2)) (State.offOp_of_offFault (offFault_of_offCount (s.inlEvent_off n)))
  unfold State.inlEvent
  dsimp only
  split
  · exact ho
  · split
    · exact State.signal_out _ setINL ho
    · exact ho

theorem State.modSlot_step (k : Nat) (f : Slot → Slot) : OpStep d s (s.modSlot k f) := .of_drw rfl (fun _ h => h) (fun _ => rfl) rfl

theorem State.coverRanges_step (a b key : Nat) : OpStep d s (s.coverRanges a b key) :=
  OpStep.each (d := d) _ fun k t => OpStep.ite
    ((t.modSlot_step d k _).trans ((State.modSlot_step _ d k _).trans (State.inlEvent_step _ d 3 (by decide)))) (t.modSlot_step d k _)

theorem State.fillCovered_step (o : Op) : OpStep d s (s.fillCovered o) := by
  unfold State.fillCovered
  dsimp only
  split
  · exact .refl
  · split
    · exact OpStep.ite (s.coverRanges_step d _ _ _) .refl
    · exact .refl

theorem State.entrySignal_step (n : Nat) : OpStep d s (s.entrySignal d n) :=
  State.entrySignal_keeps (OpStep d s) (fun t n x h => h.trans ⟨t.modDrawer_irqs_ring d _, rfl, fun e he => t.modDrawer_drawer_ne _ he,
      fun _ h => h, fun _ => rfl, rfl⟩)
    (fun t o h => h.trans (.of_drw rfl (fun _ h => List.mem_append_left _ h) (fun _ => rfl) rfl))
    (fun t v j h => h.trans (.of_drw (t.signalHead_drw v j) (fun _ h => t.signalHead_out v j h) (t.signalHead_fget v j _)
      (State.offOp_of_offFault (offFault_of_offHeads (t.signalHead_off v j)))))
    (fun t c h => h.trans (.of_drw (t.report_drw setDRW 2 c 0) (fun _ h => t.report_out setDRW 2 c 0 h)
      (fun i => t.report_fget setDRW 2 c 0 _ i (by decide) (by decide)) (State.offOp_of_offFault (t.report_off setDRW 2 c 0))))
    n .refl

end

/-! ## The parts of an operation's end -/

/-- The record of an operation that is not quiet. -/
def opRec (s : State) (o : Op) (st : Nat) : Out :=
  .record (BitVec.ofNat 8 o.drawer).toFin o.ring o.desc.id o.index st (recordPhase (s.ringLog2 o.drawer o.ring) (s.ring o.drawer o.ring).cqTail)
    o.inBytes o.outBytes o.detail o.gen s.tb

/-- The completion index of an operation's ring moves. -/
def State.cqMoved (s : State) (o : Op) : State :=
  s.modRing o.drawer o.ring fun x => { x with cqTail := ringIdx (s.ringLog2 o.drawer o.ring) (x.cqTail + 1) }

/-- The record is written and the completion index moves. -/
def State.recorded (s : State) (o : Op) (st : Nat) : State := (if o.desc.quiet && st == 0 then s else s.opRecord o st).cqMoved o

/-- What is counted of an operation's end. -/
def State.endCounted (s : State) (o : Op) (st : Nat) : State :=
  let s := (s.userEvent o.drawer 1 1).userEvent o.drawer 8 ((s.wclk - o.at_) * 250)
  let s := s.count 8 2 { drw := some o.drawer }
  if st = 0 then s.fillCovered o else (s.userEvent o.drawer 2 1).count 8 3 { drw := some o.drawer }

/-- The entry that an operation's end signals. -/
def State.endSignalled (s : State) (o : Op) (st : Nat) : State :=
  if !(o.desc.quiet && st == 0) && o.desc.irq then s.entrySignal o.drawer (o.desc.irqe.toNat % 64) else s

/-- A ring that stops at failures pauses. -/
def State.endPaused (s : State) (o : Op) (st : Nat) : State :=
  if st ≠ 0 ∧ s.fone DRW_RCFG.STOP (4 * o.drawer + o.ring) then s.pauseRing o.drawer o.ring 2 else s

section
variable (s : State) (n : Nat) (o : Op) (st : Nat)

theorem State.endCounted_step : OpStep o.drawer s (s.endCounted o st) :=
  ((s.userEvent_step _ 1 1).trans (State.userEvent_step _ _ 8 _)).trans ((State.count_step _ _ 8 2 _ 1).trans
    (OpStep.ite (State.fillCovered_step _ _ o) ((State.userEvent_step _ _ 2 1).trans (State.count_step _ _ 8 3 _ 1))))

theorem State.endSignalled_step : OpStep o.drawer s (s.endSignalled o st) := OpStep.ite (s.entrySignal_step _ _) .refl

end

/-! ## The end as a whole (R308) -/

/-- The state in which an operation has left, before its ring pauses or closes. -/
def State.opEnded (s : State) (n : Nat) (o : Op) (st : Nat) : State := (((s.recorded o st).endCounted o st).dropOp n).endSignalled o st

section
variable (s : State) (n : Nat) (o : Op) (st : Nat)

theorem State.opComplete_eq : s.opComplete n o st = ((s.opEnded n o st).endPaused o st).ringEnd o.drawer o.ring := rfl

theorem State.recorded_ring : (s.recorded o st).ring o.drawer o.ring =
    { s.ring o.drawer o.ring with cqTail := ((s.ring o.drawer o.ring).cqTail + 1) % 2 ^ (s.ringLog2 o.drawer o.ring + 1) } := by
  unfold State.recorded State.cqMoved
  split <;> exact State.modRing_ring_self ..

theorem State.opEnded_ring : (s.opEnded n o st).ring o.drawer o.ring =
    { s.ring o.drawer o.ring with cqTail := ((s.ring o.drawer o.ring).cqTail + 1) % 2 ^ (s.ringLog2 o.drawer o.ring + 1) } :=
  ((State.endSignalled_step _ o st).ring ..).trans (((State.endCounted_step _ o st).ring ..).trans (s.recorded_ring o st))

theorem State.recorded_ops : (s.recorded o st).drw.ops = s.drw.ops := by
  unfold State.recorded
  split <;> rfl

theorem State.opEnded_ops : (s.opEnded n o st).drw.ops = smDel s.drw.ops n :=
  (State.endSignalled_step _ o st).ops.trans (congrArg (smDel · n) ((State.endCounted_step _ o st).ops.trans (s.recorded_ops o st)))

theorem State.opEnded_drawer_ne {e : Nat} (he : e ≠ o.drawer) : (s.opEnded n o st).drawer e = s.drawer e := by
  have hrec : (s.recorded o st).drawer e = s.drawer e := by
    unfold State.recorded State.cqMoved
    split <;> exact State.modRing_drawer_ne _ _ _ he
  exact ((State.endSignalled_step _ o st).drawer e he).trans (((State.endCounted_step _ o st).drawer e he).trans hrec)

theorem State.opEnded_out (h : (o.desc.quiet && st == 0) = false) : opRec s o st ∈ (s.opEnded n o st).out := by
  have hrec : opRec s o st ∈ (s.recorded o st).out := by
    unfold State.recorded
    rw [if_neg (by rw [h]; exact Bool.noConfusion)]
    exact List.mem_append_right _ List.mem_cons_self
  exact (State.endSignalled_step _ o st).out _ ((State.endCounted_step _ o st).out _ hrec)

theorem State.opEnded_stop (i : Nat) : (s.opEnded n o st).fget DRW_RCFG.STOP i = s.fget DRW_RCFG.STOP i := by
  have hrec : (s.recorded o st).fget DRW_RCFG.STOP i = s.fget DRW_RCFG.STOP i := by
    unfold State.recorded
    split <;> rfl
  exact ((State.endSignalled_step _ o st).stop i).trans (((State.endCounted_step _ o st).stop i).trans hrec)

theorem State.opEnded_off : (s.opEnded n o st).offOp = s.offOp := by
  have hrec : (s.recorded o st).offOp = s.offOp := by
    unfold State.recorded
    split <;> rfl
  exact (State.endSignalled_step _ o st).off.trans ((State.endCounted_step _ o st).off.trans hrec)

/-- What pausing a ring and closing it keep, the end of an operation keeps of the state in which the operation has left. -/
theorem State.opComplete_keeps (P : State → Prop) (hpause : ∀ t, P t → P (t.pauseRing o.drawer o.ring 2))
    (hend : ∀ t f, P t → P (t.modRing o.drawer o.ring f)) (hs : P (s.opEnded n o st)) : P (s.opComplete n o st) := by
  rw [State.opComplete_eq]
  have hp : P ((s.opEnded n o st).endPaused o st) := by
    unfold State.endPaused
    split
    · exact hpause _ hs
    · exact hs
  unfold State.ringEnd
  split
  · exact hp
  · exact hend _ _ hp

theorem State.opComplete_ops : (s.opComplete n o st).drw.ops = smDel s.drw.ops n :=
  s.opComplete_keeps n o st (fun t => t.drw.ops = smDel s.drw.ops n) (fun t h => (t.pauseRing_ops ..).trans h) (fun _ _ h => h)
    (s.opEnded_ops n o st)

theorem State.opComplete_drawer_ne {e : Nat} (he : e ≠ o.drawer) : (s.opComplete n o st).drawer e = s.drawer e :=
  s.opComplete_keeps n o st (fun t => t.drawer e = s.drawer e) (fun t h => (t.pauseRing_drawer_ne _ _ _ he).trans h)
    (fun t f h => (t.modRing_drawer_ne _ f he).trans h) (s.opEnded_drawer_ne n o st he)

/-- The record of an operation that is not quiet is written. -/
theorem State.opComplete_out (h : (o.desc.quiet && st == 0) = false) : opRec s o st ∈ (s.opComplete n o st).out :=
  s.opComplete_keeps n o st (fun t => opRec s o st ∈ t.out) (fun t h => t.pauseRing_out _ _ _ h) (fun _ _ h => h) (s.opEnded_out n o st h)

theorem State.opComplete_off : (s.opComplete n o st).offOp = s.offOp :=
  s.opComplete_keeps n o st (fun t => t.offOp = s.offOp)
    (fun t h => (congrArg (fun x : State => { x with inl := {} }) (t.pauseRing_off _ _ 2) :).trans h) (fun _ _ h => h) (s.opEnded_off n o st)

/-- Pausing and closing change a ring's state alone. -/
theorem State.endPaused_ring : ∃ state cause, (s.endPaused o st).ring o.drawer o.ring =
    { s.ring o.drawer o.ring with state := state, cause := cause } := by
  unfold State.endPaused
  split
  · by_cases h1 : (s.ring o.drawer o.ring).state = 1
    · exact ⟨2, 2, s.pauseRing_ring _ _ _ h1⟩
    · exact ⟨_, _, congrArg (State.ring · o.drawer o.ring) (s.pauseRing_stays _ _ _ h1)⟩
  · exact ⟨_, _, rfl⟩

theorem State.ringEnd_ring (d r : Nat) : ∃ state cause closing, (s.ringEnd d r).ring d r =
    { s.ring d r with state := state, cause := cause, closing := closing } := by
  unfold State.ringEnd
  split
  · exact ⟨_, _, _, rfl⟩
  · exact ⟨0, _, false, State.modRing_ring_self ..⟩

/-- A ring that an operation's end pauses or closes keeps its indexes and its held records. -/
theorem State.opComplete_ring : ∃ state cause closing, (s.opComplete n o st).ring o.drawer o.ring = { s.ring o.drawer o.ring with
    state := state, cause := cause, closing := closing
    cqTail := ((s.ring o.drawer o.ring).cqTail + 1) % 2 ^ (s.ringLog2 o.drawer o.ring + 1) } := by
  obtain ⟨_, _, hpaused⟩ := (s.opEnded n o st).endPaused_ring o st
  obtain ⟨state, cause, closing, hended⟩ := ((s.opEnded n o st).endPaused o st).ringEnd_ring o.drawer o.ring
  refine ⟨state, cause, closing, ?_⟩
  rw [State.opComplete_eq, hended, hpaused, State.opEnded_ring]

/-- An operation that fails pauses a ring that stops at failures. -/
theorem State.opComplete_stops (h0 : st ≠ 0) (hstop : s.fone DRW_RCFG.STOP (4 * o.drawer + o.ring) = true)
    (h1 : (s.ring o.drawer o.ring).state = 1) (hc : (s.ring o.drawer o.ring).closing = false) :
    ((s.opComplete n o st).ring o.drawer o.ring).state = 2 ∧ ((s.opComplete n o st).ring o.drawer o.ring).cause = 2 := by
  have hring := s.opEnded_ring n o st
  have hst : (s.opEnded n o st).fone DRW_RCFG.STOP (4 * o.drawer + o.ring) = true :=
    (congrArg (· == 1) (s.opEnded_stop n o st (4 * o.drawer + o.ring))).trans hstop
  rw [State.opComplete_eq]
  generalize s.opEnded n o st = t at hring hst ⊢
  have hpaused := t.pauseRing_ring o.drawer o.ring 2 (by rw [hring]; exact h1)
  have hend : t.endPaused o st = t.pauseRing o.drawer o.ring 2 := if_pos ⟨h0, hst⟩
  have hclosing : (!((t.pauseRing o.drawer o.ring 2).ring o.drawer o.ring).closing) = true := by
    rw [hpaused, hring, Bool.not_eq_true']
    exact hc
  rw [hend, State.ringEnd, if_pos (.inl hclosing), hpaused]
  exact ⟨rfl, rfl⟩

end

end Sys2Proof.Machine
end

section
/-! PROOF. Drawer control: bindings, limits, vectors, resets, rings, doorbells and entries (12 R294-R301, R309-R317). -/

namespace Sys2Proof.Machine

open Sys2Proof

/-! ## What the commands leave -/

section
variable {s t : State}

theorem State.regs_of_offRings (h : t.offRings = s.offRings) : t.regs = s.regs := (congrArg State.regs h :)
theorem State.ops_of_offRings (h : t.offRings = s.offRings) : t.drw.ops = s.drw.ops := (congrArg (fun x : State => x.drw.ops) h :)
theorem State.offGen_of_offRings (h : t.offRings = s.offRings) : t.offGen = s.offGen := (congrArg State.offGen h :)
theorem State.nv_of_offGen (h : t.offGen = s.offGen) : t.nv = s.nv := (congrArg State.nv h :)
theorem State.pending_of_offGen (h : t.offGen = s.offGen) : t.pending = s.pending := (congrArg State.pending h :)

/-- A state whose operations stay differs in registers and its drawers' parts. -/
theorem State.eq_of_ops (h : t.offGen = s.offGen) (ho : t.drw.ops = s.drw.ops) :
    t = { s with regs := t.regs, drw := { s.drw with drawers := t.drw.drawers } } :=
  (State.eq_of_offGen h).trans (by rw [ho])

end

section
variable (s : State) (d v : Nat)

/-- A drawer whose limits are written, its rings closed above them (R310, R311). -/
def State.limited : State := (s.limitsSet d v).ringsShrink d

theorem State.limited_regs : (s.limited d v).regs = (s.limitsSet d v).regs :=
  State.regs_of_offRings ((s.limitsSet d v).ringsShrink_off d)

theorem State.limited_fget (f : Fld) (i : Nat) : (s.limited d v).fget f i = (s.limitsSet d v).fget f i :=
  State.regs_fget (s.limited_regs d v) f i

theorem State.limited_same : RegsSame [DRW_LIMIT.OPS, DRW_LIMIT.RINGS, DRW_LIMIT.SHARE] s (s.limited d v) :=
  (s.limitsSet_sets d v).regs.trans (RegsSame.of_regs (s.limited_regs d v))

theorem State.limited_off : (s.limited d v).offGen = s.offGen :=
  (State.offGen_of_offRings ((s.limitsSet d v).ringsShrink_off d)).trans (State.offGen_of_offRegs (s.limitsSet_sets d v).off)

theorem State.limited_ops : (s.limited d v).drw.ops = s.drw.ops :=
  (State.ops_of_offRings ((s.limitsSet d v).ringsShrink_off d)).trans rfl

theorem State.limitsSet_rings : (s.limitsSet d v).fget DRW_LIMIT.RINGS d = bits v 29 2 := by
  obtain ⟨-, hrings, -⟩ := s.limitsSet_fget d v
  exact hrings

/-- A ring that the new limit covers stays. -/
theorem State.limited_covered {r : Nat} (hr : r ≤ bits v 29 2) : (s.limited d v).ring d r = s.ring d r :=
  (s.limitsSet d v).ringsShrink_covered d (by rw [State.limitsSet_rings]; exact hr)

/-- A ring above the new limit closes. -/
theorem State.limited_closes {r : Nat} (hr : r < 4) (hv : bits v 29 2 < r) (h : (s.ring d r).state ≠ 0) :
    (s.limited d v).ring d r = if s.ringBusy d r = true then (s.ring d r).closes else (s.ring d r).closes.ended True := by
  rw [← s.limitsSet_ringBusy d v r]
  exact State.ringsShrink_over hr (by rw [State.limitsSet_rings]; exact hv) h

/-- A ring whose enable is cleared closes (R301). -/
theorem State.ringDisable_ring {r : Nat} (h : (s.ring d r).state ≠ 0) : (s.ringDisable d r).ring d r =
    if s.ringBusy d r = true then (s.ring d r).closes else (s.ring d r).closes.ended (s.fget DRW_LIMIT.RINGS d < r) := by
  have hregs : RegsSame [DRW_RCFG.EN] s (s.fset DRW_RCFG.EN (4 * d + r) 0) := RegsSame.refl.fset _ _ (by decide)
  have hbusy : (s.fset DRW_RCFG.EN (4 * d + r) 0).ringBusy d r = s.ringBusy d r :=
    State.ringBusy_congr (s := s) (t := s.fset DRW_RCFG.EN (4 * d + r) 0) rfl (fun i => hregs DRW_STATE.GEN i (by decide) (by decide)) d r
  rw [← hbusy, ← hregs DRW_LIMIT.RINGS d (by decide) (by decide)]
  exact State.ringClose_ring h

theorem State.ringDisable_off (r : Nat) : (s.ringDisable d r).offRings = (s.fset DRW_RCFG.EN (4 * d + r) 0).offRings := State.ringClose_off ..

theorem State.ringDisable_fget (r : Nat) (f : Fld) (i : Nat) : (s.ringDisable d r).fget f i = (s.fset DRW_RCFG.EN (4 * d + r) 0).fget f i :=
  State.regs_fget (State.regs_of_offRings (s.ringDisable_off d r)) f i

end

/-! ## The commands -/

section
variable {p : Path} {d : DrawerId} {s : State}

theorem drwLimitWrite_limits {v : Word} (ho : s.drwOpen p d = true) (h : s.opsSum d (bits v.toNat 16 13) ≤ 4096) :
    exec (.drwLimitWrite p d v) s = .next ((s.onAccess p).limited d v.toNat) := by
  have hoff := (s.onAccess p).limited_off d v.toNat
  refine adminWrite_open ho (State.limitWrite_taken ?_) (State.nv_of_offGen hoff) (State.pending_of_offGen hoff)
  rw [s.onAccess_reads (·.opsSum d (bits v.toNat 16 13)) p]
  exact h

theorem drwLimitWrite_ignored {v : Word} (ho : s.drwOpen p d = true) (h : 4096 < s.opsSum d (bits v.toNat 16 13)) :
    exec (.drwLimitWrite p d v) s = .next ((s.onAccess p).bindErr d) := by
  refine adminWrite_open ho (if_pos ?_)
  rw [s.onAccess_reads (·.opsSum d (bits v.toNat 16 13)) p]
  exact h

variable (ho : s.pageOpen d = true)
include ho

theorem drwVecWrite_takes {v : Word} (h : bits v.toNat 16 11 = 0 ∨ (64 ≤ bits v.toNat 0 11 ∧ bits v.toNat 0 11 + bits v.toNat 16 11 ≤ 2048 ∧
      ∀ e ∈ s.boundTo (s.drwHead d), e ≠ d.val → overlaps (bits v.toNat 0 11) (bits v.toNat 16 11) (s.fget DRW_VEC.BASE e) (s.fget DRW_VEC.COUNT e) = false)) :
    exec (.drwVecWrite d v) s = .next ((s.onAccess (s.pagePath d)).vecsSet d (bits v.toNat 16 11) (bits v.toNat 0 11)) := by
  refine pageWrite_open ho (State.vecWrite_taken ?_)
  rw [s.onAccess_reads (fun t => t.boundTo (t.drwHead d)) (s.pagePath d)]
  simpa only [State.onAccess_fget] using h

theorem drwVecWrite_ignored {v : Word} (hn : bits v.toNat 16 11 ≠ 0) (h : bits v.toNat 0 11 < 64 ∨ 2048 < bits v.toNat 0 11 + bits v.toNat 16 11) :
    exec (.drwVecWrite d v) s = .next ((s.onAccess (s.pagePath d)).bindErr d) :=
  pageWrite_open ho (State.vecWrite_ignored hn h)

variable {r : RingId}

theorem drwRingEnable_starts (h0 : (s.ring d r).state = 0) (hr : (s.drawer d).resetting = false) (hv : s.ringValid d r = true) :
    exec (.drwRingEnable d r) s =
      .next (((s.onAccess (s.pagePath d)).modRing d r fun _ => { state := 1 }).fset DRW_RCFG.EN (4 * d + r) 1) := by
  refine pageWrite_open ho (State.ringEnable_starts ?_ ?_ ((s.onAccess_reads (·.ringValid d r) (s.pagePath d)).trans hv))
  · rw [State.onAccess_ring]; exact h0
  · rw [State.onAccess_drawer]; exact hr

theorem drwRingEnable_invalid (h0 : (s.ring d r).state = 0) (hr : (s.drawer d).resetting = false) (hv : s.ringValid d r = false) :
    exec (.drwRingEnable d r) s = .next ((s.onAccess (s.pagePath d)).modRing d r fun x => { x with cause := 1 }) := by
  refine pageWrite_open ho (State.ringEnable_invalid ?_ ?_ ((s.onAccess_reads (·.ringValid d r) (s.pagePath d)).trans hv))
  · rw [State.onAccess_ring]; exact h0
  · rw [State.onAccess_drawer]; exact hr

theorem drwRingDisable_disables : exec (.drwRingDisable d r) s = .next ((s.onAccess (s.pagePath d)).ringDisable d r) :=
  have hoff := State.offGen_of_offRings ((s.onAccess (s.pagePath d)).ringDisable_off d r)
  pageWrite_open ho rfl (State.nv_of_offGen hoff) (State.pending_of_offGen hoff)

theorem doorbellSqTail_moves {v : Word} (h0 : (s.ring d r).state ≠ 0)
    (h : ringAhead (s.ringLog2 d r) (ringIdx (s.ringLog2 d r) v.toNat) (s.ring d r).sqHead ≤ 2 ^ s.ringLog2 d r) :
    exec (.doorbellSqTail d r v) s =
      .next (((s.onAccess (s.pagePath d)).rung d).modRing d r fun x => { x with sqTail := ringIdx (s.ringLog2 d r) v.toNat }) := by
  refine pageWrite_open ho ?_ (State.rung_nv ..) (State.rung_pending ..)
  have hlog := s.onAccess_reads (·.ringLog2 d r) (s.pagePath d)
  refine (if_neg ?_).trans (by rw [hlog]; rfl)
  rw [hlog, State.onAccess_ring]
  omega

theorem doorbellSqTail_bad {v : Word} (h : (s.ring d r).state = 0 ∨
      2 ^ s.ringLog2 d r < ringAhead (s.ringLog2 d r) (ringIdx (s.ringLog2 d r) v.toNat) (s.ring d r).sqHead) :
    exec (.doorbellSqTail d r v) s = .next (((s.onAccess (s.pagePath d)).rung d).doorbellBad d r) := by
  obtain ⟨-, -, -, hn, hp, -⟩ := (s.onAccess (s.pagePath d)).doorbellBad_reports d r rfl
  refine pageWrite_open ho (if_pos ?_) hn hp
  rw [s.onAccess_reads (·.ringLog2 d r) (s.pagePath d), State.onAccess_ring]
  exact h

theorem doorbellCqHead_moves {v : Word} (h0 : (s.ring d r).state ≠ 0)
    (h : ringAhead (s.ringLog2 d r) (s.ring d r).cqTail (ringIdx (s.ringLog2 d r) v.toNat) ≤ 2 ^ s.ringLog2 d r) :
    exec (.doorbellCqHead d r v) s =
      .next (((s.onAccess (s.pagePath d)).rung d).modRing d r fun x => { x with cqHead := ringIdx (s.ringLog2 d r) v.toNat }) := by
  refine pageWrite_open ho ?_ (State.rung_nv ..) (State.rung_pending ..)
  have hlog := s.onAccess_reads (·.ringLog2 d r) (s.pagePath d)
  refine (if_neg ?_).trans (by rw [hlog]; rfl)
  rw [hlog, State.onAccess_ring]
  omega

theorem doorbellCqHead_bad {v : Word} (h : (s.ring d r).state = 0 ∨
      2 ^ s.ringLog2 d r < ringAhead (s.ringLog2 d r) (s.ring d r).cqTail (ringIdx (s.ringLog2 d r) v.toNat)) :
    exec (.doorbellCqHead d r v) s = .next (((s.onAccess (s.pagePath d)).rung d).doorbellBad d r) := by
  obtain ⟨-, -, -, hn, hp, -⟩ := (s.onAccess (s.pagePath d)).doorbellBad_reports d r rfl
  refine pageWrite_open ho (if_pos ?_) hn hp
  rw [s.onAccess_reads (·.ringLog2 d r) (s.pagePath d), State.onAccess_ring]
  exact h

/-- A ring that resumes with no record held only starts to fetch again. -/
theorem drwResume_resumes (h2 : (s.ring d r).state = 2) (hc : (s.ring d r).cause ≠ 3 ∨ s.hostReach d = true) (hh : (s.ring d r).held = []) :
    exec (.drwResume d r) s = .next ((s.onAccess (s.pagePath d)).modRing d r RingSt.resumed) := by
  refine pageWrite_open ho (State.ringResume_noRecord ?_ ?_ ?_)
  · rw [State.onAccess_ring]; exact h2
  · rw [State.onAccess_ring, s.onAccess_reads (·.hostReach d) (s.pagePath d)]; exact hc
  · rw [State.onAccess_ring]; exact hh

/-- A ring that resumes with one record held writes it. -/
theorem drwResume_writes {n st : Nat} {o : Op} (h2 : (s.ring d r).state = 2) (hc : s.hostReach d = true) (hh : (s.ring d r).held = [n])
    (hn : smFind? s.drw.ops n = some o) (hst : o.status = some st) : exec (.drwResume d r) s =
      .next (((s.onAccess (s.pagePath d)).modRing d r RingSt.resumed).opComplete n o st) := by
  have hoff := ((s.onAccess (s.pagePath d)).modRing d r RingSt.resumed).opComplete_off n o st
  have hnv : (((s.onAccess (s.pagePath d)).modRing d r RingSt.resumed).opComplete n o st).nv = (s.onAccess (s.pagePath d)).nv :=
    (congrArg State.nv hoff :)
  have hpend : (((s.onAccess (s.pagePath d)).modRing d r RingSt.resumed).opComplete n o st).pending = (s.onAccess (s.pagePath d)).pending :=
    (congrArg State.pending hoff :)
  refine pageWrite_open ho ?_ hnv hpend
  have hr := State.ringResume_goes (s := s.onAccess (s.pagePath d)) (d := d.val) (r := r.val) (by rw [State.onAccess_ring]; exact h2)
    (.inr ((s.onAccess_reads (·.hostReach d) (s.pagePath d)).trans hc))
  rw [State.onAccess_ring, hh, State.each_cons, State.each_nil] at hr
  have hops : smFind? ((s.onAccess (s.pagePath d)).modRing d r RingSt.resumed).drw.ops n = some o :=
    (congrArg (fun x : Drawers => smFind? x.ops n) (s.onAccess_drw (s.pagePath d))).trans hn
  exact hr.trans (State.heldWritten_some hops hst)

end

end Sys2Proof.Machine
end

section
/-! PROOF. The obligation about drawer control, put together from its commands (12 R294-R317). -/

namespace Sys2Proof.Machine

open Sys2Proof

section
variable {p : Path} {d : DrawerId} {s : State}

theorem State.drwBound_of_pageOpen (ho : s.pageOpen d = true) : s.drwBound d = true := by
  simp only [State.pageOpen, Bool.and_eq_true] at ho
  obtain ⟨⟨⟨-, hb⟩, -⟩, -⟩ := ho
  exact hb

theorem interruptEntryUnmask_waits {k : Fin 64} (ho : s.pageOpen d = true)
    (h : (smGet (s.drawer d).irqs k {}).pend = false ∨ entryHeld (s.head (s.drwHead d)) = true) :
    exec (.interruptEntryUnmask d k) s = .next ((s.onAccess (s.pagePath d)).entryOpen d k) := by
  refine pageWrite_open ho (State.entryUnmask_waits rfl ?_)
  rw [State.onAccess_drawer, s.onAccess_reads (fun t => entryHeld (t.head (t.drwHead d))) (s.pagePath d)]
  exact h

/-- The entry that waited goes out, and the mask and the mark are clear. -/
def State.entrySent (s : State) (d k : Nat) : State :=
  ((s.entryOpen d k).modDrawer d fun y => { y with irqs := smSet y.irqs k { smGet (s.drawer d).irqs k {} with mask := false, pend := false } }).emit
    (.irqWrite (Fin.ofNat 16 (s.drwHead d)) (smGet (s.drawer d).irqs k {}).addr (smGet (s.drawer d).irqs k {}).data)

theorem State.entrySent_entry (s : State) (d k : Nat) :
    smGet ((s.entrySent d k).drawer d).irqs k {} = { smGet (s.drawer d).irqs k {} with mask := false, pend := false } := by
  have hdrawer : (s.entrySent d k).drawer d = _ := State.modDrawer_drawer_self (s.entryOpen d k) d _
  rw [hdrawer]
  exact smGet_set_self ..

theorem State.entrySent_drawer_ne (s : State) (d k : Nat) {e : Nat} (he : e ≠ d) : (s.entrySent d k).drawer e = s.drawer e :=
  ((s.entryOpen d k).modDrawer_drawer_ne _ he).trans (s.modDrawer_drawer_ne _ he)

theorem interruptEntryUnmask_sends {k : Fin 64} (ho : s.pageOpen d = true) (hp : (smGet (s.drawer d).irqs k {}).pend = true)
    (hv : (smGet (s.drawer d).irqs k {}).vec = false) (hh : entryHeld (s.head (s.drwHead d)) = false) :
    exec (.interruptEntryUnmask d k) s = .next ((s.onAccess (s.pagePath d)).entrySent d k) := by
  refine pageWrite_open ho (State.entryUnmask_sends rfl ?_ ?_ ?_ ?_)
  · exact (s.onAccess_reads (·.drwBound d) (s.pagePath d)).trans (State.drwBound_of_pageOpen ho)
  · rw [State.onAccess_drawer]; exact hp
  · rw [State.onAccess_drawer]; exact hv
  · exact (s.onAccess_reads (fun t => entryHeld (t.head (t.drwHead d))) (s.pagePath d)).trans hh

end

/-- What an access wrote of registers apart, a change of a drawer's own parts after it is one of `drw`. -/
theorem State.eq_of_onAccess {s t : State} {p : Path} (h : t.offGen = (s.onAccess p).offGen) (ho : t.drw.ops = s.drw.ops) :
    t = { s.onAccess p with regs := t.regs, drw := { s.drw with drawers := t.drw.drawers } } := by
  have he := State.eq_of_ops h (ho.trans (congrArg Drawers.ops (s.onAccess_drw p)).symm)
  rwa [s.onAccess_drw p] at he

/-- A drawer's own parts that change after an access. -/
theorem State.modDrawer_onAccess (s : State) (p : Path) (d : Nat) (f : Drawer → Drawer) : (s.onAccess p).modDrawer d f =
    { s.onAccess p with drw := { s.drw with drawers := ((s.onAccess p).modDrawer d f).drw.drawers } } := by
  have h : (s.onAccess p).modDrawer d f =
    { s.onAccess p with drw := { (s.onAccess p).drw with drawers := ((s.onAccess p).modDrawer d f).drw.drawers } } := rfl
  rwa [s.onAccess_drw p] at h

theorem State.modRing_onAccess (s : State) (p : Path) (d r : Nat) (f : RingSt → RingSt) : (s.onAccess p).modRing d r f =
    { s.onAccess p with drw := { s.drw with drawers := ((s.onAccess p).modRing d r f).drw.drawers } } := s.modDrawer_onAccess p d _

theorem State.entrySent_out (s : State) (d k : Nat) : (s.entrySent d k).out = s.out ++
    [.irqWrite (Fin.ofNat 16 (s.drwHead d)) (smGet (s.drawer d).irqs k {}).addr (smGet (s.drawer d).irqs k {}).data] := rfl

theorem State.entrySent_onAccess (s : State) (p : Path) (d k : Nat) : (s.onAccess p).entrySent d k = { s.onAccess p with
    out := ((s.onAccess p).entrySent d k).out, drw := { s.drw with drawers := ((s.onAccess p).entrySent d k).drw.drawers } } := by
  have h : (s.onAccess p).entrySent d k = { s.onAccess p with
    out := ((s.onAccess p).entrySent d k).out, drw := { (s.onAccess p).drw with drawers := ((s.onAccess p).entrySent d k).drw.drawers } } := rfl
  rwa [s.onAccess_drw p] at h

/-- Settles O57: each command ends in the state that the rules above say, and the lemmas about that state give the clauses. -/
theorem drawerControl : Obligations.DrawerControl := by
  unfold Obligations.DrawerControl
  refine ⟨?bind, ?refused, ?limit, ?vec, ?reset, ?drain, ?pause, ?rings⟩
  case bind =>
    intro p d h pasid s ho
    refine ⟨fun hb => ?_, fun hb => ?_, fun hd hr => ?_, fun hd => ?_⟩
    · obtain ⟨hen, hhead, hpasid⟩ := (s.onAccess p).boundAs_fget d h pasid.toNat h.isLt pasid.isLt
      have hsets := (s.onAccess p).boundAs_sets d h pasid.toNat
      refine ⟨_, drwBindWrite_binds ho hb, hen, hhead, hpasid, fun e he => ?_, hsets.eq, hsets.regs.onAccess⟩
      simpa only [State.onAccess_fget] using (s.onAccess p).boundAs_other d h pasid.toNat he
    · obtain ⟨herr, hbut⟩ := (s.onAccess p).bindErr_sets d
      exact ⟨_, drwBindWrite_ignored ho hb, herr, rfl, hbut.onAccess⟩
    · exact ⟨_, drwUnbind_unbinds ho hd hr, State.fget_fset_self .., rfl, ((s.onAccess p).fset_but _ _ 0 (by decide)).onAccess⟩
    · obtain ⟨herr, hbut⟩ := (s.onAccess p).bindErr_sets d
      exact ⟨_, drwUnbind_ignored ho hd, herr, rfl, hbut.onAccess⟩
  case refused =>
    intro p d h pasid v s ha hd
    exact ⟨adminWrite_refused ha hd, adminWrite_refused ha hd, adminWrite_refused ha hd, adminWrite_refused ha hd⟩
  case limit =>
    intro p d v s ho
    refine ⟨fun h => ?_, fun h => ?_⟩
    · obtain ⟨hops, hrings, hshare⟩ := (s.onAccess p).limitsSet_fget d v.toNat
      have hring (r : Nat) := s.onAccess_ring p d r
      have hbusy (r : Nat) : (s.onAccess p).ringBusy d r = s.ringBusy d r := s.onAccess_reads (·.ringBusy d r) p
      have hclose {r : Nat} (hr : r < 4) (hv : bits v.toNat 29 2 < r) (h0 : (s.ring d r).state ≠ 0) :=
        (s.onAccess p).limited_closes d v.toNat hr hv (by rw [hring]; exact h0)
      refine ⟨_, drwLimitWrite_limits ho h, (State.limited_fget ..).trans hops, (State.limited_fget ..).trans hrings,
        (State.limited_fget ..).trans hshare, fun r hr => ?_, fun r hr hv h0 hb => ?_, fun r hr hv h0 hb => ?_, fun e he => ?_, ?_, ?_⟩
      · rw [State.limited_covered _ _ _ hr, hring]
      · rw [hclose hr hv h0, hbusy, hb, hring]
        rfl
      · rw [hclose hr hv h0, hbusy, hb, hring]
        rfl
      · exact ((State.limitsSet _ d v.toNat).ringsShrink_drawer_ne d he).trans (s.onAccess_drawer p e)
      · exact State.eq_of_onAccess (State.limited_off ..) ((State.limited_ops ..).trans (congrArg Drawers.ops (s.onAccess_drw p)))
      · exact ((s.onAccess p).limited_same d v.toNat).onAccess
    · obtain ⟨herr, hbut⟩ := (s.onAccess p).bindErr_sets d
      exact ⟨_, drwLimitWrite_ignored ho h, herr, rfl, hbut.onAccess⟩
  case vec =>
    intro d v s ho
    refine ⟨fun h => ?_, fun hn h => ?_⟩
    · obtain ⟨hcount, hbase⟩ := (s.onAccess (s.pagePath d)).vecsSet_fget d (bits_lt v.toNat 16 11) (bits_lt v.toNat 0 11)
      refine ⟨_, drwVecWrite_takes ho h, hcount, hbase, rfl, RegsSame.onAccess (p := s.pagePath d) ?_⟩
      exact (RegsSame.refl.fset d _ (by decide)).fset d _ (by decide)
    · obtain ⟨herr, hbut⟩ := (s.onAccess (s.pagePath d)).bindErr_sets d
      exact ⟨_, drwVecWrite_ignored ho hn h, herr, rfl, hbut.onAccess⟩
  case reset =>
    intro p q d s hpath hr
    have hexec := drwResetGo_acts hpath
    have hdrawer := s.onAccess_drawer q
    have hres : ((s.onAccess q).drawer d).resetting = false := by rw [hdrawer]; exact hr
    have hold : (s.onAccess q).tooOld d (((s.onAccess q).fget DRW_STATE.GEN d + 1) % 65536) =
      s.tooOld d ((s.fget DRW_STATE.GEN d + 1) % 65536) := s.onAccess_reads (fun t => t.tooOld d ((t.fget DRW_STATE.GEN d + 1) % 65536)) q
    have hpriv : (s.onAccess q).drwPriv d = s.drwPriv d := s.onAccess_reads (·.drwPriv d) q
    refine ⟨fun hp hu ho => ?_, fun hp ho => ?_, fun hp => ?_⟩
    · rw [State.resetGo_ordinary hres (hpriv.trans hp) (hold.trans ho)] at hexec
      have hdrw := s.onAccess_drw q
      have hops : (s.onAccess q).drw.ops = s.drw.ops := congrArg Drawers.ops hdrw
      obtain ⟨hgo, hdone, hresult⟩ := (s.onAccess q).goReset_done d
      refine ⟨_, hexec, ?_, hgo, hdone, hresult, State.goReset_count .., fun r hr => ⟨State.goReset_ring .., State.goReset_en _ _ hr⟩,
        fun k x hx => State.goReset_entry _ _ (by rw [hdrawer]; exact hx), fun k o hk hd hall => ?_, fun k o hk hd ht hn => ?_,
        fun e he => ?_, ?_, ?_⟩
      · exact ((s.onAccess q).goReset_regs_gen d).trans (by rw [State.onAccess_fget])
      · exact State.goReset_other _ _ (hops ▸ hk) hd (hops ▸ hall)
      · exact State.goReset_idle _ _ (hops ▸ hk) hd ht hn
      · exact (State.goReset_drawer_ne _ _ he).trans (hdrawer e)
      · have heq := State.eq_of_offGen ((s.onAccess q).goReset_off d)
        rwa [hdrw] at heq
      · exact (((s.onAccess q).goReset_regs d (by rw [hdrawer]; exact hu)).mono (by decide)).onAccess
    · rw [State.resetGo_busy hres (hpriv.trans hp) (by rw [hold]; exact ho)] at hexec
      refine ⟨_, hexec, ?_, State.fget_fset_self .., rfl, RegsSame.onAccess (p := q) ?_⟩
      · rw [State.fget_fset_ne _ _ _ _ (by decide) (by decide) (by decide)]
        exact State.fget_fset_self ..
      · exact (RegsSame.refl.fset d 1 (by decide)).fset d 1 (by decide)
    · rw [State.resetGo_drains hres (hpriv.trans hp)] at hexec
      refine ⟨_, hexec, State.goDrain_go .., ?_, fun e he => (State.goDrain_drawer_ne _ _ he).trans (hdrawer e),
        State.eq_of_onAccess (State.goDrain_off ..) ((State.goDrain_ops ..).trans (congrArg Drawers.ops (s.onAccess_drw q))),
        ((s.onAccess q).goDrain_regs d).onAccess⟩
      rw [State.goDrain_drawer, hdrawer, s.onAccess_reads State.wclk q]
  case drain =>
    intro d s hr
    refine ⟨fun he => ?_, drainMaxExpiry_waits, fun hd => ?_, privilegedDrainComplete_waits⟩
    · have hexec := drainMaxExpiry_squashes hr he
      have hoff := s.clearOut.drainCut_off d (if (s.drwOps d).isEmpty then 2 else 3)
      have hfault := s.clearOut.drainCut_fault d (if (s.drwOps d).isEmpty then 2 else 3)
      obtain ⟨hidle, hgone, hgen, hdone⟩ :=
        (s.clearOut.drainCut_over d (if (s.drwOps d).isEmpty then 2 else 3) (by split <;> decide)).kept
      generalize s.clearOut.drainCut d (if (s.drwOps d).isEmpty then 2 else 3) = t at hexec hoff hfault hidle hgone hgen hdone
      exact ⟨_, hexec, hidle, hgone, hgen, hdone, hfault, (congrArg State.dram hoff :), rfl, (congrArg State.coh hoff :)⟩
    · have hexec := privilegedDrainComplete_completes hr hd
      have heq := State.eq_of_offDrain (s.clearOut.drainClosed_off d)
      obtain ⟨hidle, hgone, hgen, hdone⟩ := (s.clearOut.drainClosed_over d).kept
      generalize s.clearOut.drainClosed d = t at hexec heq hidle hgone hgen hdone
      exact ⟨_, hexec, hidle, hgone, hgen, hdone, congrArg s.kept heq⟩
  case pause =>
    intro p d rs s ha he hp
    have hring (r : Nat) := s.onAccess_ring p d r
    refine ⟨_, drwPause_pauses ha he hp, fun r hr hn h1 => ?_, fun r h => ?_, fun e he => ?_, ?_,
      State.eq_of_onAccess_offReset ((s.onAccess p).adminPaused_off d rs), ((s.onAccess p).adminPaused_regs d rs).onAccess⟩
    · rw [State.adminPaused_ring _ _ _ hr hn (by rw [hring]; exact h1), hring]
    · rw [State.adminPaused_ring_ne _ _ _ (by rw [hring]; exact h), hring]
    · rw [State.adminPaused_drawer_ne _ _ _ he, State.onAccess_drawer]
    · rw [State.adminPaused_ops, State.onAccess_drw]
  case rings =>
    intro d r s ho
    have hring (k : Nat) := s.onAccess_ring (s.pagePath d) d k
    have hdrawer := s.onAccess_drawer (s.pagePath d)
    have hdrw := s.onAccess_drw (s.pagePath d)
    have hdram : (s.onAccess (s.pagePath d)).dram = s.dram := s.onAccess_reads State.dram (s.pagePath d)
    have hnv : (s.onAccess (s.pagePath d)).nv = s.nv := s.onAccess_nv (s.pagePath d)
    refine ⟨fun h0 hr hv => ?enable, fun h0 hr hv => ?invalid, fun h0 => ?disable, fun h2 hc hh => ?resume, fun n o st h2 hc hh hn hst hd hr hq => ?write,
      fun v h0 h => ?sq, fun v h => ?sqBad, fun v h0 h => ?cq, fun v h => ?cqBad, fun k x hx => ?entry⟩
    case enable =>
      refine ⟨_, drwRingEnable_starts ho h0 hr hv, State.modRing_ring_self .., State.fget_fset_self .., fun k hk => ?_, fun e he => ?_, ?_, ?_⟩
      · exact (State.modRing_ring_ne _ _ (.inr hk)).trans (hring k)
      · exact (State.modRing_drawer_ne _ _ _ he).trans (hdrawer e)
      · exact State.eq_of_onAccess rfl (congrArg Drawers.ops hdrw :)
      · exact fun g j hg hne => (State.fset_but _ DRW_RCFG.EN (4 * d + r) 1 (by decide) g j hg hne).trans (s.onAccess_fget _ g j)
    case invalid =>
      refine ⟨_, drwRingEnable_invalid ho h0 hr hv, ?_, fun k hk => (State.modRing_ring_ne _ _ (.inr hk)).trans (hring k), ?_⟩
      · rw [State.modRing_ring_self, hring]
      · exact s.modRing_onAccess (s.pagePath d) d r _
    case disable =>
      have h0' : ((s.onAccess (s.pagePath d)).ring d r).state ≠ 0 := by rw [hring]; exact h0
      have hself := (s.onAccess (s.pagePath d)).ringDisable_ring d h0'
      have hoff := (s.onAccess (s.pagePath d)).ringDisable_off d r
      have hbut := (s.onAccess (s.pagePath d)).fset_but DRW_RCFG.EN (4 * d + r) 0 (by decide)
      rw [s.onAccess_reads (·.ringBusy d r) (s.pagePath d), hring] at hself
      refine ⟨_, drwRingDisable_disables ho, (State.ringDisable_fget ..).trans (State.fget_fset_self ..), fun hb => ?_, fun hb => ?_,
        fun k hk => (State.ringClose_ring_ne _ _ _ hk).trans (hring k), fun e he => (State.ringClose_drawer_ne _ _ _ he).trans (hdrawer e),
        ?_, fun g j hg hne => ?_⟩
      · rw [hself, if_pos hb]
        rfl
      · rw [hself, hb]
        exact ⟨rfl, rfl⟩
      · exact State.eq_of_onAccess ((State.offGen_of_offRings hoff).trans rfl)
          ((State.ops_of_offRings hoff).trans (congrArg Drawers.ops hdrw :))
      · exact (State.ringDisable_fget ..).trans ((hbut g j hg hne).trans (s.onAccess_fget _ g j))
    case resume =>
      refine ⟨_, drwResume_resumes ho h2 hc hh, ?_, fun k hk => (State.modRing_ring_ne _ _ (.inr hk)).trans (hring k),
        fun e he => (State.modRing_drawer_ne _ _ _ he).trans (hdrawer e), s.modRing_onAccess (s.pagePath d) d r _⟩
      rw [State.modRing_ring_self, hring, RingSt.resumed_noRecord hh]
    case write =>
      have hself : ((s.onAccess (s.pagePath d)).modRing d r RingSt.resumed).ring d r = (s.ring d r).resumed := by
        rw [State.modRing_ring_self, hring]
      obtain ⟨state, cause, closing, hended⟩ := ((s.onAccess (s.pagePath d)).modRing d r RingSt.resumed).opComplete_ring n o st
      have hrec := ((s.onAccess (s.pagePath d)).modRing d r RingSt.resumed).opComplete_out n o st (by rw [hq]; rfl)
      rw [hd, hr, hself] at hended
      refine ⟨_, drwResume_writes ho h2 hc hh hn hst, ?_, ?_, by rw [hended]; rfl⟩
      · rw [opRec, hd, hr, hself] at hrec
        have hlog : ((s.onAccess (s.pagePath d)).modRing d r RingSt.resumed).ringLog2 d r = s.ringLog2 d r :=
          s.onAccess_reads (·.ringLog2 d r) (s.pagePath d)
        have htb : ((s.onAccess (s.pagePath d)).modRing d r RingSt.resumed).tb = s.tb := s.onAccess_reads State.tb (s.pagePath d)
        rw [hlog, htb] at hrec
        exact hrec
      · rw [State.opComplete_ops]
        exact smFind?_del_self ..
    case sq =>
      obtain ⟨hself, hne, hdne, hm, hv, -, hregs⟩ := (s.onAccess (s.pagePath d)).rung_modRing d r _ rfl
      refine ⟨_, doorbellSqTail_moves ho h0 h, hself.trans (by rw [hring]; rfl), fun k hk => (hne k hk).trans (hring k),
        fun e he => (hdne e he).trans (hdrawer e), hm.trans hdram, hv.trans hnv, hregs.onAccess⟩
    case cq =>
      obtain ⟨hself, hne, hdne, hm, hv, -, hregs⟩ := (s.onAccess (s.pagePath d)).rung_modRing d r _ rfl
      refine ⟨_, doorbellCqHead_moves ho h0 h, hself.trans (by rw [hring]; rfl), fun k hk => (hne k hk).trans (hring k),
        fun e he => (hdne e he).trans (hdrawer e), hm.trans hdram, hv.trans hnv, hregs.onAccess⟩
    case sqBad =>
      obtain ⟨hf, hw, hm, hv, -, hregs⟩ := (s.onAccess (s.pagePath d)).doorbellBad_reports d r rfl
      exact ⟨_, doorbellSqTail_bad ho h, hf, hw.trans hdrw, hm.trans hdram, hv.trans hnv, hregs.onAccess⟩
    case cqBad =>
      obtain ⟨hf, hw, hm, hv, -, hregs⟩ := (s.onAccess (s.pagePath d)).doorbellBad_reports d r rfl
      exact ⟨_, doorbellCqHead_bad ho h, hf, hw.trans hdrw, hm.trans hdram, hv.trans hnv, hregs.onAccess⟩
    case entry =>
      subst hx
      refine ⟨fun h => ?_, fun hp hv hh => ?_⟩
      · refine ⟨_, interruptEntryUnmask_waits ho h, ?_, fun e he => (State.modDrawer_drawer_ne _ _ he).trans (hdrawer e),
          s.modDrawer_onAccess (s.pagePath d) d _⟩
        rw [State.entryOpen_entry, hdrawer]
      · refine ⟨_, interruptEntryUnmask_sends ho hp hv hh, ?_, ?_, fun e he => (State.entrySent_drawer_ne _ _ _ he).trans (hdrawer e), ?_⟩
        · rw [State.entrySent_entry, hdrawer]
        · rw [State.entrySent_out, hdrawer, s.onAccess_out, s.onAccess_reads (·.drwHead d) (s.pagePath d)]
          rfl
        · exact s.entrySent_onAccess (s.pagePath d) d k

end Sys2Proof.Machine
end

section
/-! PROOF. Operations of a drawer as they run: what each step changes of its operation, and what it leaves (12 R302-R305, R307). -/

namespace Sys2Proof.Machine

open Sys2Proof

/-! ## Steps of an operation -/

/-- The state without what an operation's own steps reach: outputs, operations, and the parts of drawers. -/
def State.offWork (s : State) : State := { s with out := [], drw := { s.drw with ops := [], drawers := [] } }

/-- The state without what a Press job reaches besides: what a report does, the start-up state and the drawers. -/
def State.offJob (s : State) : State := { s.offFault with boot := {}, drw := {} }

/-- Register fields that a Press job writes: its counts, the events counted of it, and its faults (08 R208-R212; 18 R437). -/
def jobFlds : List Fld :=
  [PRS_PAGES.ENCODED, PRS_RAWPG.RAW, PRS_PRED.ODD, PRS_PRED.EVEN, PRS_FMTERR.STREAM, PRS_RERUN.FAILED] ++ pmuFlds ++ faultFlds

/-- A step of operation n changes it by f, leaves the other operations and the rings, and takes no output back. -/
structure JobWork (n : Nat) (f : Op → Op) (s t : State) : Prop where
  self : smFind? t.drw.ops n = (smFind? s.drw.ops n).map f
  other : ∀ k, k ≠ n → smFind? t.drw.ops k = smFind? s.drw.ops k
  ring : ∀ e k, t.ring e k = s.ring e k
  outs : ∀ x ∈ s.out, x ∈ t.out
  regs : RegsSame jobFlds s t
  job : t.offJob = s.offJob

/-- A step that reaches nothing but outputs, which it adds, and the drawers' own parts. -/
structure OpWork (n : Nat) (f : Op → Op) (l : List Out) (s t : State) : Prop where
  self : smFind? t.drw.ops n = (smFind? s.drw.ops n).map f
  other : ∀ k, k ≠ n → smFind? t.drw.ops k = smFind? s.drw.ops k
  ring : ∀ e k, t.ring e k = s.ring e k
  out : t.out = s.out ++ l
  off : t.offWork = s.offWork

section
variable {n : Nat} {f g : Op → Op} {l m : List Out} {s t u : State}

theorem JobWork.trans (h : JobWork n f s t) (k : JobWork n g t u) : JobWork n (g ∘ f) s u where
  self := by rw [k.self, h.self, Option.map_map]
  other j hj := (k.other j hj).trans (h.other j hj)
  ring e i := (k.ring e i).trans (h.ring e i)
  outs x hx := k.outs x (h.outs x hx)
  regs := h.regs.trans k.regs
  job := k.job.trans h.job

/-- A step that leaves the drawers leaves the operation. -/
theorem JobWork.of_drw (hdrw : t.drw = s.drw) (ho : ∀ x ∈ s.out, x ∈ t.out) (hr : RegsSame jobFlds s t) (hj : t.offJob = s.offJob) :
    JobWork n id s t where
  self := by rw [hdrw, Option.map_id, id]
  other _ _ := by rw [hdrw]
  ring := State.ring_of_drw hdrw
  outs := ho
  regs := hr
  job := hj

theorem OpWork.trans (h : OpWork n f l s t) (k : OpWork n g m t u) : OpWork n (g ∘ f) (l ++ m) s u where
  self := by rw [k.self, h.self, Option.map_map]
  other j hj := (k.other j hj).trans (h.other j hj)
  ring e i := (k.ring e i).trans (h.ring e i)
  out := by rw [k.out, h.out, List.append_assoc]
  off := k.off.trans h.off

theorem OpWork.refl : OpWork n id [] s s := ⟨by rw [Option.map_id, id], fun _ _ => rfl, fun _ _ => rfl, (List.append_nil _).symm, rfl⟩

theorem State.offJob_of_offWork (h : t.offWork = s.offWork) : t.offJob = s.offJob := (congrArg State.offJob h :)

theorem State.eq_of_offWork (h : t.offWork = s.offWork) :
    t = { s with out := t.out, drw := { s.drw with ops := t.drw.ops, drawers := t.drw.drawers } } :=
  congrArg (fun x : State => { x with out := t.out, drw := { x.drw with ops := t.drw.ops, drawers := t.drw.drawers } }) h

theorem State.fget_of_offWork (h : t.offWork = s.offWork) (f : Fld) (i : Nat) : t.fget f i = s.fget f i :=
  State.regs_fget (congrArg State.regs h :) f i

/-- An operation's own step is a step of a job. -/
theorem OpWork.toJob (h : OpWork n f l s t) : JobWork n f s t :=
  ⟨h.self, h.other, h.ring, fun _ hx => h.out ▸ List.mem_append_left _ hx, fun g i _ _ => State.fget_of_offWork h.off g i,
    State.offJob_of_offWork h.off⟩

end

section
variable (s : State) (n : Nat)

theorem State.modOp_work (f : Op → Op) : OpWork n f [] s (s.modOp n f) :=
  ⟨smFind?_adj_self .., fun _ hj => smFind?_adj_ne _ _ hj, fun _ _ => rfl, (List.append_nil _).symm, rfl⟩

theorem State.emit_work (o : Out) : OpWork n id [o] s (s.emit o) :=
  ⟨by rw [Option.map_id, id]; rfl, fun _ _ => rfl, fun _ _ => rfl, rfl, rfl⟩

theorem State.userEvent_out (d ev k : Nat) : (s.userEvent d ev k).out = s.out := by
  refine State.each_inv State.out _ _ (fun _ _ => ?_) s
  exact (apply_ite ..).trans (ite_self _)

theorem State.userEvent_offWork (d ev k : Nat) : (s.userEvent d ev k).offWork = s.offWork := by
  refine State.each_inv State.offWork _ _ (fun _ _ => ?_) s
  exact (apply_ite ..).trans (ite_self _)

theorem State.userEvent_work (d ev k : Nat) : OpWork n id [] s (s.userEvent d ev k) := by
  have hops := (s.userEvent_step d ev k).ops
  exact ⟨by rw [hops, Option.map_id, id], fun _ _ => by rw [hops], (s.userEvent_step d ev k).ring,
    (s.userEvent_out d ev k).trans (List.append_nil _).symm, s.userEvent_offWork d ev k⟩

end

/-! ## The end of an operation (R307) -/

/-- An operation that has been executed, with its STATUS, IN, OUT and DETAIL. -/
def Op.ended (status inB outB detail : Nat) (x : Op) : Op :=
  { x with status := some status, inBytes := inB, outBytes := outB, detail := detail, todo := [], plan := none }

/-- An operation with a result to write, and an operation that has started. -/
def Op.planned (newOpen : Option (List Byte)) (p : Nat × Nat × Nat × Nat) (x : Op) : Op := { x with newOpen := newOpen, plan := some p }
def Op.start (x : Op) : Op := { x with started := true }

section
variable {s : State} {n : Nat} {q : Op}

theorem State.opEnd_eq (status inB outB detail : Nat) : s.opEnd n status inB outB detail = s.modOp n (Op.ended status inB outB detail) := rfl

/-- An operation with no plan has nothing to settle. -/
theorem State.opSettle_unplanned (hq : smFind? s.drw.ops n = some q) (hp : q.plan = none) : s.opSettle n = s := by
  unfold State.opSettle
  rw [hq]
  dsimp only
  rw [hp]

/-- An operation that still waits for its writes settles later. -/
theorem State.opSettle_waits (hq : smFind? s.drw.ops n = some q) (ho : q.outst ≠ 0) : s.opSettle n = s := by
  unfold State.opSettle
  rw [hq]
  dsimp only
  split
  · rfl
  · exact if_pos (.inr (.inl ho))

/-- An operation whose writes have all ended is executed. -/
theorem State.opSettle_ends {st inB outB de : Nat} (hq : smFind? s.drw.ops n = some q) (hp : q.plan = some (st, inB, outB, de))
    (ht : q.todo = []) (ho : q.outst = 0) (hs : q.status = none) (hn : q.newOpen = none) :
    s.opSettle n = s.modOp n (Op.ended st inB outB de) := by
  unfold State.opSettle
  rw [hq]
  simp only [hp, ht, ho, hs, hn]
  rfl

/-- With its end the open block of its ring moves on. -/
theorem State.opSettle_moves {st inB outB de : Nat} {b : List Byte} (hq : smFind? s.drw.ops n = some q) (hp : q.plan = some (st, inB, outB, de))
    (ht : q.todo = []) (ho : q.outst = 0) (hs : q.status = none) (hn : q.newOpen = some b) :
    s.opSettle n = (s.modRing q.drawer q.ring fun x => { x with openBlock := b }).modOp n (Op.ended st inB outB de) := by
  unfold State.opSettle
  rw [hq]
  simp only [hp, ht, ho, hs, hn]
  rfl

end

/-! ## A fresh operation -/

/-- What a fresh operation is: one of the ring's, with the operation code asked for, nothing under way. -/
structure Op.Fresh (d r code : Nat) (o : Op) : Prop where
  drawer : o.drawer = d
  ring : o.ring = r
  code : o.desc.op.toNat = code
  status : o.status = none
  tags : o.tags = []
  outst : o.outst = 0
  plan : o.plan = none
  todo : o.todo = []

theorem State.freshOp_op {s : State} {d r code n : Nat} {o : Op} (h : s.freshOp d r code n o) : smFind? s.drw.ops n = some o := by
  obtain ⟨-, hn, -⟩ := h
  exact hn

theorem State.hostOp_op {s : State} {d r code n : Nat} {o : Op} (h : s.hostOp d r code n o) : smFind? s.drw.ops n = some o := by
  obtain ⟨hf, -⟩ := h
  exact State.freshOp_op hf

theorem Op.Fresh.of_freshOp {s : State} {d r code n : Nat} {o : Op} (h : s.freshOp d r code n o) : o.Fresh d r code := by
  obtain ⟨hpick, -, -, -, hplan, htodo, -⟩ := h
  have hr := List.find?_some hpick
  simp only [State.opReady, Bool.and_eq_true, beq_iff_eq, Option.isNone_iff_eq_none, List.isEmpty_iff] at hr
  obtain ⟨⟨⟨hd, hring⟩, hcode⟩, ⟨⟨⟨⟨hst, -⟩, -⟩, htags⟩, hout⟩, -⟩ := hr
  exact ⟨hd, hring, hcode, hst, htags, hout, hplan, htodo⟩

/-- An operation code as the descriptor holds it. -/
theorem opCode_eq {o : Op} {d r code : Nat} (h : o.Fresh d r code) : o.desc.op = BitVec.ofNat 8 code := by
  rw [← h.code, BitVec.ofNat_toNat, BitVec.setWidth_eq]

section
variable {s : State} {d : DrawerId} {r : RingId} {code n : Nat} {o : Op} {go : Nat → Op → State → State}

/-- A host operation has no device operand, and no key to check. -/
theorem State.badKey_host (hs : o.desc.sattr.dev = false) (hd : o.desc.dattr.dev = false) : s.badKey o = none := by
  simp [State.badKey, hs, hd]

/-- A fresh operation of some length, whose keys its drawer may name, runs and settles. -/
theorem State.opRun_runs (hf : s.freshOp d r code n o) (hk : s.badKey o = none) (hl : o.desc.len ≠ 0 ∨ o.desc.op = 5)
    (hh : o.desc.dattr.dev = true ∧ code = 2 ∨ s.hostReach d = true) :
    s.opRun d r code go = (go n o (s.modOp n Op.start)).opSettle n := by
  obtain ⟨hpick, -, hst, -, hplan, -, hfield⟩ := hf
  have hfield' : (s.modOp n Op.start).badField o = none := hfield
  have hkey' : (s.modOp n Op.start).badKey o = none := hk
  have hlen' : ¬ (o.desc.len = 0 ∧ o.desc.op ≠ 5) := fun h => hl.elim (fun hl => hl h.1) h.2
  have hhost : ¬ (((code != 0 && code != 6) &&
      (!o.desc.dattr.dev || ((code == 1 || code == 3 || code == 4) && !o.desc.sattr.dev) || code == 5)) = true ∧
      (!s.hostReach d.val) = true) := by
    rintro ⟨hneed, hno⟩
    rcases hh with ⟨hdev, rfl⟩ | hreach
    · simp [hdev] at hneed
    · simp [hreach] at hno
  unfold Op.start at hfield' hkey' ⊢
  simp only [State.opRun, hpick, hplan, State.opStart, hst, hfield', hkey', if_neg hlen', if_neg hhost]
  rfl

end

end Sys2Proof.Machine
end

section
/-! PROOF. Operations without data, a field that is not as it must be, and operations between host addresses (12 R302-R304, R307). -/

namespace Sys2Proof.Machine

open Sys2Proof

/-! ## Outcomes -/

section
variable {f : State → State} {s t : State}

/-- A drawer command whose work is an operation's own steps ends where they end. -/
theorem volatile_works (ht : f s.clearOut = t) (hoff : t.offWork = s.clearOut.offWork) : volatile f s = .next t :=
  volatile_ends ht (congrArg State.nv hoff :) (congrArg State.pending hoff :)

/-- So does one whose work is a Press job's. -/
theorem volatile_jobs (ht : f s.clearOut = t) (hoff : t.offJob = s.clearOut.offJob) : volatile f s = .next t :=
  volatile_ends ht (congrArg State.nv hoff :) (congrArg State.pending hoff :)

end

/-! ## A field that is not as R302 requires -/

section
variable {d : DrawerId} {r : RingId} {n : Nat} {o : Op} {s : State}

/-- An operation that has started and ended. -/
theorem State.modOp_ends (hn : smFind? s.drw.ops n = some o) (g : Op → Op) (st inB outB de : Nat) :
    ((s.modOp n g).modOp n (Op.ended st inB outB de)).opSettle n = (s.modOp n g).modOp n (Op.ended st inB outB de) := by
  have hself := ((s.modOp_work n g).trans (State.modOp_work _ n (Op.ended st inB outB de))).self
  rw [hn] at hself
  exact State.opSettle_unplanned hself rfl

theorem fill_badField {f : Nat} (hp : s.opPick d r 2 = some (n, o)) (hn : smFind? s.drw.ops n = some o) (hs : o.started = false)
    (hplan : o.plan = none) (hb : s.badField o = some f) (hh : s.hostReach d = true) :
    fill d r s = (s.modOp n Op.start).modOp n (Op.ended 1 0 0 f) := by
  have hb' : (s.modOp n fun x => { x with started := true }).badField o = some f := hb
  have hrun : fill d r s = (((s.modOp n Op.start).modOp n (Op.ended 1 0 0 f)).opSettle n) := by
    have hhost : ∀ p : Prop, ¬ (p ∧ (!s.hostReach d.val) = true) := by simp [hh]
    simp only [fill, State.opRun, hp, hplan, State.opStart, hs, hb', if_neg (hhost _)]
    rfl
  rw [hrun, State.modOp_ends hn]

/-! ## NOP and FENCE (R304) -/

/-- An operation without data succeeds, whatever the length in its descriptor. -/
theorem State.opRun_noData {code : Nat} (hc : code = 0 ∨ code = 6) (hf : s.freshOp d r code n o) :
    s.opRun d r code (fun n _ s => s.opDone n 0 0 0) = (s.modOp n Op.start).modOp n (Op.ended 0 0 0 0) := by
  have hfresh := Op.Fresh.of_freshOp hf
  obtain ⟨hpick, hn, hst, -, hplan, -, hfield⟩ := hf
  have hop := opCode_eq hfresh
  have hfield' : (s.modOp n Op.start).badField o = none := hfield
  have hkey : (s.modOp n Op.start).badKey o = none := by
    rcases hc with rfl | rfl <;> simp [State.badKey, hop]
  have hopen : o.desc.op ≠ 3 := by rcases hc with rfl | rfl <;> simp [hop]
  have hhost : ¬ (((code != 0 && code != 6) &&
      (!o.desc.dattr.dev || ((code == 1 || code == 3 || code == 4) && !o.desc.sattr.dev) || code == 5)) = true ∧
      (!s.hostReach d.val) = true) := by rcases hc with rfl | rfl <;> simp
  rw [← State.modOp_ends hn]
  unfold Op.start at hfield' hkey ⊢
  simp only [State.opRun, hpick, hplan, State.opStart, hst, hfield', hkey, if_neg hhost, if_neg hopen]
  simp only [Option.isSome_none, Bool.false_eq_true, if_false, State.opDone, ite_self]
  rfl

/-! ## Host bytes (R303, R307) -/

/-- What a host read of an operation writes of it: that it has been asked for, or nothing with no tag free. -/
theorem State.hostBytes_ok (hh : s.hostReach o.drawer = true) (addr len : Nat) (b : List Byte) : ∃ f l t,
    s.hostBytes n o addr len b .ok = (t, some (hostRead b len)) ∧ OpWork n f l s t ∧ (f = id ∨ f = fun x => { x with asked := true }) := by
  have hreach : ¬ (!s.hostReach o.drawer) = true := by rw [hh]; exact Bool.noConfusion
  have hask : ∃ f l, OpWork n f l s (if o.asked then s else s.hostAsk n o addr len false) ∧
      (f = id ∨ f = fun x : Op => { x with asked := true }) := by
    unfold State.hostAsk
    dsimp only
    split
    · exact ⟨_, _, .refl, .inl rfl⟩
    · split
      · exact ⟨_, _, .refl, .inl rfl⟩
      · exact ⟨_, _, (State.emit_work s n _).trans (State.modOp_work _ n _), .inr rfl⟩
  obtain ⟨f, l, hwork, hf⟩ := hask
  exact ⟨f, l, _, if_neg hreach, hwork, hf⟩

/-- Host bytes of a source have come: they are counted. -/
theorem State.opSource_ok (hs : o.desc.sattr.dev = false) (hh : s.hostReach o.drawer = true) (b : List Byte) : ∃ f l t,
    s.opSource n o b .ok = (t, some (hostRead b o.desc.len.toNat)) ∧ OpWork n f l s t ∧ (f = id ∨ f = fun x => { x with asked := true }) := by
  obtain ⟨f, l, t, hbytes, hwork, hf⟩ := State.hostBytes_ok (n := n) hh o.desc.src.toNat o.desc.len.toNat b
  refine ⟨f, _, _, ?_, hwork.trans (t.userEvent_work n o.drawer 3 o.desc.len.toNat), hf⟩
  unfold State.opSource
  rw [hs]
  simp only [Bool.not_false, if_true, hbytes]

/-- A host read that the host refuses ends its operation with HOSTDMA. -/
theorem State.opSource_ur (hs : o.desc.sattr.dev = false) (hh : s.hostReach o.drawer = true) (b : List Byte) :
    s.opSource n o b .ur = (s.modOp n (Op.ended 5 0 0 0), none) := by
  have hreach : ¬ (!s.hostReach o.drawer) = true := by rw [hh]; exact Bool.noConfusion
  unfold State.opSource State.hostBytes
  rw [hs]
  simp only [Bool.not_false, if_true, if_neg hreach]
  rfl

/-- The result of an operation with a host destination: posted, if there is any. -/
theorem State.opPlan_host (hd : o.desc.dattr.dev = false) (out : List Byte) (st inB de : Nat) (b : Option (List Byte)) :
    OpWork n (Op.planned b (st, inB, out.length, de))
      (if out.isEmpty then [] else [.dmaWrite (Fin.ofNat 16 (s.drwHead o.drawer)) (s.drwPasid o.drawer) o.desc.dst out]) s
      (s.opPlan n o out st inB de b) := by
  have hwork := (s.modOp_work n (Op.planned b (st, inB, out.length, de))).trans (State.userEvent_work _ n o.drawer 4 out.length)
  have hhead : ((s.modOp n (Op.planned b (st, inB, out.length, de))).userEvent o.drawer 4 out.length).drwHead o.drawer = s.drwHead o.drawer :=
    State.fget_of_offWork hwork.off ..
  have hpasid : ((s.modOp n (Op.planned b (st, inB, out.length, de))).userEvent o.drawer 4 out.length).drwPasid o.drawer = s.drwPasid o.drawer :=
    congrArg (BitVec.ofNat 20) (State.fget_of_offWork hwork.off ..)
  rw [← hhead, ← hpasid]
  unfold State.opPlan
  dsimp only
  rw [hd]
  split
  · exact hwork
  · exact hwork.trans (State.emit_work _ n _)

/-- An operation planned and settled, with no open block to move. -/
theorem OpWork.settles {f : Op → Op} {l : List Out} {t : State} {q : Op} {st inB outB de : Nat} (h : OpWork n f l s t)
    (hn : smFind? s.drw.ops n = some o) (hq : f o = q) (hp : q.plan = some (st, inB, outB, de)) (ht : q.todo = []) (ho : q.outst = 0)
    (hs : q.status = none) (hb : q.newOpen = none) : OpWork n (Op.ended st inB outB de ∘ f) l s (t.opSettle n) := by
  have hself : smFind? t.drw.ops n = some q := by rw [h.self, hn, Option.map_some, hq]
  rw [State.opSettle_ends hself hp ht ho hs hb, ← List.append_nil l]
  exact h.trans (t.modOp_work n _)

end

end Sys2Proof.Machine
end

section
/-! PROOF. Copies and fills between host addresses, and the fill of a line of device memory (12 R303, R304, R307; 06 R145; 01 R26). -/

namespace Sys2Proof.Machine

open Sys2Proof

/-! ## What a fresh operation becomes -/

/-- A host operation's changes before its end: it starts, its host read may be asked for, and its result is planned. -/
def Op.ready (f : Op → Op) (b : Option (List Byte)) (p : Nat × Nat × Nat × Nat) (o : Op) : Op := (f o.start).planned b p

theorem Op.Fresh.ready {d r code : Nat} {o : Op} {f : Op → Op} (h : o.Fresh d r code) (hf : f = id ∨ f = fun x : Op => { x with asked := true })
    (b : Option (List Byte)) (p : Nat × Nat × Nat × Nat) : (o.ready f b p).plan = some p ∧ (o.ready f b p).todo = [] ∧
      (o.ready f b p).outst = 0 ∧ (o.ready f b p).status = none ∧ (o.ready f b p).newOpen = b ∧ (o.ready f b p).drawer = d ∧ (o.ready f b p).ring = r := by
  rcases hf with rfl | rfl <;> exact ⟨rfl, h.todo, h.outst, h.status, rfl, h.drawer, h.ring⟩

theorem hostRead_length (b : List Byte) (len : Nat) : (hostRead b len).length = len := by
  simp only [hostRead, List.length_append, List.length_take, List.length_replicate]
  omega

theorem len_toNat_ne {o : Op} (h : o.desc.len ≠ 0) : o.desc.len.toNat ≠ 0 := fun e => h (BitVec.eq_of_toNat_eq e)

section
variable {s : State} {d : DrawerId} {r : RingId} {code n : Nat} {o : Op}

theorem State.hostOp_reach (h : s.hostOp d r code n o) : s.hostReach o.drawer = true := by
  obtain ⟨hf, -, -, -, hh⟩ := h
  rw [(Op.Fresh.of_freshOp hf).drawer]
  exact hh

/-- A host operation of some length runs. -/
theorem State.opRun_host {go : Nat → Op → State → State} (h : s.hostOp d r code n o) :
    s.opRun d r code go = (go n o (s.modOp n Op.start)).opSettle n := by
  obtain ⟨hf, hs, hd, hl, hh⟩ := h
  exact State.opRun_runs hf (State.badKey_host hs hd) (.inl hl) (.inr hh)

/-! ## COPY (R304, R307) -/

/-- A COPY whose source has come writes it at its destination. -/
theorem copy_ok (h : s.hostOp d r 1 n o) (b : List Byte) : ∃ f l, OpWork n (Op.ended 0 0 o.desc.len.toNat 0 ∘ f)
    (l ++ [.dmaWrite (Fin.ofNat 16 (s.drwHead d)) (s.drwPasid d) o.desc.dst (hostRead b o.desc.len.toNat)]) s (copy d r b .ok s) := by
  have hreach : (s.modOp n Op.start).hostReach o.drawer = true := (State.hostOp_reach h :)
  have hrun : copy d r b .ok s = _ := State.opRun_host h
  obtain ⟨hf, hs, hd, hl, -⟩ := h
  have hfresh := Op.Fresh.of_freshOp hf
  obtain ⟨-, hn, -⟩ := hf
  obtain ⟨f, l, t, hsrc, hwork, hfs⟩ := State.opSource_ok (n := n) hs hreach b
  have hplan := t.opPlan_host (n := n) hd (hostRead b o.desc.len.toNat) 0 0 0 none
  have hall := ((s.modOp_work n Op.start).trans hwork).trans hplan
  have hready := hfresh.ready hfs none (0, 0, (hostRead b o.desc.len.toNat).length, 0)
  obtain ⟨hp, ht, ho, hst, hopen, -, -⟩ := hready
  have hdone := hall.settles hn rfl hp ht ho hst hopen
  have hhead : t.drwHead d = s.drwHead d := State.fget_of_offWork hwork.off ..
  have hpasid : t.drwPasid d = s.drwPasid d := congrArg (BitVec.ofNat 20) (State.fget_of_offWork hwork.off ..)
  have hne : (hostRead b o.desc.len.toNat).isEmpty = false := by
    rw [List.isEmpty_eq_false_iff, ← List.length_pos_iff, hostRead_length]
    exact Nat.pos_of_ne_zero (len_toNat_ne hl)
  rw [hfresh.drawer, hhead, hpasid, hne, hostRead_length] at hdone
  refine ⟨Op.ready f none (0, 0, o.desc.len.toNat, 0), l, ?_⟩
  rw [hrun, hsrc]
  exact hdone

/-- A COPY whose source the host refuses ends with HOSTDMA. -/
theorem copy_ur (h : s.hostOp d r 1 n o) (b : List Byte) : copy d r b .ur s = (s.modOp n Op.start).modOp n (Op.ended 5 0 0 0) := by
  have hreach : (s.modOp n Op.start).hostReach o.drawer = true := (State.hostOp_reach h :)
  have hrun : copy d r b .ur s = _ := State.opRun_host h
  obtain ⟨hf, hs, -⟩ := h
  rw [hrun, State.opSource_ur hs hreach]
  exact State.modOp_ends (State.freshOp_op hf) ..

/-- The state in which a host read of a COPY is outstanding under a tag. -/
def State.readAsked (s : State) (n tag : Nat) (o : Op) : State :=
  ((((s.modOp n Op.start).emit (.dmaRead (Fin.ofNat 16 (s.drwHead o.drawer)) (s.drwPasid o.drawer) o.desc.src o.desc.len.toNat tag)).modOp n
    fun x => { x with asked := true }).modHead (s.drwHead o.drawer) fun x => { x with tags := smSet x.tags tag (n, s.wclk) }).modOp n
    fun x => { x with tags := [tag] }

theorem State.readAsked_op (hn : smFind? s.drw.ops n = some o) (tag : Nat) :
    smFind? (s.readAsked n tag o).drw.ops n = some { o with started := true, asked := true, tags := [tag] } := by
  have h1 := (s.modOp_work n Op.start).self
  have h2 := ((s.modOp n Op.start).modOp_work n fun x => { x with asked := true }).self
  have h3 := (((s.modOp n Op.start).modOp n fun x => { x with asked := true }).modOp_work n fun x => { x with tags := [tag] }).self
  rw [h2, h1, hn] at h3
  exact h3

theorem State.modOp_head (s : State) (n : Nat) (f : Op → Op) (h : Nat) : (s.modOp n f).head h = s.head h := rfl

theorem State.readAsked_tag (s : State) (n tag : Nat) (o : Op) :
    smFind? ((s.readAsked n tag o).head (s.drwHead o.drawer)).tags tag = some (n, s.wclk) := by
  rw [State.readAsked, State.modOp_head, State.modHead_head_self]
  exact smFind?_set_self ..

/-- A COPY whose source has not come asks for it under a free tag. -/
theorem copy_asks (h : s.hostOp d r 1 n o) (b : List Byte) {tag : Nat} (ht : s.freeHostTag (s.drwHead o.drawer) = some tag) :
    copy d r b .pending s = s.readAsked n tag o := by
  have hreach : ¬ (!(s.modOp n Op.start).hostReach o.drawer) = true := by
    have hyes : (s.modOp n Op.start).hostReach o.drawer = true := (State.hostOp_reach h :)
    rw [hyes]
    exact Bool.noConfusion
  have hrun : copy d r b .pending s = _ := State.opRun_host h
  obtain ⟨hf, hs, -⟩ := h
  have hfresh := Op.Fresh.of_freshOp hf
  obtain ⟨-, hn, -, hasked, -⟩ := hf
  have ht' : (s.modOp n Op.start).freeHostTag ((s.modOp n Op.start).drwHead o.drawer) = some tag := ht
  have hsrc : (s.modOp n Op.start).opSource n o b .pending = (s.readAsked n tag o, none) := by
    unfold State.opSource State.hostBytes State.hostAsk
    rw [hs]
    simp only [Bool.not_false, if_true, if_neg hreach, hasked, Bool.false_eq_true, if_false, ht', BitVec.ofNat_toNat, BitVec.setWidth_eq]
    rfl
  rw [hrun, hsrc]
  exact State.opSettle_unplanned (State.readAsked_op hn tag) hfresh.plan

/-! ## FILL of host memory (R304) -/

theorem fill_host (h : s.hostOp d r 2 n o) : ∃ f, OpWork n (Op.ended 0 0 o.desc.len.toNat 0 ∘ f)
    [.dmaWrite (Fin.ofNat 16 (s.drwHead d)) (s.drwPasid d) o.desc.dst (fillBytes o.desc.pattern o.desc.len.toNat)] s (fill d r s) := by
  have hrun : fill d r s = _ := State.opRun_host h
  obtain ⟨hf, hs, hd, hl, -⟩ := h
  have hfresh := Op.Fresh.of_freshOp hf
  obtain ⟨-, hn, -⟩ := hf
  have hall := (s.modOp_work n Op.start).trans ((s.modOp n Op.start).opPlan_host (n := n) hd (fillBytes o.desc.pattern o.desc.len.toNat) 0 0 0 none)
  have hready := hfresh.ready (.inl rfl) none (0, 0, (fillBytes o.desc.pattern o.desc.len.toNat).length, 0)
  obtain ⟨hp, ht, ho, hst, hopen, -, -⟩ := hready
  have hdone := hall.settles hn rfl hp ht ho hst hopen
  have hne : (fillBytes o.desc.pattern o.desc.len.toNat).isEmpty = false := by
    rw [List.isEmpty_eq_false_iff, ← List.length_pos_iff, fillBytes_length]
    exact Nat.pos_of_ne_zero (len_toNat_ne hl)
  rw [hfresh.drawer, hne, fillBytes_length] at hdone
  exact ⟨_, hrun ▸ hdone⟩

end

/-! ## FILL of a line of device memory (R303; 06 R145; 01 R26) -/

/-- The state without what a line write of an operation reaches. -/
def State.offLine (s : State) : State :=
  { s with regs := [], heads := [], out := [], boot := {}, coh := {}, inl := {}, drw := {} }

theorem State.offLine_of_offDrw {s t : State} (h : t.offDrw = s.offDrw) : t.offLine = s.offLine := (congrArg State.offLine h :)

/-- A transaction of an operation's line write. -/
structure LineOf (n ln : Nat) (key : KeyId) (x y : Txn) : Prop where
  src : y.src = .drawer n
  kind : y.kind = x.kind
  cls : y.cls = 4
  ln : y.ln = ln
  key : y.key = key
  data : y.data = x.data

/-- A write of an operation to an untiered local line under an ACTIVE key slot enters the transaction table as one of class C4, and is counted
of its slot. -/
theorem State.opAccess_line {s : State} {n rn dpa : Nat} {r : Region} {o : Op} {a : OpAttr} {addr : Nat} {x : Txn}
    (hd : s.opDec o.drawer a addr = some (rn, r, dpa)) (hh : r.home = none) (ht : r.tiered = false) (hs : (s.slot a.key.toNat).state = 1)
    (hk : x.kind ≠ .read) (hp : x.phase = .ingress) (off : Nat) : ∃ t y, s.opAccess n o a off addr x = (t, .sent (dpa / 64)) ∧
      t.txn? s.coh.next = some y ∧ LineOf n (dpa / 64) a.key x y ∧ t.drw = (s.modOp n fun y => { y with outst := y.outst + 1 }).drw ∧
      (t.slot a.key.toNat).count = min (2 ^ 52 - 1) ((s.slot a.key.toNat).count + 1) ∧ t.offLine = s.offLine := by
  have hoff := s.countWrite_off a.key.toNat
  have hcount := s.countWrite_count a.key.toNat
  generalize hc : s.countWrite a.key.toNat = c at hoff hcount
  generalize hu : c.modOp n (fun y => { y with outst := y.outst + 1 }) = u
  generalize hz : ({ u.localTxn r rn { x with src := .drawer n, key := a.key, cls := 4 } dpa with cls := 4 } : Txn) = z
  have hcoh : u.coh = s.coh := by subst hu; exact (congrArg State.coh hoff :)
  have he : s.opAccess n o a off addr x = ((u.newTxn z).2.decoded u.coh.next, .sent (dpa / 64)) := by
    simp only [State.opAccess, hd, hh, hs, verdict, if_neg hk, hc, hu, hz, State.newTxn]
  have hzt : z.tiered = false := by subst hz; exact ht
  have hzh : z.holds = false := by subst hz; simp only [Txn.holds, State.localTxn, hp]
  obtain ⟨ph, st, g, b, tx, hdec, hf, -⟩ := State.decoded_untiered (s := (u.newTxn z).2) (smFind?_set_self ..) hzt hzh
  refine ⟨_, { z with phase := ph, stamps := st }, he, ?_, ?_, ?_, ?_, ?_⟩
  · rw [hdec, ← hcoh]
    exact hf
  · subst hz
    exact ⟨rfl, rfl, rfl, rfl, rfl, rfl⟩
  · rw [hdec]
    subst hu
    have hdrw : c.drw = s.drw := (congrArg State.drw hoff :)
    exact congrArg (fun y : Drawers => { y with ops := smAdj y.ops n fun y => { y with outst := y.outst + 1 } }) hdrw
  · rw [hdec]
    subst hu
    exact hcount
  · rw [hdec]
    subst hu
    exact (congrArg State.offLine hoff :)

/-- The write of a whole line, and its transaction. -/
def wholeLine (addr : Nat) (b : List Byte) : DevWrite := { off := 0, addr := addr, data := dataOfBytes b, be := BitVec.allOnes 64 }

theorem lineTxn_wholeLine (addr : Nat) (b : List Byte) : (lineTxn (wholeLine addr b)).kind = .write := by simp [lineTxn, wholeLine]

/-- The bytes of one aligned line are one whole write of that line. -/
theorem devWrites_whole {addr : Nat} (ha : addr % 64 = 0) {b : List Byte} (hb : b.length = 64) : devWrites addr b = [wholeLine addr b] := by
  have h1 : lineCount addr b.length = 1 := by simp [lineCount, ha, hb]
  have h2 : addr / 64 * 64 = addr := by omega
  have h3 : sliceBytes b 0 64 = b := by simp [sliceBytes, hb]
  rw [devWrites, h1]
  simp [wholeLine, h2, h3, hb, BitVec.allOnes]

/-- The line write of an operation, its result planned: the transaction enters, and the operation waits for it. -/
structure LineSent (n ln : Nat) (key : KeyId) (w : DevWrite) (s t : State) : Prop where
  txn : ∃ y, t.txn? s.coh.next = some y ∧ LineOf n ln key (lineTxn w) y
  op : ∃ q, smFind? t.drw.ops n = some q ∧ q.status = none ∧ q.outst = 1
  count : (t.slot key.toNat).count = min (2 ^ 52 - 1) ((s.slot key.toNat).count + 1)
  off : t.offLine = s.offLine

theorem fill_device {s : State} {d : DrawerId} {r : RingId} {n rn dpa : Nat} {rg : Region} {o : Op} (hf : s.freshOp d r 2 n o)
    (hk : s.badKey o = none) (hdev : o.desc.dattr.dev = true) (hlen : o.desc.len = 64) (ha : o.desc.dst.toNat % 64 = 0)
    (hd : s.opDec d o.desc.dattr o.desc.dst.toNat = some (rn, rg, dpa)) (hh : rg.home = none) (ht : rg.tiered = false)
    (hs : (s.slot o.desc.dattr.key.toNat).state = 1) :
    LineSent n (dpa / 64) o.desc.dattr.key (wholeLine o.desc.dst.toNat (fillBytes o.desc.pattern 64)) s (fill d r s) := by
  have hrun : fill d r s = _ := State.opRun_runs hf hk (.inl (by rw [hlen]; decide)) (.inl ⟨hdev, rfl⟩)
  have hfresh := Op.Fresh.of_freshOp hf
  obtain ⟨hpick, hn, hst, -⟩ := hf
  have hphase := State.phase_of_opPick hpick hst
  have hbytes : (fillBytes o.desc.pattern 64).length = 64 := fillBytes_length ..
  have hlen' : o.desc.len.toNat = 64 := by rw [hlen]; rfl
  -- the result is planned, and its one write goes out
  have hwork := ((s.modOp_work n Op.start).trans (State.modOp_work _ n (Op.planned none (0, 0, 64, 0)))).trans
    (State.userEvent_work _ n o.drawer 4 64)
  generalize hu : (((s.modOp n Op.start).modOp n (Op.planned none (0, 0, 64, 0))).userEvent o.drawer 4 64) = u at hwork
  have hplan : (s.modOp n Op.start).opPlan n o (fillBytes o.desc.pattern 64) 0 0 0 none =
      u.opWrites n o 64 [wholeLine o.desc.dst.toNat (fillBytes o.desc.pattern 64)] := by
    have hne : (fillBytes o.desc.pattern 64).isEmpty = false := rfl
    rw [← devWrites_whole ha hbytes, ← hu]
    unfold State.opPlan
    simp only [hne, hdev, hbytes, Bool.false_eq_true, if_false, if_true]
    rfl
  have hoffd : u.offDrw = s.offDrw := by
    rw [← hu]
    exact (State.userEvent_offDrw ..).trans rfl
  rw [← hfresh.drawer, ← State.opDec_of_offDrw hoffd] at hd
  rw [← State.slot_of_offDrw hoffd] at hs
  rw [← State.fget_of_offDrw hoffd] at hphase
  have hw : (wholeLine o.desc.dst.toNat (fillBytes o.desc.pattern 64)).addr = o.desc.dst.toNat := rfl
  have hkind : (lineTxn (wholeLine o.desc.dst.toNat (fillBytes o.desc.pattern 64))).kind ≠ .read := lineTxn_kind _
  generalize wholeLine o.desc.dst.toNat (fillBytes o.desc.pattern 64) = w at hplan hkind hw
  obtain ⟨t, y, hacc, htxn, hline, hdrw, hcount, hoff⟩ := State.opAccess_line (n := n) hd hh ht hs hkind rfl w.off
  have hwrites : u.opWrites n o 64 [w] = t.modOp n fun x => { x with todo := [] } := by
    rw [← hw] at hacc
    rw [State.opWrites_one hphase 62 (congrArg Prod.snd hacc), hacc]
  -- the operation waits for that write
  have hself : smFind? (t.modOp n fun x => { x with todo := [] }).drw.ops n =
      some { o.ready id none (0, 0, 64, 0) with outst := o.outst + 1, todo := [] } := by
    have h1 := hwork.self
    have h2 := (u.modOp_work n fun y => { y with outst := y.outst + 1 }).self
    rw [(t.modOp_work n fun x => { x with todo := [] }).self, hdrw, h2, h1, hn]
    rfl
  rw [hlen'] at hrun
  rw [hrun, hplan, hwrites, State.opSettle_waits hself (Nat.succ_ne_zero _)]
  refine ⟨⟨y, ?_, hline⟩, ⟨_, hself, hfresh.status, ?_⟩, ?_, ?_⟩
  · rw [← State.coh_of_offDrw hoffd]
    exact htxn
  · exact congrArg (· + 1) hfresh.outst
  · rw [← State.slot_of_offDrw hoffd]
    exact hcount
  · exact (hoff.trans (State.offLine_of_offDrw hoffd) :)

end Sys2Proof.Machine
end

section
/-! PROOF. Press jobs of drawers: pages and blocks between host addresses (08 R208-R217; 12 R304). -/

namespace Sys2Proof.Machine

open Sys2Proof

/-! ## The Press's part of a job -/

section
variable (s : State) (n : Nat)

/-- What adds to a Press count leaves the operations. -/
theorem State.fadd_job (f : Fld) (i k : Nat) (hf : f.id < 1024 ∧ f.id ∈ jobFlds.map (·.id) := by decide) : JobWork n id s (s.fadd f i k) :=
  .of_drw rfl (fun _ h => h) (RegsSame.refl.fset i _ hf) rfl

theorem State.count_job (u ev : Nat) (a : Attr) (k : Nat) : JobWork n id s (s.count u ev a k) :=
  .of_drw (s.count_drw u ev a k) (fun _ h => s.count_out u ev a k h) ((s.count_regs u ev a k).mono (by decide))
    (congrArg (fun x : State => { x with boot := {}, drw := {} }) (offFault_of_offCount (s.count_off u ev a k)) :)

theorem State.report_job (set code : Nat) (c : Capture) : JobWork n id s (s.report set code c) :=
  .of_drw (s.report_drw set code c 0) (fun _ h => s.report_out set code c 0 h) ((s.report_regs set code c 0).mono (by decide))
    (congrArg (fun x : State => { x with boot := {}, drw := {} }) (s.report_off set code c 0) :)

theorem State.unitStart_job (u : Nat) : JobWork n id s (s.unitStart u) := by
  rw [s.unitStart_eq u]
  exact .of_drw rfl (fun _ h => h) RegsSame.refl rfl

end

section
variable {n : Nat} {f : Op → Op} {s t u : State}

/-- A step that leaves the operation adds nothing to what has been changed of it. -/
theorem JobWork.leaves (h : JobWork n f s t) (k : JobWork n id t u) : JobWork n f s u := h.trans k

theorem JobWork.refl : JobWork n id s s := OpWork.refl.toJob

theorem JobWork.ite {p : Prop} [Decidable p] (h : JobWork n f s t) (k : JobWork n f s u) : JobWork n f s (if p then t else u) := by
  split
  · exact h
  · exact k

theorem JobWork.each {α : Type} (l : List α) {g : α → State → State} (h : ∀ a s, JobWork n id s (g a s)) : JobWork n id s (s.each l g) :=
  State.each_keeps (JobWork n id s) l g (fun a t k => k.leaves (h a t)) .refl

end

/-- A page that has been encoded is counted. -/
theorem State.encoded_job (s : State) (n : Nat) (c : Coded) : JobWork n id s (s.encoded c) := by
  have hcounted (t : State) (f : Fld) (ev k : Nat) (hf : f.id < 1024 ∧ f.id ∈ jobFlds.map (·.id)) :
      JobWork n id t ((t.finc f).count 4 ev {} k) := (t.fadd_job n f 0 1 hf).leaves (State.count_job _ n 4 ev {} k)
  have hpages := hcounted s PRS_PAGES.ENCODED 2 16 (by decide)
  have hraw (t : State) := hcounted t PRS_RAWPG.RAW 5 1 (by decide)
  have hpred (p k : Nat) (t : State) : JobWork n id t (t.fadd (if p % 2 = 1 then PRS_PRED.ODD else PRS_PRED.EVEN) (p / 2) k) := by
    by_cases hp : p % 2 = 1
    · rw [if_pos hp]
      exact t.fadd_job n PRS_PRED.ODD _ _
    · rw [if_neg hp]
      exact t.fadd_job n PRS_PRED.EVEN _ _
  exact (hpages.leaves (JobWork.ite (hraw _) .refl)).leaves (JobWork.each _ fun p t => JobWork.ite .refl (hpred p _ t))

theorem State.jobEncoded_job (s : State) (n d : Nat) (pages : List (List Byte)) : JobWork n id s (s.jobEncoded d pages) := by
  refine JobWork.each pages fun p t => ?_
  have hpage := (t.encoded_job n (encodePage p t.predEn)).leaves (State.userEvent_work _ n d 5 1).toJob
  exact JobWork.ite (hpage.leaves (State.userEvent_work _ n d 6 1).toJob) hpage

/-! ## Results of a job -/

section
variable {s t : State} {n : Nat} {f : Op → Op}

theorem JobWork.drwHead (h : JobWork n f s t) (d : Nat) : t.drwHead d = s.drwHead d := h.regs _ d (by decide) (by decide)

theorem JobWork.drwPasid (h : JobWork n f s t) (d : Nat) : t.drwPasid d = s.drwPasid d :=
  congrArg (BitVec.ofNat 20) (h.regs _ d (by decide) (by decide))

theorem JobWork.predEn (h : JobWork n f s t) : t.predEn = s.predEn := congrArg (· + 128) (h.regs _ 0 (by decide) (by decide))

/-- A job's output fits its host destination: it is planned, and posted if there is any. -/
theorem State.opEmit_host {o : Op} (hd : o.desc.dattr.dev = false) {out : List Byte} (hm : ¬ (o.desc.dmax ≠ 0 ∧ o.desc.dmax.toNat < out.length))
    (rest : List Byte) (de : Nat) (pages : List (List Byte)) :
    s.opEmit n o out rest de pages = (s.jobEncoded o.drawer pages).opPlan n o out 0 0 de (some rest) := by
  have hbad : s.dstBad o out.length = none := if_pos (.inl (by rw [hd]; rfl))
  unfold State.opEmit
  rw [if_neg hm, hbad]

/-- What is known of a job that has settled: how its operation ended, and its ring's open block. -/
structure JobDone (n d r : Nat) (q : Op) (block : List Byte) (s t : State) : Prop where
  self : smFind? t.drw.ops n = some q
  other : ∀ k, k ≠ n → smFind? t.drw.ops k = smFind? s.drw.ops k
  block : (t.ring d r).openBlock = block
  job : t.offJob = s.offJob

/-- A job whose writes are posted settles: its ring's open block moves on. -/
theorem JobWork.settles {o : Op} {d r st inB outB de : Nat} {b : List Byte} (h : JobWork n f s t) (hn : smFind? s.drw.ops n = some o)
    (hp : (f o).plan = some (st, inB, outB, de) ∧ (f o).todo = [] ∧ (f o).outst = 0 ∧ (f o).status = none ∧ (f o).newOpen = some b ∧
      (f o).drawer = d ∧ (f o).ring = r) :
    JobDone n d r ((f o).ended st inB outB de) b s (t.opSettle n) ∧ (t.opSettle n).out = t.out := by
  obtain ⟨hplan, htodo, hout, hst, hopen, hd, hr⟩ := hp
  have hself : smFind? t.drw.ops n = some (f o) := by rw [h.self, hn, Option.map_some]
  rw [State.opSettle_moves hself hplan htodo hout hst hopen, hd, hr]
  have hmod := State.modOp_work (t.modRing d r fun x => { x with openBlock := b }) n (Op.ended st inB outB de)
  refine ⟨⟨?_, fun k hk => (hmod.other k hk).trans (h.other k hk), ?_, ?_⟩, rfl⟩
  · exact hmod.self.trans (congrArg (Option.map _) hself)
  · rw [hmod.ring, State.modRing_ring_self]
  · exact (State.offJob_of_offWork hmod.off).trans h.job

end

/-! ## COMPRESS (08 R214; 12 R304) -/

section
variable {s : State} {d : DrawerId} {r : RingId} {n : Nat} {o : Op}

/-- A COMPRESS that stays below a block leaves its source in the open block and writes nothing. -/
theorem compress_joins (h : s.hostOp d r 3 n o) (hc : s.canEncode = true) (b : List Byte)
    (hl : (s.ring d r).openBlock.length + o.desc.len.toNat < 65536) : ∃ f : Op → Op, JobDone n d r
      (Op.ended 0 0 0 ((s.ring d r).openBlock.length + o.desc.len.toNat) (f o)) ((s.ring d r).openBlock ++ hostRead b o.desc.len.toNat) s
      (compress d r b .ok none s) := by
  have hreach : (s.modOp n Op.start).hostReach o.drawer = true := (State.hostOp_reach h :)
  have hrun : compress d r b .ok none s = _ := State.opRun_host h
  obtain ⟨hf, hs, hd, -, -⟩ := h
  have hfresh := Op.Fresh.of_freshOp hf
  obtain ⟨-, hn, -⟩ := hf
  have hcan : (s.modOp n Op.start).canEncode = true := hc
  obtain ⟨f, l, t, hsrc, hwork, hfs⟩ := State.opSource_ok (n := n) hs hreach b
  have hring : t.ring d r = s.ring d r := hwork.ring ..
  have hall : ((s.ring d r).openBlock ++ hostRead b o.desc.len.toNat).length = (s.ring d r).openBlock.length + o.desc.len.toNat := by
    rw [List.length_append, hostRead_length]
  have hzero : ((s.ring d r).openBlock.length + o.desc.len.toNat) / 65536 = 0 := Nat.div_eq_of_lt hl
  rw [hrun, hsrc]
  simp only [hcan, hring, hall, hzero, Bool.not_true, Bool.false_eq_true, if_false, List.range_zero, List.flatMap_nil, Nat.mul_zero, List.drop_zero]
  rw [State.opEmit_host hd (by simp)]
  generalize (s.ring d r).openBlock ++ hostRead b o.desc.len.toNat = all at hall
  generalize List.map _ _ = pages
  have hjob := (((s.modOp_work n Op.start).trans hwork).toJob.leaves (t.unitStart_job n 0)).leaves (State.jobEncoded_job _ n o.drawer pages)
  have hplan := hjob.trans (State.opPlan_host hd [] 0 0 all.length (some all)).toJob
  have hdone := (hplan.settles hn (hfresh.ready hfs (some all) (0, 0, 0, all.length))).1
  rw [hall] at hdone
  exact ⟨Op.ready f (some all) (0, 0, 0, (s.ring d r).openBlock.length + o.desc.len.toNat), hall ▸ hdone⟩

/-- A COMPRESS whose encode fails every attempt ends with PRESS, reported as PRS class 3. -/
theorem compress_loses (h : s.hostOp d r 3 n o) (hc : s.canEncode = true) (b : List Byte) (p : Nat) : ∃ f,
    JobWork n (Op.ended 8 0 0 p ∘ f) s (compress d r b .ok (some p) s) ∧ (compress d r b .ok (some p) s).inFault setPRS 3 = true := by
  have hreach : (s.modOp n Op.start).hostReach o.drawer = true := (State.hostOp_reach h :)
  have hrun : compress d r b .ok (some p) s = _ := State.opRun_host h
  obtain ⟨hf, hs, hd, -, -⟩ := h
  obtain ⟨-, hn, -⟩ := hf
  have hcan : (s.modOp n Op.start).canEncode = true := hc
  obtain ⟨f, l, t, hsrc, hwork, -⟩ := State.opSource_ok (n := n) hs hreach b
  have hlost := (((s.modOp_work n Op.start).trans hwork).toJob.leaves (t.fadd_job n PRS_RERUN.FAILED 0 1)).leaves
    (State.report_job _ n setPRS 3 { addr := o.drawer, aux := p })
  have hend := hlost.trans (State.modOp_work _ n (Op.ended 8 0 0 p)).toJob
  have hsettle := State.opSettle_unplanned (hend.self.trans (congrArg (Option.map _) hn)) rfl
  refine ⟨f ∘ Op.start, ?_⟩
  rw [hrun, hsrc]
  simp only [hcan, Bool.not_true, Bool.false_eq_true, if_false, State.jobLost, if_true]
  unfold State.finc
  rw [State.opEnd_eq, hsettle]
  exact ⟨hend, State.report_inFault _ setPRS 3 _ 0 (by decide)⟩

/-! ## FLUSH (08 R216) -/

theorem State.badKey_flush (hc : o.desc.op = 5) (hd : o.desc.dattr.dev = false) : s.badKey o = none := by
  simp [State.badKey, hc, hd]

/-- A FLUSH of an empty block writes nothing. -/
theorem flush_empty (hf : s.freshOp d r 5 n o) (hd : o.desc.dattr.dev = false) (hh : s.hostReach d = true) (he : (s.ring d r).openBlock = []) :
    flush d r .ok false s = (s.modOp n Op.start).modOp n (Op.ended 0 0 0 0) := by
  have hop : o.desc.op = 5 := opCode_eq (Op.Fresh.of_freshOp hf)
  have hrun : flush d r .ok false s = _ := State.opRun_runs hf (State.badKey_flush hop hd) (.inr hop) (.inr hh)
  have hempty : ((s.modOp n Op.start).ring d r).openBlock.isEmpty = true := List.isEmpty_iff.mpr he
  rw [hrun, if_pos hempty]
  exact State.modOp_ends (State.freshOp_op hf) ..

theorem streamBlock_ne_nil (input : List Byte) (flushed : Bool) (en : Nat) : streamBlock input flushed en ≠ [] := by
  have h2 : leBytes 2 0x5EB7 ≠ [] := by decide
  intro h
  simp only [streamBlock, List.append_eq_nil_iff, h2, false_and] at h

/-- A FLUSH writes the block that was open, marked as the last. -/
theorem flush_writes (hf : s.freshOp d r 5 n o) (hd : o.desc.dattr.dev = false) (hh : s.hostReach d = true) (he : (s.ring d r).openBlock ≠ [])
    (hc : s.canEncode = true) (hm : o.desc.dmax = 0) : ∃ f : Op → Op,
    JobDone n d r (Op.ended 0 0 (streamBlock (s.ring d r).openBlock true s.predEn).length 0 (f o)) [] s (flush d r .ok false s) ∧
      .dmaWrite (Fin.ofNat 16 (s.drwHead d)) (s.drwPasid d) o.desc.dst (streamBlock (s.ring d r).openBlock true s.predEn) ∈
        (flush d r .ok false s).out := by
  have hfresh := Op.Fresh.of_freshOp hf
  have hop : o.desc.op = 5 := opCode_eq hfresh
  have hreach : (s.modOp n Op.start).hostReach o.drawer = true := by rw [hfresh.drawer]; exact hh
  have hrun : flush d r .ok false s = _ := State.opRun_runs hf (State.badKey_flush hop hd) (.inr hop) (.inr hh)
  obtain ⟨-, hn, -⟩ := hf
  have hcan : (s.modOp n Op.start).canEncode = true := hc
  have hopen : ((s.modOp n Op.start).ring d r).openBlock = (s.ring d r).openBlock := rfl
  have hsome : (s.ring d r).openBlock.isEmpty = false := List.isEmpty_eq_false_iff.mpr he
  obtain ⟨f, l, t, hbytes, hwork, hfs⟩ := State.hostBytes_ok (n := n) hreach
    ((s.modOp n Op.start).fget DRW_STAGE.ADDR (4 * d + r) * 4096) (s.ring d r).openBlock.length []
  have hstart := ((s.modOp_work n Op.start).trans hwork).toJob
  have hne := streamBlock_ne_nil (s.ring d r).openBlock true s.predEn
  rw [hrun]
  simp only [hopen, hsome, hcan, hbytes, hstart.predEn, Bool.not_true, Bool.false_eq_true, if_false]
  rw [State.opEmit_host hd (by simp [hm])]
  generalize streamBlock (s.ring d r).openBlock true s.predEn = out at hne
  refine ⟨Op.ready f (some []) (0, 0, out.length, 0), ?_⟩
  have hends (pages : List (List Byte)) : JobDone n d r (Op.ended 0 0 out.length 0 (o.ready f (some []) (0, 0, out.length, 0))) [] s
      ((((t.unitStart 0).jobEncoded o.drawer pages).opPlan n o out 0 0 0 (some [])).opSettle n) ∧
      .dmaWrite (Fin.ofNat 16 (s.drwHead d)) (s.drwPasid d) o.desc.dst out ∈
        ((((t.unitStart 0).jobEncoded o.drawer pages).opPlan n o out 0 0 0 (some [])).opSettle n).out := by
    have hjob := (hstart.leaves (t.unitStart_job n 0)).leaves (State.jobEncoded_job _ n o.drawer pages)
    have hplan := ((t.unitStart 0).jobEncoded o.drawer pages).opPlan_host (n := n) hd out 0 0 0 (some [])
    obtain ⟨hdone, hout⟩ := (hjob.trans hplan.toJob).settles hn (hfresh.ready hfs (some []) (0, 0, out.length, 0))
    refine ⟨hdone, ?_⟩
    rw [hout, hplan.out, List.isEmpty_eq_false_iff.mpr hne, hjob.drwHead, hjob.drwPasid, hfresh.drawer]
    exact List.mem_append_right _ List.mem_cons_self
  exact hends _

/-! ## DECOMPRESS (08 R217) -/

/-- The state without what a decode job that succeeds reaches. -/
def State.offDecode (s : State) : State := { s.offWork with boot := {} }

theorem State.offDecode_of_offWork {s t : State} (h : t.offWork = s.offWork) : t.offDecode = s.offDecode :=
  (congrArg (fun x : State => { x with boot := {} }) h :)

theorem State.offDecode_unitStart (u : Nat) : (s.unitStart u).offDecode = s.offDecode := by rw [s.unitStart_eq u]; rfl

theorem State.eq_of_offDecode {s t : State} (h : t.offDecode = s.offDecode) :
    t = { s with out := t.out, boot := t.boot, drw := { s.drw with ops := t.drw.ops, drawers := t.drw.drawers } } :=
  congrArg (fun x : State => { x with out := t.out, boot := t.boot, drw := { x.drw with ops := t.drw.ops, drawers := t.drw.drawers } }) h

/-- A DECOMPRESS whose blocks all pass writes what they hold. -/
theorem decompress_writes (h : s.hostOp d r 4 n o) (hp : s.pipes false ≠ []) {b out : List Byte} {used : Nat}
    (hj : jobBlocks o.desc.dmax.toNat none (o.desc.len.toNat + 1) 0 0 (hostRead b o.desc.len.toNat) 0 [] = (out, used, none)) (hne : out ≠ []) :
    ∃ f, JobWork n (Op.ended 0 used out.length 0 ∘ f) s (decompress d r b .ok none s) ∧
      .dmaWrite (Fin.ofNat 16 (s.drwHead d)) (s.drwPasid d) o.desc.dst out ∈ (decompress d r b .ok none s).out ∧
      (decompress d r b .ok none s).offDecode = s.offDecode := by
  have hreach : (s.modOp n Op.start).hostReach o.drawer = true := (State.hostOp_reach h :)
  have hrun : decompress d r b .ok none s = _ := State.opRun_host h
  obtain ⟨hf, hs, hd, -, -⟩ := h
  have hfresh := Op.Fresh.of_freshOp hf
  obtain ⟨-, hn, -⟩ := hf
  have hpipes : ((s.modOp n Op.start).pipes false).isEmpty = false := List.isEmpty_eq_false_iff.mpr hp
  obtain ⟨f, l, t, hsrc, hwork, hfs⟩ := State.opSource_ok (n := n) hs hreach b
  have hstart := (s.modOp_work n Op.start).trans hwork
  have hjob := hstart.toJob.leaves (t.unitStart_job n 0)
  have hplan := (t.unitStart 0).opPlan_host (n := n) hd out 0 used 0 none
  obtain ⟨h1, h2, h3, h4, h5, -, -⟩ := hfresh.ready hfs none (0, used, out.length, 0)
  have hn' : smFind? (t.unitStart 0).drw.ops n = some (f o.start) := hjob.self.trans (congrArg (Option.map _) hn)
  have hdone := hplan.settles hn' rfl h1 h2 h3 h4 h5
  rw [hrun, hsrc]
  simp only [hpipes, hostRead_length, hj, Bool.false_eq_true, if_false]
  refine ⟨Op.ready f none (0, used, out.length, 0), hjob.trans hdone.toJob, ?_, ?_⟩
  · rw [hdone.out, List.isEmpty_eq_false_iff.mpr hne, hjob.drwHead, hjob.drwPasid, hfresh.drawer]
    exact List.mem_append_right _ List.mem_cons_self
  · exact (State.offDecode_of_offWork hdone.off).trans ((State.offDecode_unitStart 0).trans (State.offDecode_of_offWork hstart.off))

/-- A DECOMPRESS ends at the first block that fails, with FORMAT, reported as PRS class 8 and counted. -/
theorem decompress_format (h : s.hostOp d r 4 n o) (hp : s.pipes false ≠ []) {b out : List Byte} {used i : Nat}
    (hj : jobBlocks o.desc.dmax.toNat none (o.desc.len.toNat + 1) 0 0 (hostRead b o.desc.len.toNat) 0 [] = (out, used, some (7, i))) :
    ∃ f, JobWork n (Op.ended 7 used out.length i ∘ f) s (decompress d r b .ok none s) ∧
      (decompress d r b .ok none s).inFault setPRS 8 = true ∧
      (decompress d r b .ok none s).fget PRS_FMTERR.STREAM = min (2 ^ PRS_FMTERR.STREAM.width - 1) (s.fget PRS_FMTERR.STREAM + 1) := by
  have hreach : (s.modOp n Op.start).hostReach o.drawer = true := (State.hostOp_reach h :)
  have hrun : decompress d r b .ok none s = _ := State.opRun_host h
  obtain ⟨hf, hs, hd, -, -⟩ := h
  have hfresh := Op.Fresh.of_freshOp hf
  obtain ⟨-, hn, -⟩ := hf
  have hpipes : ((s.modOp n Op.start).pipes false).isEmpty = false := List.isEmpty_eq_false_iff.mpr hp
  obtain ⟨f, l, t, hsrc, hwork, hfs⟩ := State.opSource_ok (n := n) hs hreach b
  have hstart := (s.modOp_work n Op.start).trans hwork
  have hstream : (t.unitStart 0).fget PRS_FMTERR.STREAM = s.fget PRS_FMTERR.STREAM := by
    rw [t.unitStart_eq 0]
    exact State.fget_of_offWork hstart.off ..
  have hjob := (hstart.toJob.leaves (t.unitStart_job n 0)).leaves ((t.unitStart 0).fadd_job n PRS_FMTERR.STREAM 0 1)
  have hcount := (t.unitStart 0).finc_fget_self PRS_FMTERR.STREAM 0
  rw [hstream] at hcount
  rw [hrun, hsrc]
  simp only [hpipes, hostRead_length, hj, Bool.false_eq_true, if_false, if_true]
  unfold State.finc at hcount ⊢
  generalize (t.unitStart 0).fadd PRS_FMTERR.STREAM 0 1 = u at hjob hcount
  have hrep := u.report_job n setPRS 8 { syn := d.val, aux := i }
  have hfault := u.report_inFault setPRS 8 { syn := d.val, aux := i } 0 (by decide)
  have hget := u.report_fget setPRS 8 { syn := d.val, aux := i } 0 PRS_FMTERR.STREAM 0 (by decide) (by decide)
  generalize u.report setPRS 8 { syn := d.val, aux := i } = v at hrep hfault hget
  have hall := hjob.leaves hrep
  have hplan := v.opPlan_host (n := n) hd out 7 used i none
  obtain ⟨h1, h2, h3, h4, h5, -, -⟩ := hfresh.ready hfs none (7, used, out.length, i)
  have hn' : smFind? v.drw.ops n = some (f o.start) := hall.self.trans (congrArg (Option.map _) hn)
  have hdone := hplan.settles hn' rfl h1 h2 h3 h4 h5
  refine ⟨Op.ready f none (7, used, out.length, i), hall.trans hdone.toJob, ?_, ?_⟩
  · exact (State.inFault_congr (State.fget_of_offWork hdone.off ..) 8).trans hfault
  · exact (State.fget_of_offWork hdone.off ..).trans (hget.trans hcount)

end

end Sys2Proof.Machine
end

section
/-! PROOF. The fetch of descriptors, the end of executed operations, and the obligation about drawer operations (12 R299, R302-R308, R317). -/

namespace Sys2Proof.Machine

open Sys2Proof

/-! ## One descriptor taken (R299, R302) -/

/-- The operation that a descriptor becomes. -/
def State.descOp (s : State) (d r : Nat) (x : Descriptor) : Op := {
  drawer := d, ring := r, index := (s.ring d r).sqHead % 2 ^ s.ringLog2 d r, gen := s.fget DRW_STATE.GEN d, desc := x, at_ := s.wclk
  status := if 6 < x.op.toNat then some 1 else none }

section
variable (s : State) (d r : Nat) (x : Descriptor)

/-- The operation enters under the next number, and the ring's submission index moves. -/
def State.descTaken : State :=
  ({ s with drw := { s.drw with ops := smSet s.drw.ops s.drw.next (s.descOp d r x), next := s.drw.next + 1 } } : State).modRing d r fun y =>
    { y with sqHead := ringIdx (s.ringLog2 d r) (y.sqHead + 1) }

theorem State.takeDesc_drw : (s.takeDesc d r x).drw = (s.descTaken d r x).drw := State.count_drw ..

theorem State.takeDesc_ops : (s.takeDesc d r x).drw.ops = smSet s.drw.ops s.drw.next (s.descOp d r x) :=
  congrArg Drawers.ops (s.takeDesc_drw d r x)

theorem State.takeDesc_next : (s.takeDesc d r x).drw.next = s.drw.next + 1 := congrArg Drawers.next (s.takeDesc_drw d r x)

theorem State.takeDesc_head : ((s.takeDesc d r x).ring d r).sqHead = ((s.ring d r).sqHead + 1) % 2 ^ (s.ringLog2 d r + 1) := by
  rw [State.ring_of_drw (s.takeDesc_drw d r x), State.descTaken, State.modRing_ring_self]
  rfl

theorem State.takeDesc_regs : RegsSame pmuFlds s (s.takeDesc d r x) := (s.descTaken d r x).count_regs 8 1 _ 1

theorem State.takeDesc_off : (s.takeDesc d r x).offDma = s.offDma :=
  (congrArg (fun y : State => { y with drw := {} }) ((s.descTaken d r x).count_off 8 1 { drw := some d } 1) :)

theorem State.takeDesc_out {o : Out} (ho : o ∈ s.out) : o ∈ (s.takeDesc d r x).out := State.count_out _ 8 1 _ 1 ho

theorem State.takeDesc_log : (s.takeDesc d r x).ringLog2 d r = s.ringLog2 d r := s.takeDesc_regs d r x _ _ (by decide) (by decide)

theorem State.takeDesc_gen : (s.takeDesc d r x).fget DRW_STATE.GEN d = s.fget DRW_STATE.GEN d :=
  s.takeDesc_regs d r x _ _ (by decide) (by decide)

end

/-! ## A list of descriptors -/

/-- An operation as the i-th descriptor of a fetch makes it. -/
structure DescOp (s : State) (d r i : Nat) (x : Descriptor) (o : Op) : Prop where
  drawer : o.drawer = d
  ring : o.ring = r
  desc : o.desc = x
  gen : o.gen = s.fget DRW_STATE.GEN d
  index : o.index = ((s.ring d r).sqHead + i) % 2 ^ s.ringLog2 d r
  status : o.status = if 6 < x.op.toNat then some 1 else none
  started : o.started = false

theorem DescOp.first (s : State) (d r : Nat) (x : Descriptor) : DescOp s d r 0 x (s.descOp d r x) := ⟨rfl, rfl, rfl, rfl, rfl, rfl, rfl⟩

/-- The index of a later descriptor, counted from the first. -/
theorem DescOp.after {s : State} {d r i : Nat} {x y : Descriptor} {o : Op} (h : DescOp (s.takeDesc d r x) d r i y o) :
    DescOp s d r (i + 1) y o where
  drawer := h.drawer
  ring := h.ring
  desc := h.desc
  gen := h.gen.trans (s.takeDesc_gen d r x)
  index := by
    rw [h.index, s.takeDesc_head, s.takeDesc_log, Nat.add_mod, Nat.mod_mod_of_dvd _ (Nat.pow_dvd_pow 2 (Nat.le_succ _)), ← Nat.add_mod]
    congr 1
    omega
  status := h.status
  started := h.started

/-- The submission index after k descriptors. -/
def headAfter (n h : Nat) : Nat → Nat
  | 0 => h
  | k + 1 => (h + (k + 1)) % 2 ^ (n + 1)

theorem headAfter_step (n h k : Nat) : headAfter n ((h + 1) % 2 ^ (n + 1)) k = headAfter n h (k + 1) := by
  cases k with
  | zero => rfl
  | succ k =>
    rw [headAfter, headAfter, Nat.mod_add_mod]
    congr 1
    omega

/-- What a fetch of descriptors leaves. -/
structure Fetched (d r : Nat) (l : List Descriptor) (s t : State) : Prop where
  next : t.drw.next = s.drw.next + l.length
  head : (t.ring d r).sqHead = headAfter (s.ringLog2 d r) (s.ring d r).sqHead l.length
  ops : ∀ i x, l[i]? = some x → ∃ o, smFind? t.drw.ops (s.drw.next + i) = some o ∧ DescOp s d r i x o
  others : ∀ k, k < s.drw.next ∨ s.drw.next + l.length ≤ k → smFind? t.drw.ops k = smFind? s.drw.ops k
  outs : ∀ o ∈ s.out, o ∈ t.out
  regs : RegsSame pmuFlds s t
  off : t.offDma = s.offDma

theorem Fetched.nil {d r : Nat} {s : State} : Fetched d r [] s s where
  next := rfl
  head := rfl
  ops _ _ h := nomatch h
  others _ _ := rfl
  outs _ h := h
  regs := RegsSame.refl
  off := rfl

theorem Fetched.cons {d r : Nat} {x : Descriptor} {l : List Descriptor} {s t : State} (h : Fetched d r l (s.takeDesc d r x) t) :
    Fetched d r (x :: l) s t where
  next := by rw [h.next, s.takeDesc_next, List.length_cons]; omega
  head := by rw [h.head, s.takeDesc_head, s.takeDesc_log, headAfter_step, List.length_cons]
  ops i y hi := by
    cases i with
    | zero =>
      obtain rfl := Option.some.inj hi
      refine ⟨_, (h.others _ (.inl (by rw [s.takeDesc_next]; omega))).trans ?_, DescOp.first s d r x⟩
      rw [s.takeDesc_ops]
      exact smFind?_set_self ..
    | succ i =>
      obtain ⟨o, ho, hdesc⟩ := h.ops i y hi
      rw [s.takeDesc_next] at ho
      exact ⟨o, by rw [← ho]; congr 1; omega, hdesc.after⟩
  others k hk := by
    rw [List.length_cons] at hk
    rw [h.others k (by rw [s.takeDesc_next]; omega), s.takeDesc_ops]
    exact smFind?_set_ne _ _ (by omega)
  outs o ho := h.outs o (s.takeDesc_out d r x ho)
  regs := (s.takeDesc_regs d r x).trans h.regs
  off := h.off.trans (s.takeDesc_off d r x)

/-- Descriptors are taken one after the other. -/
theorem State.takeDescs_fetched (s : State) (d r : Nat) (l : List Descriptor) : Fetched d r l s (s.each l fun x s => s.takeDesc d r x) := by
  induction l generalizing s with
  | nil => exact .nil
  | cons x l ih => exact (ih (s.takeDesc d r x)).cons

/-- The read of a ring's descriptors. -/
def descRead (s : State) (d r n : Nat) : Out :=
  .dmaRead (Fin.ofNat 16 (s.drwHead d)) (BitVec.ofNat 20 (s.fget DRW_BIND.PASID d))
    (BitVec.ofNat 64 (s.fget DRW_SQBASE.ADDR (4 * d + r) * 4096 + (s.ring d r).sqHead % 2 ^ s.ringLog2 d r * 64)) (64 * n) 0

section
variable {d : DrawerId} {r : RingId} {ds : List Descriptor} {s : State}

/-- A fetch that may go takes what it was given, when there is room for it. -/
theorem descriptorFetch_takes (hf : s.fetchable d r = true) (hr : s.drwRuns = true) (hh : s.hostReach d = true) (hne : ds ≠ [])
    (hl : ds.length ≤ s.fetchRoom d r) :
    descriptorFetch d r ds s = (s.emit (descRead s d r ds.length)).each ds fun x s => s.takeDesc d r x := by
  have htake : ds.take (s.fetchRoom d r) = ds := List.take_of_length_le hl
  unfold descriptorFetch
  dsimp only
  rw [htake, if_neg (by simp [hf, hr, hh, hne])]
  rfl

theorem descriptorFetch_waits (h : s.fetchable d r = false ∨ s.drwRuns = false ∨ s.hostReach d = false ∨ s.fetchRoom d r = 0) :
    descriptorFetch d r ds s = s := by
  refine if_pos ?_
  rcases h with h | h | h | h
  · exact .inl (by rw [h]; rfl)
  · exact .inr (.inl (by rw [h]; rfl))
  · exact .inr (.inr (.inl (by rw [h]; rfl)))
  · exact .inr (.inr (.inr (by rw [h]; rfl)))

end

/-! ## The end of executed operations (R308, R317) -/

section
variable {n st : Nat} {o : Op} {s : State} (hn : smFind? s.drw.ops n = some o)
include hn

/-- An operation that has not been executed does not end. -/
theorem operationComplete_waits (hst : o.status = none) : operationComplete n s = s := by
  unfold operationComplete
  rw [hn]
  dsimp only
  rw [hst]

variable (hst : o.status = some st) (hcur : s.opCurrent o = true) (ho : o.outst = 0) (ht : o.tags = []) (hp : s.fget PWR_STATE.CUR = 0)
include hst hcur ho ht hp

theorem operationComplete_goes : operationComplete n s =
    if !s.hostReach o.drawer ∨ ((s.ring o.drawer o.ring).state = 2 ∧ (s.ring o.drawer o.ring).cause = 3) then
      if (s.ring o.drawer o.ring).held.contains n then s else s.modRing o.drawer o.ring fun x => { x with held := x.held ++ [n] }
    else s.opComplete n o st := by
  unfold operationComplete
  rw [hn]
  dsimp only
  rw [hst]
  dsimp only
  rw [if_neg (by simp [hcur, ho, ht, hp])]

theorem operationComplete_writes (hh : s.hostReach o.drawer = true) (hr : (s.ring o.drawer o.ring).state ≠ 2 ∨ (s.ring o.drawer o.ring).cause ≠ 3) :
    operationComplete n s = s.opComplete n o st := by
  rw [operationComplete_goes hn hst hcur ho ht hp, if_neg]
  rintro (h | ⟨h2, h3⟩)
  · rw [hh] at h
    exact Bool.noConfusion h
  · exact hr.elim (fun h => h h2) fun h => h h3

theorem operationComplete_holds (hh : s.hostReach o.drawer = false) (hm : n ∉ (s.ring o.drawer o.ring).held) :
    operationComplete n s = s.modRing o.drawer o.ring fun x => { x with held := x.held ++ [n] } := by
  rw [operationComplete_goes hn hst hcur ho ht hp, if_pos (.inl (by rw [hh]; rfl)), if_neg]
  rw [List.contains_iff_mem]
  exact hm

end

theorem State.eq_of_offOp {s t : State} (h : t.offOp = s.offOp) : t = { s with
    out := t.out, regs := t.regs, heads := t.heads, inl := t.inl, drw := t.drw, wit := t.wit, flt := t.flt
    boot := { s.boot with fatal := t.boot.fatal }
    spn := { s.spn with withdrawn := t.spn.withdrawn, ageSeq := t.spn.ageSeq, links := t.spn.links } } :=
  State.eq_of_offReset (s := { s with inl := t.inl }) (congrArg (fun x : State => { x with inl := t.inl }) h)

end Sys2Proof.Machine
end

section
/-! PROOF. The obligation about drawer operations, put together from its commands (12 R299, R302-R308, R317). -/

namespace Sys2Proof.Machine

open Sys2Proof

section
variable {s t : State} {n : Nat} {f g : Op → Op} {l : List Out} {o : Op}

/-- The operation after its steps. -/
theorem OpWork.op (h : OpWork n f l s t) (hn : smFind? s.drw.ops n = some o) : smFind? t.drw.ops n = some (f o) := by
  rw [h.self, hn, Option.map_some]

theorem JobWork.op (h : JobWork n f s t) (hn : smFind? s.drw.ops n = some o) : smFind? t.drw.ops n = some (f o) := by
  rw [h.self, hn, Option.map_some]

/-- Two changes of an operation alone. -/
theorem State.modOps_op (hn : smFind? s.drw.ops n = some o) (f g : Op → Op) : smFind? ((s.modOp n f).modOp n g).drw.ops n = some (g (f o)) :=
  (State.modOp_work _ n g).op ((s.modOp_work n f).op hn)

theorem State.modOps_other (s : State) (n : Nat) (f g : Op → Op) {k : Nat} (hk : k ≠ n) :
    smFind? ((s.modOp n f).modOp n g).drw.ops k = smFind? s.drw.ops k :=
  (smFind?_adj_ne _ _ hk).trans (smFind?_adj_ne _ _ hk)

theorem State.modOps_frame (s : State) (n : Nat) (f g : Op → Op) :
    (s.modOp n f).modOp n g = { s with drw := { s.drw with ops := ((s.modOp n f).modOp n g).drw.ops } } := rfl

theorem State.memory_of_offJob (h : t.offJob = s.offJob) : t.dram = s.dram ∧ t.nv = s.nv ∧ t.coh = s.coh :=
  ⟨(congrArg State.dram h :), (congrArg State.nv h :), (congrArg State.coh h :)⟩

end

/-- Settles O58: each command's work on its operation, as the lemmas above say it, gives the clauses. -/
theorem drawerOperations : Obligations.DrawerOperations := by
  unfold Obligations.DrawerOperations
  refine ⟨?fetch, ?noFetch, ?attr, ?noData, ?copy, ?copyFails, ?fillHost, ?fillDevice, ?compress, ?decompress, ?flush, ?complete, ?notExecuted⟩
  case fetch =>
    intro d r ds s hf hr hh hne hl
    have hx : descriptorFetch d r ds s.clearOut = _ := descriptorFetch_takes (s := s.clearOut) hf hr hh hne hl
    obtain ⟨hnext, hhead, hops, hothers, houts, hregs, hoff⟩ := (s.clearOut.emit (descRead s.clearOut d r ds.length)).takeDescs_fetched d r ds
    refine ⟨_, volatile_ends hx (congrArg State.nv hoff :) (congrArg State.pending hoff :), hnext, ?_, fun i x hi => ?_, ?_, hothers,
      State.eq_of_offDma (s := s) hoff, hregs⟩
    · obtain ⟨y, ys, rfl⟩ := List.exists_cons_of_ne_nil hne
      exact hhead
    · obtain ⟨o, ho, hd⟩ := hops i x hi
      exact ⟨o, ho, hd.drawer, hd.ring, hd.desc, hd.gen, hd.index, hd.status, hd.started⟩
    · exact houts _ List.mem_cons_self
  case noFetch =>
    intro d r ds s h
    exact volatile_ends (f := descriptorFetch d r ds) (descriptorFetch_waits (s := s.clearOut) h) rfl rfl
  case attr =>
    intro d r n f o s hp hn hs hplan hb hh
    have hx := fill_badField (s := s.clearOut) (d := d) (r := r) hp hn hs hplan hb hh
    exact ⟨_, _, volatile_works hx rfl, State.modOps_op hn .., rfl, rfl, rfl, fun k hk => State.modOps_other s.clearOut n _ _ hk,
      State.modOps_frame ..⟩
  case noData =>
    intro d r n o s
    refine ⟨fun hf => ?_, fun hf => ?_⟩
    · have hx : nop d r s.clearOut = _ := State.opRun_noData (s := s.clearOut) (.inl rfl) hf
      exact ⟨_, _, volatile_works hx rfl, State.modOps_op (State.freshOp_op hf) .., rfl, rfl, rfl, fun k hk => State.modOps_other s.clearOut n _ _ hk,
        State.modOps_frame ..⟩
    · have hx : fence d r s.clearOut = _ := State.opRun_noData (s := s.clearOut) (.inr rfl) hf
      exact ⟨_, _, volatile_works hx rfl, State.modOps_op (State.freshOp_op hf) .., rfl, rfl, rfl, fun k hk => State.modOps_other s.clearOut n _ _ hk,
        State.modOps_frame ..⟩
  case copy =>
    intro d r n o b s h
    obtain ⟨f, l, hwork⟩ := copy_ok (s := s.clearOut) h b
    refine ⟨_, _, volatile_works (f := copy d r b .ok) rfl hwork.off, ?_, hwork.op (State.hostOp_op h), rfl, rfl, hwork.other,
      State.eq_of_offWork (s := s.clearOut) hwork.off⟩
    rw [hwork.out]
    exact List.mem_append_right _ (List.mem_append_right _ List.mem_cons_self)
  case copyFails =>
    intro d r n o b s h
    have hn := State.hostOp_op h
    refine ⟨?_, fun tag ht => ?_⟩
    · have hx := copy_ur (s := s.clearOut) h b
      exact ⟨_, _, volatile_works hx rfl, State.modOps_op hn .., rfl, rfl, State.modOps_frame ..⟩
    · have hfresh := Op.Fresh.of_freshOp h.1
      have ht' : s.clearOut.freeHostTag (s.clearOut.drwHead o.drawer) = some tag := by rw [hfresh.drawer]; exact ht
      have hx := copy_asks (s := s.clearOut) h b ht'
      refine ⟨_, _, volatile_ends hx rfl rfl, ?_, State.readAsked_op (s := s.clearOut) hn tag, hfresh.status, rfl, ?_⟩
      · exact congrArg (fun k => [Out.dmaRead (Fin.ofNat 16 (s.drwHead k)) (s.drwPasid k) o.desc.src o.desc.len.toNat tag]) hfresh.drawer
      · rw [← hfresh.drawer]
        exact s.readAsked_tag ..
  case fillHost =>
    intro d r n o s h
    obtain ⟨f, hwork⟩ := fill_host (s := s.clearOut) h
    exact ⟨_, _, volatile_works (f := fill d r) rfl hwork.off, hwork.out, hwork.op (State.hostOp_op h), rfl, rfl, hwork.other,
      State.eq_of_offWork (s := s.clearOut) hwork.off⟩
  case fillDevice =>
    intro d r n rn dpa rg o s hf hk hdev hlen ha hd hh ht hs
    obtain ⟨⟨y, htxn, hline⟩, ⟨q, hq, hst, ho⟩, hcount, hoff⟩ := fill_device (s := s.clearOut) hf hk hdev hlen ha hd hh ht hs
    exact ⟨_, q, y, volatile_ends (f := fill d r) rfl (congrArg State.nv hoff :) (congrArg State.pending hoff :), htxn, hline.src,
      hline.kind.trans (lineTxn_wholeLine ..), hline.cls, hline.ln, hline.key, hline.data, hq, hst, ho, hcount, (congrArg State.dram hoff :),
      (congrArg State.nv hoff :), (congrArg State.chans hoff :)⟩
  case compress =>
    intro d r n o b s h hc
    have hn := State.hostOp_op h
    refine ⟨fun hl => ?_, fun p => ?_⟩
    · obtain ⟨f, hdone⟩ := compress_joins (s := s.clearOut) h hc b hl
      exact ⟨_, _, volatile_jobs (f := compress d r b .ok none) rfl hdone.job, hdone.block, hdone.self, rfl, rfl, rfl, hdone.other,
        State.memory_of_offJob hdone.job⟩
    · obtain ⟨f, hwork, hfault⟩ := compress_loses (s := s.clearOut) h hc b p
      exact ⟨_, _, volatile_jobs (f := compress d r b .ok (some p)) rfl hwork.job, hwork.op hn, rfl, rfl, hfault,
        congrArg RingSt.openBlock (hwork.ring d r), State.memory_of_offJob hwork.job⟩
  case decompress =>
    intro d r n used o b out s h hp
    have hn := State.hostOp_op h
    refine ⟨fun hj hne => ?_, fun i hj => ?_⟩
    · obtain ⟨f, hwork, hout, hoff⟩ := decompress_writes (s := s.clearOut) h hp hj hne
      exact ⟨_, _, volatile_jobs (f := decompress d r b .ok none) rfl hwork.job, hout, hwork.op hn, rfl, rfl, rfl, hwork.other,
        State.eq_of_offDecode (s := s.clearOut) hoff⟩
    · obtain ⟨f, hwork, hfault, hcount⟩ := decompress_format (s := s.clearOut) h hp hj
      exact ⟨_, _, volatile_jobs (f := decompress d r b .ok none) rfl hwork.job, hwork.op hn, rfl, rfl, rfl, rfl, hfault, hcount,
        State.memory_of_offJob hwork.job⟩
  case flush =>
    intro d r n o s hf hd hh
    refine ⟨fun he => ?_, fun he hc hm => ?_⟩
    · have hx := flush_empty (s := s.clearOut) hf hd hh he
      exact ⟨_, _, volatile_works hx rfl, State.modOps_op (State.freshOp_op hf) .., rfl, rfl, State.modOps_frame ..⟩
    · obtain ⟨f, hdone, hout⟩ := flush_writes (s := s.clearOut) hf hd hh he hc hm
      exact ⟨_, _, volatile_jobs (f := flush d r .ok false) rfl hdone.job, hout, hdone.self, rfl, rfl, hdone.block, hdone.other,
        State.memory_of_offJob hdone.job⟩
  case complete =>
    intro n st o s hn hst hcur ho ht hp
    refine ⟨fun hh hr => ?_, fun hh hm => ?_⟩
    · have hx := operationComplete_writes (s := s.clearOut) hn hst hcur ho ht hp hh hr
      have hoff := s.clearOut.opComplete_off n o st
      have hops := s.clearOut.opComplete_ops n o st
      obtain ⟨_, _, _, hring⟩ := s.clearOut.opComplete_ring n o st
      refine ⟨_, volatile_ends hx (congrArg State.nv hoff :) (congrArg State.pending hoff :), ?_, congrArg RingSt.cqTail hring,
        s.clearOut.opComplete_out n o st, s.clearOut.opComplete_stops n o st, fun k hk => ?_, fun e he => s.clearOut.opComplete_drawer_ne n o st he,
        State.eq_of_offOp (s := s.clearOut) hoff⟩
      · rw [hops]
        exact smFind?_del_self ..
      · rw [hops]
        exact smFind?_del_ne _ hk
    · have hx := operationComplete_holds (s := s.clearOut) hn hst hcur ho ht hp hh hm
      exact ⟨_, volatile_ends hx rfl rfl, State.modRing_ring_self .., rfl, rfl⟩
  case notExecuted =>
    intro n o s hn hst
    exact volatile_ends (f := operationComplete n) (operationComplete_waits (s := s.clearOut) hn hst) rfl rfl

end Sys2Proof.Machine
end
